-- ==== Sys2Proof/Word.lean ====
section
/-! DEFINITION. The word types: a 32-bit register word, a byte, and the 96-bit layout of module time (R7, R8). -/

namespace Sys2Proof

/-- A register of BAR0. -/
abbrev Word := BitVec 32

/-- A byte of a frame or of a record. -/
abbrev Byte := BitVec 8

end Sys2Proof
end

