-- ==== Sys2Proof/Machine/Store.lean ====
section
/-! DEFINITION. Sparse stores: lists of (key, value) pairs in one canonical form. A key that is not listed reads as
its default; the form is keys strictly rising and no entry equal to its key's default, so that equal stores are
equal lists. Registers, journal entries, table cells, buffer words and every per-port record are held so. -/

namespace Sys2Proof.Machine

/-- A sparse store. -/
abbrev Store (α : Type) := List (Nat × α)

/-- What a key reads as: its entry, or its default. -/
def Store.get (d : Nat → α) : Store α → Nat → α
  | [], i => d i
  | (k, v) :: m, i => if i = k then v else Store.get d m i

/-- Remove the entry of a key. -/
def Store.erase (m : Store α) (i : Nat) : Store α := m.filter (fun p => p.1 ≠ i)

/-- Put an entry at its place, replacing the one that is there. -/
def Store.put : Store α → Nat → α → Store α
  | [], i, v => [(i, v)]
  | (k, w) :: m, i, v =>
    if i < k then (i, v) :: (k, w) :: m
    else if i = k then (i, v) :: m
    else (k, w) :: Store.put m i v

/-- Write a key: a value equal to the default removes the entry. -/
def Store.set [DecidableEq α] (d : Nat → α) (m : Store α) (i : Nat) (v : α) : Store α :=
  if v = d i then Store.erase m i else Store.put m i v

/-- Return every key that satisfies `p` to its default. -/
def Store.clear (m : Store α) (p : Nat → Bool) : Store α := m.filter (fun e => !p e.1)

/-- The canonical form. -/
def Store.wf [DecidableEq α] (d : Nat → α) : Store α → Bool
  | [] => true
  | (k, v) :: m => decide (v ≠ d k) && m.all (fun e => decide (k < e.1)) && Store.wf d m

/-- Write many keys, one after the other. -/
def Store.setAll [DecidableEq α] (d : Nat → α) (m : Store α) : List (Nat × α) → Store α
  | [] => m
  | (i, v) :: l => Store.setAll d (Store.set d m i v) l

end Sys2Proof.Machine
end

