-- ==== Sys2Proof/Machine/Forms.lean ====
section
/-! DEFINITION. The operands of commands that are more than numbers: a Slopol image as the module reads it, and the items
that a mirrored pair carries. -/

namespace Sys2Proof.Machine

/-- The table memory partition (R62, R139, R162): bucket exponents, capacity of tables 0..11, blocks of trie stages 1..6. -/
structure Partition where
  macLog2 : Nat
  streamLog2 : Nat
  caps : List Nat
  stages : List Nat
  deriving DecidableEq, Repr

/-- A Slopol image as the module reads it (R64, R62): its bytes, of which header, directory, checks and identity are decoded, and what
its sections hold, whose layout the manual does not give (log 92). -/
structure Image where
  bytes : List Byte
  readable : Bool
  /-- SPEED code of each port the lane map gives (R88). -/
  speeds : Store Nat
  /-- Identity of each pipeline's parse graph. -/
  graphs : List Nat
  partition : Partition
  /-- Ports with 4 queues; the others have 8 (R174). -/
  fourQueue : List Nat
  /-- Function codes of TIN0..15 and TOUT0..7. -/
  tin : Store Nat
  tout : Store Nat
  /-- Reference slots that the structure provides. -/
  slots : List Nat
  /-- MIR_CFG.CONFIG and LANE_SEL_GROUPS. -/
  pairConfig : Nat
  laneSel : Nat
  /-- Register defaults: offset, bits, value. -/
  defaults : List (Nat × Word × Word)
  /-- Key record: slot, and the key (x, y) to install or none to revoke (R67). -/
  keyRecord : List (Nat × Option (Nat × Nat))
  deriving DecidableEq, Repr

/-- One item of a synchronisation or of a CHANGE (R320, R322): a field of a register, a host table entry with its
handle, or the deletion of an entry. -/
inductive MirItem where
  | field (off : Nat) (mask value : Word)
  | entry (code handle : Nat) (data : List Byte)
  | gone (code handle : Nat)
  deriving DecidableEq, Repr

/-- What a port's receive PCS has counted since its last report (R108, R109): codewords corrected and not correctable, blocks with an
invalid sync header or code violations, error blocks. -/
structure PcsCounts where
  fecCorr : Nat := 0
  fecUncorr : Nat := 0
  badSync : Nat := 0
  errBlocks : Nat := 0
  deriving DecidableEq, Repr

/-- A place of the table memories that carries parity (R168): an entry by table and index, an index-map entry, or an entry of a trie
stage: by IP version, stage 1..6 and the leading bits of the addresses it stands for; a range block is one. -/
inductive TblPlace where
  | entry (table index : Nat)
  | map (table index : Nat)
  | trie (v6 : Bool) (stage key : Nat)
  deriving DecidableEq, Repr

/-- What a frame brings from the wire beside its bytes, at the tick of its ingress stamp (log 16): the beats of its lane's
phase detector (R226), whether its
start block is of type 0x33 (R205), the PCS counts since the last report, the elastic store's fill in bytes, whether it was cut at
16,384 bytes, marked by an uncorrectable codeword or is a fragment that cannot be reassembled, and the pending accesses of the buffer's
banks, bank 0 first (R120). -/
structure Arrival where
  beats : List (Nat × Bool)
  start33 : Bool
  counts : PcsCounts
  fill : Nat
  cut : Bool
  marked : Bool
  fragment : Bool
  access : List Nat
  deriving DecidableEq, Repr

end Sys2Proof.Machine
end

