-- ==== Sys2Proof/Syntax.lean ====
section
/-! DEFINITION. The commands of the block, one constructor per row of spec/opcode_table.json in its order. What comes from outside
the module (the host, the wire, a sensor) is in the operands; `dt` is how many ticks of 1.6 ns pass before the command (log 1). -/

namespace Sys2Proof

open Machine (Image Arrival PcsCounts TblPlace MirItem)

/-- The commands. -/
inductive Instr where
  /-- SQ_DOORBELL (R35): Host writes HIF_SQ[n]_TAIL, making new commands available for fetch from submission ring n. -/
  | sqDoorbell (dt n tail : Nat)
  /-- COMMAND_FETCH (R36): Module fetches one command from an enabled non-empty ring by weighted round robin, assigns a free tag and
  records it RECEIVED in the journal. `cmd` are the 64 bytes found in host memory, byte 0 lowest; `pick` is where the module looks
  for a free tag; `buffer` is what stands in the operand buffer of an INDIRECT command (R38). -/
  | commandFetch (dt : Nat) (cmd : BitVec 512) (pick : Nat) (buffer : List Byte)
  /-- CMD_REG_WRITE (R412): Checks, marks and releases a masked register write as one indivisible access, or stages it into an open
  transaction. -/
  | cmdRegWrite (dt tag : Nat)
  /-- CMD_REG_READ (R77): Returns the committed value of a register, or with STAGED_READ the staged value, in RESULT_A. -/
  | cmdRegRead (dt tag : Nat)
  /-- CMD_TBL_INSERT (R148): Places or replaces a table entry, moving cuckoo entries or using the stash as needed, and returns its
  handle or TABLE_FULL. `tag` names the command in the journal; `pick` is the module's choice of index. -/
  | cmdTblInsert (dt tag pick : Nat)
  /-- CMD_TBL_DELETE (R141): Removes an entry named by handle or key, refusing entries still referenced, or stages the delete. -/
  | cmdTblDelete (dt tag : Nat)
  /-- CMD_TBL_LOOKUP (R141): Looks up a key as a frame would and returns the matching handle, with data to the INDIRECT buffer when
  requested. -/
  | cmdTblLookup (dt tag : Nat)
  /-- CMD_TBL_READ (R141): Reads the entry named by a handle, returning key and result to the INDIRECT buffer when requested. -/
  | cmdTblRead (dt tag : Nat)
  /-- CMD_TXN_BEGIN (R74): Opens the single transaction and returns the next non-zero TXN_ID kept in PD0. -/
  | cmdTxnBegin (dt tag : Nat)
  /-- CMD_TXN_COMMIT (R83): Starts commit of the open transaction: conflict and cross-register checks in VALIDATING, then drain, pair
  prepare or wait for the apply instant. -/
  | cmdTxnCommit (dt tag : Nat)
  /-- CMD_TXN_ROLLBACK (R82): Discards the staging of an open or pending transaction, completing a pending commit TXN_CONFLICT, or
  completes REJECTED_BUSY. -/
  | cmdTxnRollback (dt tag : Nat)
  /-- CMD_IMAGE_LOAD (R70): Reads and verifies a Slopol image from host memory, then writes it to a flash slot or activates it as
  TARGET asks. `image` is the image found at the host address. -/
  | cmdImageLoad (dt tag : Nat) (image : Image)
  /-- IMAGE_FLASH_WRITE_DONE (R70): A flash slot write ends; the image is read back and verified, the slot marked valid or invalid,
  and the load completes. `ok`: every write and the read-back succeeded; else `op`, `addr` and `retries` are those of R369. -/
  | imageFlashWriteDone (dt : Nat) (ok : Bool) (op addr retries : Nat)
  /-- RESTRUCTURE_QUEUE_DISCARD (R72): 10 ms after activation, frames left in a restructured group's queues are discarded and its
  transmitters squelched. -/
  | restructureQueueDiscard (dt g : Nat)
  /-- RESTRUCTURE_PIPELINE_LOADED (R72): The restructured pipeline is loaded with its parse graph and queue counts and its lane domain
  powered to the new plan. -/
  | restructurePipelineLoaded (dt g : Nat)
  /-- RESTRUCTURE_LANES_READY (R72): Lanes of a restructured group are trained at their new rates and ports may come up. -/
  | restructureLanesReady (dt g : Nat)
  /-- CMD_CAL_RUN (R300): Starts a calibration run of the named type and instance at once, with internal or external reference. -/
  | cmdCalRun (dt tag : Nat)
  /-- CMD_OUT_REALIGN (R261): Asks each selected output to stop at its next boundary and resume aligned at its first ideal edge after
  it. -/
  | cmdOutRealign (dt tag : Nat)
  /-- CMD_TIME_STEP (R201): Requests a step of module time, refused when disabled or out of range, otherwise waiting under R208. -/
  | cmdTimeStep (dt tag : Nat)
  /-- TIME_STEP_APPLY (R208): Once no frame of the previous step generation remains, the step is added at one tick for all users,
  raising event 26 and completing the command. `pick` is the module's choice of index for entries placed afresh at an instant that
  the step passes. -/
  | timeStepApply (dt pick : Nat)
  /-- CMD_PAIR_EXCHANGE (R328): Begins a planned exchange of every shared role: admission to single-homed ports stops and their queues
  drain. -/
  | cmdPairExchange (dt tag : Nat)
  /-- CMD_LANE_PRBS (R105): Sets up PRBS generation, checking and injection on the selected lanes of disabled ports. -/
  | cmdLanePrbs (dt tag : Nat)
  /-- CMD_FENCE (R45): Completes once every earlier command of the selected rings has completed and holds back later commands of its
  ring. -/
  | cmdFence (dt tag : Nat)
  /-- COMPLETION_WRITE (R44): A prepared completion is written into the completion ring when it has room, freeing its tag. -/
  | completionWrite (dt : Nat)
  /-- DMA_ERROR (R32): A DMA read or write ends in error; the counter rises, event 95 is raised and the ring concerned is disabled.
  Ring, kind, direction, access, index and address as R60 codes them; `tag` names the command of a failed operand read. -/
  | dmaError (dt ring kind dir access index addr tag : Nat)
  /-- MSIX_HOLDOFF_EXPIRY (R34): HOLDOFF_US passes since the first unsignalled entry of a vector, and its MSI-X message is sent. -/
  | msixHoldoffExpiry (dt v : Nat)
  /-- MSIX_VECTOR_UNMASK (R390): Host clears a vector's mask bit; a pending message is sent and its pending bit cleared. -/
  | msixVectorUnmask (dt v : Nat)
  /-- FUNCTION_RESET (R30): PE_PERST_N or function-level reset resets the endpoint and HIF and EVT registers except counters and stops
  fetching and DMA. -/
  | functionReset (dt : Nat)
  /-- EVENT_RECORD_WRITE (R54): A generated event record is written to the event queue, held internally, or lost and counted. -/
  | eventRecordWrite (dt : Nat)
  /-- EVT_OVERFLOW_END (R57): Host frees at least two slots, and the ending event 92 with the loss count and map is written. -/
  | evtOverflowEnd (dt : Nat)
  /-- EVT_HELD_FLUSH (R58): When the queue becomes writable, held records are written in order, followed by any ending event 92. -/
  | evtHeldFlush (dt : Nat)
  /-- EVT_COALESCE_WINDOW_END (R56): A 1 ms coalescing window of a per-frame source ends and one record standing for the gathered
  occurrences is generated. -/
  | evtCoalesceWindowEnd (dt src scope : Nat)
  /-- CPU_TX_DOORBELL (R50): Host advances the CPU transmit ring tail, posting frame descriptors. -/
  | cpuTxDoorbell (dt tail : Nat)
  /-- CPU_TX_FRAME (R50): Module reads a frame from transmit descriptors, enters it into pipeline 0 or directs it, and writes back
  DONE and STATUS. `descs` are the frame's descriptors, `data` the bytes of their buffers, `access` the pending accesses of the
  buffer's banks. -/
  | cpuTxFrame (dt : Nat) (descs : List (BitVec 256)) (data : List Byte) (access : List Nat)
  /-- CPU_RX_DELIVER (R51): A frame queued for port 64 is written into posted receive descriptors once they are available. `addrs` are
  the buffer addresses in the next descriptors. -/
  | cpuRxDeliver (dt : Nat) (addrs : List Nat)
  /-- FRAME_RECEIVE (R112): A frame crosses the ingress PCS and passes FCS, parse, lookups, policing and admission, being refused or
  accepted. `a` is what the frame brings from the wire beside its bytes; `bad` are places of the tables upset since, and
  whether the protected copy is too. -/
  | frameReceive (dt n : Nat) (data : List Byte) (a : Arrival) (bad : List (TblPlace × Bool))
  /-- LEARN_INSERT (R152): A queued sender is learned into its pipeline's MAC table, or its station move rewritten, within token and
  room limits. `pick` is the module's choice of index; `behind` says whether the walk of a flush in progress has passed the
  entry's place. -/
  | learnInsert (dt p pick : Nat) (behind : Bool)
  /-- FRAME_TRANSMIT (R130): The scheduler chooses a copy, which is read, checked, edited, stamped and sent, releasing cells when its
  count reaches 0. `beats` are those of the lane's phase detector (R226), `start33` the module's choice of start block (R205); `flips` are buffer
  words upset since, with the bits flipped. -/
  | frameTransmit (dt n : Nat) (beats : List (Nat × Bool)) (start33 : Bool) (flips : List (Nat × BitVec 288))
  /-- FRAME_PREEMPT (R182): A preemptable frame in transmission is cut at its earliest permitted point for an express frame or a
  closing gate. -/
  | framePreempt (dt n : Nat)
  /-- PORT_HOLD_EXPIRY (R135): A port hold expires before link up and every held copy is flushed with event 58. -/
  | portHoldExpiry (dt n : Nat)
  /-- PFC_XOFF_REFRESH (R123): A held XOFF is repeated every 0x8000 quanta while its condition lasts. `fill` is the fill of
  the group's elastic store in bytes. -/
  | pfcXoffRefresh (dt n fill : Nat)
  /-- PFC_FRAME_RECEIVE (R128): A received PFC frame pauses the named TC0..TC5 egress queues for the times it names, or is counted as
  without effect. `named` are the priorities named, each with its time in quanta. -/
  | pfcFrameReceive (dt n : Nat) (named : List (Nat × Nat))
  /-- LLP_FRAME_RECEIVE (R128): A received link-level PAUSE pauses TC0..TC5 of the port together. -/
  | llpFrameReceive (dt n time : Nat)
  /-- PAUSE_EXPIRY (R128): The pause time received for a class runs out and its queue becomes eligible again. -/
  | pauseExpiry (dt n k : Nat)
  /-- PAUSE_STORM_START (R377): A class has been held paused with a copy waiting for 100 ms; pause for it ceases to be obeyed and
  event 76 is raised. -/
  | pauseStormStart (dt n k : Nat)
  /-- PAUSE_STORM_END (R377): One second without non-zero pause for the class ends the storm; pause is obeyed again. -/
  | pauseStormEnd (dt n k : Nat)
  /-- BUF_SCRUB_UNIT (R119): Scrubs the free cells of one bank, correcting, zeroing or retiring cells. `hard` are the cells that fail
  again after zeros are written; `flips` as for FRAME_TRANSMIT. -/
  | bufScrubUnit (dt b : Nat) (hard : List Nat) (flips : List (Nat × BitVec 288))
  /-- MALFORMED_RATE_SECOND (R376): At the end of a second, a port's bad-frame count is tested and event 77 raised at episode start or
  end. -/
  | malformedRateSecond (dt n : Nat)
  /-- LAN_TX_FIR_WRITE (R91): A valid FIR write takes effect at the next block boundary and requests a Level 1 calibration on an up
  port. -/
  | lanTxFirWrite (dt l : Nat) (value : Word) (be : Nat)
  /-- ADAPT_DONE (R93): Receive adaptation ends, ADAPT_DONE is set and the linear equaliser frozen. `ctle` is the equaliser setting
  that adaptation found. -/
  | adaptDone (dt l ctle : Nat)
  /-- LINK_DOWN (R99): A fault condition held for DOWN_DEBOUNCE_US declares link down with its cause, freezing queues and starting the
  port hold. -/
  | linkDown (dt n : Nat)
  /-- LINK_UP (R101): All up conditions held for the up-suppression time declare link up, raising event 64 and resuming frozen queues. -/
  | linkUp (dt n : Nat)
  /-- FLAP_RECOVER (R102): A link up without a break for 60 s returns its up-suppression time to UP_HOLD_MS. -/
  | flapRecover (dt n : Nat)
  /-- AM_LOCK_LOST (R98): A PCS lane misses four consecutive alignment markers and the port loses alignment-marker lock. `pcs` and
  `lane` are the PCS lane and the lane that carries it. -/
  | amLockLost (dt n pcs lane : Nat)
  /-- DESKEW_RETRY (R97): 10 ms after skew beyond 200 ns, the port tries alignment-marker lock again. -/
  | deskewRetry (dt n : Nat)
  /-- AN_REFUSED (R104): A 1G peer that does not advertise full duplex keeps the port down and increments AN_FAIL_CNT. -/
  | anRefused (dt n : Nat)
  /-- PORT_ENABLE (R103): ENABLE becomes 1: PRBS stops and adaptation and the link-up rules start. -/
  | portEnable (dt n : Nat) (value : Word) (be : Nat)
  /-- PORT_DISABLE (R103): ENABLE becomes 0: the port is squelched and held down with cause 6, flushing its held copies. -/
  | portDisable (dt n : Nat) (value : Word) (be : Nat)
  /-- PORT_FEC_CHANGE (R94): A change of FEC on an enabled port restarts its PCS with link down cause 7. -/
  | portFecChange (dt n fec : Nat) (value : Word) (be : Nat)
  /-- LAN_PRBS_CFG_WRITE (R105): Starts or stops the PRBS generator and checker of a lane, clearing counters when CHECK rises. -/
  | lanPrbsCfgWrite (dt l : Nat) (value : Word) (be : Nat)
  /-- PRBS_INJECT_SINGLE (R107): Inverts one generator bit at the next block boundary. -/
  | prbsInjectSingle (dt l : Nat)
  /-- PRBS_INJECT_BURST (R107): Inverts BURST_LEN generator bits from the next block boundary. -/
  | prbsInjectBurst (dt l : Nat)
  /-- PRBS_LOCK_CHANGE (R106): The checker locks after 1,024 clean bits or drops lock after more than 64 errors in 1,024 bits. `errs`
  and `bits` were counted while locked since the last report. -/
  | prbsLockChange (dt l : Nat) (on : Bool) (errs bits : Nat)
  /-- PRBS_INTERVAL_END (R106): At the end of a one-second interval with errors or lock loss, event 68 is raised. `errs` and `bits`
  were counted while locked since the last report. -/
  | prbsIntervalEnd (dt l errs bits : Nat)
  /-- TBL_FLUSH (R154): START begins a walk removing matching learned entries from all four MAC tables. -/
  | tblFlush (dt : Nat) (value : Word) (be : Nat)
  /-- TBL_FLUSH_DONE (R154): The flush walk ends, BUSY clears and TBL_FLUSH_CNT holds the entries removed. -/
  | tblFlushDone (dt : Nat)
  /-- AGE_SWEEP_UNIT (R155): The sweeper visits a batch of learned entries, advancing aging states and removing marked entries
  conditionally. -/
  | ageSweepUnit (dt p : Nat)
  /-- STASH_MOVE (R151): After a bucket slot is freed, a stash entry with that candidate bucket is moved into it. -/
  | stashMove (dt tb : Nat)
  /-- TBL_SCRUB_UNIT (R168): The table scrubber checks the parity of a batch of entries. `bad` are places of the tables upset
  since, and whether the protected copy is too. -/
  | tblScrubUnit (dt tb : Nat) (bad : List (TblPlace × Bool))
  /-- TBL_PARITY_REPAIR (R168): A bad entry is repaired from its ECC copy, or removed when the copy is also bad. -/
  | tblParityRepair (dt : Nat) (place : TblPlace)
  /-- FRER_ROGUE_INTERVAL_END (R160): At the end of a second in which an instance counted rogue frames, event 59 is raised. -/
  | frerRogueIntervalEnd (dt i : Nat)
  /-- FRER_DUP_BURST_CHECK (R160): Each millisecond an instance's eliminations are compared with passes plus margin, raising event 60
  at burst start or end. -/
  | frerDupBurstCheck (dt i : Nat)
  /-- FRER_RESET_TIMER (R160): An instance's RESET_MS timer expires and its recovery resets. -/
  | frerResetTimer (dt i : Nat)
  /-- PREEMPT_VERIFY_TIMER (R181): VERIFY_MS passes: another verify mPacket is sent, or verification fails with event 62 and retries
  each second. -/
  | preemptVerifyTimer (dt n : Nat)
  /-- PREEMPT_VERIFY_RESPONSE (R181): A verify response arrives and preemption becomes active. -/
  | preemptVerifyResponse (dt n : Nat) (bad : Bool)
  /-- GCL_ENTRY_WRITE (R195): A write of GCL_ENTRY_HI commits the entry formed with ENTRY_LO into the administrative list at IDX. -/
  | gclEntryWrite (dt n : Nat) (value : Word) (be : Nat)
  /-- GATE_CONFIG_CHANGE (R185): CONFIG_CHANGE becoming 1 snapshots the administrative list, checks it and computes its start instant. -/
  | gateConfigChange (dt n : Nat) (value : Word) (be : Nat)
  /-- GATE_ENABLE (R188): ENABLE becomes 1; a stored snapshot is checked again and its start instant computed. -/
  | gateEnable (dt n : Nat) (value : Word) (be : Nat)
  /-- GATE_DISABLE (R188): ENABLE becomes 0; the pending list is discarded, gates take ADMIN_GATES and stranded copies are discarded. -/
  | gateDisable (dt n : Nat) (value : Word) (be : Nat)
  /-- GATE_LIST_START (R186): The start instant of a pending list is reached; it becomes operational, cuts the old cycle, discards
  stranded copies, raises event 30. -/
  | gateListStart (dt n : Nat)
  /-- GATE_ENTRY_CHANGE (R183): The interval of the current gate entry ends and the next entry's gate states and operation take
  effect. -/
  | gateEntryChange (dt n : Nat)
  /-- TIM_INC_TRANSFER (R198): A write to TIM_INC_HI transfers the increment pair at the next tick, raising event 27 kind 0. -/
  | timIncTransfer (dt : Nat)
  /-- SLEW_START (R199): START loads amount and tick count and begins a slew, superseding a running one, or sets SLEW_REJECTED. -/
  | slewStart (dt : Nat) (value : Word) (be : Nat)
  /-- SLEW_CANCEL (R200): CANCEL ends a running slew, discarding its remainder with event 27 kind 2. -/
  | slewCancel (dt : Nat) (value : Word) (be : Nat)
  /-- SLEW_DONE (R200): N ticks of a slew pass and it ends with event 27 kind 1. -/
  | slewDone (dt : Nat)
  /-- TIM_SNAP_CAPTURE (R216): CAPTURE copies module time at the next tick into TIM_SNAP and sets DONE. -/
  | timSnapCapture (dt : Nat)
  /-- TSF_READ (R215): A read of TIM_TSF[n]_W0 removes the oldest timestamp entry from the FIFO. -/
  | tsfRead (dt n : Nat)
  /-- LANTERN_ENABLE (R230): PHS ENABLE becomes 1; the port enters WAIT_LINK or SEEKING and starts sending. -/
  | lanternEnable (dt n : Nat) (value : Word) (be : Nat)
  /-- LANTERN_DISABLE (R230): PHS ENABLE becomes 0; sending stops and the port enters OFF. -/
  | lanternDisable (dt n : Nat) (value : Word) (be : Nat)
  /-- LANTERN_SET_OFFER (R223): Every 4,096 blocks a lantern set is offered into the next idle block, or skipped and counted. `idle`:
  an idle block is at hand, else the next offer has come; `beats` are those of the lane's phase detector. Numbers 64 and 65 are MIR0 and MIR1. -/
  | lanternSetOffer (dt n : Nat) (idle : Bool) (beats : List (Nat × Bool))
  /-- LANTERN_WORD_RECEIVE (R225): A complete received lantern word is checked, its stamp sample taken or the word counted bad. Blocks
  that cross the plane at the present tick, with the beats of the lane's phase detector; the word is complete with its set 3. Numbers 64
  and 65 are MIR0 and MIR1. -/
  | lanternWordReceive (dt n : Nat) (blocks : List (BitVec 66 × List (Nat × Bool)))
  /-- LANTERN_BLOCK_REPORT (R228): For a 1 ms block whose peer summary has arrived, delay and offset are computed and reported. -/
  | lanternBlockReport (dt n : Nat)
  /-- LANTERN_REPORT_SPARSE (R228): A block's peer summary has not arrived 2 ms after the block ends; it is reported SPARSE. -/
  | lanternReportSparse (dt n : Nat)
  /-- LANTERN_REPORT_READ (R229): A read of PHS RPT_SEQ clears NEW and freezes the report registers. -/
  | lanternReportRead (dt n : Nat)
  /-- LANTERN_WORD_TIMEOUT (R230): No valid word for 10 ms returns an UP port to SEEKING with event 73. -/
  | lanternWordTimeout (dt n : Nat)
  /-- LANTERN_SUSPEND_END (R230): SUSPEND_S elapses and the port returns to SEEKING or WAIT_LINK. -/
  | lanternSuspendEnd (dt n : Nat)
  /-- LANTERN_BAD_COUNT_RESET (R231): At each whole second of module time BAD_1S returns to 0. -/
  | lanternBadCountReset (dt : Nat)
  /-- PHS_ASYM_WRITE (R233): A write of SOURCE, ASYM_HOST or fibre data changes the asymmetry in use from the next block, raising
  event 74. Register `k` from ASYM_CFG on. -/
  | phsAsymWrite (dt n k : Nat) (value : Word) (be : Nat)
  /-- SWAP_CAPTURE_BEFORE (R234): Starts the first capture of a role swap, or fails it when lantern is not UP. -/
  | swapCaptureBefore (dt n : Nat) (value : Word) (be : Nat)
  /-- SWAP_CAPTURE_AFTER (R234): Starts the second capture of a role swap from GAP. -/
  | swapCaptureAfter (dt n : Nat) (value : Word) (be : Nat)
  /-- SWAP_ABORT (R234): Aborts a running role swap with FAIL cause 5. -/
  | swapAbort (dt n : Nat) (value : Word) (be : Nat)
  /-- SWAP_AVG_END (R234): AVG_S of a capture elapses; D is stored, or the result and uncertainty written or the swap failed. -/
  | swapAvgEnd (dt n : Nat)
  /-- SWAP_GAP_TIMEOUT (R234): In hold mode, 10 s in GAP fails the swap with cause 3. -/
  | swapGapTimeout (dt n : Nat)
  /-- REF_SLOT_CFG_WRITE (R241): A write of slot ENABLE, PRIORITY, LANE or quality changes slot state and selection is evaluated
  again. `quality`: the write is of a time slot's QUAL register. -/
  | refSlotCfgWrite (dt k : Nat) (quality : Bool) (value : Word) (be : Nat)
  /-- REF_SLOT_FAULT (R240): A fault condition begins on a slot, which enters FAILED, raising event 17 when leaving QUALIFIED. `code`
  as R239; `off` the measured offset in 0.001 ppb; for code 2 `dev` is how far the edge lies from the instant predicted, in ps. -/
  | refSlotFault (dt k code : Nat) (off : Int) (dev : Nat)
  /-- REF_SLOT_FAULT_END (R240): A slot's fault ends and it re-enters VALIDATING. `code` as R239; `off` the measured offset in 0.001
  ppb. -/
  | refSlotFaultEnd (dt k code : Nat) (off : Int)
  /-- REF_VALIDATE_EXPIRY (R240): VALIDATE_S without fault passes and the slot becomes QUALIFIED or enters WAIT_RESTORE. `off` is the
  measured offset. -/
  | refValidateExpiry (dt k : Nat) (off : Int)
  /-- REF_WTR_EXPIRY (R240): WTR_S without fault passes and the slot becomes QUALIFIED with the restore flag. `off` is the measured
  offset. -/
  | refWtrExpiry (dt k : Nat) (off : Int)
  /-- REF_DISAGREE_DETECT (R243): Two equal-rank slots differ beyond DISAGREE for 10 s; one is outvoted or both disputed, with event
  20. Slots with their measured offsets. -/
  | refDisagreeDetect (dt i j : Nat) (di dj : Int)
  /-- REF_DISAGREE_CLEAR (R243): The slots agree again long enough and the OUTVOTED or DISPUTED mark clears. Slots with their measured
  offsets; `agreed` are the ticks for which they have agreed without a break. -/
  | refDisagreeClear (dt i j agreed : Nat) (di dj : Int)
  /-- REF_SWITCH_HANDOVER (R244): The build-out measurement ends and the measured offset is loaded so the DPLL follows the new slot,
  raising event 19. Of the time or the frequency class, with the measured offset or phase in 2^-16 ns. -/
  | refSwitchHandover (dt : Nat) (time : Bool) (x : Int)
  /-- DPLL_COMPARE_CYCLE (R250): A DPLL comparison cycle updates the control value and declares or loses lock. `ps` is the phase
  error measured. -/
  | dpllCompareCycle (dt : Nat) (ps : Int)
  /-- HOLDOVER_SECOND (R251): Each second the control history is kept or the compensated holdover value recomputed. Aging rate and
  temperature coefficient as the controller estimates them. -/
  | holdoverSecond (dt : Nat) (rate coef : Int)
  /-- WICK_UPDATE (R253): Each second the wick is computed and event 25 raised or ended at REF_WICK_LOW. -/
  | wickUpdate (dt : Nat)
  /-- TIME_SLOT_EDGE (R255): At each edge of a selected external time slot, the offset is measured and a slew started or a step
  advised. `back` is how far the edge lies before now in 2^-16 ns; `ptp` the offset of a PTP slot in 2^-16 ns. Slots 10 to 13 have edges too:
  those that a switch to them takes (R244). -/
  | timeSlotEdge (dt k back : Nat) (ptp : Int)
  /-- VIRT_FREQ_WRITE (R247): A write of REF_VIRT_FREQ_HI transfers the virtual slot's frequency value. -/
  | virtFreqWrite (dt : Nat) (value : Word) (be : Nat)
  /-- XPPS_DECL_ARM (R256): A write of REF_XPPS_DECL_HI arms the TAI second of the next XPPS edge. -/
  | xppsDeclArm (dt i : Nat) (value : Word) (be : Nat)
  /-- GNSS_SENTENCE (R256): A ZDA or RMC sentence received on GNSS_RXD supplies the time of day of its edge. Its bytes, from
  the dollar sign on. -/
  | gnssSentence (dt : Nat) (sentence : List Byte)
  /-- IRIG_FRAME (R256): A decoded IRIG frame supplies the time of day of its reference marker. `format` is x of B00x or B12x as
  found on the line; the frame's symbols are 0, 1 and 2 for a marker. -/
  | irigFrame (dt format : Nat) (symbols : List Nat)
  /-- OUT_START_REQUEST (R259): A write of REF_OUT START_W2 asks the output to begin at START, refused outside the horizon. -/
  | outStartRequest (dt k : Nat) (value : Word) (be : Nat)
  /-- OUT_START (R259): An output's first ideal edge at or after START arrives and it begins. -/
  | outStart (dt k : Nat)
  /-- OUT_CLOCK_AUTO_REALIGNED (R260): A CLOCK output slewing by CLK_SLEW_PPB brings its misalignment below threshold, raising event
  29 method 1. -/
  | outClockAutoRealigned (dt k : Nat)
  /-- OUT_REALIGN_EDGE (R261): A realigning output reaches its first ideal edge after its boundary, resumes aligned and raises event
  29. -/
  | outRealignEdge (dt k : Nat)
  /-- TIN_EDGE (R269): A qualifying edge is captured and stamped, writing a timestamp record or opening or closing an interval
  measurement. `bin` is the interpolator's bin. -/
  | tinEdge (dt i : Nat) (rising : Bool) (bin : Nat)
  /-- TIN_INTERVAL_TIMEOUT (R274): An open interval's timeout becomes due and, after edges settle, it closes with a TIMEOUT record. -/
  | tinIntervalTimeout (dt i : Nat)
  /-- TIN_FREQ_GATE (R277): A frequency gate ends and its record of span and count, or TIMEOUT, is written. `extra` prescaled edges
  were captured without a command of their own. -/
  | tinFreqGate (dt i extra : Nat)
  /-- TIN_ARM (R275): ARM arms an interval input. -/
  | tinArm (dt i : Nat) (value : Word) (be : Nat)
  /-- TIN_DISARM (R275): DISARM disarms an interval input. -/
  | tinDisarm (dt i : Nat) (value : Word) (be : Nat)
  /-- TIC_CFG_WRITE (R276): A change of mode or edge settings aborts an open measurement with an ABORTED record. -/
  | ticCfgWrite (dt i : Nat) (value : Word) (be : Nat)
  /-- TIN_SETTING_APPLY (R285): A new bin table or conditioning change takes effect in the input's first idle period. -/
  | tinSettingApply (dt i : Nat)
  /-- TIN_CAL_LAUNCH (R282): The jitter source launches a calibration edge into a quiet converter as a code-density hit. -/
  | tinCalLaunch (dt i : Nat)
  /-- INTERP_CAL_DONE (R283): An interpolator run ends its two passes, installing a new bin table or failing with event 94. `fault` is
  0 or the cause of event 94; `taps` are the hits of the 640 taps in the selection pass, `hits` those of the 512 bins. -/
  | interpCalDone (dt j fault : Nat) (taps hits : List Nat)
  /-- PHASE_DET_CAL_DONE (R291): A phase detector linearity run gathers its samples and writes the linearity table, or ends after 60
  s. Samples gathered, the code-density step of each dither cell in fs, and the table: a correction in fs
  for each count of helper periods. -/
  | phaseDetCalDone (dt j samples : Nat) (steps : List Nat) (table : List Int)
  /-- PORT_CAL_DONE (R292): A port delay run ends; new delays apply from the next frame boundary or the result is discarded. The
  measured loop sum S, with an external loop the round trip, and the 64 of 96 cells chosen in each plane. -/
  | portCalDone (dt n : Nat) (sum trip : Int) (rxCells txCells : List Nat)
  /-- PORT_CAL_ABANDON (R293): A port run is abandoned by link down, FEC or FIR change or supply warning, keeping the previous delays. -/
  | portCalAbandon (dt n : Nat)
  /-- PORT_CAL_RETRY (R293): 60 s after an out-of-range port result, the run is repeated. -/
  | portCalRetry (dt n : Nat)
  /-- OUTPUT_CAL_DONE (R294): An output skew run averages its edges and installs the new trim at the output's next boundary. The
  errors of the edges that the sense path has seen, in fs, and the 64 of 80 cells chosen. -/
  | outputCalDone (dt k : Nat) (errs : List Int) (cells : List Nat)
  /-- CAL_TEMP_TRIGGER (R290): A trigger sensor moves beyond THRESH_QK from LAST_TEMP and the instances it serves become due. Sensor
  0..7, or core die sensor 8..11, reads `temp` in 1/16 °C. -/
  | calTempTrigger (dt k temp : Nat)
  /-- OSC_RECENTRE (R295): A tuning voltage leaves 30 % to 70 % and one capacitor element is swapped at the next reference edge.
  `volt` is the tuning voltage in per cent of its range. -/
  | oscRecentre (dt i volt : Nat)
  /-- ENERGY_TALLY (R335): At each 10 ms tally boundary the meters report, the spare is computed and due background units are started.
  Meters in tenths of a bead, core temperatures, the readings of the pipelines' rings, the oven's draw, flash work that has come due. -/
  | energyTally (dt : Nat) (meters core rings : List Nat) (oven : Nat) (flash : List Nat)
  /-- FLASH_HOUSEKEEPING_UNIT (R336): One sector erase or record write of learned aging and other data is made in flash. Kind 0 is a
  sector erase, 1..4 the records of R336. -/
  | flashHousekeepingUnit (dt kind : Nat) (ok : Bool) (addr retries : Nat)
  /-- PIPELINE_SLOW (R18): A pipeline's measured capacity falls below its floor, event 63 is raised and the rail is returned to
  nominal. Capacity in thousands of frames per second, the store's fill in bytes. -/
  | pipelineSlow (dt p cap fill : Nat)
  /-- CORE_RAIL_NOMINAL (R18): The core rail reaches nominal and event 63 is raised with the episode figures. Capacities at nominal. -/
  | coreRailNominal (dt : Nat) (caps fills : List Nat)
  /-- DOMAIN_FAULT (R333): A domain regulator or meter fault is detected; the domain is switched off or charged at maximum and event 7
  raised. Cause as event 7, rail voltage and current. -/
  | domainFault (dt d cause mv ma : Nat)
  /-- DOMAIN_RESTORE (R365): 1 s after a fault, or on a RESTORE write, the domain is cleared and restored, or given up after three
  faults. -/
  | domainRestore (dt d : Nat)
  /-- THERM_WARN (R340): T_j reaches WARN_C or falls below it less HYST_K, raising event 2. -/
  | thermWarn (dt : Nat)
  /-- THERM_HOT (R341): T_j reaches 110 °C or stays hot for a step period, raising the governor step or THROTTLE with event 3. -/
  | thermHot (dt : Nat)
  /-- THERM_COOL (R341): T_j stays cool for the release period, lowering THROTTLE or the step, with event 4 at NORMAL. -/
  | thermCool (dt : Nat)
  /-- THROTTLE_PERIOD (R342): At each 1 ms period and at m/8 of it, XOFF or XON for priorities 0..3 is sent on every enabled port. -/
  | throttlePeriod (dt : Nat)
  /-- THERMAL_TRIP (R343): A sensor at 120 °C for 10 ms switches off every domain but PD0. -/
  | thermalTrip (dt : Nat)
  /-- THERMAL_TRIP_RESTART (R343): Every sensor falls below 95 °C and the module restarts with cause 2. Eleven sensor readings in 1/16
  °C. -/
  | thermalTripRestart (dt : Nat) (temps : List Nat)
  /-- SUPPLY_WARN (R346): A rail falls through its warning level; flash writes, commits and calibration are held and stamps flagged.
  Rail voltages in mV. -/
  | supplyWarn (dt main aux : Nat)
  /-- SUPPLY_RECOVERED (R347): Both rails hold above recovery for 100 µs; held commands are released in fetch order with event 1. Rail
  voltages in mV. -/
  | supplyRecovered (dt main aux : Nat)
  /-- SUPPLY_RESET (R355): MAIN12 falls below 10.0 V, clearing all domains but PD0. MAIN12 in mV. -/
  | supplyReset (dt main : Nat)
  /-- COLD_START (R48): AUX3 is lost and restored; the journal starts empty and event 15 reports a cold start. -/
  | coldStart (dt : Nat)
  /-- OSC_WARM (R348): The oven holds its set point for 30 s, the warming flag clears and event 10 is raised. Oven draw in mW,
  temperature in 1/16 °C. -/
  | oscWarm (dt oven temp : Nat)
  /-- OSC_FAULT (R367): The oven misses its set point in 10 minutes, the heater faults or the oscillator output is lost, raising event
  11. 0 set point missed, 1 heater, 2 output lost. -/
  | oscFault (dt cause oven temp : Nat)
  /-- POWER_GOOD (R351): PD0 up, both presence contacts low for 10 ms and MAIN12 held, starting the start-up timeline. `bad`: the
  calibration instances whose factory table in flash fails its check, each with its flash address. -/
  | powerGood (dt : Nat) (bad : List (Nat × Nat))
  /-- BOOT_IMAGE_LOAD (R69): At start-up the preferred flash slot, then the fallback, is read and verified and its image activated.
  Whether each slot could be read, and for one that could not the flash address and the retries made. -/
  | bootImageLoad (dt : Nat) (ok0 ok1 : Bool) (bad0 bad1 : Nat × Nat)
  /-- MODULE_RESET (R357): A keyed MODULE write clears all domains but PD0 and PD1 and reruns start-up. -/
  | moduleReset (dt : Nat)
  /-- CORE_RESET (R358): A keyed CORE write clears PD6 and PD7, losing buffered frames while ports stay up. -/
  | coreReset (dt : Nat)
  /-- CORE_RESET_END (R358): The core reset ends within 5 ms and frame delivery resumes. -/
  | coreResetEnd (dt : Nat)
  /-- CONTROLLER_RESTART (R357): A keyed CONTROLLER write restarts the management controller alone. -/
  | controllerRestart (dt : Nat)
  /-- CONTROLLER_WATCHDOG (R27): The 500 ms watchdog expires and the controller alone restarts with event 15. -/
  | controllerWatchdog (dt : Nat)
  /-- EJECT_LATCH (R359): EJECT_REQ held for 5 ms begins a removal with event 8 and health 0. -/
  | ejectLatch (dt : Nat)
  /-- EJECT_HOST (R359): A 1 written to GEN_HOTPLUG.EJECT begins a removal with event 8. -/
  | ejectHost (dt : Nat)
  /-- HOTPLUG_READY (R360): Egress drains or EJECT_DRAIN_MS passes; held copies flush, ports held down and event 9 raised. -/
  | hotplugReady (dt : Nat)
  /-- SURPRISE_REMOVAL (R362): A presence contact goes high without event 8 and every transmitter is squelched at once. `pres` are the
  contacts still low. -/
  | surpriseRemoval (dt pres : Nat)
  /-- EJECT_CANCEL (R363): The latch closes after event 9 and the module restarts with cause 8. -/
  | ejectCancel (dt : Nat)
  /-- TXN_DRAIN_DONE (R80): The last frame of the older epoch leaves and a commit in PENDING_DRAIN proceeds. -/
  | txnDrainDone (dt : Nat)
  /-- TXN_DRAIN_LIMIT (R80): DRAIN_LIMIT_MS expires for an immediate commit, which is rolled back DRAIN_LIMIT. -/
  | txnDrainLimit (dt : Nat)
  /-- TXN_DEADLINE_MISSED (R81): A timed commit is not ready by its lead before AT and completes TIMED_MISSED with event 90. -/
  | txnDeadlineMissed (dt : Nat)
  /-- TXN_APPLY (R79): The apply instant is reached; the epoch advances, changes come into force and the commit completes with event
  88. `pick` is the module's choice of index for inserts placed afresh. -/
  | txnApply (dt pick : Nat)
  /-- CLAIM_WORD_RECEIVE (R310): A valid 24-bit claim word arrives on CLAIM_IN[0]; two equal words set the partner claim. -/
  | claimWordReceive (dt word : Nat)
  /-- CLAIM_WIRE_SILENCE (R310): 480 ns without a valid claim word sets the partner claim to 0x0000. -/
  | claimWireSilence (dt : Nat)
  /-- CLAIM_WIRE_CHANGE (R311): READY_IN or HOLD_IN changes and the unit releases or enables its claim-gated drivers.
  `nets` are the levels of the TOUT and LANE_SEL_OUT nets (bits 0..11) as the partner leaves them where HOLD_IN falls. -/
  | claimWireChange (dt : Nat) (ready hold : Bool) (nets : Nat)
  /-- HEALTH_PUBLISH (R306): A raw health score held for HEALTH_HOLD_MS, or a score of 0, becomes the published score. -/
  | healthPublish (dt : Nat)
  /-- MIR_ENABLE (R314): MIR_CFG.ENABLE becomes 1 and the Emulug link starts a new session. -/
  | mirEnable (dt : Nat) (value : Word) (be : Nat)
  /-- MIR_DISABLE (R316): ENABLE becomes 0 and the pair state returns to ALONE with event 81 cause 2. -/
  | mirDisable (dt : Nat) (value : Word) (be : Nat)
  /-- MIR_LANE_CHANGE (R316): One Emulug lane is lost or returns, raising event 81 cause 1 or event 80. -/
  | mirLaneChange (dt lane : Nat) (up : Bool)
  /-- CLAIM_SEND (R315): Every 20 µs a CLAIM message is sent on both Emulug lanes. -/
  | claimSend (dt : Nat)
  /-- CLAIM_MSG (R317): A CLAIM message is taken; roles follow the claims and a reported dual-active condition is yielded. A message
  has its session and SEQ, and `good` when its CRC holds. -/
  | claimMsg (dt session seq : Nat) (good : Bool) (claim roles state age take image epoch : Nat)
  /-- PARTNER_SILENT (R316): No valid CLAIM for 100 µs: PARTNER_LOST, event 81 and, in a split pair, every role taken with event 84. -/
  | partnerSilent (dt : Nat)
  /-- SYNC_DATA (R320): A chunk of mirrored fields and host table entries from the owner is taken. -/
  | syncData (dt session seq : Nat) (good : Bool) (items : List MirItem)
  /-- SYNC_DONE (R320): The end of synchronisation names the apply instant and epoch. -/
  | syncDone (dt session seq : Nat) (good : Bool) (instant epoch : Nat)
  /-- SYNC_APPLY (R320): At the synchronisation apply instant the whole state applies and the unit enters IN_SERVICE. -/
  | syncApply (dt : Nat)
  /-- SYNC_TIMEOUT (R320): A synchronisation attempt lacks SYNC_DONE after 2 s and is repeated, or the third failure leads to
  DIVERGED. -/
  | syncTimeout (dt : Nat)
  /-- TXN_PREPARE (R84): A partner's prepare is received and the unit votes yes or no. -/
  | txnPrepare (dt session seq : Nat) (good : Bool) (id tag epoch instant at96 : Nat) (items : List MirItem)
  /-- TXN_VOTE (R84): The partner's vote is received and the decision is sent. -/
  | txnVote (dt session seq : Nat) (good : Bool) (id : Nat) (yes : Bool)
  /-- TXN_DECISION (R84): The decision COMMIT or ABORT is received and the transaction waits or ends. -/
  | txnDecision (dt session seq : Nat) (good : Bool) (id : Nat) (yes : Bool)
  /-- CHANGE (R322): A mirrored field write or table operation from the partner is applied within 1 ms. -/
  | changeMsg (dt session seq : Nat) (good : Bool) (item : MirItem)
  /-- HANDLE_REQ (R322): The owner places an insert requested by the partner and answers with CHANGE. `pick` is the owner's choice of
  index. -/
  | handleReq (dt session seq : Nat) (good : Bool) (code pick : Nat) (data : List Byte)
  /-- TIME_STATE_SEND (R315): Every 10 ms the unit's time state and host state block are sent. -/
  | timeStateSend (dt : Nat)
  /-- TIME_STATE (R325): The partner's time state is received and shown in MIR_PTIME registers. -/
  | timeState (dt session seq : Nat) (good : Bool) (dpll fsel tsel ho warm wick entry : Nat) (host : List Nat)
  /-- FRER_WINDOW_SEND (R326): Every 10 µs the windows of changed recovery instances are sent. -/
  | frerWindowSend (dt : Nat)
  /-- FRER_WINDOW (R326): A partner's FRER recovery window is stored as a shadow. -/
  | frerWindow (dt session seq : Nat) (good : Bool) (i recov hist : Nat)
  /-- JOURNAL_MARK (R327): A partner's journal state change is stored for reading through MIR_PJ. -/
  | journalMark (dt session seq : Nat) (good : Bool) (tag state ring opcode cookie : Nat)
  /-- EXCHANGE (R328): An EXCHANGE with new preferences and apply instant is received and acknowledged. -/
  | exchange (dt session seq : Nat) (good : Bool) (instant pref : Nat)
  /-- EXCHANGE_ACK (R328): The partner's acknowledgement of an exchange is received. -/
  | exchangeAck (dt session seq : Nat) (good : Bool) (cause : Nat)
  /-- EXCHANGE_DRAIN_DONE (R328): Single-homed queues are empty and EXCHANGE is sent with an apply instant 250 µs ahead. -/
  | exchangeDrainDone (dt : Nat)
  /-- EXCHANGE_DRAIN_TIMEOUT (R328): EXCH_DRAIN_US passes with queues not empty; admission resumes and the command completes
  REJECTED_BUSY. -/
  | exchangeDrainTimeout (dt : Nat)
  /-- EXCHANGE_APPLY (R328): At the exchange apply instant the preferences change and the claims move the roles. -/
  | exchangeApply (dt : Nat)
  /-- MIR_OFFSET_REPORT (R324): Each millisecond the mirror offset is reported and a following unit slews or advises a step. -/
  | mirOffsetReport (dt : Nat)
  /-- MIR_OFFSET_READ (R324): A read of MIR_OFFSET_SEQ clears NEW and freezes the mirror report. -/
  | mirOffsetRead (dt : Nat)
  /-- MIR_HOST_STATE_SEND (R325): A write of MIR_HOST_STATE[63] sends the host state block to the partner. -/
  | mirHostStateSend (dt : Nat) (value : Word) (be : Nat)
  /-- REGISTER_WRITE (R372): An MMIO write to a register without its own row is checked and applied, or leaves the register unchanged.
  `be` are the byte enables. -/
  | registerWrite (dt off : Nat) (value : Word) (be : Nat)
  /-- SIGNAL_DETECT (R93): Signal is detected on a lane's receiver, or lost, and receive adaptation starts again from the beginning. -/
  | signalDetect (dt l : Nat) (on : Bool)
  /-- BLOCK_LOCK_CHANGE (R101): A link condition of R99 or R101 begins or ends on a port: block lock or code-group sync gained or
  lost, hi_ber, fault ordered sets, alignment-marker lock or auto-negotiation complete. This starts or breaks the down-debounce or
  up-suppression wait. Kinds: 1 block lock, 2 hi_ber, 3 remote fault, 4 local fault, 5 alignment-marker lock, 6 auto-negotiation;
  skew, its lanes and the deskew delay of lane n as R96 and R97; what the PCS has counted since the last report. -/
  | blockLockChange (dt n kind : Nat) (on : Bool) (skew early late own : Nat) (counts : PcsCounts)
  /-- BUS_MASTER_ENABLE (R31): The host sets or clears Bus Master Enable in the function's PCI configuration command register,
  allowing or stopping all DMA and starting or ending the event-record hold of R58. The same configuration write gives MSI-X
  Enable and Function Mask (R390). -/
  | busMasterEnable (dt : Nat) (master msix mask : Bool)
  /-- I2C_TRANSACTION (R406): An I2C write sets the identity record's pointer, or an I2C read latches the live fields and returns
  bytes from the pointer. A write's first byte, or the number of bytes read. -/
  | i2cTransaction (dt addr : Nat) (write : Bool) (byte count : Nat)
  /-- START_UP_DOMAINS_ON (R352): After image activation at start-up, the other domains of the domain plan come on with their register
  defaults and empty tables, and GEN_BOOT_STATUS advances. -/
  | startUpDomainsOn (dt : Nat)
  /-- START_UP_LANES_TRAINED (R352): At start-up, the lanes are trained and ready, so that enabled ports may come up, and
  GEN_BOOT_STATUS reaches ready. -/
  | startUpLanesTrained (dt : Nat)
  /-- CONTROLLER_RESTART_END (R27): The restarted management controller returns to service, and image and flash work and background
  work resume from the next tally. -/
  | controllerRestartEnd (dt : Nat)
  deriving DecidableEq, Repr

end Sys2Proof
end

