-- ==== Sys2Proof/WellFormed.lean ====
section
/-! DEFINITION. Well-formed commands: every operand that numbers a thing of the module lies in its range, and byte enables are four bits. -/

namespace Sys2Proof

/-- Are the operands of a command in range? -/
def Instr.wf : Instr → Bool
  | .sqDoorbell _ n _ => decide (n < 4)
  | .commandFetch _ _ _ buffer => decide (buffer.length ≤ 256)
  | .cmdRegWrite _ tag => decide (tag < 512)
  | .cmdRegRead _ tag => decide (tag < 512)
  | .cmdTblInsert _ tag _ => decide (tag < 512)
  | .cmdTblDelete _ tag => decide (tag < 512)
  | .cmdTblLookup _ tag => decide (tag < 512)
  | .cmdTblRead _ tag => decide (tag < 512)
  | .cmdTxnBegin _ tag => decide (tag < 512)
  | .cmdTxnCommit _ tag => decide (tag < 512)
  | .cmdTxnRollback _ tag => decide (tag < 512)
  | .cmdImageLoad _ tag _ => decide (tag < 512)
  | .imageFlashWriteDone _ _ _ _ _ => true
  | .restructureQueueDiscard _ g => decide (g < 4)
  | .restructurePipelineLoaded _ g => decide (g < 4)
  | .restructureLanesReady _ g => decide (g < 4)
  | .cmdCalRun _ tag => decide (tag < 512)
  | .cmdOutRealign _ tag => decide (tag < 512)
  | .cmdTimeStep _ tag => decide (tag < 512)
  | .timeStepApply _ _ => true
  | .cmdPairExchange _ tag => decide (tag < 512)
  | .cmdLanePrbs _ tag => decide (tag < 512)
  | .cmdFence _ tag => decide (tag < 512)
  | .completionWrite _ => true
  | .dmaError _ ring _ _ _ _ _ _ => decide (ring < 10)
  | .msixHoldoffExpiry _ v => decide (v < 8)
  | .msixVectorUnmask _ v => decide (v < 8)
  | .functionReset _ => true
  | .eventRecordWrite _ => true
  | .evtOverflowEnd _ => true
  | .evtHeldFlush _ => true
  | .evtCoalesceWindowEnd _ src _ => decide (src < 96)
  | .cpuTxDoorbell _ _ => true
  | .cpuTxFrame _ _ _ _ => true
  | .cpuRxDeliver _ _ => true
  | .frameReceive _ n _ _ _ => decide (n < 64)
  | .learnInsert _ p _ _ => decide (p < 4)
  | .frameTransmit _ n _ _ _ => decide (n < 64)
  | .framePreempt _ n => decide (n < 64)
  | .portHoldExpiry _ n => decide (n < 64)
  | .pfcXoffRefresh _ n _ => decide (n < 64)
  | .pfcFrameReceive _ n _ => decide (n < 64)
  | .llpFrameReceive _ n _ => decide (n < 64)
  | .pauseExpiry _ n k => decide (n < 64) && decide (k < 6)
  | .pauseStormStart _ n k => decide (n < 64) && decide (k < 6)
  | .pauseStormEnd _ n k => decide (n < 64) && decide (k < 6)
  | .bufScrubUnit _ b _ _ => decide (b < 64)
  | .malformedRateSecond _ n => decide (n < 64)
  | .lanTxFirWrite _ l _ be => decide (l < 64) && decide (be < 16)
  | .adaptDone _ l _ => decide (l < 64)
  | .linkDown _ n => decide (n < 64)
  | .linkUp _ n => decide (n < 64)
  | .flapRecover _ n => decide (n < 64)
  | .amLockLost _ n _ _ => decide (n < 64)
  | .deskewRetry _ n => decide (n < 64)
  | .anRefused _ n => decide (n < 64)
  | .portEnable _ n _ be => decide (n < 64) && decide (be < 16)
  | .portDisable _ n _ be => decide (n < 64) && decide (be < 16)
  | .portFecChange _ n fec _ be => decide (n < 64) && decide (fec < 4) && decide (be < 16)
  | .lanPrbsCfgWrite _ l _ be => decide (l < 64) && decide (be < 16)
  | .prbsInjectSingle _ l => decide (l < 64)
  | .prbsInjectBurst _ l => decide (l < 64)
  | .prbsLockChange _ l _ _ _ => decide (l < 64)
  | .prbsIntervalEnd _ l _ _ => decide (l < 64)
  | .tblFlush _ _ be => decide (be < 16)
  | .tblFlushDone _ => true
  | .ageSweepUnit _ p => decide (p < 4)
  | .stashMove _ tb => decide (tb < 5)
  | .tblScrubUnit _ tb _ => decide (tb < 12)
  | .tblParityRepair _ _ => true
  | .frerRogueIntervalEnd _ i => decide (i < 8192)
  | .frerDupBurstCheck _ i => decide (i < 8192)
  | .frerResetTimer _ i => decide (i < 8192)
  | .preemptVerifyTimer _ n => decide (n < 64)
  | .preemptVerifyResponse _ n _ => decide (n < 64)
  | .gclEntryWrite _ n _ be => decide (n < 64) && decide (be < 16)
  | .gateConfigChange _ n _ be => decide (n < 64) && decide (be < 16)
  | .gateEnable _ n _ be => decide (n < 64) && decide (be < 16)
  | .gateDisable _ n _ be => decide (n < 64) && decide (be < 16)
  | .gateListStart _ n => decide (n < 64)
  | .gateEntryChange _ n => decide (n < 64)
  | .timIncTransfer _ => true
  | .slewStart _ _ be => decide (be < 16)
  | .slewCancel _ _ be => decide (be < 16)
  | .slewDone _ => true
  | .timSnapCapture _ => true
  | .tsfRead _ n => decide (n < 64)
  | .lanternEnable _ n _ be => decide (n < 64) && decide (be < 16)
  | .lanternDisable _ n _ be => decide (n < 64) && decide (be < 16)
  | .lanternSetOffer _ n _ _ => decide (n < 66)
  | .lanternWordReceive _ n _ => decide (n < 66)
  | .lanternBlockReport _ n => decide (n < 64)
  | .lanternReportSparse _ n => decide (n < 64)
  | .lanternReportRead _ n => decide (n < 64)
  | .lanternWordTimeout _ n => decide (n < 64)
  | .lanternSuspendEnd _ n => decide (n < 64)
  | .lanternBadCountReset _ => true
  | .phsAsymWrite _ n k _ be => decide (n < 64) && decide (k < 7) && decide (be < 16)
  | .swapCaptureBefore _ n _ be => decide (n < 64) && decide (be < 16)
  | .swapCaptureAfter _ n _ be => decide (n < 64) && decide (be < 16)
  | .swapAbort _ n _ be => decide (n < 64) && decide (be < 16)
  | .swapAvgEnd _ n => decide (n < 64)
  | .swapGapTimeout _ n => decide (n < 64)
  | .refSlotCfgWrite _ k _ _ be => decide (k < 24) && decide (be < 16)
  | .refSlotFault _ k _ _ _ => decide (k < 24)
  | .refSlotFaultEnd _ k _ _ => decide (k < 24)
  | .refValidateExpiry _ k _ => decide (k < 24)
  | .refWtrExpiry _ k _ => decide (k < 24)
  | .refDisagreeDetect _ i j _ _ => decide (i < 15) && decide (j < 15)
  | .refDisagreeClear _ i j _ _ _ => decide (i < 15) && decide (j < 15)
  | .refSwitchHandover _ _ _ => true
  | .dpllCompareCycle _ _ => true
  | .holdoverSecond _ _ _ => true
  | .wickUpdate _ => true
  | .timeSlotEdge _ k _ _ => decide (k < 24)
  | .virtFreqWrite _ _ be => decide (be < 16)
  | .xppsDeclArm _ i _ be => decide (i < 2) && decide (be < 16)
  | .gnssSentence _ _ => true
  | .irigFrame _ x _ => decide (x < 8)
  | .outStartRequest _ k _ be => decide (k < 8) && decide (be < 16)
  | .outStart _ k => decide (k < 8)
  | .outClockAutoRealigned _ k => decide (k < 8)
  | .outRealignEdge _ k => decide (k < 8)
  | .tinEdge _ i _ bin => decide (i < 16) && decide (bin < 512)
  | .tinIntervalTimeout _ i => decide (i < 16)
  | .tinFreqGate _ i _ => decide (i < 16)
  | .tinArm _ i _ be => decide (i < 16) && decide (be < 16)
  | .tinDisarm _ i _ be => decide (i < 16) && decide (be < 16)
  | .ticCfgWrite _ i _ be => decide (i < 16) && decide (be < 16)
  | .tinSettingApply _ i => decide (i < 16)
  | .tinCalLaunch _ i => decide (i < 16)
  | .interpCalDone _ j _ _ _ => decide (j < 203)
  | .phaseDetCalDone _ j _ _ _ => decide (j < 203)
  | .portCalDone _ n _ _ _ _ => decide (n < 64)
  | .portCalAbandon _ n => decide (n < 64)
  | .portCalRetry _ n => decide (n < 64)
  | .outputCalDone _ k _ _ => decide (k < 8)
  | .calTempTrigger _ k _ => decide (k < 12)
  | .oscRecentre _ i _ => decide (i < 3)
  | .energyTally _ _ _ _ _ _ => true
  | .flashHousekeepingUnit _ kind _ _ _ => decide (kind < 5)
  | .pipelineSlow _ p _ _ => decide (p < 4)
  | .coreRailNominal _ _ _ => true
  | .domainFault _ d _ _ _ => decide (d < 13)
  | .domainRestore _ d => decide (d < 13)
  | .thermWarn _ => true
  | .thermHot _ => true
  | .thermCool _ => true
  | .throttlePeriod _ => true
  | .thermalTrip _ => true
  | .thermalTripRestart _ _ => true
  | .supplyWarn _ _ _ => true
  | .supplyRecovered _ _ _ => true
  | .supplyReset _ _ => true
  | .coldStart _ => true
  | .oscWarm _ _ _ => true
  | .oscFault _ _ _ _ => true
  | .powerGood _ _ => true
  | .bootImageLoad _ _ _ _ _ => true
  | .moduleReset _ => true
  | .coreReset _ => true
  | .coreResetEnd _ => true
  | .controllerRestart _ => true
  | .controllerWatchdog _ => true
  | .ejectLatch _ => true
  | .ejectHost _ => true
  | .hotplugReady _ => true
  | .surpriseRemoval _ pres => decide (pres < 4)
  | .ejectCancel _ => true
  | .txnDrainDone _ => true
  | .txnDrainLimit _ => true
  | .txnDeadlineMissed _ => true
  | .txnApply _ _ => true
  | .claimWordReceive _ _ => true
  | .claimWireSilence _ => true
  | .claimWireChange _ _ _ _ => true
  | .healthPublish _ => true
  | .mirEnable _ _ be => decide (be < 16)
  | .mirDisable _ _ be => decide (be < 16)
  | .mirLaneChange _ lane _ => decide (lane < 2)
  | .claimSend _ => true
  | .claimMsg _ _ _ _ _ _ _ _ _ _ _ => true
  | .partnerSilent _ => true
  | .syncData _ _ _ _ _ => true
  | .syncDone _ _ _ _ _ _ => true
  | .syncApply _ => true
  | .syncTimeout _ => true
  | .txnPrepare _ _ _ _ _ _ _ _ _ _ => true
  | .txnVote _ _ _ _ _ _ => true
  | .txnDecision _ _ _ _ _ _ => true
  | .changeMsg _ _ _ _ _ => true
  | .handleReq _ _ _ _ _ _ _ => true
  | .timeStateSend _ => true
  | .timeState _ _ _ _ _ _ _ _ _ _ _ _ => true
  | .frerWindowSend _ => true
  | .frerWindow _ _ _ _ _ _ _ => true
  | .journalMark _ _ _ _ _ _ _ _ _ => true
  | .exchange _ _ _ _ _ _ => true
  | .exchangeAck _ _ _ _ _ => true
  | .exchangeDrainDone _ => true
  | .exchangeDrainTimeout _ => true
  | .exchangeApply _ => true
  | .mirOffsetReport _ => true
  | .mirOffsetRead _ => true
  | .mirHostStateSend _ _ be => decide (be < 16)
  | .registerWrite _ _ _ be => decide (be < 16)
  | .signalDetect _ l _ => decide (l < 64)
  | .blockLockChange _ n _ _ _ _ _ _ _ => decide (n < 64)
  | .busMasterEnable _ _ _ _ => true
  | .i2cTransaction _ _ _ _ _ => true
  | .startUpDomainsOn _ => true
  | .startUpLanesTrained _ => true
  | .controllerRestartEnd _ => true

end Sys2Proof
end

