-- ==== Sys2Proof/Decode.lean ====
section
/-! DEFINITION. Words of commands. The opcode table gives no row any bits: the commands of the block are events on its registers,
rings, links and pins, and none is spelled by a word. -/

namespace Sys2Proof

/-- The command that a word of `nbits` bits spells: none, whatever the word. -/
def decodeTableWord (_nbits _w : Nat) : Option Instr := none

end Sys2Proof
end

