-- ==== Sys2Proof/Machine/Codes.lean ====
section
/-! DEFINITION. Checks and codes over bytes: the CRC-32 of the frame check sequence, the CRC-32C of R114 and R147, the
RS(36,32) codeword of R117 with its decoder (R118), and reading bytes in wire and in little-endian order. -/

namespace Sys2Proof.Machine

/-- `n` bytes from position `i`, most significant first (wire order); bytes beyond the end read 0. -/
def beAt (l : List Byte) (i n : Nat) : Nat :=
  ((l.drop i).take n).foldl (fun a b => a * 256 + b.toNat) 0 * 256 ^ (n - ((l.drop i).take n).length)

/-- `n` bytes from position `i`, least significant first. -/
def leAt (l : List Byte) (i n : Nat) : Nat :=
  ((l.drop i).take n).foldr (fun b a => a * 256 + b.toNat) 0

/-- A number as `n` bytes, most significant first. -/
def toBe (n v : Nat) : List Byte := (List.range n).map (fun i => BitVec.ofNat 8 (v / 256 ^ (n - 1 - i)))

/-- A number as `n` bytes, least significant first. -/
def toLe (n v : Nat) : List Byte := (List.range n).map (fun i => BitVec.ofNat 8 (v / 256 ^ i))

/-- Replace the bytes from position `i` by others. -/
def overlay (l : List Byte) (i : Nat) (new : List Byte) : List Byte := l.take i ++ new ++ l.drop (i + new.length)

/-! ### CRC -/

/-- Eight shift steps of a reflected CRC over polynomial `p`. -/
def crcBits (p : Nat) : Nat → Nat → Nat
  | 0, c => c
  | n + 1, c => crcBits p n (if c % 2 = 1 then (c / 2) ^^^ p else c / 2)

/-- A reflected CRC register run over bytes. -/
def crcRun (p : Nat) (c : Nat) (l : List Byte) : Nat := l.foldl (fun c b => crcBits p 8 (c ^^^ b.toNat)) c

/-- The CRC-32C of R114 with a given initial value (0xFFFF_FFFF, or a seed of R147). -/
def crc32c (init : Nat) (l : List Byte) : Nat := crcRun 0x82F63B78 init l ^^^ 0xFFFFFFFF

/-- The frame check sequence of IEEE 802.3 over the bytes before it. PRESUMED (log 12). -/
def fcs32 (l : List Byte) : Nat := crcRun 0xEDB88320 0xFFFFFFFF l ^^^ 0xFFFFFFFF

/-- A frame's last four bytes are its frame check sequence. -/
def fcsOk (l : List Byte) : Bool := leAt l (l.length - 4) 4 == fcs32 (l.take (l.length - 4))

/-! ### GF(2^8) with x^8 + x^4 + x^3 + x^2 + 1 (R117) -/

/-- Multiply by α. -/
def gfDouble (a : Nat) : Nat := if 128 ≤ a then ((a * 2) ^^^ 0x11D) % 256 else a * 2

/-- Product, by the bits of the second factor. -/
def gfMulFrom : Nat → Nat → Nat → Nat
  | 0, _, _ => 0
  | n + 1, a, b => (if b % 2 = 1 then a else 0) ^^^ gfMulFrom n (gfDouble a) (b / 2)

def gfMul (a b : Nat) : Nat := gfMulFrom 8 a b

/-- α^n. -/
def gfExp : Nat → Nat
  | 0 => 1
  | n + 1 => gfDouble (gfExp n)

/-- a^n. -/
def gfPow (a : Nat) : Nat → Nat
  | 0 => 1
  | n + 1 => gfMul a (gfPow a n)

/-- The inverse, a^254. -/
def gfInv (a : Nat) : Nat := gfPow a 254

/-! ### The buffer codeword -/

/-- One step of the division by g(x) = x^4 + 15x^3 + 54x^2 + 120x + 64: the remainder (P0, P1, P2, P3) after a data byte. -/
def rsStep (r : Nat × Nat × Nat × Nat) (d : Nat) : Nat × Nat × Nat × Nat :=
  let f := d ^^^ r.1
  (r.2.1 ^^^ gfMul f 15, r.2.2.1 ^^^ gfMul f 54, r.2.2.2 ^^^ gfMul f 120, gfMul f 64)

/-- The four check bytes of a word of data bytes, x^3 first. -/
def rsCheck (data : List Nat) : List Nat :=
  let r := data.foldl rsStep (0, 0, 0, 0)
  [r.1, r.2.1, r.2.2.1, r.2.2.2]

/-- The bytes of a stored codeword: data bytes 0..31, then P0..P3. -/
def cwBytes (w : BitVec 288) : List Nat := (List.range 36).map (fun j => (w.toNat >>> (8 * j)) % 256)

/-- The stored bits of 36 bytes. -/
def cwPack (l : List Nat) : BitVec 288 :=
  BitVec.ofNat 288 (l.foldr (fun b a => a * 256 + b) 0)

/-- The codeword of 32 data bytes (R117). -/
def rsEncode (data : List Nat) : BitVec 288 := cwPack (data ++ rsCheck data)

/-- Syndrome i: the received polynomial at α^i; byte j is the coefficient of x^(35−j). -/
def rsSyndrome (x : Nat) (l : List Nat) : Nat := l.foldl (fun a b => gfMul a x ^^^ b) 0

/-- What the decoder makes of a word: its bytes and the positions corrected, or uncorrectable. -/
inductive Decoded where
  | good (bytes : List Nat) (fixed : List Nat)
  | bad
  deriving DecidableEq, Repr

/-- Exclusive-or a value into the byte at a position. -/
def xorAt (l : List Nat) (j e : Nat) : List Nat := l.set j ((l.getD j 0) ^^^ e)

/-- The position whose locator α^(35−j) satisfies a test. -/
def locators (p : Nat → Bool) : List Nat := (List.range 36).filter (fun j => p (gfExp (35 - j)))

/-- Decode a codeword, correcting up to two erroneous bytes (R118). -/
def rsDecode (w : BitVec 288) : Decoded :=
  let l := cwBytes w
  let s0 := rsSyndrome 1 l
  let s1 := rsSyndrome 2 l
  let s2 := rsSyndrome 4 l
  let s3 := rsSyndrome 8 l
  if s0 = 0 ∧ s1 = 0 ∧ s2 = 0 ∧ s3 = 0 then .good l []
  else if s0 ≠ 0 ∧ gfMul s1 s1 = gfMul s0 s2 ∧ gfMul s1 s2 = gfMul s0 s3 then
    match locators (fun x => gfMul s0 x == s1) with
    | [j] => .good (xorAt l j s0) [j]
    | _ => .bad
  else
    let det := gfMul s1 s1 ^^^ gfMul s0 s2
    if det = 0 then .bad
    else
      let inv := gfInv det
      let g1 := gfMul (gfMul s0 s3 ^^^ gfMul s1 s2) inv
      let g2 := gfMul (gfMul s1 s3 ^^^ gfMul s2 s2) inv
      match locators (fun x => (gfMul x x ^^^ gfMul g1 x ^^^ g2) == 0) with
      | [i, j] =>
        let xi := gfExp (35 - i)
        let xj := gfExp (35 - j)
        let ei := gfMul (s1 ^^^ gfMul s0 xj) (gfInv (xi ^^^ xj))
        .good (xorAt (xorAt l i ei) j (ei ^^^ s0)) [i, j]
      | _ => .bad

end Sys2Proof.Machine
end

