-- ==== Sys2Proof/Config.lean ====
section
/-! DEFINITION. What the manual leaves open: the free values, constants without a body, and the figures this
model fixes for every run. -/

namespace Sys2Proof.Config

/-- Ticks of the 625 MHz system clock in a microsecond (one tick is 1.6 ns, R196). The model measures every
duration of the manual with this clock. DESIGN CHOICE (log 2). -/
def ticksPerUs : Nat := 625

/-- Ticks in a millisecond. -/
def ticksPerMs : Nat := 625000

/-- Ticks in a second. -/
def ticksPerS : Nat := 625000000

/-- The nominal increment in units of 2^-40 ns (R197). -/
def nominalInc : Nat := 0x1999999999A

/-- The 32-bit user field of the ternary key (R164), which the parse graph of the image defines and the manual does not.
FREE VALUE (log 13). -/
opaque userField : List Byte → BitVec 32

/-- The TTL or hop limit that a TTL_DEC edit writes into a packet that arrives with 0 (R166 states no result there).
FREE VALUE (log 21). -/
opaque ttlOfZero : BitVec 8

/-- Whether a quotient that is no whole number is rounded up, where the manual states a result in some unit and no rounding.
FREE VALUE (log 22). -/
opaque roundUp : Int → Nat → Bool

/-- The mean of no samples, which a summary word carries for a block without samples (R227 states none). FREE VALUE
(log 23). -/
opaque emptyMean : BitVec 40

/-- The correction in fs of a phase detector on its factory table, by detector and count of helper periods (R226, R291 give none).
FREE VALUE (log 109). -/
opaque factoryLinear : Nat → Nat → BitVec 16

/-- φ in units of 2^-40 ns before a detector has one undithered beat (R226). FREE VALUE (log 109). -/
opaque phaseOfNone : BitVec 42

/-- The delay between the plane and the contacts of an Emulug lane (0, 1), at receive (0) and transmit (1), units of 2^-16 ns, which no
register shows (R96, R232). FREE VALUE (log 110). -/
opaque mirDelay : Nat → Nat → BitVec 32

/-- A standard error that too few samples do not give (R234): of a mean (0), squared, and of the fitted rate (1). FREE VALUE (log 111). -/
opaque fewSamples : Nat → BitVec 64

/-- The natural frequency, in µrad/s, of the type-2 loop of damping 0.707 whose bandwidth is set in mHz: R247 does not say which
bandwidth it means. FREE VALUE (log 142). -/
opaque loopRate : Nat → BitVec 32

/-- What REF_PHASE_ERR reads for a phase error in ps that its 32 bits do not hold (R263). FREE VALUE (log 143). -/
opaque phaseErrWide : Int → BitVec 32

/-- Whether an output's edge is placed at the step of 3.125 ps at or after its exact place, or at the step at or before it (R258 gives no
rounding). FREE VALUE (log 147). -/
opaque edgeLate : Bool

/-- By how much the driver path of an output displaces its edges at a reading of its sensor, units of 100 fs, signed: what its trim takes
away (R294). FREE VALUE (log 147). -/
opaque driverPath : Nat → Nat → BitVec 16

/-- The Duonamund vendor root key, the P-384 point (x, y) of key slot 0 (R66), programmed at manufacture. FREE VALUE (log 20). -/
opaque vendorKey : Nat × Nat

/-- The first three bytes of the SHA-384 digest of a public key (x, y) (TXN_KEY[k]_STATE, R87), of whose bytes the manual gives no layout.
FREE VALUE (log 20). -/
opaque fingerprint : Nat → Nat → BitVec 24

/-- What DESKEW_NS reads after a lock whose skew is more than its 12 bits hold, by the skew in ns (R97). FREE VALUE (log 136). -/
opaque deskewWide : Nat → BitVec 12

/-- Tap `i` of 5 of a lane's decision-feedback equaliser as tracking has it at a tick (R93 gives no values). FREE VALUE (log 94). -/
opaque feedbackTap : Nat → Nat → Nat → Int

/-- The core rail in mV at which pipeline `p` has a capacity, in thousands of frames per second, by its ring's reading (R17 gives no law).
FREE VALUE (log 97). -/
opaque railFor : Nat → Nat → Nat → BitVec 16

/-- A domain's rail voltage in mV (0) and current in mA (1) at a tick, where event 7 reports them of retired cells (R119, R349). FREE VALUE
(log 97). -/
opaque railNow : Nat → Nat → Nat → BitVec 16

/-- The PCI vendor identifier registered to Duonamund Silicon (R29), of which the manual gives no value. FREE VALUE (log 83). -/
opaque vendorId : BitVec 16

/-- The serial number and the date code of the identity record, by byte 0..17 (R406): factory data. FREE VALUE (log 26). -/
opaque identity : Nat → BitVec 8

end Sys2Proof.Config
end

