-- ==== Sys2Proof/Machine/RegNames.lean ====
section
/-! DEFINITION. The offset of every register of BAR0 and the place of every field of it, under the
names of the manual (R384, R391 and the field tables of the chapter that owns the block).
`Reg.X` is an offset, `Fld.X_F` the field `F` of register `X`; `n` and `k` are the instance indices. -/

namespace Sys2Proof.Machine

/-- A field of a register: the register's offset, the field's lowest bit and its width. -/
structure FieldRef where
  off : Nat
  lo : Nat
  width : Nat
  deriving DecidableEq, Repr


/-! Registers described by R4 of 00_scope.md. -/

abbrev Reg.GEN_ID : Nat := 0x0
abbrev Fld.GEN_ID_PART : FieldRef := ⟨0x0, 0, 16⟩
abbrev Fld.GEN_ID_GRADE : FieldRef := ⟨0x0, 16, 4⟩
abbrev Fld.GEN_ID_STEPPING : FieldRef := ⟨0x0, 20, 8⟩

/-! Registers described by R370 of 15_bring_up_and_hot_plug.md. -/

abbrev Reg.GEN_RESET_CTRL : Nat := 0x10
abbrev Fld.GEN_RESET_CTRL_MODULE : FieldRef := ⟨0x10, 0, 1⟩
abbrev Fld.GEN_RESET_CTRL_CORE : FieldRef := ⟨0x10, 1, 1⟩
abbrev Fld.GEN_RESET_CTRL_CONTROLLER : FieldRef := ⟨0x10, 2, 1⟩
abbrev Fld.GEN_RESET_CTRL_KEY : FieldRef := ⟨0x10, 8, 8⟩
abbrev Reg.GEN_RESET_CAUSE : Nat := 0x14
abbrev Fld.GEN_RESET_CAUSE_CAUSE : FieldRef := ⟨0x14, 0, 4⟩
abbrev Fld.GEN_RESET_CAUSE_CLEARED : FieldRef := ⟨0x14, 16, 13⟩
abbrev Reg.GEN_RESET_CNT : Nat := 0x18
abbrev Reg.GEN_UPTIME_S : Nat := 0x1C
abbrev Reg.GEN_BOOT_STATUS : Nat := 0x20
abbrev Fld.GEN_BOOT_STATUS_STAGE : FieldRef := ⟨0x20, 0, 3⟩
abbrev Fld.GEN_BOOT_STATUS_FALLBACK_USED : FieldRef := ⟨0x20, 3, 1⟩
abbrev Reg.GEN_HOTPLUG : Nat := 0x24
abbrev Fld.GEN_HOTPLUG_EJECT_REQ : FieldRef := ⟨0x24, 0, 1⟩
abbrev Fld.GEN_HOTPLUG_PRES : FieldRef := ⟨0x24, 1, 2⟩
abbrev Fld.GEN_HOTPLUG_EJECTING : FieldRef := ⟨0x24, 3, 1⟩
abbrev Fld.GEN_HOTPLUG_READY : FieldRef := ⟨0x24, 4, 1⟩
abbrev Fld.GEN_HOTPLUG_EJECT : FieldRef := ⟨0x24, 8, 1⟩
abbrev Fld.GEN_HOTPLUG_EJECT_DRAIN_MS : FieldRef := ⟨0x24, 16, 8⟩
abbrev Reg.GEN_DOMAIN_CTRL : Nat := 0x28
abbrev Fld.GEN_DOMAIN_CTRL_AUTO_RESTORE : FieldRef := ⟨0x28, 0, 1⟩
abbrev Fld.GEN_DOMAIN_CTRL_RESTORE : FieldRef := ⟨0x28, 16, 13⟩
abbrev Reg.GEN_DOMAIN_GIVEN_UP : Nat := 0x2C
abbrev Fld.GEN_DOMAIN_GIVEN_UP_DOMAINS : FieldRef := ⟨0x2C, 0, 13⟩
abbrev Reg.GEN_CORE_RX_DROP (n : Nat) : Nat := 0x40 + n * 0x4
abbrev Reg.GEN_LAMP : Nat := 0x50
abbrev Fld.GEN_LAMP_ON : FieldRef := ⟨0x50, 0, 4⟩

/-! Registers described by R350 of 14_energy_and_thermal.md. -/

abbrev Reg.PWR_CTRL : Nat := 0x10000
abbrev Fld.PWR_CTRL_RAIL_SAVE : FieldRef := ⟨0x10000, 0, 1⟩
abbrev Reg.PWR_ENVELOPE : Nat := 0x10004
abbrev Fld.PWR_ENVELOPE_BEADS : FieldRef := ⟨0x10004, 0, 10⟩
abbrev Reg.PWR_STATUS : Nat := 0x10008
abbrev Fld.PWR_STATUS_GOV_STEP : FieldRef := ⟨0x10008, 0, 2⟩
abbrev Fld.PWR_STATUS_THROTTLE : FieldRef := ⟨0x10008, 2, 4⟩
abbrev Fld.PWR_STATUS_THERM_WARN : FieldRef := ⟨0x10008, 6, 1⟩
abbrev Fld.PWR_STATUS_MAIN_WARN : FieldRef := ⟨0x10008, 7, 1⟩
abbrev Fld.PWR_STATUS_AUX_WARN : FieldRef := ⟨0x10008, 8, 1⟩
abbrev Fld.PWR_STATUS_SHORT : FieldRef := ⟨0x10008, 9, 1⟩
abbrev Fld.PWR_STATUS_TRIP_LAST : FieldRef := ⟨0x10008, 10, 1⟩
abbrev Reg.PWR_DOMAIN_PLAN : Nat := 0x1000C
abbrev Fld.PWR_DOMAIN_PLAN_PLAN : FieldRef := ⟨0x1000C, 0, 13⟩
abbrev Reg.PWR_DOMAIN_ON : Nat := 0x10010
abbrev Fld.PWR_DOMAIN_ON_ON : FieldRef := ⟨0x10010, 0, 13⟩
abbrev Reg.PWR_DOMAIN_FAULT : Nat := 0x10014
abbrev Fld.PWR_DOMAIN_FAULT_FAULT : FieldRef := ⟨0x10014, 0, 13⟩
abbrev Reg.PWR_TALLY_SEQ : Nat := 0x10020
abbrev Reg.PWR_TALLY_LAST : Nat := 0x10024
abbrev Fld.PWR_TALLY_LAST_TOTAL : FieldRef := ⟨0x10024, 0, 16⟩
abbrev Fld.PWR_TALLY_LAST_SPARE : FieldRef := ⟨0x10024, 16, 16⟩
abbrev Reg.PWR_TALLY_BG : Nat := 0x10028
abbrev Fld.PWR_TALLY_BG_CHARGED : FieldRef := ⟨0x10028, 0, 16⟩
abbrev Fld.PWR_TALLY_BG_DEFERRED : FieldRef := ⟨0x10028, 16, 16⟩
abbrev Reg.PWR_OVER_CNT : Nat := 0x1002C
abbrev Reg.PWR_SHORT_CNT : Nat := 0x10030
abbrev Reg.PWR_CORE_RAIL : Nat := 0x10040
abbrev Fld.PWR_CORE_RAIL_MV : FieldRef := ⟨0x10040, 0, 10⟩
abbrev Fld.PWR_CORE_RAIL_FLOOR_MV : FieldRef := ⟨0x10040, 16, 10⟩
abbrev Reg.PWR_THERM_CFG : Nat := 0x10050
abbrev Fld.PWR_THERM_CFG_WARN_C : FieldRef := ⟨0x10050, 0, 8⟩
abbrev Fld.PWR_THERM_CFG_HYST_K : FieldRef := ⟨0x10050, 8, 4⟩
abbrev Reg.PWR_THERM_STATUS : Nat := 0x10054
abbrev Fld.PWR_THERM_STATUS_TJ : FieldRef := ⟨0x10054, 0, 16⟩
abbrev Fld.PWR_THERM_STATUS_SENSOR : FieldRef := ⟨0x10054, 16, 4⟩
abbrev Reg.PWR_CORE_TEMP (n : Nat) : Nat := 0x10058 + n * 0x4
abbrev Fld.PWR_CORE_TEMP_TEMP (n : Nat) : FieldRef := ⟨0x10058 + n * 0x4, 0, 16⟩
abbrev Reg.PWR_GOV_STEP_CNT : Nat := 0x10070
abbrev Reg.PWR_GOV_STEP3_MS : Nat := 0x10074
abbrev Reg.PWR_SUPPLY : Nat := 0x10080
abbrev Fld.PWR_SUPPLY_MAIN12_MV : FieldRef := ⟨0x10080, 0, 16⟩
abbrev Fld.PWR_SUPPLY_AUX3_MV : FieldRef := ⟨0x10080, 16, 16⟩
abbrev Reg.PWR_SUPPLY_MIN : Nat := 0x10084
abbrev Fld.PWR_SUPPLY_MIN_MAIN12_MV : FieldRef := ⟨0x10084, 0, 16⟩
abbrev Fld.PWR_SUPPLY_MIN_AUX3_MV : FieldRef := ⟨0x10084, 16, 16⟩
abbrev Reg.PWR_SUPPLY_CTRL : Nat := 0x10088
abbrev Fld.PWR_SUPPLY_CTRL_MIN_RESET : FieldRef := ⟨0x10088, 0, 1⟩
abbrev Reg.PWR_WARN_CNT : Nat := 0x1008C
abbrev Reg.PWR_WARN_MAX_US : Nat := 0x10090
abbrev Reg.PWR_OSC : Nat := 0x100A0
abbrev Fld.PWR_OSC_OVEN_MW : FieldRef := ⟨0x100A0, 0, 13⟩
abbrev Fld.PWR_OSC_WARM : FieldRef := ⟨0x100A0, 16, 1⟩
abbrev Reg.PWR_OSC_WARM_S : Nat := 0x100A4
abbrev Reg.PWR_DOMAIN_BEADS (n : Nat) : Nat := 0x10100 + n * 0x4
abbrev Fld.PWR_DOMAIN_BEADS_LAST (n : Nat) : FieldRef := ⟨0x10100 + n * 0x4, 0, 16⟩
abbrev Reg.PWR_DOMAIN_JOULES (n : Nat) : Nat := 0x10140 + n * 0x4
abbrev Reg.PWR_TASK_CFG (n : Nat) : Nat := 0x10200 + n * 0x10
abbrev Fld.PWR_TASK_CFG_MAX_DEFER_S (n : Nat) : FieldRef := ⟨0x10200 + n * 0x10, 0, 12⟩
abbrev Reg.PWR_TASK_STATUS (n : Nat) : Nat := 0x10204 + n * 0x10
abbrev Fld.PWR_TASK_STATUS_WAIT_S (n : Nat) : FieldRef := ⟨0x10204 + n * 0x10, 0, 16⟩
abbrev Fld.PWR_TASK_STATUS_AT_LIMIT (n : Nat) : FieldRef := ⟨0x10204 + n * 0x10, 16, 1⟩
abbrev Reg.PWR_TASK_BEADS (n : Nat) : Nat := 0x10208 + n * 0x10
abbrev Reg.PWR_TASK_FORCED (n : Nat) : Nat := 0x1020C + n * 0x10

/-! Registers described by R61 of 02_host_interface.md. -/

abbrev Reg.HIF_CTRL : Nat := 0x20000
abbrev Fld.HIF_CTRL_RUN : FieldRef := ⟨0x20000, 0, 1⟩
abbrev Reg.HIF_STATUS : Nat := 0x20004
abbrev Fld.HIF_STATUS_TAGS_IN_FLIGHT : FieldRef := ⟨0x20004, 0, 10⟩
abbrev Fld.HIF_STATUS_CQ_FULL : FieldRef := ⟨0x20004, 10, 1⟩
abbrev Fld.HIF_STATUS_REPLAY_PENDING : FieldRef := ⟨0x20004, 11, 1⟩
abbrev Reg.HIF_DMA_ERR_CNT : Nat := 0x20008
abbrev Reg.HIF_MALFORMED_CNT : Nat := 0x2000C
abbrev Reg.HIF_SQ_BASE_LO (n : Nat) : Nat := 0x20100 + n * 0x20
abbrev Fld.HIF_SQ_BASE_LO_ADDR_LO (n : Nat) : FieldRef := ⟨0x20100 + n * 0x20, 6, 26⟩
abbrev Reg.HIF_SQ_BASE_HI (n : Nat) : Nat := 0x20104 + n * 0x20
abbrev Reg.HIF_SQ_CFG (n : Nat) : Nat := 0x20108 + n * 0x20
abbrev Fld.HIF_SQ_CFG_SIZE_LOG2 (n : Nat) : FieldRef := ⟨0x20108 + n * 0x20, 0, 4⟩
abbrev Fld.HIF_SQ_CFG_WEIGHT (n : Nat) : FieldRef := ⟨0x20108 + n * 0x20, 4, 4⟩
abbrev Fld.HIF_SQ_CFG_ENABLE (n : Nat) : FieldRef := ⟨0x20108 + n * 0x20, 8, 1⟩
abbrev Reg.HIF_SQ_TAIL (n : Nat) : Nat := 0x2010C + n * 0x20
abbrev Fld.HIF_SQ_TAIL_TAIL (n : Nat) : FieldRef := ⟨0x2010C + n * 0x20, 0, 12⟩
abbrev Reg.HIF_SQ_HEAD (n : Nat) : Nat := 0x20110 + n * 0x20
abbrev Fld.HIF_SQ_HEAD_HEAD (n : Nat) : FieldRef := ⟨0x20110 + n * 0x20, 0, 12⟩
abbrev Reg.HIF_CQ_BASE_LO : Nat := 0x20200
abbrev Fld.HIF_CQ_BASE_LO_ADDR_LO : FieldRef := ⟨0x20200, 5, 27⟩
abbrev Reg.HIF_CQ_BASE_HI : Nat := 0x20204
abbrev Reg.HIF_CQ_CFG : Nat := 0x20208
abbrev Fld.HIF_CQ_CFG_SIZE_LOG2 : FieldRef := ⟨0x20208, 0, 4⟩
abbrev Fld.HIF_CQ_CFG_ENABLE : FieldRef := ⟨0x20208, 8, 1⟩
abbrev Reg.HIF_CQ_HEAD : Nat := 0x2020C
abbrev Fld.HIF_CQ_HEAD_HEAD : FieldRef := ⟨0x2020C, 0, 13⟩
abbrev Reg.HIF_CQ_TAIL : Nat := 0x20210
abbrev Fld.HIF_CQ_TAIL_TAIL : FieldRef := ⟨0x20210, 0, 13⟩
abbrev Fld.HIF_CQ_TAIL_PHASE : FieldRef := ⟨0x20210, 16, 1⟩
abbrev Reg.HIF_CPU_TX_BASE_LO : Nat := 0x20300
abbrev Fld.HIF_CPU_TX_BASE_LO_ADDR_LO : FieldRef := ⟨0x20300, 5, 27⟩
abbrev Reg.HIF_CPU_TX_BASE_HI : Nat := 0x20304
abbrev Reg.HIF_CPU_TX_CFG : Nat := 0x20308
abbrev Fld.HIF_CPU_TX_CFG_SIZE_LOG2 : FieldRef := ⟨0x20308, 0, 4⟩
abbrev Fld.HIF_CPU_TX_CFG_ENABLE : FieldRef := ⟨0x20308, 8, 1⟩
abbrev Reg.HIF_CPU_TX_TAIL : Nat := 0x2030C
abbrev Fld.HIF_CPU_TX_TAIL_TAIL : FieldRef := ⟨0x2030C, 0, 12⟩
abbrev Reg.HIF_CPU_TX_HEAD : Nat := 0x20310
abbrev Fld.HIF_CPU_TX_HEAD_HEAD : FieldRef := ⟨0x20310, 0, 12⟩
abbrev Reg.HIF_CPU_RX_BASE_LO : Nat := 0x20320
abbrev Fld.HIF_CPU_RX_BASE_LO_ADDR_LO : FieldRef := ⟨0x20320, 5, 27⟩
abbrev Reg.HIF_CPU_RX_BASE_HI : Nat := 0x20324
abbrev Reg.HIF_CPU_RX_CFG : Nat := 0x20328
abbrev Fld.HIF_CPU_RX_CFG_SIZE_LOG2 : FieldRef := ⟨0x20328, 0, 4⟩
abbrev Fld.HIF_CPU_RX_CFG_BUF_SIZE : FieldRef := ⟨0x20328, 4, 2⟩
abbrev Fld.HIF_CPU_RX_CFG_ENABLE : FieldRef := ⟨0x20328, 8, 1⟩
abbrev Reg.HIF_CPU_RX_TAIL : Nat := 0x2032C
abbrev Fld.HIF_CPU_RX_TAIL_TAIL : FieldRef := ⟨0x2032C, 0, 12⟩
abbrev Reg.HIF_CPU_RX_HEAD : Nat := 0x20330
abbrev Fld.HIF_CPU_RX_HEAD_HEAD : FieldRef := ⟨0x20330, 0, 12⟩
abbrev Reg.HIF_SMP_BASE_LO : Nat := 0x20400
abbrev Fld.HIF_SMP_BASE_LO_ADDR_LO : FieldRef := ⟨0x20400, 6, 26⟩
abbrev Reg.HIF_SMP_BASE_HI : Nat := 0x20404
abbrev Reg.HIF_SMP_CFG : Nat := 0x20408
abbrev Fld.HIF_SMP_CFG_SIZE_LOG2 : FieldRef := ⟨0x20408, 0, 4⟩
abbrev Fld.HIF_SMP_CFG_ENABLE : FieldRef := ⟨0x20408, 8, 1⟩
abbrev Reg.HIF_SMP_PROD : Nat := 0x2040C
abbrev Fld.HIF_SMP_PROD_PROD : FieldRef := ⟨0x2040C, 0, 14⟩
abbrev Reg.HIF_SMP_CONS : Nat := 0x20410
abbrev Fld.HIF_SMP_CONS_CONS : FieldRef := ⟨0x20410, 0, 14⟩
abbrev Reg.HIF_SMP_LOST : Nat := 0x20414
abbrev Reg.HIF_MSIX_MOD (n : Nat) : Nat := 0x20500 + n * 0x4
abbrev Fld.HIF_MSIX_MOD_COUNT (n : Nat) : FieldRef := ⟨0x20500 + n * 0x4, 0, 8⟩
abbrev Fld.HIF_MSIX_MOD_HOLDOFF_US (n : Nat) : FieldRef := ⟨0x20500 + n * 0x4, 16, 10⟩
abbrev Reg.HIF_MSIX_ADDR_LO (n : Nat) : Nat := 0x2F000 + n * 0x10
abbrev Fld.HIF_MSIX_ADDR_LO_ADDR (n : Nat) : FieldRef := ⟨0x2F000 + n * 0x10, 2, 30⟩
abbrev Reg.HIF_MSIX_ADDR_HI (n : Nat) : Nat := 0x2F004 + n * 0x10
abbrev Reg.HIF_MSIX_DATA (n : Nat) : Nat := 0x2F008 + n * 0x10
abbrev Reg.HIF_MSIX_CTRL (n : Nat) : Nat := 0x2F00C + n * 0x10
abbrev Fld.HIF_MSIX_CTRL_MASK (n : Nat) : FieldRef := ⟨0x2F00C + n * 0x10, 0, 1⟩
abbrev Reg.HIF_MSIX_PBA_LO : Nat := 0x2F800
abbrev Fld.HIF_MSIX_PBA_LO_PENDING : FieldRef := ⟨0x2F800, 0, 8⟩
abbrev Reg.HIF_MSIX_PBA_HI : Nat := 0x2F804
abbrev Reg.EVT_Q_BASE_LO : Nat := 0x30000
abbrev Fld.EVT_Q_BASE_LO_ADDR_LO : FieldRef := ⟨0x30000, 6, 26⟩
abbrev Reg.EVT_Q_BASE_HI : Nat := 0x30004
abbrev Reg.EVT_Q_CFG : Nat := 0x30008
abbrev Fld.EVT_Q_CFG_SIZE_LOG2 : FieldRef := ⟨0x30008, 0, 5⟩
abbrev Fld.EVT_Q_CFG_ENABLE : FieldRef := ⟨0x30008, 8, 1⟩
abbrev Fld.EVT_Q_CFG_URGENT_SEV : FieldRef := ⟨0x30008, 9, 3⟩
abbrev Fld.EVT_Q_CFG_SHADOW_EN : FieldRef := ⟨0x30008, 12, 1⟩
abbrev Reg.EVT_Q_PROD : Nat := 0x3000C
abbrev Fld.EVT_Q_PROD_PROD : FieldRef := ⟨0x3000C, 0, 16⟩
abbrev Reg.EVT_Q_CONS : Nat := 0x30010
abbrev Fld.EVT_Q_CONS_CONS : FieldRef := ⟨0x30010, 0, 16⟩
abbrev Reg.EVT_SEQ : Nat := 0x30014
abbrev Reg.EVT_LOST : Nat := 0x30018
abbrev Reg.EVT_MASK (n : Nat) : Nat := 0x30020 + n * 0x4
abbrev Reg.EVT_SRC_CNT (n : Nat) : Nat := 0x30100 + n * 0x4

/-! Registers described by R87 of 03_structure_and_transactions.md. -/

abbrev Reg.TXN_CTRL : Nat := 0x40000
abbrev Fld.TXN_CTRL_DRAIN_LIMIT_MS : FieldRef := ⟨0x40000, 0, 16⟩
abbrev Fld.TXN_CTRL_MIN_LEAD_US : FieldRef := ⟨0x40000, 16, 10⟩
abbrev Reg.TXN_STATUS : Nat := 0x40004
abbrev Fld.TXN_STATUS_STATE : FieldRef := ⟨0x40004, 0, 3⟩
abbrev Fld.TXN_STATUS_IN_DOUBT : FieldRef := ⟨0x40004, 3, 1⟩
abbrev Reg.TXN_OPEN_ID : Nat := 0x40008
abbrev Reg.TXN_STAGED : Nat := 0x4000C
abbrev Fld.TXN_STAGED_REGS : FieldRef := ⟨0x4000C, 0, 13⟩
abbrev Fld.TXN_STAGED_TBL_OPS : FieldRef := ⟨0x4000C, 16, 15⟩
abbrev Reg.TXN_EPOCH : Nat := 0x40010
abbrev Reg.TXN_OLDER_FRAMES : Nat := 0x40014
abbrev Fld.TXN_OLDER_FRAMES_COUNT : FieldRef := ⟨0x40014, 0, 20⟩
abbrev Reg.TXN_AT_W0 : Nat := 0x40018
abbrev Reg.TXN_AT_W1 : Nat := 0x4001C
abbrev Reg.TXN_AT_W2 : Nat := 0x40020
abbrev Reg.TXN_DRAIN_MAX_US : Nat := 0x40024
abbrev Reg.TXN_COMMIT_CNT : Nat := 0x40028
abbrev Reg.TXN_ROLLBACK_CNT : Nat := 0x4002C
abbrev Reg.TXN_MISSED_CNT : Nat := 0x40030
abbrev Reg.TXN_RESTRUCT_DISCARD : Nat := 0x40034
abbrev Reg.TXN_RESTRUCT_RX_DROP : Nat := 0x40038
abbrev Reg.TXN_IMG_ACTIVE_ID : Nat := 0x40040
abbrev Reg.TXN_IMG_ACTIVE_VER : Nat := 0x40044
abbrev Reg.TXN_IMG_SRC : Nat := 0x40048
abbrev Fld.TXN_IMG_SRC_SRC : FieldRef := ⟨0x40048, 0, 2⟩
abbrev Reg.TXN_IMG_SLOT_ID (n : Nat) : Nat := 0x40050 + n * 0x10
abbrev Reg.TXN_IMG_SLOT_VER (n : Nat) : Nat := 0x40054 + n * 0x10
abbrev Reg.TXN_IMG_SLOT_STATE (n : Nat) : Nat := 0x40058 + n * 0x10
abbrev Fld.TXN_IMG_SLOT_STATE_STATE (n : Nat) : FieldRef := ⟨0x40058 + n * 0x10, 0, 2⟩
abbrev Fld.TXN_IMG_SLOT_STATE_REASON (n : Nat) : FieldRef := ⟨0x40058 + n * 0x10, 4, 8⟩
abbrev Reg.TXN_BOOT_CFG : Nat := 0x40070
abbrev Fld.TXN_BOOT_CFG_PREFERRED : FieldRef := ⟨0x40070, 0, 1⟩
abbrev Fld.TXN_BOOT_CFG_FALLBACK_EN : FieldRef := ⟨0x40070, 1, 1⟩
abbrev Reg.TXN_ANTIROLL : Nat := 0x40074
abbrev Fld.TXN_ANTIROLL_COUNTER : FieldRef := ⟨0x40074, 0, 6⟩
abbrev Reg.TXN_KEY_STATE (n : Nat) : Nat := 0x40080 + n * 0x4
abbrev Fld.TXN_KEY_STATE_STATE (n : Nat) : FieldRef := ⟨0x40080 + n * 0x4, 0, 2⟩
abbrev Fld.TXN_KEY_STATE_FINGERPRINT (n : Nat) : FieldRef := ⟨0x40080 + n * 0x4, 8, 24⟩

/-! Registers described by R109 of 04_lanes_and_ports.md. -/

abbrev Reg.LAN_TX_FIR (n : Nat) : Nat := 0x80000 + n * 0x400
abbrev Fld.LAN_TX_FIR_PRE (n : Nat) : FieldRef := ⟨0x80000 + n * 0x400, 0, 6⟩
abbrev Fld.LAN_TX_FIR_MAIN (n : Nat) : FieldRef := ⟨0x80000 + n * 0x400, 8, 6⟩
abbrev Fld.LAN_TX_FIR_POST (n : Nat) : FieldRef := ⟨0x80000 + n * 0x400, 16, 6⟩
abbrev Reg.LAN_TX_CTRL (n : Nat) : Nat := 0x80004 + n * 0x400
abbrev Fld.LAN_TX_CTRL_POLARITY_INV (n : Nat) : FieldRef := ⟨0x80004 + n * 0x400, 0, 1⟩
abbrev Fld.LAN_TX_CTRL_SQUELCH (n : Nat) : FieldRef := ⟨0x80004 + n * 0x400, 1, 1⟩
abbrev Reg.LAN_RX_CTRL (n : Nat) : Nat := 0x80008 + n * 0x400
abbrev Fld.LAN_RX_CTRL_POLARITY_INV (n : Nat) : FieldRef := ⟨0x80008 + n * 0x400, 0, 1⟩
abbrev Fld.LAN_RX_CTRL_ADAPT_FREEZE (n : Nat) : FieldRef := ⟨0x80008 + n * 0x400, 1, 1⟩
abbrev Reg.LAN_RX_STATUS (n : Nat) : Nat := 0x8000C + n * 0x400
abbrev Fld.LAN_RX_STATUS_SIGNAL (n : Nat) : FieldRef := ⟨0x8000C + n * 0x400, 0, 1⟩
abbrev Fld.LAN_RX_STATUS_CDR_LOCK (n : Nat) : FieldRef := ⟨0x8000C + n * 0x400, 1, 1⟩
abbrev Fld.LAN_RX_STATUS_ADAPT_DONE (n : Nat) : FieldRef := ⟨0x8000C + n * 0x400, 2, 1⟩
abbrev Fld.LAN_RX_STATUS_CTLE (n : Nat) : FieldRef := ⟨0x8000C + n * 0x400, 4, 4⟩
abbrev Reg.LAN_PRBS_CFG (n : Nat) : Nat := 0x80020 + n * 0x400
abbrev Fld.LAN_PRBS_CFG_PATTERN (n : Nat) : FieldRef := ⟨0x80020 + n * 0x400, 0, 3⟩
abbrev Fld.LAN_PRBS_CFG_GEN (n : Nat) : FieldRef := ⟨0x80020 + n * 0x400, 3, 1⟩
abbrev Fld.LAN_PRBS_CFG_CHECK (n : Nat) : FieldRef := ⟨0x80020 + n * 0x400, 4, 1⟩
abbrev Fld.LAN_PRBS_CFG_INJ_SINGLE (n : Nat) : FieldRef := ⟨0x80020 + n * 0x400, 8, 1⟩
abbrev Fld.LAN_PRBS_CFG_INJ_BURST (n : Nat) : FieldRef := ⟨0x80020 + n * 0x400, 9, 1⟩
abbrev Fld.LAN_PRBS_CFG_BURST_LEN (n : Nat) : FieldRef := ⟨0x80020 + n * 0x400, 16, 8⟩
abbrev Reg.LAN_PRBS_STATUS (n : Nat) : Nat := 0x80024 + n * 0x400
abbrev Fld.LAN_PRBS_STATUS_LOCK (n : Nat) : FieldRef := ⟨0x80024 + n * 0x400, 0, 1⟩
abbrev Fld.LAN_PRBS_STATUS_LOCK_LOST (n : Nat) : FieldRef := ⟨0x80024 + n * 0x400, 1, 1⟩
abbrev Reg.LAN_PRBS_ERR_CNT (n : Nat) : Nat := 0x80028 + n * 0x400
abbrev Reg.LAN_PRBS_BITS_LO (n : Nat) : Nat := 0x8002C + n * 0x400
abbrev Reg.LAN_PRBS_BITS_HI (n : Nat) : Nat := 0x80030 + n * 0x400
abbrev Reg.PRT_CFG (n : Nat) : Nat := 0xA0000 + n * 0x800
abbrev Fld.PRT_CFG_ENABLE (n : Nat) : FieldRef := ⟨0xA0000 + n * 0x800, 0, 1⟩
abbrev Fld.PRT_CFG_SPEED (n : Nat) : FieldRef := ⟨0xA0000 + n * 0x800, 1, 3⟩
abbrev Fld.PRT_CFG_FEC (n : Nat) : FieldRef := ⟨0xA0000 + n * 0x800, 4, 2⟩
abbrev Fld.PRT_CFG_AN_EN (n : Nat) : FieldRef := ⟨0xA0000 + n * 0x800, 6, 1⟩
abbrev Reg.PRT_LINK_CFG (n : Nat) : Nat := 0xA0004 + n * 0x800
abbrev Fld.PRT_LINK_CFG_UP_HOLD_MS (n : Nat) : FieldRef := ⟨0xA0004 + n * 0x800, 0, 7⟩
abbrev Fld.PRT_LINK_CFG_DOWN_DEBOUNCE_US (n : Nat) : FieldRef := ⟨0xA0004 + n * 0x800, 8, 8⟩
abbrev Fld.PRT_LINK_CFG_FLAP_EN (n : Nat) : FieldRef := ⟨0xA0004 + n * 0x800, 16, 1⟩
abbrev Fld.PRT_LINK_CFG_FLAP_MAX_MS (n : Nat) : FieldRef := ⟨0xA0004 + n * 0x800, 20, 10⟩
abbrev Reg.PRT_LINK_STATUS (n : Nat) : Nat := 0xA0008 + n * 0x800
abbrev Fld.PRT_LINK_STATUS_UP (n : Nat) : FieldRef := ⟨0xA0008 + n * 0x800, 0, 1⟩
abbrev Fld.PRT_LINK_STATUS_BLOCK_LOCK (n : Nat) : FieldRef := ⟨0xA0008 + n * 0x800, 1, 1⟩
abbrev Fld.PRT_LINK_STATUS_AM_LOCK (n : Nat) : FieldRef := ⟨0xA0008 + n * 0x800, 2, 1⟩
abbrev Fld.PRT_LINK_STATUS_LOCAL_FAULT (n : Nat) : FieldRef := ⟨0xA0008 + n * 0x800, 3, 1⟩
abbrev Fld.PRT_LINK_STATUS_REMOTE_FAULT (n : Nat) : FieldRef := ⟨0xA0008 + n * 0x800, 4, 1⟩
abbrev Fld.PRT_LINK_STATUS_HI_BER (n : Nat) : FieldRef := ⟨0xA0008 + n * 0x800, 5, 1⟩
abbrev Fld.PRT_LINK_STATUS_AN_DONE (n : Nat) : FieldRef := ⟨0xA0008 + n * 0x800, 6, 1⟩
abbrev Fld.PRT_LINK_STATUS_SUPPRESSED (n : Nat) : FieldRef := ⟨0xA0008 + n * 0x800, 7, 1⟩
abbrev Fld.PRT_LINK_STATUS_UP_WAIT_MS (n : Nat) : FieldRef := ⟨0xA0008 + n * 0x800, 8, 10⟩
abbrev Fld.PRT_LINK_STATUS_DESKEW_NS (n : Nat) : FieldRef := ⟨0xA0008 + n * 0x800, 20, 12⟩
abbrev Reg.PRT_LINK_DOWN_CNT (n : Nat) : Nat := 0xA000C + n * 0x800
abbrev Reg.PRT_FLAP_CNT (n : Nat) : Nat := 0xA0010 + n * 0x800
abbrev Reg.PRT_FEC_CORR_CNT (n : Nat) : Nat := 0xA0014 + n * 0x800
abbrev Reg.PRT_FEC_UNCORR_CNT (n : Nat) : Nat := 0xA0018 + n * 0x800
abbrev Reg.PRT_BAD_SYNC_CNT (n : Nat) : Nat := 0xA001C + n * 0x800
abbrev Reg.PRT_ERR_BLOCK_CNT (n : Nat) : Nat := 0xA0020 + n * 0x800
abbrev Reg.PRT_AN_FAIL_CNT (n : Nat) : Nat := 0xA0024 + n * 0x800

/-! Registers described by R138 of 05_frame_path.md. -/

abbrev Reg.BUF_STATUS : Nat := 0xE0000
abbrev Fld.BUF_STATUS_FREE_CELLS : FieldRef := ⟨0xE0000, 0, 20⟩
abbrev Reg.BUF_SHARED : Nat := 0xE0004
abbrev Fld.BUF_SHARED_SIZE : FieldRef := ⟨0xE0004, 0, 20⟩
abbrev Reg.BUF_SHARED_USED : Nat := 0xE0008
abbrev Fld.BUF_SHARED_USED_CELLS : FieldRef := ⟨0xE0008, 0, 20⟩
abbrev Reg.BUF_GLOBAL_XOFF : Nat := 0xE000C
abbrev Fld.BUF_GLOBAL_XOFF_FREE : FieldRef := ⟨0xE000C, 0, 20⟩
abbrev Reg.BUF_GLOBAL_XON : Nat := 0xE0010
abbrev Fld.BUF_GLOBAL_XON_FREE : FieldRef := ⟨0xE0010, 0, 20⟩
abbrev Reg.BUF_ELASTIC_CFG : Nat := 0xE0014
abbrev Fld.BUF_ELASTIC_CFG_XOFF_KIB : FieldRef := ⟨0xE0014, 0, 6⟩
abbrev Fld.BUF_ELASTIC_CFG_XON_KIB : FieldRef := ⟨0xE0014, 8, 6⟩
abbrev Reg.BUF_RSV_TOTAL : Nat := 0xE0018
abbrev Fld.BUF_RSV_TOTAL_CELLS : FieldRef := ⟨0xE0018, 0, 20⟩
abbrev Reg.BUF_HEADROOM_TOTAL : Nat := 0xE001C
abbrev Fld.BUF_HEADROOM_TOTAL_CELLS : FieldRef := ⟨0xE001C, 0, 20⟩
abbrev Reg.BUF_SCRUB_CFG : Nat := 0xE0020
abbrev Fld.BUF_SCRUB_CFG_ENABLE : FieldRef := ⟨0xE0020, 0, 1⟩
abbrev Fld.BUF_SCRUB_CFG_PERIOD_S : FieldRef := ⟨0xE0020, 8, 8⟩
abbrev Reg.BUF_SCRUB_PASS_CNT : Nat := 0xE0024
abbrev Reg.BUF_CORR_CNT : Nat := 0xE0030
abbrev Reg.BUF_UNCORR_CNT : Nat := 0xE0034
abbrev Reg.BUF_INTEGRITY_CNT : Nat := 0xE0038
abbrev Reg.BUF_RETIRED : Nat := 0xE003C
abbrev Fld.BUF_RETIRED_CELLS : FieldRef := ⟨0xE003C, 0, 20⟩
abbrev Reg.BUF_ELASTIC_OVF_CNT (n : Nat) : Nat := 0xE0040 + n * 0x4
abbrev Reg.BUF_BANK_FREE (n : Nat) : Nat := 0xE0400 + n * 0x4
abbrev Fld.BUF_BANK_FREE_CELLS (n : Nat) : FieldRef := ⟨0xE0400 + n * 0x4, 0, 14⟩
abbrev Reg.BUF_BANK_CORR (n : Nat) : Nat := 0xE0500 + n * 0x4
abbrev Reg.BUF_RSV (n : Nat) : Nat := 0xE1000 + n * 0x4
abbrev Fld.BUF_RSV_CELLS (n : Nat) : FieldRef := ⟨0xE1000 + n * 0x4, 0, 16⟩
abbrev Reg.BUF_QUEUE_OCC (n : Nat) : Nat := 0xE2000 + n * 0x4
abbrev Fld.BUF_QUEUE_OCC_CELLS (n : Nat) : FieldRef := ⟨0xE2000 + n * 0x4, 0, 20⟩
abbrev Reg.PRT_RX_FRAMES (n : Nat) : Nat := 0xA0100 + n * 0x800
abbrev Reg.PRT_RX_ACCEPTED (n : Nat) : Nat := 0xA0104 + n * 0x800
abbrev Reg.PRT_RX_FCS_ERR (n : Nat) : Nat := 0xA0108 + n * 0x800
abbrev Reg.PRT_RX_LEN_ERR (n : Nat) : Nat := 0xA010C + n * 0x800
abbrev Reg.PRT_RX_ELASTIC_OVF (n : Nat) : Nat := 0xA0110 + n * 0x800
abbrev Reg.PRT_RX_PARSE_ERR (n : Nat) : Nat := 0xA0114 + n * 0x800
abbrev Reg.PRT_RX_RULE_DISCARD (n : Nat) : Nat := 0xA0118 + n * 0x800
abbrev Reg.PRT_RX_PARITY_DISCARD (n : Nat) : Nat := 0xA011C + n * 0x800
abbrev Reg.PRT_RX_FRER_ELIM (n : Nat) : Nat := 0xA0120 + n * 0x800
abbrev Reg.PRT_RX_POLICER_DROP (n : Nat) : Nat := 0xA0124 + n * 0x800
abbrev Reg.PRT_RX_NO_TARGET (n : Nat) : Nat := 0xA0128 + n * 0x800
abbrev Reg.PRT_RX_ADMIT_REFUSED (n : Nat) : Nat := 0xA012C + n * 0x800
abbrev Reg.PRT_RX_RESTRUCT_DROP (n : Nat) : Nat := 0xA0130 + n * 0x800
abbrev Reg.PRT_RX_REFUSE_PAUSE_IGN (n : Nat) : Nat := 0xA0134 + n * 0x800
abbrev Reg.PRT_TX_FRAMES (n : Nat) : Nat := 0xA0140 + n * 0x800
abbrev Reg.PRT_TX_REFUSE_DOWN (n : Nat) : Nat := 0xA0144 + n * 0x800
abbrev Reg.PRT_TX_REFUSE_RSV (n : Nat) : Nat := 0xA0148 + n * 0x800
abbrev Reg.PRT_TX_REFUSE_WINDOW (n : Nat) : Nat := 0xA014C + n * 0x800
abbrev Reg.PRT_TX_REFUSE_LEN (n : Nat) : Nat := 0xA0150 + n * 0x800
abbrev Reg.PRT_TX_TC7_FLUSH (n : Nat) : Nat := 0xA0158 + n * 0x800
abbrev Reg.PRT_TX_HOLD_FLUSH (n : Nat) : Nat := 0xA015C + n * 0x800
abbrev Reg.PRT_TX_ABORTED (n : Nat) : Nat := 0xA0160 + n * 0x800
abbrev Reg.PRT_TX_INTEGRITY_DISCARD (n : Nat) : Nat := 0xA0164 + n * 0x800
abbrev Reg.PRT_TX_BUF_UNCORR_DISCARD (n : Nat) : Nat := 0xA0168 + n * 0x800
abbrev Reg.PRT_TX_STRANDED (n : Nat) : Nat := 0xA016C + n * 0x800
abbrev Reg.PRT_HOLD_CFG (n : Nat) : Nat := 0xA0180 + n * 0x800
abbrev Fld.PRT_HOLD_CFG_HOLD_MS (n : Nat) : FieldRef := ⟨0xA0180 + n * 0x800, 0, 7⟩
abbrev Reg.PRT_PFC_CFG (n : Nat) : Nat := 0xA0184 + n * 0x800
abbrev Fld.PRT_PFC_CFG_TX_EN (n : Nat) : FieldRef := ⟨0xA0184 + n * 0x800, 0, 1⟩
abbrev Fld.PRT_PFC_CFG_RX_EN (n : Nat) : FieldRef := ⟨0xA0184 + n * 0x800, 1, 1⟩
abbrev Fld.PRT_PFC_CFG_LLP_ESCALATE (n : Nat) : FieldRef := ⟨0xA0184 + n * 0x800, 2, 1⟩
abbrev Reg.PRT_PFC_STATUS (n : Nat) : Nat := 0xA0188 + n * 0x800
abbrev Fld.PRT_PFC_STATUS_TX_XOFF (n : Nat) : FieldRef := ⟨0xA0188 + n * 0x800, 0, 6⟩
abbrev Fld.PRT_PFC_STATUS_RX_PAUSED (n : Nat) : FieldRef := ⟨0xA0188 + n * 0x800, 8, 6⟩
abbrev Fld.PRT_PFC_STATUS_LLP_ACTIVE (n : Nat) : FieldRef := ⟨0xA0188 + n * 0x800, 16, 1⟩
abbrev Fld.PRT_PFC_STATUS_IGNORED (n : Nat) : FieldRef := ⟨0xA0188 + n * 0x800, 24, 6⟩
abbrev Reg.PRT_PFC_RX_IGNORED (n : Nat) : Nat := 0xA018C + n * 0x800
abbrev Reg.PRT_PFC_THR (n k : Nat) : Nat := 0xA0190 + n * 0x800 + k * 0x8
abbrev Fld.PRT_PFC_THR_XOFF_CELLS (n k : Nat) : FieldRef := ⟨0xA0190 + n * 0x800 + k * 0x8, 0, 16⟩
abbrev Fld.PRT_PFC_THR_XON_CELLS (n k : Nat) : FieldRef := ⟨0xA0190 + n * 0x800 + k * 0x8, 16, 16⟩
abbrev Reg.PRT_PFC_HR (n k : Nat) : Nat := 0xA0194 + n * 0x800 + k * 0x8
abbrev Fld.PRT_PFC_HR_HEADROOM_CELLS (n k : Nat) : FieldRef := ⟨0xA0194 + n * 0x800 + k * 0x8, 0, 16⟩
abbrev Fld.PRT_PFC_HR_ESC_CELLS (n k : Nat) : FieldRef := ⟨0xA0194 + n * 0x800 + k * 0x8, 16, 16⟩
abbrev Reg.PRT_PFC_IGNORED_CNT (n : Nat) : Nat := 0xA01C0 + n * 0x800
abbrev Reg.PRT_SMP_CFG (n k : Nat) : Nat := 0xA01E0 + n * 0x800 + k * 0x8
abbrev Fld.PRT_SMP_CFG_RATE_M1 (n k : Nat) : FieldRef := ⟨0xA01E0 + n * 0x800 + k * 0x8, 0, 24⟩
abbrev Fld.PRT_SMP_CFG_ENABLE (n k : Nat) : FieldRef := ⟨0xA01E0 + n * 0x800 + k * 0x8, 24, 1⟩
abbrev Reg.PRT_SMP_CAP (n k : Nat) : Nat := 0xA01E4 + n * 0x800 + k * 0x8
abbrev Fld.PRT_SMP_CAP_CAP_LEN (n k : Nat) : FieldRef := ⟨0xA01E4 + n * 0x800 + k * 0x8, 0, 9⟩

/-! Registers described by R171 of 06_tables.md. -/

abbrev Reg.TBL_GEOM : Nat := 0x100000
abbrev Fld.TBL_GEOM_MAC_BKT_LOG2 : FieldRef := ⟨0x100000, 0, 4⟩
abbrev Fld.TBL_GEOM_STREAM_BKT_LOG2 : FieldRef := ⟨0x100000, 4, 4⟩
abbrev Reg.TBL_AGE_CFG : Nat := 0x100010
abbrev Fld.TBL_AGE_CFG_PERIOD_S : FieldRef := ⟨0x100010, 0, 10⟩
abbrev Fld.TBL_AGE_CFG_ENABLE : FieldRef := ⟨0x100010, 16, 1⟩
abbrev Reg.TBL_LEARN_CFG : Nat := 0x100014
abbrev Fld.TBL_LEARN_CFG_ENABLE : FieldRef := ⟨0x100014, 0, 1⟩
abbrev Reg.TBL_PARITY_ACT : Nat := 0x100018
abbrev Fld.TBL_PARITY_ACT_LPM_DISCARD : FieldRef := ⟨0x100018, 0, 1⟩
abbrev Fld.TBL_PARITY_ACT_TERNARY_DISCARD : FieldRef := ⟨0x100018, 1, 1⟩
abbrev Reg.TBL_SCRUB_CFG : Nat := 0x10001C
abbrev Fld.TBL_SCRUB_CFG_ENABLE : FieldRef := ⟨0x10001C, 0, 1⟩
abbrev Fld.TBL_SCRUB_CFG_PERIOD_S : FieldRef := ⟨0x10001C, 8, 8⟩
abbrev Reg.TBL_FLUSH_CTRL : Nat := 0x100020
abbrev Fld.TBL_FLUSH_CTRL_PORT : FieldRef := ⟨0x100020, 0, 7⟩
abbrev Fld.TBL_FLUSH_CTRL_BY_PORT : FieldRef := ⟨0x100020, 8, 1⟩
abbrev Fld.TBL_FLUSH_CTRL_BY_FID : FieldRef := ⟨0x100020, 9, 1⟩
abbrev Fld.TBL_FLUSH_CTRL_FID : FieldRef := ⟨0x100020, 10, 12⟩
abbrev Fld.TBL_FLUSH_CTRL_START : FieldRef := ⟨0x100020, 31, 1⟩
abbrev Reg.TBL_FLUSH_STATUS : Nat := 0x100024
abbrev Fld.TBL_FLUSH_STATUS_BUSY : FieldRef := ⟨0x100024, 0, 1⟩
abbrev Reg.TBL_FLUSH_CNT : Nat := 0x100028
abbrev Reg.TBL_LEARN_CNT (n : Nat) : Nat := 0x100100 + n * 0x20
abbrev Reg.TBL_LEARN_RATE_DROP (n : Nat) : Nat := 0x100104 + n * 0x20
abbrev Reg.TBL_LEARN_FULL_DROP (n : Nat) : Nat := 0x100108 + n * 0x20
abbrev Reg.TBL_AGED_CNT (n : Nat) : Nat := 0x10010C + n * 0x20
abbrev Reg.TBL_LEARN_STATIC (n : Nat) : Nat := 0x100110 + n * 0x20
abbrev Reg.TBL_LEARN_QFULL (n : Nat) : Nat := 0x100114 + n * 0x20
abbrev Reg.TBL_PORT_CFG (n : Nat) : Nat := 0x100200 + n * 0x8
abbrev Fld.TBL_PORT_CFG_PVID (n : Nat) : FieldRef := ⟨0x100200 + n * 0x8, 0, 12⟩
abbrev Fld.TBL_PORT_CFG_LEARN_EN (n : Nat) : FieldRef := ⟨0x100200 + n * 0x8, 12, 1⟩
abbrev Fld.TBL_PORT_CFG_STREAM_MISS_DISCARD (n : Nat) : FieldRef := ⟨0x100200 + n * 0x8, 13, 1⟩
abbrev Reg.TBL_PORT_LEARN (n : Nat) : Nat := 0x100204 + n * 0x8
abbrev Fld.TBL_PORT_LEARN_RATE (n : Nat) : FieldRef := ⟨0x100204 + n * 0x8, 0, 16⟩
abbrev Fld.TBL_PORT_LEARN_BURST (n : Nat) : FieldRef := ⟨0x100204 + n * 0x8, 16, 8⟩
abbrev Reg.TBL_STAT_OCC (n : Nat) : Nat := 0x100800 + n * 0x20
abbrev Fld.TBL_STAT_OCC_ENTRIES (n : Nat) : FieldRef := ⟨0x100800 + n * 0x20, 0, 21⟩
abbrev Reg.TBL_STAT_CAP (n : Nat) : Nat := 0x100804 + n * 0x20
abbrev Fld.TBL_STAT_CAP_SLOTS (n : Nat) : FieldRef := ⟨0x100804 + n * 0x20, 0, 21⟩
abbrev Reg.TBL_STAT_STASH (n : Nat) : Nat := 0x100808 + n * 0x20
abbrev Fld.TBL_STAT_STASH_USED (n : Nat) : FieldRef := ⟨0x100808 + n * 0x20, 0, 4⟩
abbrev Fld.TBL_STAT_STASH_PEAK (n : Nat) : FieldRef := ⟨0x100808 + n * 0x20, 8, 4⟩
abbrev Reg.TBL_STAT_INS_FAIL (n : Nat) : Nat := 0x10080C + n * 0x20
abbrev Reg.TBL_STAT_MOVES (n : Nat) : Nat := 0x100810 + n * 0x20
abbrev Reg.TBL_STAT_MAX_PATH (n : Nat) : Nat := 0x100814 + n * 0x20
abbrev Fld.TBL_STAT_MAX_PATH_MOVES (n : Nat) : FieldRef := ⟨0x100814 + n * 0x20, 0, 2⟩
abbrev Reg.TBL_STAT_PARITY (n : Nat) : Nat := 0x100818 + n * 0x20
abbrev Reg.TBL_STAT_REPAIR (n : Nat) : Nat := 0x10081C + n * 0x20
abbrev Reg.TBL_LPM_STAGE (n : Nat) : Nat := 0x100A00 + n * 0x4
abbrev Fld.TBL_LPM_STAGE_USED (n : Nat) : FieldRef := ⟨0x100A00 + n * 0x4, 0, 16⟩
abbrev Fld.TBL_LPM_STAGE_FREE (n : Nat) : FieldRef := ⟨0x100A00 + n * 0x4, 16, 16⟩

/-! Registers described by R195 of 07_classes_and_gates.md. -/

abbrev Reg.SCH_CLASS_CFG (n : Nat) : Nat := 0x140000 + n * 0x1000
abbrev Fld.SCH_CLASS_CFG_PCP_MAP (n : Nat) : FieldRef := ⟨0x140000 + n * 0x1000, 0, 24⟩
abbrev Fld.SCH_CLASS_CFG_UNTAGGED_CLASS (n : Nat) : FieldRef := ⟨0x140000 + n * 0x1000, 24, 3⟩
abbrev Fld.SCH_CLASS_CFG_RULE_PTP (n : Nat) : FieldRef := ⟨0x140000 + n * 0x1000, 28, 1⟩
abbrev Fld.SCH_CLASS_CFG_RULE_GOOSE (n : Nat) : FieldRef := ⟨0x140000 + n * 0x1000, 29, 1⟩
abbrev Fld.SCH_CLASS_CFG_RULE_SV (n : Nat) : FieldRef := ⟨0x140000 + n * 0x1000, 30, 1⟩
abbrev Fld.SCH_CLASS_CFG_RULE_PMU (n : Nat) : FieldRef := ⟨0x140000 + n * 0x1000, 31, 1⟩
abbrev Reg.SCH_DRR_QUANTUM (n k : Nat) : Nat := 0x140010 + n * 0x1000 + k * 0x4
abbrev Fld.SCH_DRR_QUANTUM_QUANTUM (n k : Nat) : FieldRef := ⟨0x140010 + n * 0x1000 + k * 0x4, 0, 16⟩
abbrev Reg.SCH_DRR_DEFICIT (n k : Nat) : Nat := 0x140030 + n * 0x1000 + k * 0x4
abbrev Fld.SCH_DRR_DEFICIT_DEFICIT (n k : Nat) : FieldRef := ⟨0x140030 + n * 0x1000 + k * 0x4, 0, 18⟩
abbrev Reg.SCH_PREEMPT_CFG (n : Nat) : Nat := 0x140048 + n * 0x1000
abbrev Fld.SCH_PREEMPT_CFG_ENABLE (n : Nat) : FieldRef := ⟨0x140048 + n * 0x1000, 0, 1⟩
abbrev Fld.SCH_PREEMPT_CFG_VERIFY_DIS (n : Nat) : FieldRef := ⟨0x140048 + n * 0x1000, 1, 1⟩
abbrev Fld.SCH_PREEMPT_CFG_EXPRESS (n : Nat) : FieldRef := ⟨0x140048 + n * 0x1000, 8, 8⟩
abbrev Fld.SCH_PREEMPT_CFG_VERIFY_MS (n : Nat) : FieldRef := ⟨0x140048 + n * 0x1000, 16, 7⟩
abbrev Reg.SCH_PREEMPT_STATUS (n : Nat) : Nat := 0x14004C + n * 0x1000
abbrev Fld.SCH_PREEMPT_STATUS_VERIFY (n : Nat) : FieldRef := ⟨0x14004C + n * 0x1000, 0, 2⟩
abbrev Reg.SCH_PREEMPT_CNT (n : Nat) : Nat := 0x140050 + n * 0x1000
abbrev Reg.SCH_FRAG_CNT (n : Nat) : Nat := 0x140054 + n * 0x1000
abbrev Reg.SCH_REASM_ERR (n : Nat) : Nat := 0x140058 + n * 0x1000
abbrev Reg.SCH_GATE_CTRL (n : Nat) : Nat := 0x140060 + n * 0x1000
abbrev Fld.SCH_GATE_CTRL_ENABLE (n : Nat) : FieldRef := ⟨0x140060 + n * 0x1000, 0, 1⟩
abbrev Fld.SCH_GATE_CTRL_CONFIG_CHANGE (n : Nat) : FieldRef := ⟨0x140060 + n * 0x1000, 1, 1⟩
abbrev Fld.SCH_GATE_CTRL_STRICT_LATE (n : Nat) : FieldRef := ⟨0x140060 + n * 0x1000, 2, 1⟩
abbrev Fld.SCH_GATE_CTRL_ADMIN_GATES (n : Nat) : FieldRef := ⟨0x140060 + n * 0x1000, 8, 8⟩
abbrev Fld.SCH_GATE_CTRL_ADMIN_LEN (n : Nat) : FieldRef := ⟨0x140060 + n * 0x1000, 16, 11⟩
abbrev Reg.SCH_ADMIN_CYCLE (n : Nat) : Nat := 0x140064 + n * 0x1000
abbrev Reg.SCH_ADMIN_BASE_W0 (n : Nat) : Nat := 0x140068 + n * 0x1000
abbrev Reg.SCH_ADMIN_BASE_W1 (n : Nat) : Nat := 0x14006C + n * 0x1000
abbrev Reg.SCH_ADMIN_BASE_W2 (n : Nat) : Nat := 0x140070 + n * 0x1000
abbrev Reg.SCH_GATE_STATUS (n : Nat) : Nat := 0x140080 + n * 0x1000
abbrev Fld.SCH_GATE_STATUS_STATE (n : Nat) : FieldRef := ⟨0x140080 + n * 0x1000, 0, 2⟩
abbrev Fld.SCH_GATE_STATUS_LATE_REJECTED (n : Nat) : FieldRef := ⟨0x140080 + n * 0x1000, 2, 1⟩
abbrev Fld.SCH_GATE_STATUS_OPER_GATES (n : Nat) : FieldRef := ⟨0x140080 + n * 0x1000, 8, 8⟩
abbrev Fld.SCH_GATE_STATUS_OPER_IDX (n : Nat) : FieldRef := ⟨0x140080 + n * 0x1000, 16, 11⟩
abbrev Reg.SCH_OPER_CYCLE (n : Nat) : Nat := 0x140084 + n * 0x1000
abbrev Reg.SCH_OPER_LEN (n : Nat) : Nat := 0x140088 + n * 0x1000
abbrev Fld.SCH_OPER_LEN_LEN (n : Nat) : FieldRef := ⟨0x140088 + n * 0x1000, 0, 11⟩
abbrev Reg.SCH_OPER_BASE_W0 (n : Nat) : Nat := 0x14008C + n * 0x1000
abbrev Reg.SCH_OPER_BASE_W1 (n : Nat) : Nat := 0x140090 + n * 0x1000
abbrev Reg.SCH_OPER_BASE_W2 (n : Nat) : Nat := 0x140094 + n * 0x1000
abbrev Reg.SCH_PEND_START_W0 (n : Nat) : Nat := 0x140098 + n * 0x1000
abbrev Reg.SCH_PEND_START_W1 (n : Nat) : Nat := 0x14009C + n * 0x1000
abbrev Reg.SCH_PEND_START_W2 (n : Nat) : Nat := 0x1400A0 + n * 0x1000
abbrev Reg.SCH_LATE_K (n : Nat) : Nat := 0x1400A4 + n * 0x1000
abbrev Reg.SCH_GCL_IDX (n : Nat) : Nat := 0x1400B0 + n * 0x1000
abbrev Fld.SCH_GCL_IDX_IDX (n : Nat) : FieldRef := ⟨0x1400B0 + n * 0x1000, 0, 10⟩
abbrev Fld.SCH_GCL_IDX_AUTO_INC (n : Nat) : FieldRef := ⟨0x1400B0 + n * 0x1000, 16, 1⟩
abbrev Fld.SCH_GCL_IDX_OPER (n : Nat) : FieldRef := ⟨0x1400B0 + n * 0x1000, 17, 1⟩
abbrev Reg.SCH_GCL_ENTRY_LO (n : Nat) : Nat := 0x1400B4 + n * 0x1000
abbrev Reg.SCH_GCL_ENTRY_HI (n : Nat) : Nat := 0x1400B8 + n * 0x1000
abbrev Fld.SCH_GCL_ENTRY_HI_GATES_OP (n : Nat) : FieldRef := ⟨0x1400B8 + n * 0x1000, 0, 10⟩
abbrev Reg.SCH_WIN (n k : Nat) : Nat := 0x1400C0 + n * 0x1000 + k * 0x4
abbrev Reg.SCH_GATE_OVERRUN_NS (n : Nat) : Nat := 0x1400E0 + n * 0x1000
abbrev Reg.SCH_GATE_LATE_CNT (n : Nat) : Nat := 0x1400E4 + n * 0x1000
abbrev Reg.SCH_FIT_WAIT_CNT (n : Nat) : Nat := 0x1400E8 + n * 0x1000
abbrev Reg.SCH_POL_GREEN (n : Nat) : Nat := 0x140100 + n * 0x1000
abbrev Reg.SCH_POL_YELLOW (n : Nat) : Nat := 0x140104 + n * 0x1000
abbrev Reg.SCH_POL_RED (n : Nat) : Nat := 0x140108 + n * 0x1000
abbrev Reg.SCH_Q_FRAMES (n k : Nat) : Nat := 0x140200 + n * 0x1000 + k * 0x10
abbrev Fld.SCH_Q_FRAMES_COUNT (n k : Nat) : FieldRef := ⟨0x140200 + n * 0x1000 + k * 0x10, 0, 20⟩
abbrev Reg.SCH_Q_TX (n k : Nat) : Nat := 0x140204 + n * 0x1000 + k * 0x10

/-! Registers described by R218 of 08_time_base.md. -/

abbrev Reg.TIM_CFG : Nat := 0x180000
abbrev Fld.TIM_CFG_STEP_EN : FieldRef := ⟨0x180000, 0, 1⟩
abbrev Reg.TIM_STATUS : Nat := 0x180004
abbrev Fld.TIM_STATUS_WARMING : FieldRef := ⟨0x180004, 0, 1⟩
abbrev Fld.TIM_STATUS_HOLDOVER : FieldRef := ⟨0x180004, 1, 1⟩
abbrev Fld.TIM_STATUS_SLEW_ACTIVE : FieldRef := ⟨0x180004, 2, 1⟩
abbrev Fld.TIM_STATUS_SLEW_REJECTED : FieldRef := ⟨0x180004, 3, 1⟩
abbrev Fld.TIM_STATUS_STEP_PENDING : FieldRef := ⟨0x180004, 4, 1⟩
abbrev Fld.TIM_STATUS_STEP_GEN : FieldRef := ⟨0x180004, 5, 1⟩
abbrev Reg.TIM_INC_LO : Nat := 0x180008
abbrev Reg.TIM_INC_HI : Nat := 0x18000C
abbrev Fld.TIM_INC_HI_INC : FieldRef := ⟨0x18000C, 0, 16⟩
abbrev Reg.TIM_INC_ACTIVE_LO : Nat := 0x180010
abbrev Reg.TIM_INC_ACTIVE_HI : Nat := 0x180014
abbrev Fld.TIM_INC_ACTIVE_HI_INC : FieldRef := ⟨0x180014, 0, 16⟩
abbrev Reg.TIM_SLEW_AMT_LO : Nat := 0x180018
abbrev Reg.TIM_SLEW_AMT_HI : Nat := 0x18001C
abbrev Fld.TIM_SLEW_AMT_HI_AMT : FieldRef := ⟨0x18001C, 0, 16⟩
abbrev Reg.TIM_SLEW_TICKS : Nat := 0x180020
abbrev Reg.TIM_SLEW_CTRL : Nat := 0x180024
abbrev Fld.TIM_SLEW_CTRL_START : FieldRef := ⟨0x180024, 0, 1⟩
abbrev Fld.TIM_SLEW_CTRL_CANCEL : FieldRef := ⟨0x180024, 1, 1⟩
abbrev Reg.TIM_SLEW_REMAIN_LO : Nat := 0x180028
abbrev Reg.TIM_SLEW_REMAIN_HI : Nat := 0x18002C
abbrev Fld.TIM_SLEW_REMAIN_HI_REMAIN : FieldRef := ⟨0x18002C, 0, 16⟩
abbrev Reg.TIM_STEP_CNT : Nat := 0x180030
abbrev Reg.TIM_STEP_OLDER_FRAMES : Nat := 0x180034
abbrev Fld.TIM_STEP_OLDER_FRAMES_COUNT : FieldRef := ⟨0x180034, 0, 20⟩
abbrev Reg.TIM_SNAP_CTRL : Nat := 0x180040
abbrev Fld.TIM_SNAP_CTRL_CAPTURE : FieldRef := ⟨0x180040, 0, 1⟩
abbrev Fld.TIM_SNAP_CTRL_DONE : FieldRef := ⟨0x180040, 1, 1⟩
abbrev Reg.TIM_SNAP_W0 : Nat := 0x180044
abbrev Reg.TIM_SNAP_W1 : Nat := 0x180048
abbrev Reg.TIM_SNAP_W2 : Nat := 0x18004C
abbrev Reg.TIM_TSF_STATUS (n : Nat) : Nat := 0x181000 + n * 0x20
abbrev Fld.TIM_TSF_STATUS_LEVEL (n : Nat) : FieldRef := ⟨0x181000 + n * 0x20, 0, 7⟩
abbrev Fld.TIM_TSF_STATUS_OVERFLOW (n : Nat) : FieldRef := ⟨0x181000 + n * 0x20, 8, 1⟩
abbrev Reg.TIM_TSF_W0 (n : Nat) : Nat := 0x181004 + n * 0x20
abbrev Reg.TIM_TSF_W1 (n : Nat) : Nat := 0x181008 + n * 0x20
abbrev Reg.TIM_TSF_W2 (n : Nat) : Nat := 0x18100C + n * 0x20
abbrev Reg.TIM_TSF_W3 (n : Nat) : Nat := 0x181010 + n * 0x20
abbrev Reg.TIM_TSF_LOST (n : Nat) : Nat := 0x181014 + n * 0x20
abbrev Reg.PRT_PTP_CFG (n : Nat) : Nat := 0xA0200 + n * 0x800
abbrev Fld.PRT_PTP_CFG_MODE (n : Nat) : FieldRef := ⟨0xA0200 + n * 0x800, 0, 2⟩
abbrev Fld.PRT_PTP_CFG_ONE_STEP_EN (n : Nat) : FieldRef := ⟨0xA0200 + n * 0x800, 2, 1⟩
abbrev Reg.PRT_PTP_LINK_DELAY_LO (n : Nat) : Nat := 0xA0204 + n * 0x800
abbrev Reg.PRT_PTP_LINK_DELAY_HI (n : Nat) : Nat := 0xA0208 + n * 0x800
abbrev Fld.PRT_PTP_LINK_DELAY_HI_DELAY (n : Nat) : FieldRef := ⟨0xA0208 + n * 0x800, 0, 16⟩
abbrev Reg.PRT_PTP_ASYM (n : Nat) : Nat := 0xA020C + n * 0x800
abbrev Reg.PRT_TS_RX_DELAY (n : Nat) : Nat := 0xA0210 + n * 0x800
abbrev Reg.PRT_TS_TX_DELAY (n : Nat) : Nat := 0xA0214 + n * 0x800
abbrev Reg.PRT_TS_TRIM_RX (n : Nat) : Nat := 0xA0218 + n * 0x800
abbrev Fld.PRT_TS_TRIM_RX_TRIM (n : Nat) : FieldRef := ⟨0xA0218 + n * 0x800, 0, 24⟩
abbrev Reg.PRT_TS_TRIM_TX (n : Nat) : Nat := 0xA021C + n * 0x800
abbrev Fld.PRT_TS_TRIM_TX_TRIM (n : Nat) : FieldRef := ⟨0xA021C + n * 0x800, 0, 24⟩
abbrev Reg.PRT_PTP_CORRECTED (n : Nat) : Nat := 0xA0220 + n * 0x800
abbrev Reg.PRT_PTP_ONESTEP (n : Nat) : Nat := 0xA0224 + n * 0x800
abbrev Reg.PRT_PTP_CSUM_TRAILER (n : Nat) : Nat := 0xA0228 + n * 0x800
abbrev Reg.PRT_PTP_CORR_SAT (n : Nat) : Nat := 0xA022C + n * 0x800
abbrev Reg.PRT_PTP_TRAPPED (n : Nat) : Nat := 0xA0230 + n * 0x800

/-! Registers described by R237 of 09_lantern_phase.md. -/

abbrev Reg.PHS_CFG (n : Nat) : Nat := 0x190000 + n * 0x100
abbrev Fld.PHS_CFG_ENABLE (n : Nat) : FieldRef := ⟨0x190000 + n * 0x100, 0, 1⟩
abbrev Fld.PHS_CFG_MIN_WORDS (n : Nat) : FieldRef := ⟨0x190000 + n * 0x100, 8, 8⟩
abbrev Fld.PHS_CFG_SUSPEND_S (n : Nat) : FieldRef := ⟨0x190000 + n * 0x100, 16, 12⟩
abbrev Reg.PHS_STATUS (n : Nat) : Nat := 0x190004 + n * 0x100
abbrev Fld.PHS_STATUS_STATE (n : Nat) : FieldRef := ⟨0x190004 + n * 0x100, 0, 3⟩
abbrev Fld.PHS_STATUS_PEER_HOLDOVER (n : Nat) : FieldRef := ⟨0x190004 + n * 0x100, 3, 1⟩
abbrev Fld.PHS_STATUS_PEER_WARMING (n : Nat) : FieldRef := ⟨0x190004 + n * 0x100, 4, 1⟩
abbrev Fld.PHS_STATUS_BAD_1S (n : Nat) : FieldRef := ⟨0x190004 + n * 0x100, 8, 5⟩
abbrev Reg.PHS_ASYM_CFG (n : Nat) : Nat := 0x190008 + n * 0x100
abbrev Fld.PHS_ASYM_CFG_SOURCE (n : Nat) : FieldRef := ⟨0x190008 + n * 0x100, 0, 2⟩
abbrev Reg.PHS_ASYM_HOST_LO (n : Nat) : Nat := 0x19000C + n * 0x100
abbrev Reg.PHS_ASYM_HOST_HI (n : Nat) : Nat := 0x190010 + n * 0x100
abbrev Fld.PHS_ASYM_HOST_HI_ASYM (n : Nat) : FieldRef := ⟨0x190010 + n * 0x100, 0, 16⟩
abbrev Reg.PHS_FIB_TX_LEN (n : Nat) : Nat := 0x190014 + n * 0x100
abbrev Fld.PHS_FIB_TX_LEN_METRES (n : Nat) : FieldRef := ⟨0x190014 + n * 0x100, 0, 18⟩
abbrev Reg.PHS_FIB_RX_LEN (n : Nat) : Nat := 0x190018 + n * 0x100
abbrev Fld.PHS_FIB_RX_LEN_METRES (n : Nat) : FieldRef := ⟨0x190018 + n * 0x100, 0, 18⟩
abbrev Reg.PHS_FIB_TX_NG (n : Nat) : Nat := 0x19001C + n * 0x100
abbrev Fld.PHS_FIB_TX_NG_NG (n : Nat) : FieldRef := ⟨0x19001C + n * 0x100, 0, 25⟩
abbrev Reg.PHS_FIB_RX_NG (n : Nat) : Nat := 0x190020 + n * 0x100
abbrev Fld.PHS_FIB_RX_NG_NG (n : Nat) : FieldRef := ⟨0x190020 + n * 0x100, 0, 25⟩
abbrev Reg.PHS_ASYM_USED_LO (n : Nat) : Nat := 0x190024 + n * 0x100
abbrev Reg.PHS_ASYM_USED_HI (n : Nat) : Nat := 0x190028 + n * 0x100
abbrev Fld.PHS_ASYM_USED_HI_ASYM (n : Nat) : FieldRef := ⟨0x190028 + n * 0x100, 0, 16⟩
abbrev Reg.PHS_SWAP_CTRL (n : Nat) : Nat := 0x190030 + n * 0x100
abbrev Fld.PHS_SWAP_CTRL_CAPTURE_BEFORE (n : Nat) : FieldRef := ⟨0x190030 + n * 0x100, 0, 1⟩
abbrev Fld.PHS_SWAP_CTRL_CAPTURE_AFTER (n : Nat) : FieldRef := ⟨0x190030 + n * 0x100, 1, 1⟩
abbrev Fld.PHS_SWAP_CTRL_ABORT (n : Nat) : FieldRef := ⟨0x190030 + n * 0x100, 2, 1⟩
abbrev Fld.PHS_SWAP_CTRL_REF_PORT (n : Nat) : FieldRef := ⟨0x190030 + n * 0x100, 8, 7⟩
abbrev Fld.PHS_SWAP_CTRL_AVG_S (n : Nat) : FieldRef := ⟨0x190030 + n * 0x100, 16, 6⟩
abbrev Reg.PHS_SWAP_STATUS (n : Nat) : Nat := 0x190034 + n * 0x100
abbrev Fld.PHS_SWAP_STATUS_STATE (n : Nat) : FieldRef := ⟨0x190034 + n * 0x100, 0, 3⟩
abbrev Fld.PHS_SWAP_STATUS_FAIL (n : Nat) : FieldRef := ⟨0x190034 + n * 0x100, 8, 4⟩
abbrev Reg.PHS_SWAP_RESULT_LO (n : Nat) : Nat := 0x190038 + n * 0x100
abbrev Reg.PHS_SWAP_RESULT_HI (n : Nat) : Nat := 0x19003C + n * 0x100
abbrev Fld.PHS_SWAP_RESULT_HI_ASYM (n : Nat) : FieldRef := ⟨0x19003C + n * 0x100, 0, 16⟩
abbrev Reg.PHS_SWAP_UNC (n : Nat) : Nat := 0x190040 + n * 0x100
abbrev Fld.PHS_SWAP_UNC_PS (n : Nat) : FieldRef := ⟨0x190040 + n * 0x100, 0, 16⟩
abbrev Reg.PHS_SWAP_MAX_UNC (n : Nat) : Nat := 0x190044 + n * 0x100
abbrev Fld.PHS_SWAP_MAX_UNC_PS (n : Nat) : FieldRef := ⟨0x190044 + n * 0x100, 0, 16⟩
abbrev Reg.PHS_RPT_SEQ (n : Nat) : Nat := 0x190050 + n * 0x100
abbrev Fld.PHS_RPT_SEQ_BLOCK (n : Nat) : FieldRef := ⟨0x190050 + n * 0x100, 0, 16⟩
abbrev Fld.PHS_RPT_SEQ_VALID (n : Nat) : FieldRef := ⟨0x190050 + n * 0x100, 16, 1⟩
abbrev Fld.PHS_RPT_SEQ_SPARSE (n : Nat) : FieldRef := ⟨0x190050 + n * 0x100, 17, 1⟩
abbrev Fld.PHS_RPT_SEQ_CAL_PENDING (n : Nat) : FieldRef := ⟨0x190050 + n * 0x100, 18, 1⟩
abbrev Fld.PHS_RPT_SEQ_SUPPLY_DISTURBED (n : Nat) : FieldRef := ⟨0x190050 + n * 0x100, 19, 1⟩
abbrev Fld.PHS_RPT_SEQ_STEP (n : Nat) : FieldRef := ⟨0x190050 + n * 0x100, 20, 1⟩
abbrev Fld.PHS_RPT_SEQ_PEER_HOLDOVER (n : Nat) : FieldRef := ⟨0x190050 + n * 0x100, 21, 1⟩
abbrev Fld.PHS_RPT_SEQ_PEER_WARMING (n : Nat) : FieldRef := ⟨0x190050 + n * 0x100, 22, 1⟩
abbrev Fld.PHS_RPT_SEQ_COARSE (n : Nat) : FieldRef := ⟨0x190050 + n * 0x100, 23, 1⟩
abbrev Fld.PHS_RPT_SEQ_NEW (n : Nat) : FieldRef := ⟨0x190050 + n * 0x100, 24, 1⟩
abbrev Reg.PHS_RPT_DELAY_LO (n : Nat) : Nat := 0x190054 + n * 0x100
abbrev Reg.PHS_RPT_DELAY_HI (n : Nat) : Nat := 0x190058 + n * 0x100
abbrev Fld.PHS_RPT_DELAY_HI_D (n : Nat) : FieldRef := ⟨0x190058 + n * 0x100, 0, 16⟩
abbrev Reg.PHS_RPT_OFFSET_LO (n : Nat) : Nat := 0x19005C + n * 0x100
abbrev Reg.PHS_RPT_OFFSET_HI (n : Nat) : Nat := 0x190060 + n * 0x100
abbrev Fld.PHS_RPT_OFFSET_HI_THETA (n : Nat) : FieldRef := ⟨0x190060 + n * 0x100, 0, 16⟩
abbrev Reg.PHS_RPT_COUNT (n : Nat) : Nat := 0x190064 + n * 0x100
abbrev Fld.PHS_RPT_COUNT_OUT (n : Nat) : FieldRef := ⟨0x190064 + n * 0x100, 0, 8⟩
abbrev Fld.PHS_RPT_COUNT_IN (n : Nat) : FieldRef := ⟨0x190064 + n * 0x100, 16, 8⟩
abbrev Reg.PHS_TX_SETS (n : Nat) : Nat := 0x190070 + n * 0x100
abbrev Reg.PHS_TX_SKIPPED (n : Nat) : Nat := 0x190074 + n * 0x100
abbrev Reg.PHS_RX_SETS (n : Nat) : Nat := 0x190078 + n * 0x100
abbrev Reg.PHS_BAD_WORDS (n : Nat) : Nat := 0x19007C + n * 0x100
abbrev Reg.PHS_RX_UNSOLICITED (n : Nat) : Nat := 0x190080 + n * 0x100
abbrev Reg.PHS_SUSPEND_CNT (n : Nat) : Nat := 0x190084 + n * 0x100
abbrev Reg.PHS_SPARSE_CNT (n : Nat) : Nat := 0x190088 + n * 0x100
abbrev Reg.PHS_RPT_MISSED (n : Nat) : Nat := 0x19008C + n * 0x100

/-! Registers described by R263 of 10_references.md. -/

abbrev Reg.REF_CTRL : Nat := 0x1A0000
abbrev Fld.REF_CTRL_FREQ_REVERTIVE : FieldRef := ⟨0x1A0000, 0, 1⟩
abbrev Fld.REF_CTRL_TIME_REVERTIVE : FieldRef := ⟨0x1A0000, 1, 1⟩
abbrev Fld.REF_CTRL_TLOOP_EN : FieldRef := ⟨0x1A0000, 2, 1⟩
abbrev Fld.REF_CTRL_DISAGREE : FieldRef := ⟨0x1A0000, 8, 10⟩
abbrev Reg.REF_STATUS : Nat := 0x1A0004
abbrev Fld.REF_STATUS_FSEL : FieldRef := ⟨0x1A0004, 0, 5⟩
abbrev Fld.REF_STATUS_DPLL_STATE : FieldRef := ⟨0x1A0004, 5, 3⟩
abbrev Fld.REF_STATUS_TSEL : FieldRef := ⟨0x1A0004, 8, 5⟩
abbrev Fld.REF_STATUS_TSWITCHING : FieldRef := ⟨0x1A0004, 13, 1⟩
abbrev Fld.REF_STATUS_STEP_ADVISED : FieldRef := ⟨0x1A0004, 14, 1⟩
abbrev Fld.REF_STATUS_FTARGET : FieldRef := ⟨0x1A0004, 16, 5⟩
abbrev Reg.REF_CV_LO : Nat := 0x1A0008
abbrev Reg.REF_CV_HI : Nat := 0x1A000C
abbrev Fld.REF_CV_HI_CV : FieldRef := ⟨0x1A000C, 0, 16⟩
abbrev Reg.REF_PHASE_ERR : Nat := 0x1A0010
abbrev Reg.REF_HO_CFG : Nat := 0x1A0020
abbrev Fld.REF_HO_CFG_AVG_S : FieldRef := ⟨0x1A0020, 0, 12⟩
abbrev Fld.REF_HO_CFG_GUARD_S : FieldRef := ⟨0x1A0020, 16, 10⟩
abbrev Fld.REF_HO_CFG_COMP_EN : FieldRef := ⟨0x1A0020, 31, 1⟩
abbrev Reg.REF_HO_CV_LO : Nat := 0x1A0024
abbrev Reg.REF_HO_CV_HI : Nat := 0x1A0028
abbrev Fld.REF_HO_CV_HI_CV : FieldRef := ⟨0x1A0028, 0, 16⟩
abbrev Reg.REF_HO_TIME : Nat := 0x1A002C
abbrev Reg.REF_AGING : Nat := 0x1A0030
abbrev Fld.REF_AGING_RATE : FieldRef := ⟨0x1A0030, 0, 24⟩
abbrev Fld.REF_AGING_LEARNED : FieldRef := ⟨0x1A0030, 31, 1⟩
abbrev Reg.REF_TEMPCO : Nat := 0x1A0034
abbrev Fld.REF_TEMPCO_K : FieldRef := ⟨0x1A0034, 0, 16⟩
abbrev Reg.REF_WICK_CFG : Nat := 0x1A0040
abbrev Fld.REF_WICK_CFG_THR_NS : FieldRef := ⟨0x1A0040, 0, 20⟩
abbrev Reg.REF_WICK_LOW : Nat := 0x1A0044
abbrev Fld.REF_WICK_LOW_S : FieldRef := ⟨0x1A0044, 0, 17⟩
abbrev Reg.REF_WICK : Nat := 0x1A0048
abbrev Reg.REF_VIRT_FREQ_LO : Nat := 0x1A0050
abbrev Reg.REF_VIRT_FREQ_HI : Nat := 0x1A0054
abbrev Fld.REF_VIRT_FREQ_HI_FREQ : FieldRef := ⟨0x1A0054, 0, 16⟩
abbrev Reg.REF_VIRT_CFG : Nat := 0x1A0058
abbrev Fld.REF_VIRT_CFG_TIMEOUT_MS : FieldRef := ⟨0x1A0058, 0, 16⟩
abbrev Reg.REF_TIME_CFG : Nat := 0x1A0060
abbrev Fld.REF_TIME_CFG_TAI_UTC_S : FieldRef := ⟨0x1A0060, 0, 8⟩
abbrev Fld.REF_TIME_CFG_TLOOP_GAIN : FieldRef := ⟨0x1A0060, 8, 8⟩
abbrev Fld.REF_TIME_CFG_STEP_ADV_US : FieldRef := ⟨0x1A0060, 16, 16⟩
abbrev Reg.REF_GNSS_CFG : Nat := 0x1A0064
abbrev Fld.REF_GNSS_CFG_BAUD : FieldRef := ⟨0x1A0064, 0, 2⟩
abbrev Fld.REF_GNSS_CFG_SENT_FOLLOWS : FieldRef := ⟨0x1A0064, 2, 1⟩
abbrev Reg.REF_XPPS_DECL_LO (n : Nat) : Nat := 0x1A0070 + n * 0x8
abbrev Reg.REF_XPPS_DECL_HI (n : Nat) : Nat := 0x1A0074 + n * 0x8
abbrev Fld.REF_XPPS_DECL_HI_SEC (n : Nat) : FieldRef := ⟨0x1A0074 + n * 0x8, 0, 16⟩
abbrev Reg.REF_SWITCH_CNT : Nat := 0x1A0080
abbrev Reg.REF_HOLDOVER_CNT : Nat := 0x1A0084
abbrev Reg.REF_LOCK_LOST_CNT : Nat := 0x1A0088
abbrev Reg.REF_SLOT_CFG (n : Nat) : Nat := 0x1A0100 + n * 0x20
abbrev Fld.REF_SLOT_CFG_ENABLE (n : Nat) : FieldRef := ⟨0x1A0100 + n * 0x20, 0, 1⟩
abbrev Fld.REF_SLOT_CFG_PRIORITY (n : Nat) : FieldRef := ⟨0x1A0100 + n * 0x20, 4, 4⟩
abbrev Fld.REF_SLOT_CFG_LANE (n : Nat) : FieldRef := ⟨0x1A0100 + n * 0x20, 8, 6⟩
abbrev Fld.REF_SLOT_CFG_VALIDATE_S (n : Nat) : FieldRef := ⟨0x1A0100 + n * 0x20, 16, 8⟩
abbrev Reg.REF_SLOT_WTR (n : Nat) : Nat := 0x1A0104 + n * 0x20
abbrev Fld.REF_SLOT_WTR_WTR_S (n : Nat) : FieldRef := ⟨0x1A0104 + n * 0x20, 0, 12⟩
abbrev Reg.REF_SLOT_LIMIT (n : Nat) : Nat := 0x1A0108 + n * 0x20
abbrev Fld.REF_SLOT_LIMIT_LIMIT_PPB (n : Nat) : FieldRef := ⟨0x1A0108 + n * 0x20, 0, 17⟩
abbrev Fld.REF_SLOT_LIMIT_PPS_WIN (n : Nat) : FieldRef := ⟨0x1A0108 + n * 0x20, 20, 12⟩
abbrev Reg.REF_SLOT_LOOP (n : Nat) : Nat := 0x1A010C + n * 0x20
abbrev Fld.REF_SLOT_LOOP_BW_MHZ (n : Nat) : FieldRef := ⟨0x1A010C + n * 0x20, 0, 16⟩
abbrev Reg.REF_SLOT_LOCK (n : Nat) : Nat := 0x1A0110 + n * 0x20
abbrev Fld.REF_SLOT_LOCK_WIN_NS (n : Nat) : FieldRef := ⟨0x1A0110 + n * 0x20, 0, 16⟩
abbrev Fld.REF_SLOT_LOCK_LOCK_N (n : Nat) : FieldRef := ⟨0x1A0110 + n * 0x20, 16, 16⟩
abbrev Reg.REF_SLOT_STATUS (n : Nat) : Nat := 0x1A0114 + n * 0x20
abbrev Fld.REF_SLOT_STATUS_STATE (n : Nat) : FieldRef := ⟨0x1A0114 + n * 0x20, 0, 3⟩
abbrev Fld.REF_SLOT_STATUS_OUTVOTED (n : Nat) : FieldRef := ⟨0x1A0114 + n * 0x20, 3, 1⟩
abbrev Fld.REF_SLOT_STATUS_DISPUTED (n : Nat) : FieldRef := ⟨0x1A0114 + n * 0x20, 4, 1⟩
abbrev Fld.REF_SLOT_STATUS_SELECTED (n : Nat) : FieldRef := ⟨0x1A0114 + n * 0x20, 5, 1⟩
abbrev Fld.REF_SLOT_STATUS_FAULT (n : Nat) : FieldRef := ⟨0x1A0114 + n * 0x20, 8, 4⟩
abbrev Fld.REF_SLOT_STATUS_REMAIN_S (n : Nat) : FieldRef := ⟨0x1A0114 + n * 0x20, 16, 16⟩
abbrev Reg.REF_SLOT_FREQ (n : Nat) : Nat := 0x1A0118 + n * 0x20
abbrev Reg.REF_SLOT_DISQ_CNT (n : Nat) : Nat := 0x1A011C + n * 0x20
abbrev Reg.REF_TSLOT_CFG (n : Nat) : Nat := 0x1A0400 + n * 0x20
abbrev Fld.REF_TSLOT_CFG_ENABLE (n : Nat) : FieldRef := ⟨0x1A0400 + n * 0x20, 0, 1⟩
abbrev Fld.REF_TSLOT_CFG_PRIORITY (n : Nat) : FieldRef := ⟨0x1A0400 + n * 0x20, 4, 4⟩
abbrev Fld.REF_TSLOT_CFG_PTP_PORT (n : Nat) : FieldRef := ⟨0x1A0400 + n * 0x20, 8, 7⟩
abbrev Fld.REF_TSLOT_CFG_VALID (n : Nat) : FieldRef := ⟨0x1A0400 + n * 0x20, 15, 1⟩
abbrev Fld.REF_TSLOT_CFG_VALIDATE_S (n : Nat) : FieldRef := ⟨0x1A0400 + n * 0x20, 16, 8⟩
abbrev Reg.REF_TSLOT_WTR (n : Nat) : Nat := 0x1A0404 + n * 0x20
abbrev Fld.REF_TSLOT_WTR_WTR_S (n : Nat) : FieldRef := ⟨0x1A0404 + n * 0x20, 0, 12⟩
abbrev Reg.REF_TSLOT_QUAL (n : Nat) : Nat := 0x1A0408 + n * 0x20
abbrev Fld.REF_TSLOT_QUAL_CLOCK_CLASS (n : Nat) : FieldRef := ⟨0x1A0408 + n * 0x20, 0, 8⟩
abbrev Fld.REF_TSLOT_QUAL_CLOCK_ACCURACY (n : Nat) : FieldRef := ⟨0x1A0408 + n * 0x20, 8, 8⟩
abbrev Fld.REF_TSLOT_QUAL_OSLV (n : Nat) : FieldRef := ⟨0x1A0408 + n * 0x20, 16, 16⟩
abbrev Reg.REF_TSLOT_CABLE (n : Nat) : Nat := 0x1A040C + n * 0x20
abbrev Reg.REF_TSLOT_STATUS (n : Nat) : Nat := 0x1A0410 + n * 0x20
abbrev Fld.REF_TSLOT_STATUS_STATE (n : Nat) : FieldRef := ⟨0x1A0410 + n * 0x20, 0, 3⟩
abbrev Fld.REF_TSLOT_STATUS_SELECTED (n : Nat) : FieldRef := ⟨0x1A0410 + n * 0x20, 5, 1⟩
abbrev Fld.REF_TSLOT_STATUS_FAULT (n : Nat) : FieldRef := ⟨0x1A0410 + n * 0x20, 8, 4⟩
abbrev Fld.REF_TSLOT_STATUS_REMAIN_S (n : Nat) : FieldRef := ⟨0x1A0410 + n * 0x20, 16, 16⟩
abbrev Reg.REF_TSLOT_OFFSET (n : Nat) : Nat := 0x1A0414 + n * 0x20
abbrev Reg.REF_OUT_CFG : Nat := 0x1A0700
abbrev Fld.REF_OUT_CFG_MIS_THR_PS : FieldRef := ⟨0x1A0700, 0, 16⟩
abbrev Reg.REF_OUT_K_CFG (n : Nat) : Nat := 0x1A0800 + n * 0x40
abbrev Fld.REF_OUT_K_CFG_DRIVE (n : Nat) : FieldRef := ⟨0x1A0800 + n * 0x40, 0, 1⟩
abbrev Fld.REF_OUT_K_CFG_FUNCTION (n : Nat) : FieldRef := ⟨0x1A0800 + n * 0x40, 4, 3⟩
abbrev Fld.REF_OUT_K_CFG_IRIG_FMT (n : Nat) : FieldRef := ⟨0x1A0800 + n * 0x40, 8, 3⟩
abbrev Fld.REF_OUT_K_CFG_IRIG_AM (n : Nat) : FieldRef := ⟨0x1A0800 + n * 0x40, 11, 1⟩
abbrev Fld.REF_OUT_K_CFG_CLK_AUTO (n : Nat) : FieldRef := ⟨0x1A0800 + n * 0x40, 12, 1⟩
abbrev Reg.REF_OUT_FREQ (n : Nat) : Nat := 0x1A0804 + n * 0x40
abbrev Fld.REF_OUT_FREQ_HZ (n : Nat) : FieldRef := ⟨0x1A0804 + n * 0x40, 0, 28⟩
abbrev Reg.REF_OUT_WIDTH (n : Nat) : Nat := 0x1A0808 + n * 0x40
abbrev Fld.REF_OUT_WIDTH_NS (n : Nat) : FieldRef := ⟨0x1A0808 + n * 0x40, 0, 30⟩
abbrev Reg.REF_OUT_MARK (n : Nat) : Nat := 0x1A080C + n * 0x40
abbrev Fld.REF_OUT_MARK_NS (n : Nat) : FieldRef := ⟨0x1A080C + n * 0x40, 0, 30⟩
abbrev Reg.REF_OUT_OFFSET (n : Nat) : Nat := 0x1A0810 + n * 0x40
abbrev Reg.REF_OUT_CLK_SLEW (n : Nat) : Nat := 0x1A0814 + n * 0x40
abbrev Fld.REF_OUT_CLK_SLEW_PPB (n : Nat) : FieldRef := ⟨0x1A0814 + n * 0x40, 0, 20⟩
abbrev Reg.REF_OUT_START_W0 (n : Nat) : Nat := 0x1A0818 + n * 0x40
abbrev Reg.REF_OUT_START_W1 (n : Nat) : Nat := 0x1A081C + n * 0x40
abbrev Reg.REF_OUT_START_W2 (n : Nat) : Nat := 0x1A0820 + n * 0x40
abbrev Reg.REF_OUT_STATUS (n : Nat) : Nat := 0x1A0828 + n * 0x40
abbrev Fld.REF_OUT_STATUS_RUNNING (n : Nat) : FieldRef := ⟨0x1A0828 + n * 0x40, 0, 1⟩
abbrev Fld.REF_OUT_STATUS_DRIVING (n : Nat) : FieldRef := ⟨0x1A0828 + n * 0x40, 1, 1⟩
abbrev Fld.REF_OUT_STATUS_MISALIGNED (n : Nat) : FieldRef := ⟨0x1A0828 + n * 0x40, 2, 1⟩
abbrev Fld.REF_OUT_STATUS_REALIGN_PENDING (n : Nat) : FieldRef := ⟨0x1A0828 + n * 0x40, 3, 1⟩
abbrev Fld.REF_OUT_STATUS_START_PENDING (n : Nat) : FieldRef := ⟨0x1A0828 + n * 0x40, 4, 1⟩
abbrev Reg.REF_OUT_MISALIGN_LO (n : Nat) : Nat := 0x1A082C + n * 0x40
abbrev Reg.REF_OUT_MISALIGN_HI (n : Nat) : Nat := 0x1A0830 + n * 0x40
abbrev Fld.REF_OUT_MISALIGN_HI_M (n : Nat) : FieldRef := ⟨0x1A0830 + n * 0x40, 0, 16⟩

/-! Registers described by R287 of 11_event_timing.md. -/

abbrev Reg.TIC_CFG (n : Nat) : Nat := 0x1B0000 + n * 0x100
abbrev Fld.TIC_CFG_MODE (n : Nat) : FieldRef := ⟨0x1B0000 + n * 0x100, 0, 3⟩
abbrev Fld.TIC_CFG_EDGE_SEL (n : Nat) : FieldRef := ⟨0x1B0000 + n * 0x100, 4, 2⟩
abbrev Fld.TIC_CFG_STOP_EDGE (n : Nat) : FieldRef := ⟨0x1B0000 + n * 0x100, 6, 2⟩
abbrev Fld.TIC_CFG_STOP_SRC (n : Nat) : FieldRef := ⟨0x1B0000 + n * 0x100, 8, 4⟩
abbrev Fld.TIC_CFG_ARM_AUTO (n : Nat) : FieldRef := ⟨0x1B0000 + n * 0x100, 12, 1⟩
abbrev Fld.TIC_CFG_DEST (n : Nat) : FieldRef := ⟨0x1B0000 + n * 0x100, 13, 1⟩
abbrev Fld.TIC_CFG_TERM (n : Nat) : FieldRef := ⟨0x1B0000 + n * 0x100, 14, 1⟩
abbrev Fld.TIC_CFG_CAL_SRC (n : Nat) : FieldRef := ⟨0x1B0000 + n * 0x100, 15, 1⟩
abbrev Fld.TIC_CFG_PRESCALE (n : Nat) : FieldRef := ⟨0x1B0000 + n * 0x100, 16, 4⟩
abbrev Reg.TIC_THRESH (n : Nat) : Nat := 0x1B0004 + n * 0x100
abbrev Fld.TIC_THRESH_THRESH_MV (n : Nat) : FieldRef := ⟨0x1B0004 + n * 0x100, 0, 12⟩
abbrev Fld.TIC_THRESH_HYST (n : Nat) : FieldRef := ⟨0x1B0004 + n * 0x100, 16, 4⟩
abbrev Reg.TIC_TIMEOUT (n : Nat) : Nat := 0x1B0008 + n * 0x100
abbrev Reg.TIC_HOLDOFF (n : Nat) : Nat := 0x1B000C + n * 0x100
abbrev Fld.TIC_HOLDOFF_US (n : Nat) : FieldRef := ⟨0x1B000C + n * 0x100, 0, 16⟩
abbrev Reg.TIC_GATE (n : Nat) : Nat := 0x1B0010 + n * 0x100
abbrev Fld.TIC_GATE_MS (n : Nat) : FieldRef := ⟨0x1B0010 + n * 0x100, 0, 10⟩
abbrev Reg.TIC_CTRL (n : Nat) : Nat := 0x1B0014 + n * 0x100
abbrev Fld.TIC_CTRL_ARM (n : Nat) : FieldRef := ⟨0x1B0014 + n * 0x100, 0, 1⟩
abbrev Fld.TIC_CTRL_DISARM (n : Nat) : FieldRef := ⟨0x1B0014 + n * 0x100, 1, 1⟩
abbrev Reg.TIC_STATUS (n : Nat) : Nat := 0x1B0018 + n * 0x100
abbrev Fld.TIC_STATUS_STATE (n : Nat) : FieldRef := ⟨0x1B0018 + n * 0x100, 0, 2⟩
abbrev Fld.TIC_STATUS_FACTORY_TABLE (n : Nat) : FieldRef := ⟨0x1B0018 + n * 0x100, 2, 1⟩
abbrev Fld.TIC_STATUS_CAL_PENDING (n : Nat) : FieldRef := ⟨0x1B0018 + n * 0x100, 3, 1⟩
abbrev Fld.TIC_STATUS_FIFO_LEVEL (n : Nat) : FieldRef := ⟨0x1B0018 + n * 0x100, 8, 9⟩
abbrev Reg.TIC_EDGES (n : Nat) : Nat := 0x1B0020 + n * 0x100
abbrev Reg.TIC_MISSED (n : Nat) : Nat := 0x1B0024 + n * 0x100
abbrev Reg.TIC_HELDOFF (n : Nat) : Nat := 0x1B0028 + n * 0x100
abbrev Reg.TIC_STOP_EARLY (n : Nat) : Nat := 0x1B002C + n * 0x100
abbrev Reg.TIC_START_EXTRA (n : Nat) : Nat := 0x1B0030 + n * 0x100
abbrev Reg.TIC_TIMEOUTS (n : Nat) : Nat := 0x1B0034 + n * 0x100
abbrev Reg.TIC_RECORDS (n : Nat) : Nat := 0x1B0038 + n * 0x100
abbrev Reg.TIC_LOST (n : Nat) : Nat := 0x1B003C + n * 0x100
abbrev Reg.TIC_CAL_CFG (n : Nat) : Nat := 0x1B0040 + n * 0x100
abbrev Fld.TIC_CAL_CFG_HITS_LOG2 (n : Nat) : FieldRef := ⟨0x1B0040 + n * 0x100, 0, 5⟩
abbrev Reg.TIC_CAL_HITS (n : Nat) : Nat := 0x1B0044 + n * 0x100
abbrev Reg.TIC_CAL_AGE (n : Nat) : Nat := 0x1B0048 + n * 0x100
abbrev Reg.TIC_CAL_IDX (n : Nat) : Nat := 0x1B0050 + n * 0x100
abbrev Fld.TIC_CAL_IDX_BIN (n : Nat) : FieldRef := ⟨0x1B0050 + n * 0x100, 0, 9⟩
abbrev Reg.TIC_CAL_DATA (n : Nat) : Nat := 0x1B0054 + n * 0x100
abbrev Fld.TIC_CAL_DATA_CENTRE (n : Nat) : FieldRef := ⟨0x1B0054 + n * 0x100, 0, 17⟩
abbrev Reg.TIC_MAX_BIN (n : Nat) : Nat := 0x1B0058 + n * 0x100
abbrev Fld.TIC_MAX_BIN_FS (n : Nat) : FieldRef := ⟨0x1B0058 + n * 0x100, 0, 16⟩
abbrev Reg.TIC_IN_DELAY (n : Nat) : Nat := 0x1B005C + n * 0x100
abbrev Reg.TIC_TRIM (n : Nat) : Nat := 0x1B0060 + n * 0x100
abbrev Fld.TIC_TRIM_TRIM (n : Nat) : FieldRef := ⟨0x1B0060 + n * 0x100, 0, 24⟩
abbrev Reg.TIC_RING_BASE_LO : Nat := 0x1B1000
abbrev Fld.TIC_RING_BASE_LO_ADDR_LO : FieldRef := ⟨0x1B1000, 5, 27⟩
abbrev Reg.TIC_RING_BASE_HI : Nat := 0x1B1004
abbrev Reg.TIC_RING_CFG : Nat := 0x1B1008
abbrev Fld.TIC_RING_CFG_SIZE_LOG2 : FieldRef := ⟨0x1B1008, 0, 5⟩
abbrev Fld.TIC_RING_CFG_ENABLE : FieldRef := ⟨0x1B1008, 8, 1⟩
abbrev Reg.TIC_RING_PROD : Nat := 0x1B100C
abbrev Fld.TIC_RING_PROD_PROD : FieldRef := ⟨0x1B100C, 0, 16⟩
abbrev Reg.TIC_RING_CONS : Nat := 0x1B1010
abbrev Fld.TIC_RING_CONS_CONS : FieldRef := ⟨0x1B1010, 0, 16⟩
abbrev Reg.TIC_RING_LOST : Nat := 0x1B1014

/-! Registers described by R302 of 12_calibration.md. -/

abbrev Reg.CAL_CTRL : Nat := 0x1C0000
abbrev Fld.CAL_CTRL_AUTO_EN : FieldRef := ⟨0x1C0000, 0, 1⟩
abbrev Fld.CAL_CTRL_USE_FACTORY : FieldRef := ⟨0x1C0000, 1, 1⟩
abbrev Reg.CAL_STATUS : Nat := 0x1C0004
abbrev Fld.CAL_STATUS_DUE : FieldRef := ⟨0x1C0004, 0, 8⟩
abbrev Fld.CAL_STATUS_ACTIVE : FieldRef := ⟨0x1C0004, 8, 4⟩
abbrev Fld.CAL_STATUS_HELD : FieldRef := ⟨0x1C0004, 12, 1⟩
abbrev Reg.CAL_TYPE_CFG (n : Nat) : Nat := 0x1C0010 + n * 0x4
abbrev Fld.CAL_TYPE_CFG_THRESH_QK (n : Nat) : FieldRef := ⟨0x1C0010 + n * 0x4, 0, 6⟩
abbrev Fld.CAL_TYPE_CFG_AUTO_EN (n : Nat) : FieldRef := ⟨0x1C0010 + n * 0x4, 8, 1⟩
abbrev Fld.CAL_TYPE_CFG_MAX_DEFER_S (n : Nat) : FieldRef := ⟨0x1C0010 + n * 0x4, 16, 9⟩
abbrev Reg.CAL_SENSOR (n : Nat) : Nat := 0x1C0040 + n * 0x4
abbrev Fld.CAL_SENSOR_TEMP (n : Nat) : FieldRef := ⟨0x1C0040 + n * 0x4, 0, 16⟩
abbrev Reg.CAL_PORT_EXT_LOOP : Nat := 0x1C0060
abbrev Reg.CAL_PORT_EXT_RESULT : Nat := 0x1C0064
abbrev Reg.CAL_RUN_CNT : Nat := 0x1C0070
abbrev Reg.CAL_FAIL_CNT : Nat := 0x1C0074
abbrev Reg.CAL_ABANDON_CNT : Nat := 0x1C0078
abbrev Reg.CAL_FORCED_CNT : Nat := 0x1C007C
abbrev Reg.CAL_BEADS : Nat := 0x1C0080
abbrev Reg.CAL_OUT_CFG (n : Nat) : Nat := 0x1C0100 + n * 0x8
abbrev Fld.CAL_OUT_CFG_EXT_TIN (n : Nat) : FieldRef := ⟨0x1C0100 + n * 0x8, 0, 4⟩
abbrev Fld.CAL_OUT_CFG_CABLE_PS (n : Nat) : FieldRef := ⟨0x1C0100 + n * 0x8, 16, 16⟩
abbrev Reg.CAL_OUT_TRIM (n : Nat) : Nat := 0x1C0104 + n * 0x8
abbrev Fld.CAL_OUT_TRIM_FS (n : Nat) : FieldRef := ⟨0x1C0104 + n * 0x8, 0, 16⟩
abbrev Reg.CAL_INST_STATUS (n : Nat) : Nat := 0x1C1000 + n * 0x8
abbrev Fld.CAL_INST_STATUS_STATE (n : Nat) : FieldRef := ⟨0x1C1000 + n * 0x8, 0, 2⟩
abbrev Fld.CAL_INST_STATUS_FORCED (n : Nat) : FieldRef := ⟨0x1C1000 + n * 0x8, 2, 1⟩
abbrev Fld.CAL_INST_STATUS_LAST_FAILED (n : Nat) : FieldRef := ⟨0x1C1000 + n * 0x8, 3, 1⟩
abbrev Fld.CAL_INST_STATUS_LAST_RESULT (n : Nat) : FieldRef := ⟨0x1C1000 + n * 0x8, 4, 4⟩
abbrev Fld.CAL_INST_STATUS_LAST_TEMP (n : Nat) : FieldRef := ⟨0x1C1000 + n * 0x8, 16, 16⟩
abbrev Reg.CAL_INST_AGE (n : Nat) : Nat := 0x1C1004 + n * 0x8

/-! Registers described by R331 of 13_mirrored_pair.md. -/

abbrev Reg.MIR_CFG : Nat := 0x1D0000
abbrev Fld.MIR_CFG_ENABLE : FieldRef := ⟨0x1D0000, 0, 1⟩
abbrev Fld.MIR_CFG_PREFERENCE : FieldRef := ⟨0x1D0000, 4, 4⟩
abbrev Fld.MIR_CFG_FOLLOW : FieldRef := ⟨0x1D0000, 8, 1⟩
abbrev Fld.MIR_CFG_CONFIG : FieldRef := ⟨0x1D0000, 12, 2⟩
abbrev Fld.MIR_CFG_LANE_SEL_GROUPS : FieldRef := ⟨0x1D0000, 16, 4⟩
abbrev Reg.MIR_TIMER : Nat := 0x1D0004
abbrev Fld.MIR_TIMER_HEALTH_HOLD_MS : FieldRef := ⟨0x1D0004, 0, 10⟩
abbrev Fld.MIR_TIMER_EXCH_DRAIN_US : FieldRef := ⟨0x1D0004, 16, 16⟩
abbrev Reg.MIR_STATUS : Nat := 0x1D0008
abbrev Fld.MIR_STATUS_PAIR_STATE : FieldRef := ⟨0x1D0008, 0, 3⟩
abbrev Fld.MIR_STATUS_SLOT_A : FieldRef := ⟨0x1D0008, 3, 1⟩
abbrev Fld.MIR_STATUS_ROLES : FieldRef := ⟨0x1D0008, 4, 5⟩
abbrev Fld.MIR_STATUS_PARTNER_ROLES : FieldRef := ⟨0x1D0008, 9, 5⟩
abbrev Fld.MIR_STATUS_LANES_UP : FieldRef := ⟨0x1D0008, 14, 2⟩
abbrev Fld.MIR_STATUS_DUAL_ACTIVE : FieldRef := ⟨0x1D0008, 16, 1⟩
abbrev Fld.MIR_STATUS_STEP_ADVISED : FieldRef := ⟨0x1D0008, 17, 1⟩
abbrev Fld.MIR_STATUS_HOLD_IN : FieldRef := ⟨0x1D0008, 18, 1⟩
abbrev Fld.MIR_STATUS_READY_IN : FieldRef := ⟨0x1D0008, 19, 1⟩
abbrev Fld.MIR_STATUS_EXCHANGING : FieldRef := ⟨0x1D0008, 20, 1⟩
abbrev Reg.MIR_CLAIM : Nat := 0x1D000C
abbrev Fld.MIR_CLAIM_OWN : FieldRef := ⟨0x1D000C, 0, 16⟩
abbrev Fld.MIR_CLAIM_PARTNER : FieldRef := ⟨0x1D000C, 16, 16⟩
abbrev Reg.MIR_HEALTH : Nat := 0x1D0010
abbrev Fld.MIR_HEALTH_SCORE : FieldRef := ⟨0x1D0010, 0, 8⟩
abbrev Fld.MIR_HEALTH_RAW : FieldRef := ⟨0x1D0010, 8, 8⟩
abbrev Fld.MIR_HEALTH_CAUSES : FieldRef := ⟨0x1D0010, 16, 8⟩
abbrev Reg.MIR_HEARD_AGE : Nat := 0x1D0014
abbrev Reg.MIR_PARTNER_IMG : Nat := 0x1D0018
abbrev Reg.MIR_SH_PORTS_LO : Nat := 0x1D001C
abbrev Reg.MIR_SH_PORTS_HI : Nat := 0x1D0020
abbrev Reg.MIR_OFFSET_SEQ : Nat := 0x1D0024
abbrev Fld.MIR_OFFSET_SEQ_BLOCK : FieldRef := ⟨0x1D0024, 0, 16⟩
abbrev Fld.MIR_OFFSET_SEQ_VALID : FieldRef := ⟨0x1D0024, 16, 1⟩
abbrev Fld.MIR_OFFSET_SEQ_NEW : FieldRef := ⟨0x1D0024, 24, 1⟩
abbrev Reg.MIR_OFFSET_LO : Nat := 0x1D0028
abbrev Reg.MIR_OFFSET_HI : Nat := 0x1D002C
abbrev Fld.MIR_OFFSET_HI_THETA : FieldRef := ⟨0x1D002C, 0, 16⟩
abbrev Reg.MIR_DELAY_LO : Nat := 0x1D0030
abbrev Reg.MIR_DELAY_HI : Nat := 0x1D0034
abbrev Fld.MIR_DELAY_HI_D : FieldRef := ⟨0x1D0034, 0, 16⟩
abbrev Reg.MIR_ASYM_LO : Nat := 0x1D0038
abbrev Reg.MIR_ASYM_HI : Nat := 0x1D003C
abbrev Fld.MIR_ASYM_HI_ASYM : FieldRef := ⟨0x1D003C, 0, 16⟩
abbrev Reg.MIR_TIME_CFG : Nat := 0x1D0040
abbrev Fld.MIR_TIME_CFG_GAIN : FieldRef := ⟨0x1D0040, 0, 8⟩
abbrev Fld.MIR_TIME_CFG_STEP_ADV_US : FieldRef := ⟨0x1D0040, 16, 16⟩
abbrev Reg.MIR_PTIME_STATE : Nat := 0x1D0044
abbrev Fld.MIR_PTIME_STATE_DPLL_STATE : FieldRef := ⟨0x1D0044, 0, 3⟩
abbrev Fld.MIR_PTIME_STATE_FSEL : FieldRef := ⟨0x1D0044, 3, 5⟩
abbrev Fld.MIR_PTIME_STATE_TSEL : FieldRef := ⟨0x1D0044, 8, 5⟩
abbrev Fld.MIR_PTIME_STATE_HOLDOVER : FieldRef := ⟨0x1D0044, 13, 1⟩
abbrev Fld.MIR_PTIME_STATE_WARMING : FieldRef := ⟨0x1D0044, 14, 1⟩
abbrev Reg.MIR_PTIME_WICK : Nat := 0x1D0048
abbrev Reg.MIR_PTIME_HO : Nat := 0x1D004C
abbrev Reg.MIR_TAKEOVER_CNT : Nat := 0x1D0050
abbrev Reg.MIR_DUAL_CNT : Nat := 0x1D0054
abbrev Reg.MIR_DUAL_MAX_US : Nat := 0x1D0058
abbrev Reg.MIR_MSG_TX : Nat := 0x1D005C
abbrev Reg.MIR_MSG_RX : Nat := 0x1D0060
abbrev Reg.MIR_MSG_BAD : Nat := 0x1D0064
abbrev Reg.MIR_SYNC_CNT : Nat := 0x1D0068
abbrev Reg.MIR_EXCH_CNT : Nat := 0x1D006C
abbrev Reg.MIR_STBY_RX_FRAMES (n : Nat) : Nat := 0x1D0070 + n * 0x4
abbrev Reg.MIR_HOST_STATE (n : Nat) : Nat := 0x1D0100 + n * 0x4
abbrev Reg.MIR_PARTNER_HOST_STATE (n : Nat) : Nat := 0x1D0200 + n * 0x4
abbrev Reg.MIR_PJ_IDX : Nat := 0x1D0300
abbrev Fld.MIR_PJ_IDX_TAG : FieldRef := ⟨0x1D0300, 0, 9⟩
abbrev Reg.MIR_PJ_STATE : Nat := 0x1D0304
abbrev Fld.MIR_PJ_STATE_STATE : FieldRef := ⟨0x1D0304, 0, 2⟩
abbrev Fld.MIR_PJ_STATE_RING : FieldRef := ⟨0x1D0304, 2, 2⟩
abbrev Fld.MIR_PJ_STATE_OPCODE : FieldRef := ⟨0x1D0304, 16, 16⟩
abbrev Reg.MIR_PJ_COOKIE_LO : Nat := 0x1D0308
abbrev Reg.MIR_PJ_COOKIE_HI : Nat := 0x1D030C

end Sys2Proof.Machine
end

