-- ==== Sys2Proof/Machine/RegMap.lean ====
section
/-! DEFINITION. The register map of R391: every register's place, instances, access codes, reset value and
the range its field table states, as data, one row per row of the manual's tables. -/

namespace Sys2Proof.Machine

/-- Access codes of R9. -/
inductive Access where
  | ro | rw | w1c | w1s | ros | rwt
  deriving DecidableEq, Repr

/-- A reset value of R391: one number, a number that depends on the instance, or `elsewhere` where the column
says image, factory, as stored, derived or a strap (the field then starts as 0 and takes its value where that
source is read). -/
inductive ResetVal where
  | val (n : Nat)
  | bufRsv | taskDefer | calThr | calDefer | slotWin | slotBw | slotLockWin | slotLockN
  | elsewhere
  deriving DecidableEq, Repr

/-- One field: bits, access code, reset value and, where the table states one, its range. -/
structure FieldDesc where
  name : String
  lo : Nat
  width : Nat
  acc : Access
  reset : ResetVal
  range : Option (Int × Int)
  deriving DecidableEq, Repr

/-- One row of the register map. `word` of `words` is its place in a value held in several registers (R387). -/
structure RegRow where
  name : String
  base : Nat
  strideN : Nat
  firstN : Nat
  countN : Nat
  strideK : Nat
  countK : Nat
  word : Nat
  words : Nat
  fields : List FieldDesc
  deriving DecidableEq, Repr


/-- Rows of block GEN (R391). -/
def mapGEN : List RegRow :=
  [
  ⟨"GEN_ID", 0x0, 0x0, 0, 1, 0x0, 1, 0, 1, [⟨"PART", 0, 16, .ro, .val 25664, none⟩,
    ⟨"GRADE", 16, 4, .ro, .elsewhere, none⟩,
    ⟨"STEPPING", 20, 8, .ro, .val 66, none⟩]⟩,
  ⟨"GEN_RESET_CTRL", 0x10, 0x0, 0, 1, 0x0, 1, 0, 1, [⟨"MODULE", 0, 1, .w1s, .val 0, none⟩,
    ⟨"CORE", 1, 1, .w1s, .val 0, none⟩,
    ⟨"CONTROLLER", 2, 1, .w1s, .val 0, none⟩,
    ⟨"KEY", 8, 8, .rw, .val 0, none⟩]⟩,
  ⟨"GEN_RESET_CAUSE", 0x14, 0x0, 0, 1, 0x0, 1, 0, 1, [⟨"CAUSE", 0, 4, .ro, .val 0, none⟩,
    ⟨"CLEARED", 16, 13, .ro, .val 8191, none⟩]⟩,
  ⟨"GEN_RESET_CNT", 0x18, 0x0, 0, 1, 0x0, 1, 0, 1, [⟨"COUNT", 0, 32, .ro, .val 0, none⟩]⟩,
  ⟨"GEN_UPTIME_S", 0x1C, 0x0, 0, 1, 0x0, 1, 0, 1, [⟨"S", 0, 32, .ro, .val 0, none⟩]⟩,
  ⟨"GEN_BOOT_STATUS", 0x20, 0x0, 0, 1, 0x0, 1, 0, 1, [⟨"STAGE", 0, 3, .ro, .val 0, none⟩,
    ⟨"FALLBACK_USED", 3, 1, .ro, .val 0, none⟩]⟩,
  ⟨"GEN_HOTPLUG", 0x24, 0x0, 0, 1, 0x0, 1, 0, 1, [⟨"EJECT_REQ", 0, 1, .ro, .val 0, none⟩,
    ⟨"PRES", 1, 2, .ro, .val 0, none⟩,
    ⟨"EJECTING", 3, 1, .ro, .val 0, none⟩,
    ⟨"READY", 4, 1, .ro, .val 0, none⟩,
    ⟨"EJECT", 8, 1, .w1s, .val 0, none⟩,
    ⟨"EJECT_DRAIN_MS", 16, 8, .rw, .val 10, some (1, 100)⟩]⟩,
  ⟨"GEN_DOMAIN_CTRL", 0x28, 0x0, 0, 1, 0x0, 1, 0, 1, [⟨"AUTO_RESTORE", 0, 1, .rw, .val 1, none⟩,
    ⟨"RESTORE", 16, 13, .w1s, .val 0, none⟩]⟩,
  ⟨"GEN_DOMAIN_GIVEN_UP", 0x2C, 0x0, 0, 1, 0x0, 1, 0, 1, [⟨"DOMAINS", 0, 13, .ro, .val 0, none⟩]⟩,
  ⟨"GEN_CORE_RX_DROP", 0x40, 0x4, 0, 4, 0x0, 1, 0, 1, [⟨"COUNT", 0, 32, .ro, .val 0, none⟩]⟩,
  ⟨"GEN_LAMP", 0x50, 0x0, 0, 1, 0x0, 1, 0, 1, [⟨"ON", 0, 4, .ro, .val 0, none⟩]⟩]

/-- Rows of block PWR (R391). -/
def mapPWR : List RegRow :=
  [
  ⟨"PWR_CTRL", 0x10000, 0x0, 0, 1, 0x0, 1, 0, 1, [⟨"RAIL_SAVE", 0, 1, .rw, .val 1, none⟩]⟩,
  ⟨"PWR_ENVELOPE", 0x10004, 0x0, 0, 1, 0x0, 1, 0, 1, [⟨"BEADS", 0, 10, .rwt, .val 600, some (100, 780)⟩]⟩,
  ⟨"PWR_STATUS", 0x10008, 0x0, 0, 1, 0x0, 1, 0, 1, [⟨"GOV_STEP", 0, 2, .ro, .val 0, none⟩,
    ⟨"THROTTLE", 2, 4, .ro, .val 0, none⟩,
    ⟨"THERM_WARN", 6, 1, .ro, .val 0, none⟩,
    ⟨"MAIN_WARN", 7, 1, .ro, .val 0, none⟩,
    ⟨"AUX_WARN", 8, 1, .ro, .val 0, none⟩,
    ⟨"SHORT", 9, 1, .ro, .val 0, none⟩,
    ⟨"TRIP_LAST", 10, 1, .ros, .val 0, none⟩]⟩,
  ⟨"PWR_DOMAIN_PLAN", 0x1000C, 0x0, 0, 1, 0x0, 1, 0, 1, [⟨"PLAN", 0, 13, .ro, .elsewhere, none⟩]⟩,
  ⟨"PWR_DOMAIN_ON", 0x10010, 0x0, 0, 1, 0x0, 1, 0, 1, [⟨"ON", 0, 13, .ro, .val 1, none⟩]⟩,
  ⟨"PWR_DOMAIN_FAULT", 0x10014, 0x0, 0, 1, 0x0, 1, 0, 1, [⟨"FAULT", 0, 13, .ros, .val 0, none⟩]⟩,
  ⟨"PWR_TALLY_SEQ", 0x10020, 0x0, 0, 1, 0x0, 1, 0, 1, [⟨"COUNT", 0, 32, .ro, .val 0, none⟩]⟩,
  ⟨"PWR_TALLY_LAST", 0x10024, 0x0, 0, 1, 0x0, 1, 0, 1, [⟨"TOTAL", 0, 16, .ro, .val 0, none⟩,
    ⟨"SPARE", 16, 16, .ro, .val 0, none⟩]⟩,
  ⟨"PWR_TALLY_BG", 0x10028, 0x0, 0, 1, 0x0, 1, 0, 1, [⟨"CHARGED", 0, 16, .ro, .val 0, none⟩,
    ⟨"DEFERRED", 16, 16, .ro, .val 0, none⟩]⟩,
  ⟨"PWR_OVER_CNT", 0x1002C, 0x0, 0, 1, 0x0, 1, 0, 1, [⟨"COUNT", 0, 32, .ro, .val 0, none⟩]⟩,
  ⟨"PWR_SHORT_CNT", 0x10030, 0x0, 0, 1, 0x0, 1, 0, 1, [⟨"COUNT", 0, 32, .ro, .val 0, none⟩]⟩,
  ⟨"PWR_CORE_RAIL", 0x10040, 0x0, 0, 1, 0x0, 1, 0, 1, [⟨"MV", 0, 10, .ro, .val 800, none⟩,
    ⟨"FLOOR_MV", 16, 10, .ro, .val 720, none⟩]⟩,
  ⟨"PWR_THERM_CFG", 0x10050, 0x0, 0, 1, 0x0, 1, 0, 1, [⟨"WARN_C", 0, 8, .rw, .val 105, some (60, 109)⟩,
    ⟨"HYST_K", 8, 4, .rw, .val 3, some (1, 10)⟩]⟩,
  ⟨"PWR_THERM_STATUS", 0x10054, 0x0, 0, 1, 0x0, 1, 0, 1, [⟨"TJ", 0, 16, .ro, .val 0, none⟩,
    ⟨"SENSOR", 16, 4, .ro, .val 0, none⟩]⟩,
  ⟨"PWR_CORE_TEMP", 0x10058, 0x4, 0, 4, 0x0, 1, 0, 1, [⟨"TEMP", 0, 16, .ro, .val 0, none⟩]⟩,
  ⟨"PWR_GOV_STEP_CNT", 0x10070, 0x0, 0, 1, 0x0, 1, 0, 1, [⟨"COUNT", 0, 32, .ro, .val 0, none⟩]⟩,
  ⟨"PWR_GOV_STEP3_MS", 0x10074, 0x0, 0, 1, 0x0, 1, 0, 1, [⟨"MS", 0, 32, .ro, .val 0, none⟩]⟩,
  ⟨"PWR_SUPPLY", 0x10080, 0x0, 0, 1, 0x0, 1, 0, 1, [⟨"MAIN12_MV", 0, 16, .ro, .val 0, none⟩,
    ⟨"AUX3_MV", 16, 16, .ro, .val 0, none⟩]⟩,
  ⟨"PWR_SUPPLY_MIN", 0x10084, 0x0, 0, 1, 0x0, 1, 0, 1, [⟨"MAIN12_MV", 0, 16, .ro, .val 65535, none⟩,
    ⟨"AUX3_MV", 16, 16, .ro, .val 65535, none⟩]⟩,
  ⟨"PWR_SUPPLY_CTRL", 0x10088, 0x0, 0, 1, 0x0, 1, 0, 1, [⟨"MIN_RESET", 0, 1, .w1s, .val 0, none⟩]⟩,
  ⟨"PWR_WARN_CNT", 0x1008C, 0x0, 0, 1, 0x0, 1, 0, 1, [⟨"COUNT", 0, 32, .ro, .val 0, none⟩]⟩,
  ⟨"PWR_WARN_MAX_US", 0x10090, 0x0, 0, 1, 0x0, 1, 0, 1, [⟨"US", 0, 32, .ro, .val 0, none⟩]⟩,
  ⟨"PWR_OSC", 0x100A0, 0x0, 0, 1, 0x0, 1, 0, 1, [⟨"OVEN_MW", 0, 13, .ro, .val 0, none⟩,
    ⟨"WARM", 16, 1, .ro, .val 0, none⟩]⟩,
  ⟨"PWR_OSC_WARM_S", 0x100A4, 0x0, 0, 1, 0x0, 1, 0, 1, [⟨"S", 0, 32, .ro, .val 0, none⟩]⟩,
  ⟨"PWR_DOMAIN_BEADS", 0x10100, 0x4, 0, 13, 0x0, 1, 0, 1, [⟨"LAST", 0, 16, .ro, .val 0, none⟩]⟩,
  ⟨"PWR_DOMAIN_JOULES", 0x10140, 0x4, 0, 13, 0x0, 1, 0, 1, [⟨"COUNT", 0, 32, .ro, .val 0, none⟩]⟩,
  ⟨"PWR_TASK_CFG", 0x10200, 0x10, 0, 5, 0x0, 1, 0, 1, [⟨"MAX_DEFER_S", 0, 12, .rw, .taskDefer, some (1, 3600)⟩]⟩,
  ⟨"PWR_TASK_STATUS", 0x10204, 0x10, 0, 5, 0x0, 1, 0, 1, [⟨"WAIT_S", 0, 16, .ro, .val 0, none⟩,
    ⟨"AT_LIMIT", 16, 1, .ro, .val 0, none⟩]⟩,
  ⟨"PWR_TASK_BEADS", 0x10208, 0x10, 0, 5, 0x0, 1, 0, 1, [⟨"COUNT", 0, 32, .ro, .val 0, none⟩]⟩,
  ⟨"PWR_TASK_FORCED", 0x1020C, 0x10, 0, 5, 0x0, 1, 0, 1, [⟨"COUNT", 0, 32, .ro, .val 0, none⟩]⟩]

/-- Rows of block HIF (R391). -/
def mapHIF1 : List RegRow :=
  [
  ⟨"HIF_CTRL", 0x20000, 0x0, 0, 1, 0x0, 1, 0, 1, [⟨"RUN", 0, 1, .rw, .val 0, none⟩]⟩,
  ⟨"HIF_STATUS", 0x20004, 0x0, 0, 1, 0x0, 1, 0, 1, [⟨"TAGS_IN_FLIGHT", 0, 10, .ro, .val 0, none⟩,
    ⟨"CQ_FULL", 10, 1, .ro, .val 0, none⟩,
    ⟨"REPLAY_PENDING", 11, 1, .ro, .val 0, none⟩]⟩,
  ⟨"HIF_DMA_ERR_CNT", 0x20008, 0x0, 0, 1, 0x0, 1, 0, 1, [⟨"COUNT", 0, 32, .ro, .val 0, none⟩]⟩,
  ⟨"HIF_MALFORMED_CNT", 0x2000C, 0x0, 0, 1, 0x0, 1, 0, 1, [⟨"COUNT", 0, 32, .ro, .val 0, none⟩]⟩,
  ⟨"HIF_SQ_BASE_LO", 0x20100, 0x20, 0, 4, 0x0, 1, 0, 2, [⟨"ADDR_LO", 6, 26, .rw, .val 0, none⟩]⟩,
  ⟨"HIF_SQ_BASE_HI", 0x20104, 0x20, 0, 4, 0x0, 1, 1, 2, [⟨"ADDR_HI", 0, 32, .rw, .val 0, none⟩]⟩,
  ⟨"HIF_SQ_CFG", 0x20108, 0x20, 0, 4, 0x0, 1, 0, 1, [⟨"SIZE_LOG2", 0, 4, .rw, .val 4, some (4, 12)⟩,
    ⟨"WEIGHT", 4, 4, .rw, .val 1, some (1, 15)⟩,
    ⟨"ENABLE", 8, 1, .rw, .val 0, none⟩]⟩,
  ⟨"HIF_SQ_TAIL", 0x2010C, 0x20, 0, 4, 0x0, 1, 0, 1, [⟨"TAIL", 0, 12, .rw, .val 0, none⟩]⟩,
  ⟨"HIF_SQ_HEAD", 0x20110, 0x20, 0, 4, 0x0, 1, 0, 1, [⟨"HEAD", 0, 12, .ro, .val 0, none⟩]⟩,
  ⟨"HIF_CQ_BASE_LO", 0x20200, 0x0, 0, 1, 0x0, 1, 0, 2, [⟨"ADDR_LO", 5, 27, .rw, .val 0, none⟩]⟩,
  ⟨"HIF_CQ_BASE_HI", 0x20204, 0x0, 0, 1, 0x0, 1, 1, 2, [⟨"ADDR_HI", 0, 32, .rw, .val 0, none⟩]⟩,
  ⟨"HIF_CQ_CFG", 0x20208, 0x0, 0, 1, 0x0, 1, 0, 1, [⟨"SIZE_LOG2", 0, 4, .rw, .val 9, some (9, 13)⟩,
    ⟨"ENABLE", 8, 1, .rw, .val 0, none⟩]⟩,
  ⟨"HIF_CQ_HEAD", 0x2020C, 0x0, 0, 1, 0x0, 1, 0, 1, [⟨"HEAD", 0, 13, .rw, .val 0, none⟩]⟩,
  ⟨"HIF_CQ_TAIL", 0x20210, 0x0, 0, 1, 0x0, 1, 0, 1, [⟨"TAIL", 0, 13, .ro, .val 0, none⟩,
    ⟨"PHASE", 16, 1, .ro, .val 1, none⟩]⟩,
  ⟨"HIF_CPU_TX_BASE_LO", 0x20300, 0x0, 0, 1, 0x0, 1, 0, 2, [⟨"ADDR_LO", 5, 27, .rw, .val 0, none⟩]⟩,
  ⟨"HIF_CPU_TX_BASE_HI", 0x20304, 0x0, 0, 1, 0x0, 1, 1, 2, [⟨"ADDR_HI", 0, 32, .rw, .val 0, none⟩]⟩,
  ⟨"HIF_CPU_TX_CFG", 0x20308, 0x0, 0, 1, 0x0, 1, 0, 1, [⟨"SIZE_LOG2", 0, 4, .rw, .val 8, some (8, 12)⟩,
    ⟨"ENABLE", 8, 1, .rw, .val 0, none⟩]⟩,
  ⟨"HIF_CPU_TX_TAIL", 0x2030C, 0x0, 0, 1, 0x0, 1, 0, 1, [⟨"TAIL", 0, 12, .rw, .val 0, none⟩]⟩,
  ⟨"HIF_CPU_TX_HEAD", 0x20310, 0x0, 0, 1, 0x0, 1, 0, 1, [⟨"HEAD", 0, 12, .ro, .val 0, none⟩]⟩,
  ⟨"HIF_CPU_RX_BASE_LO", 0x20320, 0x0, 0, 1, 0x0, 1, 0, 2, [⟨"ADDR_LO", 5, 27, .rw, .val 0, none⟩]⟩,
  ⟨"HIF_CPU_RX_BASE_HI", 0x20324, 0x0, 0, 1, 0x0, 1, 1, 2, [⟨"ADDR_HI", 0, 32, .rw, .val 0, none⟩]⟩,
  ⟨"HIF_CPU_RX_CFG", 0x20328, 0x0, 0, 1, 0x0, 1, 0, 1, [⟨"SIZE_LOG2", 0, 4, .rw, .val 8, some (8, 12)⟩,
    ⟨"BUF_SIZE", 4, 2, .rw, .val 0, some (0, 2)⟩,
    ⟨"ENABLE", 8, 1, .rw, .val 0, none⟩]⟩,
  ⟨"HIF_CPU_RX_TAIL", 0x2032C, 0x0, 0, 1, 0x0, 1, 0, 1, [⟨"TAIL", 0, 12, .rw, .val 0, none⟩]⟩,
  ⟨"HIF_CPU_RX_HEAD", 0x20330, 0x0, 0, 1, 0x0, 1, 0, 1, [⟨"HEAD", 0, 12, .ro, .val 0, none⟩]⟩,
  ⟨"HIF_SMP_BASE_LO", 0x20400, 0x0, 0, 1, 0x0, 1, 0, 2, [⟨"ADDR_LO", 6, 26, .rw, .val 0, none⟩]⟩,
  ⟨"HIF_SMP_BASE_HI", 0x20404, 0x0, 0, 1, 0x0, 1, 1, 2, [⟨"ADDR_HI", 0, 32, .rw, .val 0, none⟩]⟩,
  ⟨"HIF_SMP_CFG", 0x20408, 0x0, 0, 1, 0x0, 1, 0, 1, [⟨"SIZE_LOG2", 0, 4, .rw, .val 6, some (6, 14)⟩,
    ⟨"ENABLE", 8, 1, .rw, .val 0, none⟩]⟩,
  ⟨"HIF_SMP_PROD", 0x2040C, 0x0, 0, 1, 0x0, 1, 0, 1, [⟨"PROD", 0, 14, .ro, .val 0, none⟩]⟩,
  ⟨"HIF_SMP_CONS", 0x20410, 0x0, 0, 1, 0x0, 1, 0, 1, [⟨"CONS", 0, 14, .rw, .val 0, none⟩]⟩,
  ⟨"HIF_SMP_LOST", 0x20414, 0x0, 0, 1, 0x0, 1, 0, 1, [⟨"COUNT", 0, 32, .ro, .val 0, none⟩]⟩]

/-- Rows of block HIF (R391). -/
def mapHIF2 : List RegRow :=
  [
  ⟨"HIF_MSIX_MOD", 0x20500, 0x4, 0, 8, 0x0, 1, 0, 1, [⟨"COUNT", 0, 8, .rw, .val 1, some (1, 255)⟩,
    ⟨"HOLDOFF_US", 16, 10, .rw, .val 0, some (0, 1000)⟩]⟩,
  ⟨"HIF_MSIX_ADDR_LO", 0x2F000, 0x10, 0, 8, 0x0, 1, 0, 1, [⟨"ADDR", 2, 30, .rw, .val 0, none⟩]⟩,
  ⟨"HIF_MSIX_ADDR_HI", 0x2F004, 0x10, 0, 8, 0x0, 1, 0, 1, [⟨"ADDR", 0, 32, .rw, .val 0, none⟩]⟩,
  ⟨"HIF_MSIX_DATA", 0x2F008, 0x10, 0, 8, 0x0, 1, 0, 1, [⟨"DATA", 0, 32, .rw, .val 0, none⟩]⟩,
  ⟨"HIF_MSIX_CTRL", 0x2F00C, 0x10, 0, 8, 0x0, 1, 0, 1, [⟨"MASK", 0, 1, .rw, .val 1, none⟩]⟩,
  ⟨"HIF_MSIX_PBA_LO", 0x2F800, 0x0, 0, 1, 0x0, 1, 0, 1, [⟨"PENDING", 0, 8, .ro, .val 0, none⟩]⟩,
  ⟨"HIF_MSIX_PBA_HI", 0x2F804, 0x0, 0, 1, 0x0, 1, 0, 1, []⟩]

/-- All rows of block HIF. -/
def mapHIF : List RegRow := mapHIF1 ++ mapHIF2

/-- Rows of block EVT (R391). -/
def mapEVT : List RegRow :=
  [
  ⟨"EVT_Q_BASE_LO", 0x30000, 0x0, 0, 1, 0x0, 1, 0, 2, [⟨"ADDR_LO", 6, 26, .rw, .val 0, none⟩]⟩,
  ⟨"EVT_Q_BASE_HI", 0x30004, 0x0, 0, 1, 0x0, 1, 1, 2, [⟨"ADDR_HI", 0, 32, .rw, .val 0, none⟩]⟩,
  ⟨"EVT_Q_CFG", 0x30008, 0x0, 0, 1, 0x0, 1, 0, 1, [⟨"SIZE_LOG2", 0, 5, .rw, .val 6, some (6, 16)⟩,
    ⟨"ENABLE", 8, 1, .rw, .val 0, none⟩,
    ⟨"URGENT_SEV", 9, 3, .rw, .val 2, some (0, 4)⟩,
    ⟨"SHADOW_EN", 12, 1, .rw, .val 1, none⟩]⟩,
  ⟨"EVT_Q_PROD", 0x3000C, 0x0, 0, 1, 0x0, 1, 0, 1, [⟨"PROD", 0, 16, .ro, .val 0, none⟩]⟩,
  ⟨"EVT_Q_CONS", 0x30010, 0x0, 0, 1, 0x0, 1, 0, 1, [⟨"CONS", 0, 16, .rw, .val 0, none⟩]⟩,
  ⟨"EVT_SEQ", 0x30014, 0x0, 0, 1, 0x0, 1, 0, 1, [⟨"NEXT_SEQ", 0, 32, .ro, .val 0, none⟩]⟩,
  ⟨"EVT_LOST", 0x30018, 0x0, 0, 1, 0x0, 1, 0, 1, [⟨"COUNT", 0, 32, .ro, .val 0, none⟩]⟩,
  ⟨"EVT_MASK", 0x30020, 0x4, 0, 3, 0x0, 1, 0, 1, [⟨"MASK", 0, 32, .rw, .val 0, none⟩]⟩,
  ⟨"EVT_SRC_CNT", 0x30100, 0x4, 0, 96, 0x0, 1, 0, 1, [⟨"COUNT", 0, 32, .ro, .val 0, none⟩]⟩]

/-- Rows of block TXN (R391). -/
def mapTXN : List RegRow :=
  [
  ⟨"TXN_CTRL", 0x40000, 0x0, 0, 1, 0x0, 1, 0, 1, [⟨"DRAIN_LIMIT_MS", 0, 16, .rw, .val 0, some (0, 60000)⟩,
    ⟨"MIN_LEAD_US", 16, 10, .rw, .val 10, some (10, 1000)⟩]⟩,
  ⟨"TXN_STATUS", 0x40004, 0x0, 0, 1, 0x0, 1, 0, 1, [⟨"STATE", 0, 3, .ro, .val 0, none⟩,
    ⟨"IN_DOUBT", 3, 1, .ro, .val 0, none⟩]⟩,
  ⟨"TXN_OPEN_ID", 0x40008, 0x0, 0, 1, 0x0, 1, 0, 1, [⟨"ID", 0, 32, .ro, .val 0, none⟩]⟩,
  ⟨"TXN_STAGED", 0x4000C, 0x0, 0, 1, 0x0, 1, 0, 1, [⟨"REGS", 0, 13, .ro, .val 0, none⟩,
    ⟨"TBL_OPS", 16, 15, .ro, .val 0, none⟩]⟩,
  ⟨"TXN_EPOCH", 0x40010, 0x0, 0, 1, 0x0, 1, 0, 1, [⟨"EPOCH", 0, 32, .ro, .val 0, none⟩]⟩,
  ⟨"TXN_OLDER_FRAMES", 0x40014, 0x0, 0, 1, 0x0, 1, 0, 1, [⟨"COUNT", 0, 20, .ro, .val 0, none⟩]⟩,
  ⟨"TXN_AT_W0", 0x40018, 0x0, 0, 1, 0x0, 1, 0, 3, [⟨"AT", 0, 32, .ro, .val 0, none⟩]⟩,
  ⟨"TXN_AT_W1", 0x4001C, 0x0, 0, 1, 0x0, 1, 1, 3, [⟨"AT", 0, 32, .ro, .val 0, none⟩]⟩,
  ⟨"TXN_AT_W2", 0x40020, 0x0, 0, 1, 0x0, 1, 2, 3, [⟨"AT", 0, 32, .ro, .val 0, none⟩]⟩,
  ⟨"TXN_DRAIN_MAX_US", 0x40024, 0x0, 0, 1, 0x0, 1, 0, 1, [⟨"US", 0, 32, .ro, .val 0, none⟩]⟩,
  ⟨"TXN_COMMIT_CNT", 0x40028, 0x0, 0, 1, 0x0, 1, 0, 1, [⟨"COUNT", 0, 32, .ro, .val 0, none⟩]⟩,
  ⟨"TXN_ROLLBACK_CNT", 0x4002C, 0x0, 0, 1, 0x0, 1, 0, 1, [⟨"COUNT", 0, 32, .ro, .val 0, none⟩]⟩,
  ⟨"TXN_MISSED_CNT", 0x40030, 0x0, 0, 1, 0x0, 1, 0, 1, [⟨"COUNT", 0, 32, .ro, .val 0, none⟩]⟩,
  ⟨"TXN_RESTRUCT_DISCARD", 0x40034, 0x0, 0, 1, 0x0, 1, 0, 1, [⟨"COUNT", 0, 32, .ro, .val 0, none⟩]⟩,
  ⟨"TXN_RESTRUCT_RX_DROP", 0x40038, 0x0, 0, 1, 0x0, 1, 0, 1, [⟨"COUNT", 0, 32, .ro, .val 0, none⟩]⟩,
  ⟨"TXN_IMG_ACTIVE_ID", 0x40040, 0x0, 0, 1, 0x0, 1, 0, 1, [⟨"ID", 0, 32, .ro, .val 0, none⟩]⟩,
  ⟨"TXN_IMG_ACTIVE_VER", 0x40044, 0x0, 0, 1, 0x0, 1, 0, 1, [⟨"VERSION", 0, 32, .ro, .val 0, none⟩]⟩,
  ⟨"TXN_IMG_SRC", 0x40048, 0x0, 0, 1, 0x0, 1, 0, 1, [⟨"SRC", 0, 2, .ro, .val 0, none⟩]⟩,
  ⟨"TXN_IMG_SLOT_ID", 0x40050, 0x10, 0, 2, 0x0, 1, 0, 1, [⟨"ID", 0, 32, .ro, .val 0, none⟩]⟩,
  ⟨"TXN_IMG_SLOT_VER", 0x40054, 0x10, 0, 2, 0x0, 1, 0, 1, [⟨"VERSION", 0, 32, .ro, .val 0, none⟩]⟩,
  ⟨"TXN_IMG_SLOT_STATE", 0x40058, 0x10, 0, 2, 0x0, 1, 0, 1, [⟨"STATE", 0, 2, .ro, .val 0, none⟩,
    ⟨"REASON", 4, 8, .ro, .val 0, none⟩]⟩,
  ⟨"TXN_BOOT_CFG", 0x40070, 0x0, 0, 1, 0x0, 1, 0, 1, [⟨"PREFERRED", 0, 1, .rw, .elsewhere, none⟩,
    ⟨"FALLBACK_EN", 1, 1, .rw, .elsewhere, none⟩]⟩,
  ⟨"TXN_ANTIROLL", 0x40074, 0x0, 0, 1, 0x0, 1, 0, 1, [⟨"COUNTER", 0, 6, .ro, .elsewhere, none⟩]⟩,
  ⟨"TXN_KEY_STATE", 0x40080, 0x4, 0, 4, 0x0, 1, 0, 1, [⟨"STATE", 0, 2, .ro, .elsewhere, none⟩,
    ⟨"FINGERPRINT", 8, 24, .ro, .elsewhere, none⟩]⟩]

/-- Rows of block LAN (R391). -/
def mapLAN : List RegRow :=
  [
  ⟨"LAN_TX_FIR", 0x80000, 0x400, 0, 64, 0x0, 1, 0, 1, [⟨"PRE", 0, 6, .rw, .val 4, none⟩,
    ⟨"MAIN", 8, 6, .rw, .val 50, some (24, 63)⟩,
    ⟨"POST", 16, 6, .rw, .val 9, none⟩]⟩,
  ⟨"LAN_TX_CTRL", 0x80004, 0x400, 0, 64, 0x0, 1, 0, 1, [⟨"POLARITY_INV", 0, 1, .rw, .val 0, none⟩,
    ⟨"SQUELCH", 1, 1, .rw, .val 0, none⟩]⟩,
  ⟨"LAN_RX_CTRL", 0x80008, 0x400, 0, 64, 0x0, 1, 0, 1, [⟨"POLARITY_INV", 0, 1, .rw, .val 0, none⟩,
    ⟨"ADAPT_FREEZE", 1, 1, .rw, .val 0, none⟩]⟩,
  ⟨"LAN_RX_STATUS", 0x8000C, 0x400, 0, 64, 0x0, 1, 0, 1, [⟨"SIGNAL", 0, 1, .ro, .val 0, none⟩,
    ⟨"CDR_LOCK", 1, 1, .ro, .val 0, none⟩,
    ⟨"ADAPT_DONE", 2, 1, .ro, .val 0, none⟩,
    ⟨"CTLE", 4, 4, .ro, .val 0, none⟩]⟩,
  ⟨"LAN_PRBS_CFG", 0x80020, 0x400, 0, 64, 0x0, 1, 0, 1, [⟨"PATTERN", 0, 3, .rw, .val 0, some (0, 5)⟩,
    ⟨"GEN", 3, 1, .rw, .val 0, none⟩,
    ⟨"CHECK", 4, 1, .rw, .val 0, none⟩,
    ⟨"INJ_SINGLE", 8, 1, .w1s, .val 0, none⟩,
    ⟨"INJ_BURST", 9, 1, .w1s, .val 0, none⟩,
    ⟨"BURST_LEN", 16, 8, .rw, .val 1, some (1, 255)⟩]⟩,
  ⟨"LAN_PRBS_STATUS", 0x80024, 0x400, 0, 64, 0x0, 1, 0, 1, [⟨"LOCK", 0, 1, .ro, .val 0, none⟩,
    ⟨"LOCK_LOST", 1, 1, .w1c, .val 0, none⟩]⟩,
  ⟨"LAN_PRBS_ERR_CNT", 0x80028, 0x400, 0, 64, 0x0, 1, 0, 1, [⟨"COUNT", 0, 32, .ro, .val 0, none⟩]⟩,
  ⟨"LAN_PRBS_BITS_LO", 0x8002C, 0x400, 0, 64, 0x0, 1, 0, 2, [⟨"COUNT", 0, 32, .ro, .val 0, none⟩]⟩,
  ⟨"LAN_PRBS_BITS_HI", 0x80030, 0x400, 0, 64, 0x0, 1, 1, 2, [⟨"COUNT", 0, 32, .ro, .val 0, none⟩]⟩]

/-- Rows of block PRT (R391). -/
def mapPRT1 : List RegRow :=
  [
  ⟨"PRT_CFG", 0xA0000, 0x800, 0, 65, 0x0, 1, 0, 1, [⟨"ENABLE", 0, 1, .rwt, .val 0, none⟩,
    ⟨"SPEED", 1, 3, .ro, .elsewhere, none⟩,
    ⟨"FEC", 4, 2, .rwt, .val 0, some (0, 2)⟩,
    ⟨"AN_EN", 6, 1, .rw, .val 1, none⟩]⟩,
  ⟨"PRT_LINK_CFG", 0xA0004, 0x800, 0, 65, 0x0, 1, 0, 1, [⟨"UP_HOLD_MS", 0, 7, .rw, .val 2, some (0, 100)⟩,
    ⟨"DOWN_DEBOUNCE_US", 8, 8, .rw, .val 10, none⟩,
    ⟨"FLAP_EN", 16, 1, .rw, .val 1, none⟩,
    ⟨"FLAP_MAX_MS", 20, 10, .rw, .val 1000, some (2, 1000)⟩]⟩,
  ⟨"PRT_LINK_STATUS", 0xA0008, 0x800, 0, 65, 0x0, 1, 0, 1, [⟨"UP", 0, 1, .ro, .val 0, none⟩,
    ⟨"BLOCK_LOCK", 1, 1, .ro, .val 0, none⟩,
    ⟨"AM_LOCK", 2, 1, .ro, .val 0, none⟩,
    ⟨"LOCAL_FAULT", 3, 1, .ro, .val 0, none⟩,
    ⟨"REMOTE_FAULT", 4, 1, .ro, .val 0, none⟩,
    ⟨"HI_BER", 5, 1, .ro, .val 0, none⟩,
    ⟨"AN_DONE", 6, 1, .ro, .val 0, none⟩,
    ⟨"SUPPRESSED", 7, 1, .ro, .val 0, none⟩,
    ⟨"UP_WAIT_MS", 8, 10, .ro, .val 2, none⟩,
    ⟨"DESKEW_NS", 20, 12, .ro, .val 0, none⟩]⟩,
  ⟨"PRT_LINK_DOWN_CNT", 0xA000C, 0x800, 0, 65, 0x0, 1, 0, 1, [⟨"COUNT", 0, 32, .ro, .val 0, none⟩]⟩,
  ⟨"PRT_FLAP_CNT", 0xA0010, 0x800, 0, 65, 0x0, 1, 0, 1, [⟨"COUNT", 0, 32, .ro, .val 0, none⟩]⟩,
  ⟨"PRT_FEC_CORR_CNT", 0xA0014, 0x800, 0, 65, 0x0, 1, 0, 1, [⟨"COUNT", 0, 32, .ro, .val 0, none⟩]⟩,
  ⟨"PRT_FEC_UNCORR_CNT", 0xA0018, 0x800, 0, 65, 0x0, 1, 0, 1, [⟨"COUNT", 0, 32, .ro, .val 0, none⟩]⟩,
  ⟨"PRT_BAD_SYNC_CNT", 0xA001C, 0x800, 0, 65, 0x0, 1, 0, 1, [⟨"COUNT", 0, 32, .ro, .val 0, none⟩]⟩,
  ⟨"PRT_ERR_BLOCK_CNT", 0xA0020, 0x800, 0, 65, 0x0, 1, 0, 1, [⟨"COUNT", 0, 32, .ro, .val 0, none⟩]⟩,
  ⟨"PRT_AN_FAIL_CNT", 0xA0024, 0x800, 0, 65, 0x0, 1, 0, 1, [⟨"COUNT", 0, 32, .ro, .val 0, none⟩]⟩,
  ⟨"PRT_RX_FRAMES", 0xA0100, 0x800, 0, 65, 0x0, 1, 0, 1, [⟨"COUNT", 0, 32, .ro, .val 0, none⟩]⟩,
  ⟨"PRT_RX_ACCEPTED", 0xA0104, 0x800, 0, 65, 0x0, 1, 0, 1, [⟨"COUNT", 0, 32, .ro, .val 0, none⟩]⟩,
  ⟨"PRT_RX_FCS_ERR", 0xA0108, 0x800, 0, 65, 0x0, 1, 0, 1, [⟨"COUNT", 0, 32, .ro, .val 0, none⟩]⟩,
  ⟨"PRT_RX_LEN_ERR", 0xA010C, 0x800, 0, 65, 0x0, 1, 0, 1, [⟨"COUNT", 0, 32, .ro, .val 0, none⟩]⟩,
  ⟨"PRT_RX_ELASTIC_OVF", 0xA0110, 0x800, 0, 65, 0x0, 1, 0, 1, [⟨"COUNT", 0, 32, .ro, .val 0, none⟩]⟩,
  ⟨"PRT_RX_PARSE_ERR", 0xA0114, 0x800, 0, 65, 0x0, 1, 0, 1, [⟨"COUNT", 0, 32, .ro, .val 0, none⟩]⟩,
  ⟨"PRT_RX_RULE_DISCARD", 0xA0118, 0x800, 0, 65, 0x0, 1, 0, 1, [⟨"COUNT", 0, 32, .ro, .val 0, none⟩]⟩,
  ⟨"PRT_RX_PARITY_DISCARD", 0xA011C, 0x800, 0, 65, 0x0, 1, 0, 1, [⟨"COUNT", 0, 32, .ro, .val 0, none⟩]⟩,
  ⟨"PRT_RX_FRER_ELIM", 0xA0120, 0x800, 0, 65, 0x0, 1, 0, 1, [⟨"COUNT", 0, 32, .ro, .val 0, none⟩]⟩,
  ⟨"PRT_RX_POLICER_DROP", 0xA0124, 0x800, 0, 65, 0x0, 1, 0, 1, [⟨"COUNT", 0, 32, .ro, .val 0, none⟩]⟩,
  ⟨"PRT_RX_NO_TARGET", 0xA0128, 0x800, 0, 65, 0x0, 1, 0, 1, [⟨"COUNT", 0, 32, .ro, .val 0, none⟩]⟩,
  ⟨"PRT_RX_ADMIT_REFUSED", 0xA012C, 0x800, 0, 65, 0x0, 1, 0, 1, [⟨"COUNT", 0, 32, .ro, .val 0, none⟩]⟩,
  ⟨"PRT_RX_RESTRUCT_DROP", 0xA0130, 0x800, 0, 65, 0x0, 1, 0, 1, [⟨"COUNT", 0, 32, .ro, .val 0, none⟩]⟩,
  ⟨"PRT_RX_REFUSE_PAUSE_IGN", 0xA0134, 0x800, 0, 65, 0x0, 1, 0, 1, [⟨"COUNT", 0, 32, .ro, .val 0, none⟩]⟩,
  ⟨"PRT_TX_FRAMES", 0xA0140, 0x800, 0, 65, 0x0, 1, 0, 1, [⟨"COUNT", 0, 32, .ro, .val 0, none⟩]⟩,
  ⟨"PRT_TX_REFUSE_DOWN", 0xA0144, 0x800, 0, 65, 0x0, 1, 0, 1, [⟨"COUNT", 0, 32, .ro, .val 0, none⟩]⟩,
  ⟨"PRT_TX_REFUSE_RSV", 0xA0148, 0x800, 0, 65, 0x0, 1, 0, 1, [⟨"COUNT", 0, 32, .ro, .val 0, none⟩]⟩,
  ⟨"PRT_TX_REFUSE_WINDOW", 0xA014C, 0x800, 0, 65, 0x0, 1, 0, 1, [⟨"COUNT", 0, 32, .ro, .val 0, none⟩]⟩,
  ⟨"PRT_TX_REFUSE_LEN", 0xA0150, 0x800, 0, 65, 0x0, 1, 0, 1, [⟨"COUNT", 0, 32, .ro, .val 0, none⟩]⟩,
  ⟨"PRT_TX_TC7_FLUSH", 0xA0158, 0x800, 0, 65, 0x0, 1, 0, 1, [⟨"COUNT", 0, 32, .ro, .val 0, none⟩]⟩]

/-- Rows of block PRT (R391). -/
def mapPRT2 : List RegRow :=
  [
  ⟨"PRT_TX_HOLD_FLUSH", 0xA015C, 0x800, 0, 65, 0x0, 1, 0, 1, [⟨"COUNT", 0, 32, .ro, .val 0, none⟩]⟩,
  ⟨"PRT_TX_ABORTED", 0xA0160, 0x800, 0, 65, 0x0, 1, 0, 1, [⟨"COUNT", 0, 32, .ro, .val 0, none⟩]⟩,
  ⟨"PRT_TX_INTEGRITY_DISCARD", 0xA0164, 0x800, 0, 65, 0x0, 1, 0, 1, [⟨"COUNT", 0, 32, .ro, .val 0, none⟩]⟩,
  ⟨"PRT_TX_BUF_UNCORR_DISCARD", 0xA0168, 0x800, 0, 65, 0x0, 1, 0, 1, [⟨"COUNT", 0, 32, .ro, .val 0, none⟩]⟩,
  ⟨"PRT_TX_STRANDED", 0xA016C, 0x800, 0, 65, 0x0, 1, 0, 1, [⟨"COUNT", 0, 32, .ro, .val 0, none⟩]⟩,
  ⟨"PRT_HOLD_CFG", 0xA0180, 0x800, 0, 65, 0x0, 1, 0, 1, [⟨"HOLD_MS", 0, 7, .rwt, .val 5, some (0, 100)⟩]⟩,
  ⟨"PRT_PFC_CFG", 0xA0184, 0x800, 0, 65, 0x0, 1, 0, 1, [⟨"TX_EN", 0, 1, .rwt, .val 1, none⟩,
    ⟨"RX_EN", 1, 1, .rwt, .val 1, none⟩,
    ⟨"LLP_ESCALATE", 2, 1, .rwt, .val 1, none⟩]⟩,
  ⟨"PRT_PFC_STATUS", 0xA0188, 0x800, 0, 65, 0x0, 1, 0, 1, [⟨"TX_XOFF", 0, 6, .ro, .val 0, none⟩,
    ⟨"RX_PAUSED", 8, 6, .ro, .val 0, none⟩,
    ⟨"LLP_ACTIVE", 16, 1, .ro, .val 0, none⟩,
    ⟨"IGNORED", 24, 6, .ro, .val 0, none⟩]⟩,
  ⟨"PRT_PFC_RX_IGNORED", 0xA018C, 0x800, 0, 65, 0x0, 1, 0, 1, [⟨"COUNT", 0, 32, .ro, .val 0, none⟩]⟩,
  ⟨"PRT_PFC_THR", 0xA0190, 0x800, 0, 65, 0x8, 6, 0, 1, [⟨"XOFF_CELLS", 0, 16, .rwt, .val 1024, some (16, 65535)⟩,
    ⟨"XON_CELLS", 16, 16, .rwt, .val 768, some (0, 65534)⟩]⟩,
  ⟨"PRT_PFC_HR", 0xA0194, 0x800, 0, 65, 0x8, 6, 0, 1, [⟨"HEADROOM_CELLS", 0, 16, .rwt, .val 333, none⟩,
    ⟨"ESC_CELLS", 16, 16, .rwt, .val 333, none⟩]⟩,
  ⟨"PRT_PFC_IGNORED_CNT", 0xA01C0, 0x800, 0, 65, 0x0, 1, 0, 1, [⟨"COUNT", 0, 32, .ro, .val 0, none⟩]⟩,
  ⟨"PRT_SMP_CFG", 0xA01E0, 0x800, 0, 65, 0x8, 2, 0, 1, [⟨"RATE_M1", 0, 24, .rw, .val 0, none⟩,
    ⟨"ENABLE", 24, 1, .rw, .val 0, none⟩]⟩,
  ⟨"PRT_SMP_CAP", 0xA01E4, 0x800, 0, 65, 0x8, 2, 0, 1, [⟨"CAP_LEN", 0, 9, .rw, .val 64, some (64, 256)⟩]⟩,
  ⟨"PRT_PTP_CFG", 0xA0200, 0x800, 0, 65, 0x0, 1, 0, 1, [⟨"MODE", 0, 2, .rwt, .val 0, none⟩,
    ⟨"ONE_STEP_EN", 2, 1, .rwt, .val 0, none⟩]⟩,
  ⟨"PRT_PTP_LINK_DELAY_LO", 0xA0204, 0x800, 0, 65, 0x0, 1, 0, 2, [⟨"DELAY", 0, 32, .rwt, .val 0, none⟩]⟩,
  ⟨"PRT_PTP_LINK_DELAY_HI", 0xA0208, 0x800, 0, 65, 0x0, 1, 1, 2, [⟨"DELAY", 0, 16, .rwt, .val 0, none⟩]⟩,
  ⟨"PRT_PTP_ASYM", 0xA020C, 0x800, 0, 65, 0x0, 1, 0, 1, [⟨"ASYM", 0, 32, .rwt, .val 0, none⟩]⟩,
  ⟨"PRT_TS_RX_DELAY", 0xA0210, 0x800, 0, 65, 0x0, 1, 0, 1, [⟨"DELAY", 0, 32, .ro, .elsewhere, none⟩]⟩,
  ⟨"PRT_TS_TX_DELAY", 0xA0214, 0x800, 0, 65, 0x0, 1, 0, 1, [⟨"DELAY", 0, 32, .ro, .elsewhere, none⟩]⟩,
  ⟨"PRT_TS_TRIM_RX", 0xA0218, 0x800, 0, 65, 0x0, 1, 0, 1, [⟨"TRIM", 0, 24, .rw, .val 0, some (-8388608, 8388607)⟩]⟩,
  ⟨"PRT_TS_TRIM_TX", 0xA021C, 0x800, 0, 65, 0x0, 1, 0, 1, [⟨"TRIM", 0, 24, .rw, .val 0, some (-8388608, 8388607)⟩]⟩,
  ⟨"PRT_PTP_CORRECTED", 0xA0220, 0x800, 0, 65, 0x0, 1, 0, 1, [⟨"COUNT", 0, 32, .ro, .val 0, none⟩]⟩,
  ⟨"PRT_PTP_ONESTEP", 0xA0224, 0x800, 0, 65, 0x0, 1, 0, 1, [⟨"COUNT", 0, 32, .ro, .val 0, none⟩]⟩,
  ⟨"PRT_PTP_CSUM_TRAILER", 0xA0228, 0x800, 0, 65, 0x0, 1, 0, 1, [⟨"COUNT", 0, 32, .ro, .val 0, none⟩]⟩,
  ⟨"PRT_PTP_CORR_SAT", 0xA022C, 0x800, 0, 65, 0x0, 1, 0, 1, [⟨"COUNT", 0, 32, .ro, .val 0, none⟩]⟩,
  ⟨"PRT_PTP_TRAPPED", 0xA0230, 0x800, 0, 65, 0x0, 1, 0, 1, [⟨"COUNT", 0, 32, .ro, .val 0, none⟩]⟩]

/-- All rows of block PRT. -/
def mapPRT : List RegRow := mapPRT1 ++ mapPRT2

/-- Rows of block BUF (R391). -/
def mapBUF : List RegRow :=
  [
  ⟨"BUF_STATUS", 0xE0000, 0x0, 0, 1, 0x0, 1, 0, 1, [⟨"FREE_CELLS", 0, 20, .ro, .val 524288, none⟩]⟩,
  ⟨"BUF_SHARED", 0xE0004, 0x0, 0, 1, 0x0, 1, 0, 1, [⟨"SIZE", 0, 20, .ro, .elsewhere, none⟩]⟩,
  ⟨"BUF_SHARED_USED", 0xE0008, 0x0, 0, 1, 0x0, 1, 0, 1, [⟨"CELLS", 0, 20, .ro, .val 0, none⟩]⟩,
  ⟨"BUF_GLOBAL_XOFF", 0xE000C, 0x0, 0, 1, 0x0, 1, 0, 1, [⟨"FREE", 0, 20, .rwt, .val 32768, some (1024, 262144)⟩]⟩,
  ⟨"BUF_GLOBAL_XON", 0xE0010, 0x0, 0, 1, 0x0, 1, 0, 1, [⟨"FREE", 0, 20, .rwt, .val 65536, some (1024, 262144)⟩]⟩,
  ⟨"BUF_ELASTIC_CFG", 0xE0014, 0x0, 0, 1, 0x0, 1, 0, 1, [⟨"XOFF_KIB", 0, 6, .rw, .val 48, some (8, 60)⟩,
    ⟨"XON_KIB", 8, 6, .rw, .val 16, some (4, 56)⟩]⟩,
  ⟨"BUF_RSV_TOTAL", 0xE0018, 0x0, 0, 1, 0x0, 1, 0, 1, [⟨"CELLS", 0, 20, .ro, .elsewhere, none⟩]⟩,
  ⟨"BUF_HEADROOM_TOTAL", 0xE001C, 0x0, 0, 1, 0x0, 1, 0, 1, [⟨"CELLS", 0, 20, .ro, .elsewhere, none⟩]⟩,
  ⟨"BUF_SCRUB_CFG", 0xE0020, 0x0, 0, 1, 0x0, 1, 0, 1, [⟨"ENABLE", 0, 1, .rw, .val 1, none⟩,
    ⟨"PERIOD_S", 8, 8, .rw, .val 60, some (1, 255)⟩]⟩,
  ⟨"BUF_SCRUB_PASS_CNT", 0xE0024, 0x0, 0, 1, 0x0, 1, 0, 1, [⟨"COUNT", 0, 32, .ro, .val 0, none⟩]⟩,
  ⟨"BUF_CORR_CNT", 0xE0030, 0x0, 0, 1, 0x0, 1, 0, 1, [⟨"COUNT", 0, 32, .ro, .val 0, none⟩]⟩,
  ⟨"BUF_UNCORR_CNT", 0xE0034, 0x0, 0, 1, 0x0, 1, 0, 1, [⟨"COUNT", 0, 32, .ro, .val 0, none⟩]⟩,
  ⟨"BUF_INTEGRITY_CNT", 0xE0038, 0x0, 0, 1, 0x0, 1, 0, 1, [⟨"COUNT", 0, 32, .ro, .val 0, none⟩]⟩,
  ⟨"BUF_RETIRED", 0xE003C, 0x0, 0, 1, 0x0, 1, 0, 1, [⟨"CELLS", 0, 20, .ro, .val 0, none⟩]⟩,
  ⟨"BUF_ELASTIC_OVF_CNT", 0xE0040, 0x4, 0, 4, 0x0, 1, 0, 1, [⟨"COUNT", 0, 32, .ro, .val 0, none⟩]⟩,
  ⟨"BUF_BANK_FREE", 0xE0400, 0x4, 0, 64, 0x0, 1, 0, 1, [⟨"CELLS", 0, 14, .ro, .val 8192, none⟩]⟩,
  ⟨"BUF_BANK_CORR", 0xE0500, 0x4, 0, 64, 0x0, 1, 0, 1, [⟨"COUNT", 0, 32, .ro, .val 0, none⟩]⟩,
  ⟨"BUF_RSV", 0xE1000, 0x4, 0, 520, 0x0, 1, 0, 1, [⟨"CELLS", 0, 16, .rwt, .bufRsv, none⟩]⟩,
  ⟨"BUF_QUEUE_OCC", 0xE2000, 0x4, 0, 520, 0x0, 1, 0, 1, [⟨"CELLS", 0, 20, .ro, .val 0, none⟩]⟩]

/-- Rows of block TBL (R391). -/
def mapTBL : List RegRow :=
  [
  ⟨"TBL_GEOM", 0x100000, 0x0, 0, 1, 0x0, 1, 0, 1, [⟨"MAC_BKT_LOG2", 0, 4, .ro, .elsewhere, none⟩,
    ⟨"STREAM_BKT_LOG2", 4, 4, .ro, .elsewhere, none⟩]⟩,
  ⟨"TBL_AGE_CFG", 0x100010, 0x0, 0, 1, 0x0, 1, 0, 1, [⟨"PERIOD_S", 0, 10, .rw, .val 300, some (1, 1000)⟩,
    ⟨"ENABLE", 16, 1, .rw, .val 1, none⟩]⟩,
  ⟨"TBL_LEARN_CFG", 0x100014, 0x0, 0, 1, 0x0, 1, 0, 1, [⟨"ENABLE", 0, 1, .rwt, .val 1, none⟩]⟩,
  ⟨"TBL_PARITY_ACT", 0x100018, 0x0, 0, 1, 0x0, 1, 0, 1, [⟨"LPM_DISCARD", 0, 1, .rwt, .val 1, none⟩,
    ⟨"TERNARY_DISCARD", 1, 1, .rwt, .val 1, none⟩]⟩,
  ⟨"TBL_SCRUB_CFG", 0x10001C, 0x0, 0, 1, 0x0, 1, 0, 1, [⟨"ENABLE", 0, 1, .rw, .val 1, none⟩,
    ⟨"PERIOD_S", 8, 8, .rw, .val 60, some (1, 255)⟩]⟩,
  ⟨"TBL_FLUSH_CTRL", 0x100020, 0x0, 0, 1, 0x0, 1, 0, 1, [⟨"PORT", 0, 7, .rw, .val 0, some (0, 64)⟩,
    ⟨"BY_PORT", 8, 1, .rw, .val 0, none⟩,
    ⟨"BY_FID", 9, 1, .rw, .val 0, none⟩,
    ⟨"FID", 10, 12, .rw, .val 0, none⟩,
    ⟨"START", 31, 1, .w1s, .val 0, none⟩]⟩,
  ⟨"TBL_FLUSH_STATUS", 0x100024, 0x0, 0, 1, 0x0, 1, 0, 1, [⟨"BUSY", 0, 1, .ro, .val 0, none⟩]⟩,
  ⟨"TBL_FLUSH_CNT", 0x100028, 0x0, 0, 1, 0x0, 1, 0, 1, [⟨"COUNT", 0, 32, .ro, .val 0, none⟩]⟩,
  ⟨"TBL_LEARN_CNT", 0x100100, 0x20, 0, 4, 0x0, 1, 0, 1, [⟨"COUNT", 0, 32, .ro, .val 0, none⟩]⟩,
  ⟨"TBL_LEARN_RATE_DROP", 0x100104, 0x20, 0, 4, 0x0, 1, 0, 1, [⟨"COUNT", 0, 32, .ro, .val 0, none⟩]⟩,
  ⟨"TBL_LEARN_FULL_DROP", 0x100108, 0x20, 0, 4, 0x0, 1, 0, 1, [⟨"COUNT", 0, 32, .ro, .val 0, none⟩]⟩,
  ⟨"TBL_AGED_CNT", 0x10010C, 0x20, 0, 4, 0x0, 1, 0, 1, [⟨"COUNT", 0, 32, .ro, .val 0, none⟩]⟩,
  ⟨"TBL_LEARN_STATIC", 0x100110, 0x20, 0, 4, 0x0, 1, 0, 1, [⟨"COUNT", 0, 32, .ro, .val 0, none⟩]⟩,
  ⟨"TBL_LEARN_QFULL", 0x100114, 0x20, 0, 4, 0x0, 1, 0, 1, [⟨"COUNT", 0, 32, .ro, .val 0, none⟩]⟩,
  ⟨"TBL_PORT_CFG", 0x100200, 0x8, 0, 65, 0x0, 1, 0, 1, [⟨"PVID", 0, 12, .rwt, .val 1, some (1, 4094)⟩,
    ⟨"LEARN_EN", 12, 1, .rwt, .val 1, none⟩,
    ⟨"STREAM_MISS_DISCARD", 13, 1, .rwt, .val 0, none⟩]⟩,
  ⟨"TBL_PORT_LEARN", 0x100204, 0x8, 0, 65, 0x0, 1, 0, 1, [⟨"RATE", 0, 16, .rw, .val 10000, none⟩,
    ⟨"BURST", 16, 8, .rw, .val 64, some (1, 255)⟩]⟩,
  ⟨"TBL_STAT_OCC", 0x100800, 0x20, 0, 12, 0x0, 1, 0, 1, [⟨"ENTRIES", 0, 21, .ro, .val 0, none⟩]⟩,
  ⟨"TBL_STAT_CAP", 0x100804, 0x20, 0, 12, 0x0, 1, 0, 1, [⟨"SLOTS", 0, 21, .ro, .elsewhere, none⟩]⟩,
  ⟨"TBL_STAT_STASH", 0x100808, 0x20, 0, 12, 0x0, 1, 0, 1, [⟨"USED", 0, 4, .ro, .val 0, none⟩,
    ⟨"PEAK", 8, 4, .ro, .val 0, none⟩]⟩,
  ⟨"TBL_STAT_INS_FAIL", 0x10080C, 0x20, 0, 12, 0x0, 1, 0, 1, [⟨"COUNT", 0, 32, .ro, .val 0, none⟩]⟩,
  ⟨"TBL_STAT_MOVES", 0x100810, 0x20, 0, 12, 0x0, 1, 0, 1, [⟨"COUNT", 0, 32, .ro, .val 0, none⟩]⟩,
  ⟨"TBL_STAT_MAX_PATH", 0x100814, 0x20, 0, 12, 0x0, 1, 0, 1, [⟨"MOVES", 0, 2, .ro, .val 0, none⟩]⟩,
  ⟨"TBL_STAT_PARITY", 0x100818, 0x20, 0, 12, 0x0, 1, 0, 1, [⟨"COUNT", 0, 32, .ro, .val 0, none⟩]⟩,
  ⟨"TBL_STAT_REPAIR", 0x10081C, 0x20, 0, 12, 0x0, 1, 0, 1, [⟨"COUNT", 0, 32, .ro, .val 0, none⟩]⟩,
  ⟨"TBL_LPM_STAGE", 0x100A00, 0x4, 0, 6, 0x0, 1, 0, 1, [⟨"USED", 0, 16, .ro, .val 0, none⟩,
    ⟨"FREE", 16, 16, .ro, .elsewhere, none⟩]⟩]

/-- Rows of block SCH (R391). -/
def mapSCH1 : List RegRow :=
  [
  ⟨"SCH_CLASS_CFG", 0x140000, 0x1000, 0, 64, 0x0, 1, 0, 1, [⟨"PCP_MAP", 0, 24, .rwt, .val 9619080, none⟩,
    ⟨"UNTAGGED_CLASS", 24, 3, .rwt, .val 0, none⟩,
    ⟨"RULE_PTP", 28, 1, .rwt, .val 1, none⟩,
    ⟨"RULE_GOOSE", 29, 1, .rwt, .val 1, none⟩,
    ⟨"RULE_SV", 30, 1, .rwt, .val 1, none⟩,
    ⟨"RULE_PMU", 31, 1, .rwt, .val 1, none⟩]⟩,
  ⟨"SCH_DRR_QUANTUM", 0x140010, 0x1000, 0, 64, 0x4, 6, 0, 1, [⟨"QUANTUM", 0, 16, .rwt, .val 1542, some (64, 65535)⟩]⟩,
  ⟨"SCH_DRR_DEFICIT", 0x140030, 0x1000, 0, 64, 0x4, 6, 0, 1, [⟨"DEFICIT", 0, 18, .ro, .val 0, none⟩]⟩,
  ⟨"SCH_PREEMPT_CFG", 0x140048, 0x1000, 0, 64, 0x0, 1, 0, 1, [⟨"ENABLE", 0, 1, .rwt, .val 0, none⟩,
    ⟨"VERIFY_DIS", 1, 1, .rw, .val 0, none⟩,
    ⟨"EXPRESS", 8, 8, .rwt, .val 192, none⟩,
    ⟨"VERIFY_MS", 16, 7, .rw, .val 10, some (1, 128)⟩]⟩,
  ⟨"SCH_PREEMPT_STATUS", 0x14004C, 0x1000, 0, 64, 0x0, 1, 0, 1, [⟨"VERIFY", 0, 2, .ro, .val 0, none⟩]⟩,
  ⟨"SCH_PREEMPT_CNT", 0x140050, 0x1000, 0, 64, 0x0, 1, 0, 1, [⟨"COUNT", 0, 32, .ro, .val 0, none⟩]⟩,
  ⟨"SCH_FRAG_CNT", 0x140054, 0x1000, 0, 64, 0x0, 1, 0, 1, [⟨"COUNT", 0, 32, .ro, .val 0, none⟩]⟩,
  ⟨"SCH_REASM_ERR", 0x140058, 0x1000, 0, 64, 0x0, 1, 0, 1, [⟨"COUNT", 0, 32, .ro, .val 0, none⟩]⟩,
  ⟨"SCH_GATE_CTRL", 0x140060, 0x1000, 0, 64, 0x0, 1, 0, 1, [⟨"ENABLE", 0, 1, .rwt, .val 0, none⟩,
    ⟨"CONFIG_CHANGE", 1, 1, .rwt, .val 0, none⟩,
    ⟨"STRICT_LATE", 2, 1, .rw, .val 0, none⟩,
    ⟨"ADMIN_GATES", 8, 8, .rwt, .val 255, none⟩,
    ⟨"ADMIN_LEN", 16, 11, .rwt, .val 1, some (1, 1024)⟩]⟩,
  ⟨"SCH_ADMIN_CYCLE", 0x140064, 0x1000, 0, 64, 0x0, 1, 0, 1, [⟨"NS", 0, 32, .rwt, .val 1000000, some (1000, 4000000000)⟩]⟩,
  ⟨"SCH_ADMIN_BASE_W0", 0x140068, 0x1000, 0, 64, 0x0, 1, 0, 3, [⟨"BASE", 0, 32, .rwt, .val 0, none⟩]⟩,
  ⟨"SCH_ADMIN_BASE_W1", 0x14006C, 0x1000, 0, 64, 0x0, 1, 1, 3, [⟨"BASE", 0, 32, .rwt, .val 0, none⟩]⟩,
  ⟨"SCH_ADMIN_BASE_W2", 0x140070, 0x1000, 0, 64, 0x0, 1, 2, 3, [⟨"BASE", 0, 32, .rwt, .val 0, none⟩]⟩,
  ⟨"SCH_GATE_STATUS", 0x140080, 0x1000, 0, 64, 0x0, 1, 0, 1, [⟨"STATE", 0, 2, .ro, .val 0, none⟩,
    ⟨"LATE_REJECTED", 2, 1, .w1c, .val 0, none⟩,
    ⟨"OPER_GATES", 8, 8, .ro, .val 255, none⟩,
    ⟨"OPER_IDX", 16, 11, .ro, .val 0, none⟩]⟩,
  ⟨"SCH_OPER_CYCLE", 0x140084, 0x1000, 0, 64, 0x0, 1, 0, 1, [⟨"NS", 0, 32, .ro, .val 0, none⟩]⟩,
  ⟨"SCH_OPER_LEN", 0x140088, 0x1000, 0, 64, 0x0, 1, 0, 1, [⟨"LEN", 0, 11, .ro, .val 0, none⟩]⟩,
  ⟨"SCH_OPER_BASE_W0", 0x14008C, 0x1000, 0, 64, 0x0, 1, 0, 3, [⟨"BASE", 0, 32, .ro, .val 0, none⟩]⟩,
  ⟨"SCH_OPER_BASE_W1", 0x140090, 0x1000, 0, 64, 0x0, 1, 1, 3, [⟨"BASE", 0, 32, .ro, .val 0, none⟩]⟩,
  ⟨"SCH_OPER_BASE_W2", 0x140094, 0x1000, 0, 64, 0x0, 1, 2, 3, [⟨"BASE", 0, 32, .ro, .val 0, none⟩]⟩,
  ⟨"SCH_PEND_START_W0", 0x140098, 0x1000, 0, 64, 0x0, 1, 0, 3, [⟨"START", 0, 32, .ro, .val 0, none⟩]⟩,
  ⟨"SCH_PEND_START_W1", 0x14009C, 0x1000, 0, 64, 0x0, 1, 1, 3, [⟨"START", 0, 32, .ro, .val 0, none⟩]⟩,
  ⟨"SCH_PEND_START_W2", 0x1400A0, 0x1000, 0, 64, 0x0, 1, 2, 3, [⟨"START", 0, 32, .ro, .val 0, none⟩]⟩,
  ⟨"SCH_LATE_K", 0x1400A4, 0x1000, 0, 64, 0x0, 1, 0, 1, [⟨"K", 0, 32, .ro, .val 0, none⟩]⟩,
  ⟨"SCH_GCL_IDX", 0x1400B0, 0x1000, 0, 64, 0x0, 1, 0, 1, [⟨"IDX", 0, 10, .rw, .val 0, none⟩,
    ⟨"AUTO_INC", 16, 1, .rw, .val 1, none⟩,
    ⟨"OPER", 17, 1, .rw, .val 0, none⟩]⟩,
  ⟨"SCH_GCL_ENTRY_LO", 0x1400B4, 0x1000, 0, 64, 0x0, 1, 0, 1, [⟨"INTERVAL_NS", 0, 32, .rw, .val 0, none⟩]⟩,
  ⟨"SCH_GCL_ENTRY_HI", 0x1400B8, 0x1000, 0, 64, 0x0, 1, 0, 1, [⟨"GATES_OP", 0, 10, .rw, .val 0, none⟩]⟩,
  ⟨"SCH_WIN", 0x1400C0, 0x1000, 0, 64, 0x4, 8, 0, 1, [⟨"NS", 0, 32, .ro, .val 4294967295, none⟩]⟩,
  ⟨"SCH_GATE_OVERRUN_NS", 0x1400E0, 0x1000, 0, 64, 0x0, 1, 0, 1, [⟨"NS", 0, 32, .ro, .val 0, none⟩]⟩,
  ⟨"SCH_GATE_LATE_CNT", 0x1400E4, 0x1000, 0, 64, 0x0, 1, 0, 1, [⟨"COUNT", 0, 32, .ro, .val 0, none⟩]⟩,
  ⟨"SCH_FIT_WAIT_CNT", 0x1400E8, 0x1000, 0, 64, 0x0, 1, 0, 1, [⟨"COUNT", 0, 32, .ro, .val 0, none⟩]⟩]

/-- Rows of block SCH (R391). -/
def mapSCH2 : List RegRow :=
  [
  ⟨"SCH_POL_GREEN", 0x140100, 0x1000, 0, 64, 0x0, 1, 0, 1, [⟨"COUNT", 0, 32, .ro, .val 0, none⟩]⟩,
  ⟨"SCH_POL_YELLOW", 0x140104, 0x1000, 0, 64, 0x0, 1, 0, 1, [⟨"COUNT", 0, 32, .ro, .val 0, none⟩]⟩,
  ⟨"SCH_POL_RED", 0x140108, 0x1000, 0, 64, 0x0, 1, 0, 1, [⟨"COUNT", 0, 32, .ro, .val 0, none⟩]⟩,
  ⟨"SCH_Q_FRAMES", 0x140200, 0x1000, 0, 64, 0x10, 8, 0, 1, [⟨"COUNT", 0, 20, .ro, .val 0, none⟩]⟩,
  ⟨"SCH_Q_TX", 0x140204, 0x1000, 0, 64, 0x10, 8, 0, 1, [⟨"COUNT", 0, 32, .ro, .val 0, none⟩]⟩]

/-- All rows of block SCH. -/
def mapSCH : List RegRow := mapSCH1 ++ mapSCH2

/-- Rows of block TIM (R391). -/
def mapTIM : List RegRow :=
  [
  ⟨"TIM_CFG", 0x180000, 0x0, 0, 1, 0x0, 1, 0, 1, [⟨"STEP_EN", 0, 1, .rw, .val 0, none⟩]⟩,
  ⟨"TIM_STATUS", 0x180004, 0x0, 0, 1, 0x0, 1, 0, 1, [⟨"WARMING", 0, 1, .ro, .val 1, none⟩,
    ⟨"HOLDOVER", 1, 1, .ro, .val 0, none⟩,
    ⟨"SLEW_ACTIVE", 2, 1, .ro, .val 0, none⟩,
    ⟨"SLEW_REJECTED", 3, 1, .w1c, .val 0, none⟩,
    ⟨"STEP_PENDING", 4, 1, .ro, .val 0, none⟩,
    ⟨"STEP_GEN", 5, 1, .ro, .val 0, none⟩]⟩,
  ⟨"TIM_INC_LO", 0x180008, 0x0, 0, 1, 0x0, 1, 0, 2, [⟨"INC", 0, 32, .rwt, .val 2576980378, none⟩]⟩,
  ⟨"TIM_INC_HI", 0x18000C, 0x0, 0, 1, 0x0, 1, 1, 2, [⟨"INC", 0, 16, .rwt, .val 409, none⟩]⟩,
  ⟨"TIM_INC_ACTIVE_LO", 0x180010, 0x0, 0, 1, 0x0, 1, 0, 2, [⟨"INC", 0, 32, .ro, .val 2576980378, none⟩]⟩,
  ⟨"TIM_INC_ACTIVE_HI", 0x180014, 0x0, 0, 1, 0x0, 1, 1, 2, [⟨"INC", 0, 16, .ro, .val 409, none⟩]⟩,
  ⟨"TIM_SLEW_AMT_LO", 0x180018, 0x0, 0, 1, 0x0, 1, 0, 2, [⟨"AMT", 0, 32, .rw, .val 0, none⟩]⟩,
  ⟨"TIM_SLEW_AMT_HI", 0x18001C, 0x0, 0, 1, 0x0, 1, 1, 2, [⟨"AMT", 0, 16, .rw, .val 0, none⟩]⟩,
  ⟨"TIM_SLEW_TICKS", 0x180020, 0x0, 0, 1, 0x0, 1, 0, 1, [⟨"N", 0, 32, .rw, .val 1, some (1, 4294967295)⟩]⟩,
  ⟨"TIM_SLEW_CTRL", 0x180024, 0x0, 0, 1, 0x0, 1, 0, 1, [⟨"START", 0, 1, .w1s, .val 0, none⟩,
    ⟨"CANCEL", 1, 1, .w1s, .val 0, none⟩]⟩,
  ⟨"TIM_SLEW_REMAIN_LO", 0x180028, 0x0, 0, 1, 0x0, 1, 0, 2, [⟨"REMAIN", 0, 32, .ro, .val 0, none⟩]⟩,
  ⟨"TIM_SLEW_REMAIN_HI", 0x18002C, 0x0, 0, 1, 0x0, 1, 1, 2, [⟨"REMAIN", 0, 16, .ro, .val 0, none⟩]⟩,
  ⟨"TIM_STEP_CNT", 0x180030, 0x0, 0, 1, 0x0, 1, 0, 1, [⟨"COUNT", 0, 32, .ro, .val 0, none⟩]⟩,
  ⟨"TIM_STEP_OLDER_FRAMES", 0x180034, 0x0, 0, 1, 0x0, 1, 0, 1, [⟨"COUNT", 0, 20, .ro, .val 0, none⟩]⟩,
  ⟨"TIM_SNAP_CTRL", 0x180040, 0x0, 0, 1, 0x0, 1, 0, 1, [⟨"CAPTURE", 0, 1, .w1s, .val 0, none⟩,
    ⟨"DONE", 1, 1, .ro, .val 0, none⟩]⟩,
  ⟨"TIM_SNAP_W0", 0x180044, 0x0, 0, 1, 0x0, 1, 0, 1, [⟨"TIME", 0, 32, .ro, .val 0, none⟩]⟩,
  ⟨"TIM_SNAP_W1", 0x180048, 0x0, 0, 1, 0x0, 1, 0, 1, [⟨"TIME", 0, 32, .ro, .val 0, none⟩]⟩,
  ⟨"TIM_SNAP_W2", 0x18004C, 0x0, 0, 1, 0x0, 1, 0, 1, [⟨"TIME", 0, 32, .ro, .val 0, none⟩]⟩,
  ⟨"TIM_TSF_STATUS", 0x181000, 0x20, 0, 64, 0x0, 1, 0, 1, [⟨"LEVEL", 0, 7, .ro, .val 0, none⟩,
    ⟨"OVERFLOW", 8, 1, .w1c, .val 0, none⟩]⟩,
  ⟨"TIM_TSF_W0", 0x181004, 0x20, 0, 64, 0x0, 1, 0, 1, [⟨"ENTRY", 0, 32, .ro, .val 0, none⟩]⟩,
  ⟨"TIM_TSF_W1", 0x181008, 0x20, 0, 64, 0x0, 1, 0, 1, [⟨"ENTRY", 0, 32, .ro, .val 0, none⟩]⟩,
  ⟨"TIM_TSF_W2", 0x18100C, 0x20, 0, 64, 0x0, 1, 0, 1, [⟨"ENTRY", 0, 32, .ro, .val 0, none⟩]⟩,
  ⟨"TIM_TSF_W3", 0x181010, 0x20, 0, 64, 0x0, 1, 0, 1, [⟨"ENTRY", 0, 32, .ro, .val 0, none⟩]⟩,
  ⟨"TIM_TSF_LOST", 0x181014, 0x20, 0, 64, 0x0, 1, 0, 1, [⟨"COUNT", 0, 32, .ro, .val 0, none⟩]⟩]

/-- Rows of block PHS (R391). -/
def mapPHS1 : List RegRow :=
  [
  ⟨"PHS_CFG", 0x190000, 0x100, 0, 64, 0x0, 1, 0, 1, [⟨"ENABLE", 0, 1, .rwt, .val 0, none⟩,
    ⟨"MIN_WORDS", 8, 8, .rw, .val 4, some (1, 16)⟩,
    ⟨"SUSPEND_S", 16, 12, .rw, .val 60, some (1, 3600)⟩]⟩,
  ⟨"PHS_STATUS", 0x190004, 0x100, 0, 64, 0x0, 1, 0, 1, [⟨"STATE", 0, 3, .ro, .val 0, none⟩,
    ⟨"PEER_HOLDOVER", 3, 1, .ro, .val 0, none⟩,
    ⟨"PEER_WARMING", 4, 1, .ro, .val 0, none⟩,
    ⟨"BAD_1S", 8, 5, .ro, .val 0, none⟩]⟩,
  ⟨"PHS_ASYM_CFG", 0x190008, 0x100, 0, 64, 0x0, 1, 0, 1, [⟨"SOURCE", 0, 2, .rwt, .val 0, none⟩]⟩,
  ⟨"PHS_ASYM_HOST_LO", 0x19000C, 0x100, 0, 64, 0x0, 1, 0, 2, [⟨"ASYM", 0, 32, .rwt, .val 0, none⟩]⟩,
  ⟨"PHS_ASYM_HOST_HI", 0x190010, 0x100, 0, 64, 0x0, 1, 1, 2, [⟨"ASYM", 0, 16, .rwt, .val 0, none⟩]⟩,
  ⟨"PHS_FIB_TX_LEN", 0x190014, 0x100, 0, 64, 0x0, 1, 0, 1, [⟨"METRES", 0, 18, .rwt, .val 0, some (0, 200000)⟩]⟩,
  ⟨"PHS_FIB_RX_LEN", 0x190018, 0x100, 0, 64, 0x0, 1, 0, 1, [⟨"METRES", 0, 18, .rwt, .val 0, some (0, 200000)⟩]⟩,
  ⟨"PHS_FIB_TX_NG", 0x19001C, 0x100, 0, 64, 0x0, 1, 0, 1, [⟨"NG", 0, 25, .rwt, .val 14680000, some (10000000, 20000000)⟩]⟩,
  ⟨"PHS_FIB_RX_NG", 0x190020, 0x100, 0, 64, 0x0, 1, 0, 1, [⟨"NG", 0, 25, .rwt, .val 14680000, some (10000000, 20000000)⟩]⟩,
  ⟨"PHS_ASYM_USED_LO", 0x190024, 0x100, 0, 64, 0x0, 1, 0, 2, [⟨"ASYM", 0, 32, .ro, .val 0, none⟩]⟩,
  ⟨"PHS_ASYM_USED_HI", 0x190028, 0x100, 0, 64, 0x0, 1, 1, 2, [⟨"ASYM", 0, 16, .ro, .val 0, none⟩]⟩,
  ⟨"PHS_SWAP_CTRL", 0x190030, 0x100, 0, 64, 0x0, 1, 0, 1, [⟨"CAPTURE_BEFORE", 0, 1, .w1s, .val 0, none⟩,
    ⟨"CAPTURE_AFTER", 1, 1, .w1s, .val 0, none⟩,
    ⟨"ABORT", 2, 1, .w1s, .val 0, none⟩,
    ⟨"REF_PORT", 8, 7, .rw, .val 127, none⟩,
    ⟨"AVG_S", 16, 6, .rw, .val 10, some (1, 60)⟩]⟩,
  ⟨"PHS_SWAP_STATUS", 0x190034, 0x100, 0, 64, 0x0, 1, 0, 1, [⟨"STATE", 0, 3, .ro, .val 0, none⟩,
    ⟨"FAIL", 8, 4, .ro, .val 0, none⟩]⟩,
  ⟨"PHS_SWAP_RESULT_LO", 0x190038, 0x100, 0, 64, 0x0, 1, 0, 2, [⟨"ASYM", 0, 32, .ro, .val 0, none⟩]⟩,
  ⟨"PHS_SWAP_RESULT_HI", 0x19003C, 0x100, 0, 64, 0x0, 1, 1, 2, [⟨"ASYM", 0, 16, .ro, .val 0, none⟩]⟩,
  ⟨"PHS_SWAP_UNC", 0x190040, 0x100, 0, 64, 0x0, 1, 0, 1, [⟨"PS", 0, 16, .ro, .val 0, none⟩]⟩,
  ⟨"PHS_SWAP_MAX_UNC", 0x190044, 0x100, 0, 64, 0x0, 1, 0, 1, [⟨"PS", 0, 16, .rw, .val 20, some (1, 10000)⟩]⟩,
  ⟨"PHS_RPT_SEQ", 0x190050, 0x100, 0, 64, 0x0, 1, 0, 1, [⟨"BLOCK", 0, 16, .ro, .val 0, none⟩,
    ⟨"VALID", 16, 1, .ro, .val 0, none⟩,
    ⟨"SPARSE", 17, 1, .ro, .val 0, none⟩,
    ⟨"CAL_PENDING", 18, 1, .ro, .val 0, none⟩,
    ⟨"SUPPLY_DISTURBED", 19, 1, .ro, .val 0, none⟩,
    ⟨"STEP", 20, 1, .ro, .val 0, none⟩,
    ⟨"PEER_HOLDOVER", 21, 1, .ro, .val 0, none⟩,
    ⟨"PEER_WARMING", 22, 1, .ro, .val 0, none⟩,
    ⟨"COARSE", 23, 1, .ro, .val 0, none⟩,
    ⟨"NEW", 24, 1, .ro, .val 0, none⟩]⟩,
  ⟨"PHS_RPT_DELAY_LO", 0x190054, 0x100, 0, 64, 0x0, 1, 0, 1, [⟨"D", 0, 32, .ro, .val 0, none⟩]⟩,
  ⟨"PHS_RPT_DELAY_HI", 0x190058, 0x100, 0, 64, 0x0, 1, 0, 1, [⟨"D", 0, 16, .ro, .val 0, none⟩]⟩,
  ⟨"PHS_RPT_OFFSET_LO", 0x19005C, 0x100, 0, 64, 0x0, 1, 0, 1, [⟨"THETA", 0, 32, .ro, .val 0, none⟩]⟩,
  ⟨"PHS_RPT_OFFSET_HI", 0x190060, 0x100, 0, 64, 0x0, 1, 0, 1, [⟨"THETA", 0, 16, .ro, .val 0, none⟩]⟩,
  ⟨"PHS_RPT_COUNT", 0x190064, 0x100, 0, 64, 0x0, 1, 0, 1, [⟨"OUT", 0, 8, .ro, .val 0, none⟩,
    ⟨"IN", 16, 8, .ro, .val 0, none⟩]⟩,
  ⟨"PHS_TX_SETS", 0x190070, 0x100, 0, 64, 0x0, 1, 0, 1, [⟨"COUNT", 0, 32, .ro, .val 0, none⟩]⟩,
  ⟨"PHS_TX_SKIPPED", 0x190074, 0x100, 0, 64, 0x0, 1, 0, 1, [⟨"COUNT", 0, 32, .ro, .val 0, none⟩]⟩,
  ⟨"PHS_RX_SETS", 0x190078, 0x100, 0, 64, 0x0, 1, 0, 1, [⟨"COUNT", 0, 32, .ro, .val 0, none⟩]⟩,
  ⟨"PHS_BAD_WORDS", 0x19007C, 0x100, 0, 64, 0x0, 1, 0, 1, [⟨"COUNT", 0, 32, .ro, .val 0, none⟩]⟩,
  ⟨"PHS_RX_UNSOLICITED", 0x190080, 0x100, 0, 64, 0x0, 1, 0, 1, [⟨"COUNT", 0, 32, .ro, .val 0, none⟩]⟩,
  ⟨"PHS_SUSPEND_CNT", 0x190084, 0x100, 0, 64, 0x0, 1, 0, 1, [⟨"COUNT", 0, 32, .ro, .val 0, none⟩]⟩,
  ⟨"PHS_SPARSE_CNT", 0x190088, 0x100, 0, 64, 0x0, 1, 0, 1, [⟨"COUNT", 0, 32, .ro, .val 0, none⟩]⟩]

/-- Rows of block PHS (R391). -/
def mapPHS2 : List RegRow :=
  [
  ⟨"PHS_RPT_MISSED", 0x19008C, 0x100, 0, 64, 0x0, 1, 0, 1, [⟨"COUNT", 0, 32, .ro, .val 0, none⟩]⟩]

/-- All rows of block PHS. -/
def mapPHS : List RegRow := mapPHS1 ++ mapPHS2

/-- Rows of block REF (R391). -/
def mapREF1 : List RegRow :=
  [
  ⟨"REF_CTRL", 0x1A0000, 0x0, 0, 1, 0x0, 1, 0, 1, [⟨"FREQ_REVERTIVE", 0, 1, .rwt, .val 0, none⟩,
    ⟨"TIME_REVERTIVE", 1, 1, .rwt, .val 0, none⟩,
    ⟨"TLOOP_EN", 2, 1, .rwt, .val 1, none⟩,
    ⟨"DISAGREE", 8, 10, .rwt, .val 20, some (1, 1000)⟩]⟩,
  ⟨"REF_STATUS", 0x1A0004, 0x0, 0, 1, 0x0, 1, 0, 1, [⟨"FSEL", 0, 5, .ro, .val 31, none⟩,
    ⟨"DPLL_STATE", 5, 3, .ro, .val 0, none⟩,
    ⟨"TSEL", 8, 5, .ro, .val 31, none⟩,
    ⟨"TSWITCHING", 13, 1, .ro, .val 0, none⟩,
    ⟨"STEP_ADVISED", 14, 1, .ro, .val 0, none⟩,
    ⟨"FTARGET", 16, 5, .ro, .val 31, none⟩]⟩,
  ⟨"REF_CV_LO", 0x1A0008, 0x0, 0, 1, 0x0, 1, 0, 2, [⟨"CV", 0, 32, .ro, .val 0, none⟩]⟩,
  ⟨"REF_CV_HI", 0x1A000C, 0x0, 0, 1, 0x0, 1, 1, 2, [⟨"CV", 0, 16, .ro, .val 0, none⟩]⟩,
  ⟨"REF_PHASE_ERR", 0x1A0010, 0x0, 0, 1, 0x0, 1, 0, 1, [⟨"PS", 0, 32, .ro, .val 0, none⟩]⟩,
  ⟨"REF_HO_CFG", 0x1A0020, 0x0, 0, 1, 0x0, 1, 0, 1, [⟨"AVG_S", 0, 12, .rw, .val 300, some (10, 3600)⟩,
    ⟨"GUARD_S", 16, 10, .rw, .val 60, some (0, 600)⟩,
    ⟨"COMP_EN", 31, 1, .rw, .val 1, none⟩]⟩,
  ⟨"REF_HO_CV_LO", 0x1A0024, 0x0, 0, 1, 0x0, 1, 0, 2, [⟨"CV", 0, 32, .ro, .val 0, none⟩]⟩,
  ⟨"REF_HO_CV_HI", 0x1A0028, 0x0, 0, 1, 0x0, 1, 1, 2, [⟨"CV", 0, 16, .ro, .val 0, none⟩]⟩,
  ⟨"REF_HO_TIME", 0x1A002C, 0x0, 0, 1, 0x0, 1, 0, 1, [⟨"S", 0, 32, .ro, .val 0, none⟩]⟩,
  ⟨"REF_AGING", 0x1A0030, 0x0, 0, 1, 0x0, 1, 0, 1, [⟨"RATE", 0, 24, .ro, .elsewhere, none⟩,
    ⟨"LEARNED", 31, 1, .ro, .elsewhere, none⟩]⟩,
  ⟨"REF_TEMPCO", 0x1A0034, 0x0, 0, 1, 0x0, 1, 0, 1, [⟨"K", 0, 16, .ro, .elsewhere, none⟩]⟩,
  ⟨"REF_WICK_CFG", 0x1A0040, 0x0, 0, 1, 0x0, 1, 0, 1, [⟨"THR_NS", 0, 20, .rw, .val 1000, some (10, 1000000)⟩]⟩,
  ⟨"REF_WICK_LOW", 0x1A0044, 0x0, 0, 1, 0x0, 1, 0, 1, [⟨"S", 0, 17, .rw, .val 1800, some (0, 86400)⟩]⟩,
  ⟨"REF_WICK", 0x1A0048, 0x0, 0, 1, 0x0, 1, 0, 1, [⟨"S", 0, 32, .ro, .val 4294967295, none⟩]⟩,
  ⟨"REF_VIRT_FREQ_LO", 0x1A0050, 0x0, 0, 1, 0x0, 1, 0, 2, [⟨"FREQ", 0, 32, .rw, .val 0, none⟩]⟩,
  ⟨"REF_VIRT_FREQ_HI", 0x1A0054, 0x0, 0, 1, 0x0, 1, 1, 2, [⟨"FREQ", 0, 16, .rw, .val 0, none⟩]⟩,
  ⟨"REF_VIRT_CFG", 0x1A0058, 0x0, 0, 1, 0x0, 1, 0, 1, [⟨"TIMEOUT_MS", 0, 16, .rw, .val 2000, some (10, 60000)⟩]⟩,
  ⟨"REF_TIME_CFG", 0x1A0060, 0x0, 0, 1, 0x0, 1, 0, 1, [⟨"TAI_UTC_S", 0, 8, .rwt, .val 37, none⟩,
    ⟨"TLOOP_GAIN", 8, 8, .rwt, .val 16, some (1, 255)⟩,
    ⟨"STEP_ADV_US", 16, 16, .rwt, .val 100, some (1, 65535)⟩]⟩,
  ⟨"REF_GNSS_CFG", 0x1A0064, 0x0, 0, 1, 0x0, 1, 0, 1, [⟨"BAUD", 0, 2, .rw, .val 1, none⟩,
    ⟨"SENT_FOLLOWS", 2, 1, .rw, .val 1, none⟩]⟩,
  ⟨"REF_XPPS_DECL_LO", 0x1A0070, 0x8, 0, 2, 0x0, 1, 0, 2, [⟨"SEC", 0, 32, .rw, .val 0, none⟩]⟩,
  ⟨"REF_XPPS_DECL_HI", 0x1A0074, 0x8, 0, 2, 0x0, 1, 1, 2, [⟨"SEC", 0, 16, .rw, .val 0, none⟩]⟩,
  ⟨"REF_SWITCH_CNT", 0x1A0080, 0x0, 0, 1, 0x0, 1, 0, 1, [⟨"COUNT", 0, 32, .ro, .val 0, none⟩]⟩,
  ⟨"REF_HOLDOVER_CNT", 0x1A0084, 0x0, 0, 1, 0x0, 1, 0, 1, [⟨"COUNT", 0, 32, .ro, .val 0, none⟩]⟩,
  ⟨"REF_LOCK_LOST_CNT", 0x1A0088, 0x0, 0, 1, 0x0, 1, 0, 1, [⟨"COUNT", 0, 32, .ro, .val 0, none⟩]⟩,
  ⟨"REF_SLOT_CFG", 0x1A0100, 0x20, 0, 15, 0x0, 1, 0, 1, [⟨"ENABLE", 0, 1, .rwt, .val 0, none⟩,
    ⟨"PRIORITY", 4, 4, .rwt, .val 0, none⟩,
    ⟨"LANE", 8, 6, .rwt, .val 0, none⟩,
    ⟨"VALIDATE_S", 16, 8, .rwt, .val 10, some (1, 255)⟩]⟩,
  ⟨"REF_SLOT_WTR", 0x1A0104, 0x20, 0, 15, 0x0, 1, 0, 1, [⟨"WTR_S", 0, 12, .rwt, .val 300, some (0, 3600)⟩]⟩,
  ⟨"REF_SLOT_LIMIT", 0x1A0108, 0x20, 0, 15, 0x0, 1, 0, 1, [⟨"LIMIT_PPB", 0, 17, .rwt, .val 10000, some (10, 100000)⟩,
    ⟨"PPS_WIN", 20, 12, .rwt, .slotWin, some (1, 4095)⟩]⟩,
  ⟨"REF_SLOT_LOOP", 0x1A010C, 0x20, 0, 15, 0x0, 1, 0, 1, [⟨"BW_MHZ", 0, 16, .rwt, .slotBw, none⟩]⟩,
  ⟨"REF_SLOT_LOCK", 0x1A0110, 0x20, 0, 15, 0x0, 1, 0, 1, [⟨"WIN_NS", 0, 16, .rwt, .slotLockWin, some (1, 65535)⟩,
    ⟨"LOCK_N", 16, 16, .rwt, .slotLockN, some (4, 65535)⟩]⟩,
  ⟨"REF_SLOT_STATUS", 0x1A0114, 0x20, 0, 15, 0x0, 1, 0, 1, [⟨"STATE", 0, 3, .ro, .val 0, none⟩,
    ⟨"OUTVOTED", 3, 1, .ro, .val 0, none⟩,
    ⟨"DISPUTED", 4, 1, .ro, .val 0, none⟩,
    ⟨"SELECTED", 5, 1, .ro, .val 0, none⟩,
    ⟨"FAULT", 8, 4, .ro, .val 0, none⟩,
    ⟨"REMAIN_S", 16, 16, .ro, .val 0, none⟩]⟩]

/-- Rows of block REF (R391). -/
def mapREF2 : List RegRow :=
  [
  ⟨"REF_SLOT_FREQ", 0x1A0118, 0x20, 0, 15, 0x0, 1, 0, 1, [⟨"OFFSET", 0, 32, .ro, .val 0, none⟩]⟩,
  ⟨"REF_SLOT_DISQ_CNT", 0x1A011C, 0x20, 0, 15, 0x0, 1, 0, 1, [⟨"COUNT", 0, 32, .ro, .val 0, none⟩]⟩,
  ⟨"REF_TSLOT_CFG", 0x1A0400, 0x20, 0, 8, 0x0, 1, 0, 1, [⟨"ENABLE", 0, 1, .rwt, .val 0, none⟩,
    ⟨"PRIORITY", 4, 4, .rwt, .val 0, none⟩,
    ⟨"PTP_PORT", 8, 7, .rwt, .val 0, some (0, 63)⟩,
    ⟨"VALID", 15, 1, .rw, .val 0, none⟩,
    ⟨"VALIDATE_S", 16, 8, .rwt, .val 10, some (1, 255)⟩]⟩,
  ⟨"REF_TSLOT_WTR", 0x1A0404, 0x20, 0, 8, 0x0, 1, 0, 1, [⟨"WTR_S", 0, 12, .rwt, .val 300, some (0, 3600)⟩]⟩,
  ⟨"REF_TSLOT_QUAL", 0x1A0408, 0x20, 0, 8, 0x0, 1, 0, 1, [⟨"CLOCK_CLASS", 0, 8, .rwt, .val 248, none⟩,
    ⟨"CLOCK_ACCURACY", 8, 8, .rwt, .val 254, none⟩,
    ⟨"OSLV", 16, 16, .rwt, .val 65535, none⟩]⟩,
  ⟨"REF_TSLOT_CABLE", 0x1A040C, 0x20, 0, 8, 0x0, 1, 0, 1, [⟨"CABLE_PS", 0, 32, .rwt, .val 0, none⟩]⟩,
  ⟨"REF_TSLOT_STATUS", 0x1A0410, 0x20, 0, 8, 0x0, 1, 0, 1, [⟨"STATE", 0, 3, .ro, .val 0, none⟩,
    ⟨"SELECTED", 5, 1, .ro, .val 0, none⟩,
    ⟨"FAULT", 8, 4, .ro, .val 0, none⟩,
    ⟨"REMAIN_S", 16, 16, .ro, .val 0, none⟩]⟩,
  ⟨"REF_TSLOT_OFFSET", 0x1A0414, 0x20, 0, 8, 0x0, 1, 0, 1, [⟨"NS", 0, 32, .ro, .val 0, none⟩]⟩,
  ⟨"REF_OUT_CFG", 0x1A0700, 0x0, 0, 1, 0x0, 1, 0, 1, [⟨"MIS_THR_PS", 0, 16, .rw, .val 100, some (1, 65535)⟩]⟩,
  ⟨"REF_OUT_K_CFG", 0x1A0800, 0x40, 0, 8, 0x0, 1, 0, 1, [⟨"DRIVE", 0, 1, .rwt, .val 0, none⟩,
    ⟨"FUNCTION", 4, 3, .ro, .elsewhere, none⟩,
    ⟨"IRIG_FMT", 8, 3, .rwt, .val 2, none⟩,
    ⟨"IRIG_AM", 11, 1, .rwt, .val 0, none⟩,
    ⟨"CLK_AUTO", 12, 1, .rwt, .val 1, none⟩]⟩,
  ⟨"REF_OUT_FREQ", 0x1A0804, 0x40, 0, 8, 0x0, 1, 0, 1, [⟨"HZ", 0, 28, .rwt, .val 1, some (1, 250000000)⟩]⟩,
  ⟨"REF_OUT_WIDTH", 0x1A0808, 0x40, 0, 8, 0x0, 1, 0, 1, [⟨"NS", 0, 30, .rwt, .val 100000000, none⟩]⟩,
  ⟨"REF_OUT_MARK", 0x1A080C, 0x40, 0, 8, 0x0, 1, 0, 1, [⟨"NS", 0, 30, .rwt, .val 200000000, none⟩]⟩,
  ⟨"REF_OUT_OFFSET", 0x1A0810, 0x40, 0, 8, 0x0, 1, 0, 1, [⟨"PS", 0, 32, .rwt, .val 0, some (-1000000000, 1000000000)⟩]⟩,
  ⟨"REF_OUT_CLK_SLEW", 0x1A0814, 0x40, 0, 8, 0x0, 1, 0, 1, [⟨"PPB", 0, 20, .rwt, .val 10000, some (1, 1000000)⟩]⟩,
  ⟨"REF_OUT_START_W0", 0x1A0818, 0x40, 0, 8, 0x0, 1, 0, 3, [⟨"START", 0, 32, .rwt, .val 0, none⟩]⟩,
  ⟨"REF_OUT_START_W1", 0x1A081C, 0x40, 0, 8, 0x0, 1, 1, 3, [⟨"START", 0, 32, .rwt, .val 0, none⟩]⟩,
  ⟨"REF_OUT_START_W2", 0x1A0820, 0x40, 0, 8, 0x0, 1, 2, 3, [⟨"START", 0, 32, .rwt, .val 0, none⟩]⟩,
  ⟨"REF_OUT_STATUS", 0x1A0828, 0x40, 0, 8, 0x0, 1, 0, 1, [⟨"RUNNING", 0, 1, .ro, .val 0, none⟩,
    ⟨"DRIVING", 1, 1, .ro, .val 0, none⟩,
    ⟨"MISALIGNED", 2, 1, .ro, .val 0, none⟩,
    ⟨"REALIGN_PENDING", 3, 1, .ro, .val 0, none⟩,
    ⟨"START_PENDING", 4, 1, .ro, .val 0, none⟩]⟩,
  ⟨"REF_OUT_MISALIGN_LO", 0x1A082C, 0x40, 0, 8, 0x0, 1, 0, 2, [⟨"M", 0, 32, .ro, .val 0, none⟩]⟩,
  ⟨"REF_OUT_MISALIGN_HI", 0x1A0830, 0x40, 0, 8, 0x0, 1, 1, 2, [⟨"M", 0, 16, .ro, .val 0, none⟩]⟩]

/-- All rows of block REF. -/
def mapREF : List RegRow := mapREF1 ++ mapREF2

/-- Rows of block TIC (R391). -/
def mapTIC : List RegRow :=
  [
  ⟨"TIC_CFG", 0x1B0000, 0x100, 0, 16, 0x0, 1, 0, 1, [⟨"MODE", 0, 3, .rwt, .val 0, some (0, 4)⟩,
    ⟨"EDGE_SEL", 4, 2, .rwt, .val 0, some (0, 2)⟩,
    ⟨"STOP_EDGE", 6, 2, .rwt, .val 0, some (0, 2)⟩,
    ⟨"STOP_SRC", 8, 4, .rwt, .val 0, none⟩,
    ⟨"ARM_AUTO", 12, 1, .rwt, .val 1, none⟩,
    ⟨"DEST", 13, 1, .rwt, .val 0, none⟩,
    ⟨"TERM", 14, 1, .rw, .val 1, none⟩,
    ⟨"CAL_SRC", 15, 1, .rw, .val 0, none⟩,
    ⟨"PRESCALE", 16, 4, .rwt, .val 0, some (0, 8)⟩]⟩,
  ⟨"TIC_THRESH", 0x1B0004, 0x100, 0, 16, 0x0, 1, 0, 1, [⟨"THRESH_MV", 0, 12, .rwt, .val 0, some (-2000, 2000)⟩,
    ⟨"HYST", 16, 4, .rwt, .val 2, none⟩]⟩,
  ⟨"TIC_TIMEOUT", 0x1B0008, 0x100, 0, 16, 0x0, 1, 0, 1, [⟨"NS", 0, 32, .rwt, .val 1000000, some (1, 4000000000)⟩]⟩,
  ⟨"TIC_HOLDOFF", 0x1B000C, 0x100, 0, 16, 0x0, 1, 0, 1, [⟨"US", 0, 16, .rwt, .val 0, none⟩]⟩,
  ⟨"TIC_GATE", 0x1B0010, 0x100, 0, 16, 0x0, 1, 0, 1, [⟨"MS", 0, 10, .rwt, .val 1000, some (1, 1000)⟩]⟩,
  ⟨"TIC_CTRL", 0x1B0014, 0x100, 0, 16, 0x0, 1, 0, 1, [⟨"ARM", 0, 1, .w1s, .val 0, none⟩,
    ⟨"DISARM", 1, 1, .w1s, .val 0, none⟩]⟩,
  ⟨"TIC_STATUS", 0x1B0018, 0x100, 0, 16, 0x0, 1, 0, 1, [⟨"STATE", 0, 2, .ro, .val 0, none⟩,
    ⟨"FACTORY_TABLE", 2, 1, .ro, .val 1, none⟩,
    ⟨"CAL_PENDING", 3, 1, .ro, .val 1, none⟩,
    ⟨"FIFO_LEVEL", 8, 9, .ro, .val 0, none⟩]⟩,
  ⟨"TIC_EDGES", 0x1B0020, 0x100, 0, 16, 0x0, 1, 0, 1, [⟨"COUNT", 0, 32, .ro, .val 0, none⟩]⟩,
  ⟨"TIC_MISSED", 0x1B0024, 0x100, 0, 16, 0x0, 1, 0, 1, [⟨"COUNT", 0, 32, .ro, .val 0, none⟩]⟩,
  ⟨"TIC_HELDOFF", 0x1B0028, 0x100, 0, 16, 0x0, 1, 0, 1, [⟨"COUNT", 0, 32, .ro, .val 0, none⟩]⟩,
  ⟨"TIC_STOP_EARLY", 0x1B002C, 0x100, 0, 16, 0x0, 1, 0, 1, [⟨"COUNT", 0, 32, .ro, .val 0, none⟩]⟩,
  ⟨"TIC_START_EXTRA", 0x1B0030, 0x100, 0, 16, 0x0, 1, 0, 1, [⟨"COUNT", 0, 32, .ro, .val 0, none⟩]⟩,
  ⟨"TIC_TIMEOUTS", 0x1B0034, 0x100, 0, 16, 0x0, 1, 0, 1, [⟨"COUNT", 0, 32, .ro, .val 0, none⟩]⟩,
  ⟨"TIC_RECORDS", 0x1B0038, 0x100, 0, 16, 0x0, 1, 0, 1, [⟨"COUNT", 0, 32, .ro, .val 0, none⟩]⟩,
  ⟨"TIC_LOST", 0x1B003C, 0x100, 0, 16, 0x0, 1, 0, 1, [⟨"COUNT", 0, 32, .ro, .val 0, none⟩]⟩,
  ⟨"TIC_CAL_CFG", 0x1B0040, 0x100, 0, 16, 0x0, 1, 0, 1, [⟨"HITS_LOG2", 0, 5, .rw, .val 20, some (16, 24)⟩]⟩,
  ⟨"TIC_CAL_HITS", 0x1B0044, 0x100, 0, 16, 0x0, 1, 0, 1, [⟨"COUNT", 0, 32, .ro, .val 0, none⟩]⟩,
  ⟨"TIC_CAL_AGE", 0x1B0048, 0x100, 0, 16, 0x0, 1, 0, 1, [⟨"S", 0, 32, .ro, .val 0, none⟩]⟩,
  ⟨"TIC_CAL_IDX", 0x1B0050, 0x100, 0, 16, 0x0, 1, 0, 1, [⟨"BIN", 0, 9, .rw, .val 0, none⟩]⟩,
  ⟨"TIC_CAL_DATA", 0x1B0054, 0x100, 0, 16, 0x0, 1, 0, 1, [⟨"CENTRE", 0, 17, .ro, .elsewhere, none⟩]⟩,
  ⟨"TIC_MAX_BIN", 0x1B0058, 0x100, 0, 16, 0x0, 1, 0, 1, [⟨"FS", 0, 16, .ro, .elsewhere, none⟩]⟩,
  ⟨"TIC_IN_DELAY", 0x1B005C, 0x100, 0, 16, 0x0, 1, 0, 1, [⟨"DELAY", 0, 32, .ro, .elsewhere, none⟩]⟩,
  ⟨"TIC_TRIM", 0x1B0060, 0x100, 0, 16, 0x0, 1, 0, 1, [⟨"TRIM", 0, 24, .rw, .val 0, some (-8388608, 8388607)⟩]⟩,
  ⟨"TIC_RING_BASE_LO", 0x1B1000, 0x0, 0, 1, 0x0, 1, 0, 2, [⟨"ADDR_LO", 5, 27, .rw, .val 0, none⟩]⟩,
  ⟨"TIC_RING_BASE_HI", 0x1B1004, 0x0, 0, 1, 0x0, 1, 1, 2, [⟨"ADDR_HI", 0, 32, .rw, .val 0, none⟩]⟩,
  ⟨"TIC_RING_CFG", 0x1B1008, 0x0, 0, 1, 0x0, 1, 0, 1, [⟨"SIZE_LOG2", 0, 5, .rw, .val 10, some (8, 16)⟩,
    ⟨"ENABLE", 8, 1, .rw, .val 0, none⟩]⟩,
  ⟨"TIC_RING_PROD", 0x1B100C, 0x0, 0, 1, 0x0, 1, 0, 1, [⟨"PROD", 0, 16, .ro, .val 0, none⟩]⟩,
  ⟨"TIC_RING_CONS", 0x1B1010, 0x0, 0, 1, 0x0, 1, 0, 1, [⟨"CONS", 0, 16, .rw, .val 0, none⟩]⟩,
  ⟨"TIC_RING_LOST", 0x1B1014, 0x0, 0, 1, 0x0, 1, 0, 1, [⟨"COUNT", 0, 32, .ro, .val 0, none⟩]⟩]

/-- Rows of block CAL (R391). -/
def mapCAL : List RegRow :=
  [
  ⟨"CAL_CTRL", 0x1C0000, 0x0, 0, 1, 0x0, 1, 0, 1, [⟨"AUTO_EN", 0, 1, .rw, .val 1, none⟩,
    ⟨"USE_FACTORY", 1, 1, .rw, .val 0, none⟩]⟩,
  ⟨"CAL_STATUS", 0x1C0004, 0x0, 0, 1, 0x0, 1, 0, 1, [⟨"DUE", 0, 8, .ro, .val 0, none⟩,
    ⟨"ACTIVE", 8, 4, .ro, .val 0, none⟩,
    ⟨"HELD", 12, 1, .ro, .val 0, none⟩]⟩,
  ⟨"CAL_TYPE_CFG", 0x1C0010, 0x4, 1, 7, 0x0, 1, 0, 1, [⟨"THRESH_QK", 0, 6, .rw, .calThr, some (1, 40)⟩,
    ⟨"AUTO_EN", 8, 1, .rw, .val 1, none⟩,
    ⟨"MAX_DEFER_S", 16, 9, .rw, .calDefer, some (1, 511)⟩]⟩,
  ⟨"CAL_SENSOR", 0x1C0040, 0x4, 0, 8, 0x0, 1, 0, 1, [⟨"TEMP", 0, 16, .ro, .val 0, none⟩]⟩,
  ⟨"CAL_PORT_EXT_LOOP", 0x1C0060, 0x0, 0, 1, 0x0, 1, 0, 1, [⟨"DELAY", 0, 32, .rw, .val 0, some (0, 65536000)⟩]⟩,
  ⟨"CAL_PORT_EXT_RESULT", 0x1C0064, 0x0, 0, 1, 0x0, 1, 0, 1, [⟨"SUM", 0, 32, .ro, .val 0, none⟩]⟩,
  ⟨"CAL_RUN_CNT", 0x1C0070, 0x0, 0, 1, 0x0, 1, 0, 1, [⟨"COUNT", 0, 32, .ro, .val 0, none⟩]⟩,
  ⟨"CAL_FAIL_CNT", 0x1C0074, 0x0, 0, 1, 0x0, 1, 0, 1, [⟨"COUNT", 0, 32, .ro, .val 0, none⟩]⟩,
  ⟨"CAL_ABANDON_CNT", 0x1C0078, 0x0, 0, 1, 0x0, 1, 0, 1, [⟨"COUNT", 0, 32, .ro, .val 0, none⟩]⟩,
  ⟨"CAL_FORCED_CNT", 0x1C007C, 0x0, 0, 1, 0x0, 1, 0, 1, [⟨"COUNT", 0, 32, .ro, .val 0, none⟩]⟩,
  ⟨"CAL_BEADS", 0x1C0080, 0x0, 0, 1, 0x0, 1, 0, 1, [⟨"COUNT", 0, 32, .ro, .val 0, none⟩]⟩,
  ⟨"CAL_OUT_CFG", 0x1C0100, 0x8, 0, 8, 0x0, 1, 0, 1, [⟨"EXT_TIN", 0, 4, .rw, .val 0, none⟩,
    ⟨"CABLE_PS", 16, 16, .rw, .val 0, none⟩]⟩,
  ⟨"CAL_OUT_TRIM", 0x1C0104, 0x8, 0, 8, 0x0, 1, 0, 1, [⟨"FS", 0, 16, .ro, .elsewhere, none⟩]⟩,
  ⟨"CAL_INST_STATUS", 0x1C1000, 0x8, 0, 203, 0x0, 1, 0, 1, [⟨"STATE", 0, 2, .ro, .val 3, none⟩,
    ⟨"FORCED", 2, 1, .ro, .val 0, none⟩,
    ⟨"LAST_FAILED", 3, 1, .ro, .val 0, none⟩,
    ⟨"LAST_RESULT", 4, 4, .ro, .val 0, none⟩,
    ⟨"LAST_TEMP", 16, 16, .ro, .elsewhere, none⟩]⟩,
  ⟨"CAL_INST_AGE", 0x1C1004, 0x8, 0, 203, 0x0, 1, 0, 1, [⟨"S", 0, 32, .ro, .val 0, none⟩]⟩]

/-- Rows of block MIR (R391). -/
def mapMIR1 : List RegRow :=
  [
  ⟨"MIR_CFG", 0x1D0000, 0x0, 0, 1, 0x0, 1, 0, 1, [⟨"ENABLE", 0, 1, .rw, .val 0, none⟩,
    ⟨"PREFERENCE", 4, 4, .rw, .val 0, none⟩,
    ⟨"FOLLOW", 8, 1, .rw, .val 1, none⟩,
    ⟨"CONFIG", 12, 2, .ro, .elsewhere, none⟩,
    ⟨"LANE_SEL_GROUPS", 16, 4, .ro, .elsewhere, none⟩]⟩,
  ⟨"MIR_TIMER", 0x1D0004, 0x0, 0, 1, 0x0, 1, 0, 1, [⟨"HEALTH_HOLD_MS", 0, 10, .rw, .val 100, some (0, 1000)⟩,
    ⟨"EXCH_DRAIN_US", 16, 16, .rw, .val 1000, some (10, 60000)⟩]⟩,
  ⟨"MIR_STATUS", 0x1D0008, 0x0, 0, 1, 0x0, 1, 0, 1, [⟨"PAIR_STATE", 0, 3, .ro, .val 0, none⟩,
    ⟨"SLOT_A", 3, 1, .ro, .elsewhere, none⟩,
    ⟨"ROLES", 4, 5, .ro, .val 0, none⟩,
    ⟨"PARTNER_ROLES", 9, 5, .ro, .val 0, none⟩,
    ⟨"LANES_UP", 14, 2, .ro, .val 0, none⟩,
    ⟨"DUAL_ACTIVE", 16, 1, .ro, .val 0, none⟩,
    ⟨"STEP_ADVISED", 17, 1, .ro, .val 0, none⟩,
    ⟨"HOLD_IN", 18, 1, .ro, .val 0, none⟩,
    ⟨"READY_IN", 19, 1, .ro, .val 0, none⟩,
    ⟨"EXCHANGING", 20, 1, .ro, .val 0, none⟩]⟩,
  ⟨"MIR_CLAIM", 0x1D000C, 0x0, 0, 1, 0x0, 1, 0, 1, [⟨"OWN", 0, 16, .ro, .elsewhere, none⟩,
    ⟨"PARTNER", 16, 16, .ro, .val 0, none⟩]⟩,
  ⟨"MIR_HEALTH", 0x1D0010, 0x0, 0, 1, 0x0, 1, 0, 1, [⟨"SCORE", 0, 8, .ro, .val 0, none⟩,
    ⟨"RAW", 8, 8, .ro, .val 0, none⟩,
    ⟨"CAUSES", 16, 8, .ro, .val 0, none⟩]⟩,
  ⟨"MIR_HEARD_AGE", 0x1D0014, 0x0, 0, 1, 0x0, 1, 0, 1, [⟨"US", 0, 32, .ro, .val 4294967295, none⟩]⟩,
  ⟨"MIR_PARTNER_IMG", 0x1D0018, 0x0, 0, 1, 0x0, 1, 0, 1, [⟨"ID", 0, 32, .ro, .val 0, none⟩]⟩,
  ⟨"MIR_SH_PORTS_LO", 0x1D001C, 0x0, 0, 1, 0x0, 1, 0, 2, [⟨"PORTS", 0, 32, .rw, .val 0, none⟩]⟩,
  ⟨"MIR_SH_PORTS_HI", 0x1D0020, 0x0, 0, 1, 0x0, 1, 1, 2, [⟨"PORTS", 0, 32, .rw, .val 0, none⟩]⟩,
  ⟨"MIR_OFFSET_SEQ", 0x1D0024, 0x0, 0, 1, 0x0, 1, 0, 1, [⟨"BLOCK", 0, 16, .ro, .val 0, none⟩,
    ⟨"VALID", 16, 1, .ro, .val 0, none⟩,
    ⟨"NEW", 24, 1, .ro, .val 0, none⟩]⟩,
  ⟨"MIR_OFFSET_LO", 0x1D0028, 0x0, 0, 1, 0x0, 1, 0, 1, [⟨"THETA", 0, 32, .ro, .val 0, none⟩]⟩,
  ⟨"MIR_OFFSET_HI", 0x1D002C, 0x0, 0, 1, 0x0, 1, 0, 1, [⟨"THETA", 0, 16, .ro, .val 0, none⟩]⟩,
  ⟨"MIR_DELAY_LO", 0x1D0030, 0x0, 0, 1, 0x0, 1, 0, 1, [⟨"D", 0, 32, .ro, .val 0, none⟩]⟩,
  ⟨"MIR_DELAY_HI", 0x1D0034, 0x0, 0, 1, 0x0, 1, 0, 1, [⟨"D", 0, 16, .ro, .val 0, none⟩]⟩,
  ⟨"MIR_ASYM_LO", 0x1D0038, 0x0, 0, 1, 0x0, 1, 0, 2, [⟨"ASYM", 0, 32, .rw, .val 0, none⟩]⟩,
  ⟨"MIR_ASYM_HI", 0x1D003C, 0x0, 0, 1, 0x0, 1, 1, 2, [⟨"ASYM", 0, 16, .rw, .val 0, none⟩]⟩,
  ⟨"MIR_TIME_CFG", 0x1D0040, 0x0, 0, 1, 0x0, 1, 0, 1, [⟨"GAIN", 0, 8, .rw, .val 64, some (1, 255)⟩,
    ⟨"STEP_ADV_US", 16, 16, .rw, .val 100, some (1, 65535)⟩]⟩,
  ⟨"MIR_PTIME_STATE", 0x1D0044, 0x0, 0, 1, 0x0, 1, 0, 1, [⟨"DPLL_STATE", 0, 3, .ro, .val 0, none⟩,
    ⟨"FSEL", 3, 5, .ro, .val 31, none⟩,
    ⟨"TSEL", 8, 5, .ro, .val 31, none⟩,
    ⟨"HOLDOVER", 13, 1, .ro, .val 0, none⟩,
    ⟨"WARMING", 14, 1, .ro, .val 0, none⟩]⟩,
  ⟨"MIR_PTIME_WICK", 0x1D0048, 0x0, 0, 1, 0x0, 1, 0, 1, [⟨"S", 0, 32, .ro, .val 4294967295, none⟩]⟩,
  ⟨"MIR_PTIME_HO", 0x1D004C, 0x0, 0, 1, 0x0, 1, 0, 1, [⟨"S", 0, 32, .ro, .val 0, none⟩]⟩,
  ⟨"MIR_TAKEOVER_CNT", 0x1D0050, 0x0, 0, 1, 0x0, 1, 0, 1, [⟨"COUNT", 0, 32, .ro, .val 0, none⟩]⟩,
  ⟨"MIR_DUAL_CNT", 0x1D0054, 0x0, 0, 1, 0x0, 1, 0, 1, [⟨"COUNT", 0, 32, .ro, .val 0, none⟩]⟩,
  ⟨"MIR_DUAL_MAX_US", 0x1D0058, 0x0, 0, 1, 0x0, 1, 0, 1, [⟨"US", 0, 32, .ro, .val 0, none⟩]⟩,
  ⟨"MIR_MSG_TX", 0x1D005C, 0x0, 0, 1, 0x0, 1, 0, 1, [⟨"COUNT", 0, 32, .ro, .val 0, none⟩]⟩,
  ⟨"MIR_MSG_RX", 0x1D0060, 0x0, 0, 1, 0x0, 1, 0, 1, [⟨"COUNT", 0, 32, .ro, .val 0, none⟩]⟩,
  ⟨"MIR_MSG_BAD", 0x1D0064, 0x0, 0, 1, 0x0, 1, 0, 1, [⟨"COUNT", 0, 32, .ro, .val 0, none⟩]⟩,
  ⟨"MIR_SYNC_CNT", 0x1D0068, 0x0, 0, 1, 0x0, 1, 0, 1, [⟨"COUNT", 0, 32, .ro, .val 0, none⟩]⟩,
  ⟨"MIR_EXCH_CNT", 0x1D006C, 0x0, 0, 1, 0x0, 1, 0, 1, [⟨"COUNT", 0, 32, .ro, .val 0, none⟩]⟩,
  ⟨"MIR_STBY_RX_FRAMES", 0x1D0070, 0x4, 0, 4, 0x0, 1, 0, 1, [⟨"COUNT", 0, 32, .ro, .val 0, none⟩]⟩,
  ⟨"MIR_HOST_STATE", 0x1D0100, 0x4, 0, 64, 0x0, 1, 0, 1, [⟨"DATA", 0, 32, .rw, .val 0, none⟩]⟩]

/-- Rows of block MIR (R391). -/
def mapMIR2 : List RegRow :=
  [
  ⟨"MIR_PARTNER_HOST_STATE", 0x1D0200, 0x4, 0, 64, 0x0, 1, 0, 1, [⟨"DATA", 0, 32, .ro, .val 0, none⟩]⟩,
  ⟨"MIR_PJ_IDX", 0x1D0300, 0x0, 0, 1, 0x0, 1, 0, 1, [⟨"TAG", 0, 9, .rw, .val 0, none⟩]⟩,
  ⟨"MIR_PJ_STATE", 0x1D0304, 0x0, 0, 1, 0x0, 1, 0, 3, [⟨"STATE", 0, 2, .ro, .val 0, none⟩,
    ⟨"RING", 2, 2, .ro, .val 0, none⟩,
    ⟨"OPCODE", 16, 16, .ro, .val 0, none⟩]⟩,
  ⟨"MIR_PJ_COOKIE_LO", 0x1D0308, 0x0, 0, 1, 0x0, 1, 1, 3, [⟨"COOKIE", 0, 32, .ro, .val 0, none⟩]⟩,
  ⟨"MIR_PJ_COOKIE_HI", 0x1D030C, 0x0, 0, 1, 0x0, 1, 2, 3, [⟨"COOKIE", 0, 32, .ro, .val 0, none⟩]⟩]

/-- All rows of block MIR. -/
def mapMIR : List RegRow := mapMIR1 ++ mapMIR2

/-- The rows of the block an offset lies in (the extents of "Register map"); none outside every block. -/
def blockRows (off : Nat) : List RegRow :=
  if off < 0x54 then mapGEN
  else if off < 0x10250 then (if off < 0x10000 then [] else mapPWR)
  else if off < 0x2F808 then (if off < 0x20000 then [] else mapHIF)
  else if off < 0x30280 then (if off < 0x30000 then [] else mapEVT)
  else if off < 0x40090 then (if off < 0x40000 then [] else mapTXN)
  else if off < 0x90000 then (if off < 0x80000 then [] else mapLAN)
  else if off < 0xC0800 then (if off < 0xA0000 then [] else mapPRT)
  else if off < 0xE2820 then (if off < 0xE0000 then [] else mapBUF)
  else if off < 0x100A18 then (if off < 0x100000 then [] else mapTBL)
  else if off < 0x180000 then (if off < 0x140000 then [] else mapSCH)
  else if off < 0x1817F8 then (if off < 0x180000 then [] else mapTIM)
  else if off < 0x194000 then (if off < 0x190000 then [] else mapPHS)
  else if off < 0x1A09F4 then (if off < 0x1A0000 then [] else mapREF)
  else if off < 0x1B1018 then (if off < 0x1B0000 then [] else mapTIC)
  else if off < 0x1C1658 then (if off < 0x1C0000 then [] else mapCAL)
  else if off < 0x1D0310 then (if off < 0x1D0000 then [] else mapMIR)
  else []

/-- The indices under which `off` is an instance of a row. -/
def RegRow.find (r : RegRow) (off : Nat) : Option (Nat × Nat) :=
  if off < r.base then none
  else
    let d := off - r.base
    let n := if r.strideN = 0 then 0 else d / r.strideN
    let e := if r.strideN = 0 then d else d % r.strideN
    let k := if r.strideK = 0 then 0 else e / r.strideK
    let z := if r.strideK = 0 then e else e % r.strideK
    if z = 0 ∧ r.firstN ≤ n ∧ n < r.countN ∧ k < r.countK then some (n, k) else none

/-- Search in a list of rows. -/
def findIn (off : Nat) : List RegRow → Option (RegRow × Nat × Nat)
  | [] => none
  | r :: rs => match r.find off with
    | some (n, k) => some (r, n, k)
    | none => findIn off rs

/-- The register at an offset with its instance indices; `none` where the offset is unmapped (R384). -/
def findReg (off : Nat) : Option (RegRow × Nat × Nat) := findIn off (blockRows off)

/-- The number a reset entry stands for at an instance (the tables of "Register map"). -/
def ResetVal.at (v : ResetVal) (n : Nat) : Nat :=
  match v with
  | .val x => x
  | .bufRsv => if n % 8 = 7 then 64 else if n % 8 = 6 then 256 else 16
  | .taskDefer => if n = 0 then 0x3C else if n = 1 then 0x12C else if n = 2 then 0x12C else if n = 3 then 0 else 0xE10
  | .calThr => if n = 6 then 0 else 8
  | .calDefer => if n = 1 ∨ n = 2 then 0x12C else if n = 3 ∨ n = 5 then 0x3C else if n = 4 then 0xA else 0
  | .slotWin => if 10 ≤ n ∧ n ≤ 13 then 100 else 0
  | .slotBw => if n < 8 then 0x1388 else if n < 10 then 0x3E8 else if n < 12 then 0x32 else 0xA
  | .slotLockWin => if n < 10 then 2 else if n < 12 then 0x14 else if n = 12 then 0x32 else if n = 13 then 0x3E8 else 1
  | .slotLockN => if n < 8 then 0x3E8 else if n < 10 then 0x7D0 else if n < 12 then 0xA else if n < 14 then 0x1E else 0x64
  | .elsewhere => 0

/-- The word that fields with their reset values make. -/
def fieldsReset (n : Nat) : List FieldDesc → Nat
  | [] => 0
  | f :: fs => (f.reset.at n % 2 ^ f.width) <<< f.lo ||| fieldsReset n fs

/-- A register's silicon reset value (R391): what it reads as before anything has changed it. -/
def regReset (off : Nat) : Word :=
  match findReg off with
  | some (r, n, _) => BitVec.ofNat 32 (fieldsReset n r.fields)
  | none => 0

/-- The power domain that holds the register at an offset ("Cleared with" of the block table): 0 AON, 2 TIME, 3 TIC,
4 HOST, 5 MIRROR, 7 BUF, 8 TBL, 9..12 the lane groups. -/
def regDomain (off : Nat) : Nat :=
  if off < 0x20000 then 0
  else if off < 0x80000 then 4
  else if off < 0xA0000 then 9 + (off - 0x80000) / 0x4000
  else if off < 0xC0000 then 9 + (off - 0xA0000) / 0x8000
  else if off < 0xE0000 then 4
  else if off < 0x100000 then 7
  else if off < 0x140000 then 8
  else if off < 0x180000 then 9 + (off - 0x140000) / 0x10000
  else if off < 0x190000 then 2
  else if off < 0x1A0000 then 9 + (off - 0x190000) / 0x1000
  else if off < 0x1B0000 then 2
  else if off < 0x1C0000 then 3
  else if off < 0x1D0000 then 4
  else if off = 0x1D0000 ∨ off = 0x1D0008 ∨ off = 0x1D000C ∨ off = 0x1D0010 then 0
  else 5

/-- The bits of a register that fields of the given access codes hold. -/
def accMask (p : Access → Bool) : List FieldDesc → Word
  | [] => 0
  | f :: fs => (if p f.acc then (BitVec.ofNat 32 (2 ^ f.width - 1)) <<< f.lo else 0) ||| accMask p fs

end Sys2Proof.Machine
end

