-- ==== Sys2Proof/Machine/State.lean ====
section
/-! DEFINITION. The state of the module as plain data, its faults and refusals, and the state after reset. Registers
are a sparse store over BAR0 offsets; what the manual gives a unit beside its registers stands in one structure per
chapter. Every store is in canonical form (Machine/Store.lean). -/

namespace Sys2Proof.Machine

/-! ### Host interface (02_host_interface.md) -/

/-- The states of a journal entry but FREE (R46). -/
inductive JState where
  | received | marked | done
  deriving DecidableEq, Repr

/-- A completion prepared for a tag (R43). `time` is in units of 2^-16 ns. -/
structure Completion where
  status : Nat
  resA : Nat
  resB : Nat
  time : Nat
  deriving DecidableEq, Repr

/-- A journal entry (R46): the ring, the place in fetch order, the 64 bytes of the command (byte 0 lowest), what stands in its operand
buffer (R38), its state, whether its execution has begun and waits for its end, its prepared completion, and RECOVERED. -/
structure JEntry where
  ring : Nat
  seq : Nat
  cmd : BitVec 512
  buffer : List Byte
  st : JState
  started : Bool
  recovered : Bool
  comp : Completion
  deriving DecidableEq, Repr

/-- The unsignalled entries of an MSI-X vector and the tick of the first (R34). -/
structure MsixVec where
  count : Nat := 0
  since : Nat := 0
  deriving DecidableEq, Repr

/-! ### The event queue (R54..R60) -/

/-- An event as it is raised: severity and SEQ are added when its record is written (R54). `time` is in units of
2^-16 ns; `detail` holds bytes 24..63, byte 24 lowest. -/
structure EvtRec where
  source : Nat
  scope : Nat
  flags : Nat
  time : Nat
  detail : BitVec 320
  deriving DecidableEq, Repr

/-- The coalescing window of one source and scope (R56): the tick of the last record, what has been gathered since; of source 69, the
count of corrected codewords at that record (R108). -/
structure Coalesce where
  source : Nat
  scope : Nat
  since : Nat
  gathered : Nat
  flags : Nat
  corrected : Nat
  last : EvtRec
  deriving DecidableEq, Repr

/-- An overflow episode (R57): first lost SEQ, records lost, map of lost sources; `queueFull` when the first record of
event 92 has been written for it. -/
structure Overflow where
  first : Nat
  lost : Nat
  map : BitVec 96
  queueFull : Bool
  deriving DecidableEq, Repr

/-- The event logic. -/
structure EvtState where
  /-- Records generated and not yet written, held or lost, oldest first. -/
  gen : List EvtRec := []
  /-- Records held while the queue cannot be written, with their SEQ, oldest first; at most 256 (R58). -/
  held : List (Nat × EvtRec) := []
  windows : List Coalesce := []
  overflow : Option Overflow := none
  /-- Vectors of the records written since the last shadow write (R413). -/
  batch : List Nat := []
  deriving DecidableEq, Repr

/-- What leaves the module: DMA writes, interrupt messages, frames and messages on its links. -/
inductive Output where
  /-- A completion entry written at an index of the completion ring (R43). -/
  | completion (index : Nat) (entry : BitVec 256)
  /-- An event record written at an index of the event queue (R54). -/
  | eventRecord (index : Nat) (record : BitVec 512)
  /-- The producer index written to the shadow line (R413). -/
  | shadow (prod : Nat)
  /-- An MSI-X message (R34). -/
  | msix (vector : Nat)
  /-- A write to host memory: an operand buffer's returned data. -/
  | buffer (addr : Nat) (data : List Byte)
  /-- A transmit descriptor written back with DONE and STATUS (R50). -/
  | txDone (index status : Nat)
  /-- A receive descriptor filled (R51), with the bytes put into its buffer. -/
  | rxDescriptor (index : Nat) (descriptor : BitVec 256) (data : List Byte)
  /-- A sample record (R53). -/
  | sample (index : Nat) (header : BitVec 512) (data : List Byte)
  /-- A record of the event timing inputs' high-rate ring (R281). -/
  | ringRecord (index : Nat) (record : BitVec 256)
  /-- A frame, or a fragment of one, sent on a port, FCS included; `whole` is false for a fragment or a cut frame. -/
  | frame (port : Nat) (data : List Byte) (stamp : Nat) (whole : Bool)
  /-- A PFC frame: class enable vector and the eight times (R123). -/
  | pfc (port enable : Nat) (times : List Nat)
  /-- A link-level PAUSE with its time (R127). -/
  | llp (port time : Nat)
  /-- A lantern set sent on a port, or on an Emulug lane as 64 and 65: its block in the order of R221, sync header highest, and its egress
  stamp. -/
  | lantern (port : Nat) (block : BitVec 66) (stamp : Nat)
  /-- A preemption verify (0) or response (1) mPacket (R181). -/
  | mpacket (port kind : Nat)
  /-- A message on the Emulug link: session, SEQ, type and body (R314, R315). -/
  | emulug (lane session seq kind : Nat) (body : List Nat)
  /-- The claim word on the claim wiring (R309). -/
  | claimWord (word : Nat)
  /-- A realigned or started timing output: its first edge in module time, units of 2^-16 ns (R259, R261). -/
  | outputEdge (k : Nat) (time : Nat)
  /-- The IRIG time code frame that an output begins with that edge: its 100 symbols (0, 1, 2 a marker), and whether as B12x (R257). -/
  | irig (k : Nat) (symbols : List Nat) (am : Bool)
  /-- A Clause 37 base page sent on a 1G port (R100, R104). -/
  | autoNeg (port page : Nat)
  /-- A PRBS bit error or burst put on a lane (R107). -/
  | prbsInject (lane bits : Nat)
  /-- Bytes read from the identity record on the I2C pair (R406). -/
  | i2c (data : List Byte)
  /-- What a host's read of a register returns. -/
  | read (off : Nat) (value : Word)
  /-- A lamp (0..3), a claim wire (11 HOLD, 12 READY, 13 IN_SERVICE) or a driven LANE_SEL_OUT (16..19) by number and level (R309,
  R364). -/
  | pin (name level : Nat)
  deriving DecidableEq, Repr

/-- The host interface beside its registers: configuration-space bits, the journal, the rings' order, the vectors. -/
structure HifState where
  busMaster : Bool := false
  msixEnable : Bool := false
  msixFuncMask : Bool := false
  journal : Store (Option JEntry) := []
  /-- Tags whose completion is prepared, in order of completion (R44). -/
  doneQ : List Nat := []
  fetchSeq : Nat := 0
  /-- Weighted round robin (R35): the ring whose turn it is and how many it has given. -/
  rrRing : Nat := 0
  rrTaken : Nat := 0
  vecs : Store MsixVec := []
  /-- Tags of commits that a supply warning held in RECEIVED (R49). -/
  supplyHeld : List Nat := []
  sampleSeq : Nat := 0
  sampleLost : Nat := 0
  /-- Ring entries whose write failed, oldest first, held until their ring is enabled again (R32). -/
  unwritten : List Output := []
  /-- Half-tick from which the next record of the high-rate ring may be written: 10 million a second (R279). -/
  ringAt : Nat := 0
  deriving DecidableEq, Repr

/-! ### Slopol images and transactions (03_structure_and_transactions.md) -/

/-- A key slot (R66): empty, active with a P-384 public key, or revoked. -/
inductive KeySlot where
  | empty
  | active (x y : Nat)
  | revoked
  deriving DecidableEq, Repr

/-- A restructure of a lane group in progress (R72): its start tick and the stages done. -/
structure Restructure where
  since : Nat
  discarded : Bool
  loaded : Bool
  deriving DecidableEq, Repr

/-- An image load that waits for its flash write: the command's tag, the slot, the image (R70). -/
structure FlashWrite where
  tag : Nat
  slot : Nat
  image : Image
  deriving DecidableEq, Repr

/-- Images and what flash holds. -/
structure ImgState where
  active : Option Image := none
  flash : Store (Option Image) := []
  keys : Store KeySlot := []
  rollback : Nat := 0
  /-- TXN_BOOT_CFG as stored: PREFERRED, FALLBACK_EN. -/
  bootCfg : Nat := 2
  restr : Store (Option Restructure) := []
  /-- Register defaults of the image activated last, and the domains cleared since they were applied (R62, R71). -/
  defaults : List (Nat × Word × Word) := []
  fresh : Nat := 0
  /-- Ports with 4 queues now: the queue counts that the pipelines have loaded (R72). -/
  four : List Nat := []
  write : Option FlashWrite := none
  deriving DecidableEq, Repr

/-! ### Lanes and ports (04_lanes_and_ports.md) -/

/-- What a lane holds beside its registers: the one-second PRBS interval and the injections asked for (R106, R107). -/
structure Lane where
  prbsErr : Nat := 0
  prbsBits : Nat := 0
  prbsLost : Bool := false
  prbsSince : Nat := 0
  /-- Bits of a pending injection; 0 when none is pending. -/
  inject : Nat := 0
  /-- The tick at which ADAPT_FREEZE began to hold the feedback taps (R93). -/
  tapsHeld : Option Nat := none
  deriving DecidableEq, Repr

/-- What the link logic of a port holds beside its registers (R97..R102). -/
structure Link where
  /-- Fault conditions of R99 that hold now: (cause, tick since when). -/
  faults : List (Nat × Nat) := []
  /-- The tick since which all conditions of R101 have held. -/
  upSince : Option Nat := none
  /-- The tick of the last LINK_UP declaration. -/
  upAt : Option Nat := none
  /-- Flaps since the time was last at UP_HOLD_MS, and whether flap suppression has raised the time since (R102). -/
  flaps : Nat := 0
  raised : Bool := false
  /-- Skew beyond the limit: the tick at which lock is tried again (R97). -/
  deskewRetry : Option Nat := none
  deskewEvent : Option Nat := none
  /-- Deskew delay of the lowest lane at the last alignment-marker lock, ns (R96). -/
  deskew : Nat := 0
  /-- A calibrated transmit delay that takes effect when the transmission which began at a tick is over (R292). -/
  newTx : Option (Int × Nat) := none
  deriving DecidableEq, Repr

/-! ### The frame path (05_frame_path.md) -/

/-- The pool an ingress charge was taken from (R125). -/
inductive Pool where
  | none | shared | headroom | escalation
  deriving DecidableEq, Repr

/-- The edits of a destination entry (R166): its EDIT flags, DA, SA and VLAN word. -/
structure Edit where
  flags : Nat := 0
  da : Nat := 0
  sa : Nat := 0
  vlan : Nat := 0
  deriving DecidableEq, Repr

/-- A copy of a stored frame, linked on a queue or in transmission (R110, R130, R131). -/
structure Copy where
  port : Nat
  queue : Nat
  editLen : Nat
  /-- The edits it is given, as the lookup read them (R131, R143). -/
  edit : Edit
  /-- The sequence number an RTAG_INSERT writes. -/
  rtag : Nat
  untag : Bool
  /-- Charged to the queue's reservation (R121). -/
  rsv : Bool
  fitWaited : Bool
  /-- REASON of R51 for a copy to port 64. -/
  reason : Nat
  deriving DecidableEq, Repr

/-- A stored frame's descriptor (R114, R130, R208): its cells in order, its copies not yet gone. -/
structure Frame where
  id : Nat
  inPort : Nat
  cls : Nat
  len : Nat
  cells : List Nat
  integrity : BitVec 32
  /-- Ingress stamp, units of 2^-16 ns. -/
  stamp : Nat
  stepGen : Nat
  epoch : Nat
  pool : Pool
  charged : Nat
  copies : List Copy
  /-- YELLOW_DEI applies (R177). -/
  setDei : Bool
  /-- Sent from port 64 with TS_REQ: the tag of the timestamp entry (R50, R214). -/
  tsTag : Option Nat
  flags : Nat
  deriving DecidableEq, Repr

/-- A transmission in progress on a port (R130, R182): the copy, the ticks of its first and last bit, the bytes put
out, whether it is express, and the bytes sent before this fragment. -/
structure Tx where
  frame : Nat
  cls : Nat
  queue : Nat
  startTick : Nat
  endTick : Nat
  startTime : Nat
  stamp : Nat
  express : Bool
  data : List Byte
  sentBefore : Nat
  deriving DecidableEq, Repr

/-- What is known of a buffer cell that is not plainly free (R119): its last corrected bytes by (word, byte position,
frame that read it), whether it is marked for retirement, whether it is retired. -/
structure CellInfo where
  used : Bool := false
  marked : Bool := false
  retired : Bool := false
  fixes : List (Nat × Nat × Nat) := []
  deriving DecidableEq, Repr

/-- A received pause of a class (R128, R377): the tick it runs to, the tick since when the queue has been held with a
copy, and the storm: start tick, last non-zero pause, frames ignored. -/
structure RxPause where
  until_ : Nat := 0
  since : Option Nat := none
  linkLevel : Bool := false
  storm : Option Nat := none
  stormLast : Nat := 0
  stormIgnored : Nat := 0
  deriving DecidableEq, Repr

/-- What the frame path holds for a port beside its registers. -/
structure PortState where
  /-- The port-down hold: the tick at which it expires (R134); `holdCause` tells a SINGLE_HOMED release (R308). -/
  hold : Option Nat := none
  holdSingle : Bool := false
  /-- The HOLD_MS that the hold began with (R136). -/
  holdMs : Nat := 0
  tx : Option Tx := none
  /-- Preempted copies waiting to be resumed, one per queue at most (R182). -/
  cut : List Tx := []
  /-- The tick until which the wire is taken by what was last sent (R184). -/
  busy : Nat := 0
  /-- The express copy last sent whole: its class, the ticks of its first and last bit at the plane. -/
  ran : Option (Nat × Nat × Nat) := none
  /-- Ticks at which the XOFF and the link-level PAUSE were last sent (R123, R127). -/
  xoffSent : Nat := 0
  llpSent : Nat := 0
  /-- What the peer was last told: the priorities in XOFF, and whether a link-level PAUSE is in force. -/
  told : Nat := 0
  toldLlp : Bool := false
  rxPause : Store RxPause := []
  /-- Priorities that R123 holds in XOFF, whether the elastic store holds them all (R124), classes that the governor
  throttles (R342), and the episodes that called for link-level PAUSE (R127). -/
  r123 : Nat := 0
  elasticHold : Bool := false
  throttle : Nat := 0
  llpEpisodes : Nat := 0
  /-- Sampling countdowns, ingress and egress (R132). -/
  smpIn : Nat := 0
  smpOut : Nat := 0
  /-- Counts at the start of the present second (R376): frames, parse, length, FCS, and whether in an episode. -/
  secFrames : Nat := 0
  secParse : Nat := 0
  secLen : Nat := 0
  secFcs : Nat := 0
  secMark : Nat := 0
  malformed : Bool := false
  /-- Deficit round robin (R179): the queue whose visit is open. -/
  drrAt : Option Nat := none
  drrNext : Nat := 5
  /-- Deficits by queue number (R179); SCH[n]_DRR_DEFICIT shows them. -/
  deficit : Store Nat := []
  /-- Preemption verification (R181): attempts made, the tick of the last, the last response malformed. -/
  verifyTries : Nat := 0
  verifyAt : Nat := 0
  verifyBad : Bool := false
  verifyFailed : Bool := false
  deriving DecidableEq, Repr

/-- The shared buffer. -/
structure BufState where
  /-- Stored codewords by 4 × cell + word (R116, R117). -/
  words : Store (BitVec 288) := []
  cells : Store CellInfo := []
  frames : List Frame := []
  /-- Queues 8p + j as lists of frame identifiers, head first (R121, R133). -/
  queues : Store (List Nat) := []
  nextFrame : Nat := 0
  /-- The bank counted from at the next frame (R120). -/
  startBank : Nat := 0
  /-- Elastic store fill of each lane group in bytes, as last reported (R18, R124). -/
  elastic : Store Nat := []
  /-- Banks scrubbed in the present pass. -/
  scrubbed : List Nat := []
  deriving DecidableEq, Repr

/-! ### Tables (06_tables.md) -/

/-- The counters and state of a FRER instance (R159, R160). `history` is the received-window bit vector, bit 0 the
sequence number RECOV_SEQ. -/
structure FrerState where
  recovSeq : Nat := 0
  genSeq : Nat := 0
  passed : Nat := 0
  discarded : Nat := 0
  outOfOrder : Nat := 0
  rogue : Nat := 0
  lost : Nat := 0
  resets : Nat := 0
  tagless : Nat := 0
  takeAny : Bool := true
  history : Nat := 0
  /-- Tick of the last frame passed or eliminated in the window: the reset timer's start. -/
  lastTick : Nat := 0
  /-- The one-second rogue interval: start tick, rogues, last sequence number and RECOV_SEQ then. -/
  rogueSince : Nat := 0
  rogueCount : Nat := 0
  rogueSeq : Nat := 0
  rogueRecov : Nat := 0
  /-- The one-millisecond burst window: start tick, passed, eliminated, and whether a burst is open. -/
  msSince : Nat := 0
  msPassed : Nat := 0
  msElim : Nat := 0
  burst : Bool := false
  deriving DecidableEq, Repr

/-- A policer's buckets in units of 2^-16 byte and its last-update time in units of 2^-16 ns (R175). -/
structure Buckets where
  tc : Nat
  tp : Nat
  last : Nat
  deriving DecidableEq, Repr

/-- The content of a table entry, by table (R145, R146, R157, R159, R161, R164, R166, R167). -/
inductive Payload where
  | mac (mac fid target kind : Nat) (static hit age : Bool)
  | stream (mac vid kind word : Nat)
  | frer (historyLen flags dupMargin resetMs : Nat) (st : FrerState)
  | route4 (prefix_ len result : Nat)
  | route6 (prefix_ len result : Nat)
  | ternary (key mask prio result : Nat)
  | dest (ports edit next : Nat) (last : Bool) (da sa vlan : Nat)
  | policer (cir pir cbs pbs flags : Nat) (b : Buckets)
  | vid (vid members untagged fid flags : Nat)
  deriving DecidableEq, Repr

/-- A placed entry: its index and generation, its content, the epoch parities it is visible to (bit 0 even, bit 1
odd), whether a host command wrote it (so that a protected copy exists), whether the entry and its copy are bad
(R168), and the order of insertion that ranks equal ternary priorities (R165). -/
structure Entry where
  index : Nat
  gen : Nat
  payload : Payload
  vis : Nat
  host : Bool
  bad : Bool
  copyBad : Bool
  order : Nat
  deriving DecidableEq, Repr

/-- Where an entry of a cuckoo table lies. -/
inductive Place where
  | slot (n : Nat)
  | stash
  deriving DecidableEq, Repr

/-- A staged or committed version of a table's entries, with where each lies. -/
structure Placed where
  entry : Entry
  place : Place
  deriving DecidableEq, Repr

/-- One table (by table number of R139): its entries in order of placement, the next generation of every index used
and freed, and its background state. -/
structure Table where
  entries : List Placed := []
  gens : Store Nat := []
  nextOrder : Nat := 0
  /-- The learn queue of a pipeline's MAC table: (MAC, FID, ingress port), oldest first (R152). -/
  learnQ : List (Nat × Nat × Nat) := []
  /-- Learns failed in the open episode of event 48, with the first failed sender. -/
  full : Option (Nat × Nat × Nat × Nat) := none
  /-- The sweep in progress (R155): its start tick, the units done, entries removed, and by index and generation the learned
  entries that it found at its start and has still to visit, and those visited. -/
  sweepAt : Nat := 0
  sweepPos : Nat := 0
  sweepRemoved : Nat := 0
  sweepDue : List (Nat × Nat) := []
  sweepSeen : List (Nat × Nat) := []
  /-- Units done of the parity scrubber's pass (R168), and the entries it has visited, by order of insertion. -/
  scrubPos : Nat := 0
  scrubSeen : List Nat := []
  /-- Index-map entries that have gone bad (R168). -/
  badMap : List Nat := []
  deriving DecidableEq, Repr

/-- The tables and what learning holds per port (R153). -/
structure TblState where
  tables : Store Table := []
  /-- Learning tokens of a port as tokens × ticks per second, and the tick of the last refill; absent: full. -/
  tokens : Store (Option (Nat × Nat)) := []
  /-- A flush in progress: (port match, FID match) (R154). -/
  flush : Option (Option Nat × Option Nat) := none
  /-- Entries learned behind the flush's walk, by table and index. -/
  flushKept : List (Nat × Nat) := []
  /-- Trie entries that have gone bad: IP version, stage, key (R168). -/
  badTrie : List (Bool × Nat × Nat) := []
  deriving DecidableEq, Repr


/-- A staged register: the bits staged and their values (R75). -/
structure StagedReg where
  mask : Word
  value : Word
  deriving DecidableEq, Repr

/-- A staged table operation (R76): the command code, insert or delete, the index and generation of its entry, whether
an insert replaces a live entry, whether the operation names its entry by key, the content or key. -/
structure StagedOp where
  code : Nat
  insert : Bool
  index : Nat
  gen : Nat
  replaced : Bool
  byKey : Bool
  payload : Payload
  deriving DecidableEq, Repr

/-- A commit in progress (R81, R83, R84). Times in units of 2^-16 ns; `instant` is the apply instant once known. -/
structure Commit where
  /-- The tag of its command; none for a commit of the partner. -/
  tag : Option Nat
  /-- The 96-bit AT as given, 0 for an immediate commit. -/
  at96 : Nat
  /-- Tick at which the commit entered VALIDATING, and PENDING_DRAIN. -/
  since : Nat
  drainSince : Nat
  /-- Held in RECEIVED by a supply warning: never judged by the lead (R49). -/
  heldSupply : Bool
  paired : Bool
  epoch : Nat
  instant : Nat
  /-- A pair decision COMMIT has been sent or received. -/
  decided : Bool
  /-- A reset fell between entry into WAIT_TIME and AT (R85); `placeAfresh` when it cleared PD8. -/
  recovered : Bool
  placeAfresh : Bool
  deriving DecidableEq, Repr

/-- A transaction of the partner for which this unit has voted yes (R84): the number and tag it bears there, the epoch and apply
instant, its changes, whether the decision COMMIT has come, and whether the instant passed without one. -/
structure Remote where
  id : Nat
  tag : Nat
  epoch : Nat
  instant : Nat
  items : List MirItem
  /-- Its 96-bit AT, 0 for an immediate commit: what event 88 reports of it. -/
  at96 : Nat
  decided : Bool
  doubt : Bool
  /-- The partner's journal has shown its command MARKED. -/
  marked : Bool
  deriving DecidableEq, Repr

/-- The staged content of a transaction. -/
structure Staging where
  id : Nat
  regs : Store (Option StagedReg) := []
  ops : List StagedOp := []
  conflict : Bool := false
  deriving DecidableEq, Repr

/-- The transaction logic. -/
structure TxnState where
  /-- Last TXN_ID issued, kept in PD0 (R74). -/
  lastId : Nat := 0
  /-- The apply instant of the current epoch, units of 2^-16 ns (R79). -/
  appliedAt : Nat := 0
  open_ : Option Staging := none
  commit : Option Commit := none
  /-- The partner's transaction for which this unit has voted yes (R84). -/
  remote : Option Remote := none
  /-- The partner's epoch as last told (R84). -/
  partnerEpoch : Nat := 0
  /-- What the registers that the current epoch changed held before it: what frames of the epoch before use (R79). -/
  oldRegs : List (Nat × StagedReg) := []
  /-- The commit mark of the last commit that was sent to the partner: tag, ring, opcode, cookie (R84). -/
  lastMark : Option (Nat × Nat × Nat × Nat) := none
  deriving DecidableEq, Repr
/-! ### Gates (07_classes_and_gates.md) -/

/-- A gate list: entries (interval ns, gates, operation), cycle in ns, base time in units of 2^-16 ns (R183, R185). -/
structure GateList where
  entries : List (Nat × Nat × Nat)
  cycle : Nat
  base : Nat
  deriving DecidableEq, Repr

/-- A pending list: start instant in units of 2^-16 ns, and whether it starts late (R186). -/
structure PendingList where
  list : GateList
  start : Nat
  late : Bool
  deriving DecidableEq, Repr

/-- The gate logic of a port (R183..R192): administrative entries written, the running list, the pending list, the
snapshot stored while disabled. -/
structure Gate where
  admin : Store (Nat × Nat × Nat) := []
  oper : Option GateList := none
  pend : Option PendingList := none
  stored : Option GateList := none
  /-- The module time at which the running list began; a time step moves it (R183, R187). -/
  since : Nat := 0
  deriving DecidableEq, Repr

/-! ### Time base (08_time_base.md) -/

/-- A running slew (R199, R200): the signed amount in units of 2^-16 ns, the ticks it is spread over, the ticks done. -/
structure Slew where
  amt : Int
  n : Nat
  done : Nat
  deriving DecidableEq, Repr

/-- One entry of a transmit timestamp FIFO (R214). `stamp` is in units of 2^-16 ns. -/
structure TsfEntry where
  tag : Nat
  discarded : Bool
  flags : Nat
  stamp : Nat
  deriving DecidableEq, Repr

/-- A step that waits under R208, with the tag of its command; `marked` once its wait has ended (R411). -/
structure PendingStep where
  tag : Nat
  marked : Bool
  waited : Bool
  deriving DecidableEq, Repr

/-- The time core (R196..R201, R208, R214..R216). -/
structure TimeBase where
  /-- Module time in units of 2^-40 ns. -/
  now : Nat := 0
  /-- The active increment, units of 2^-40 ns per tick. -/
  inc : Nat := Config.nominalInc
  /-- An increment written and not yet transferred (R198). -/
  incNext : Option Nat := none
  slew : Option Slew := none
  /-- The amount S of the last step, units of 2^-16 ns (R208). -/
  lastStep : Int := 0
  step : Option PendingStep := none
  /-- A capture requested and not yet made (R216). -/
  snapReq : Bool := false
  /-- The transmit timestamp FIFOs, oldest entry first, by port (R214). -/
  tsf : Store (List TsfEntry) := []
  deriving DecidableEq, Repr


/-! ### Lantern sets (09_lantern_phase.md) -/

/-- The samples of one 1 ms block (R227): number, sum in units of 2^-16 ns, flags (bit 0 a stamp under a Level 1 run,
bit 1 supply-disturbed at either end, bit 2 discarded for a step). -/
structure LBlock where
  n : Nat := 0
  sum : Int := 0
  flags : Nat := 0
  deriving DecidableEq, Repr

/-- The sums of one capture of a role swap (R234): the VALID blocks, and over them the sums of the
block's time in ms since the capture began, of D, of the offset and of their products; the same of the reference port's
D. All of D and the offset in units of 2^-16 ns. -/
structure Capture where
  n : Nat := 0
  t : Int := 0
  tt : Int := 0
  d : Int := 0
  dd : Int := 0
  th : Int := 0
  thth : Int := 0
  tth : Int := 0
  rn : Nat := 0
  rd : Int := 0
  rdd : Int := 0
  deriving DecidableEq, Repr

/-- A role swap (R234): the start ticks of the present capture and of the gap, the time base of its line in ms, AVG_S and REF_PORT
as they were at its start, the peer's step generation then, and the two captures. -/
structure Swap where
  since : Nat := 0
  gapAt : Nat := 0
  gapTicks : Nat := 0
  ms0 : Nat := 0
  avg : Nat := 0
  ref : Nat := 127
  gen : Option Nat := none
  before : Capture := {}
  after : Capture := {}
  deriving DecidableEq, Repr

/-- A block that had begun before a step of this module's time and is not yet reported (R227): its number, what was gathered, the tick
from which it is reported without a summary, its asymmetry. -/
structure OldBlock where
  k : Nat
  block : LBlock
  until_ : Nat
  asym : Int
  deriving DecidableEq, Repr

/-- What the lantern logic of a port, or of an Emulug lane (R232), holds beside its registers (R219..R234). -/
structure Lantern where
  /-- Tick at which sending started, offers made since, SEQ of the next time word. -/
  sendAt : Nat := 0
  offers : Nat := 0
  seq : Nat := 0
  /-- Sets of the word in hand not yet sent, and the millisecond of module time in which the last word started. -/
  word : List Nat := []
  wordMs : Nat := 0
  /-- The block whose summary a step found not yet begun: BLOCK, COUNT and M. -/
  owed : Option (Nat × Nat × Nat) := none
  /-- Sets of the received word in progress; of its set 0 the receive stamp, whether that was under a Level 1 run, in a supply warning,
  and before a step of this module's time; and whether sets up to the next set 0 are passed over. -/
  rx : List Nat := []
  rxStamp : Nat := 0
  rxCal : Bool := false
  rxSupply : Bool := false
  rxOld : Bool := false
  skip : Bool := true
  /-- Consecutive valid words since SEEKING, up to 8; tick of the last; tick of entry into UP; of entry into SUSPENDED. -/
  streak : Nat := 0
  lastGood : Nat := 0
  upAt : Nat := 0
  suspendAt : Nat := 0
  /-- Step generation in the last valid word. -/
  peerGen : Option Nat := none
  /-- The next block to report, and the blocks gathered, by number. -/
  next : Nat := 0
  blks : Store LBlock := []
  old : List OldBlock := []
  /-- Peer summaries not yet used: BLOCK, COUNT, M as 40 bits, supply-disturbed. -/
  sums : List (Nat × Nat × Nat × Bool) := []
  /-- The first VALID report since SEEKING: BLOCK, d, θ. -/
  firstOk : Option (Nat × Int × Int) := none
  /-- The latest report: d, θ, peer's COUNT, own samples (R229). -/
  latest : Int × Int × Nat × Nat := (0, 0, 0, 0)
  /-- Asymmetries used before, oldest first: each with the first block that no longer uses it (R233). -/
  asyms : List (Nat × Int) := []
  swap : Swap := {}
  deriving DecidableEq, Repr

/-! ### References and outputs (10_references.md) -/

/-- What a reference slot (0..14, 16..23) holds beside its registers (R239, R240): the lost mark, the faults in force, its
timer's start and length, the second that its next edge is named with (R256), the ticks of its lock losses, and when its last fault was
first detected (R251). -/
structure RefSlot where
  lost : Bool := false
  faults : List Nat := []
  timerAt : Nat := 0
  timerS : Nat := 0
  nextSec : Option Nat := none
  losses : List Nat := []
  faultAt : Nat := 0
  deriving DecidableEq, Repr

/-- A switch in progress (R244, R246). `ownState` is the DPLL state it began from, `oldOk` whether the old slot was
QUALIFIED then; the edges of a pulse-type target since, and for a time slot the offsets of the first two. -/
structure Switch where
  old : Nat
  target : Nat
  since : Nat
  ownState : Nat
  oldOk : Bool
  edges : Nat := 0
  offs : List Int := []
  deriving DecidableEq, Repr

/-- A pair of slots of equal rank that disagree (R243): outcome as event 20 codes it, and since when. -/
structure Disagreement where
  a : Nat
  b : Nat
  outcome : Nat
  since : Nat
  deriving DecidableEq, Repr

/-- A holdover of the frequency class (R251, R253): its entry tick, value and quality, mean temperature T_w of the window
in 1/16 °C, phase error at entry in ps, and the variance of the mean of its window as a fraction. -/
structure Holdover where
  since : Nat
  value : Int
  quality : Nat
  tw : Int
  x0 : Nat
  varNum : Nat
  varDen : Nat
  deriving DecidableEq, Repr

/-- What a timing output holds beside its registers (R257..R261): the instant from which a pending start looks for its
first ideal edge, the tick since which a CLOCK removes its misalignment, and the boundary of a pending realignment. Instants in
units of 2^-16 ns of module time; a calibrated trim (units of 100 fs) and the boundary at which it takes effect (R294). -/
structure Out where
  start : Option Nat := none
  slewAt : Nat := 0
  boundary : Option Nat := none
  newTrim : Option (Nat × Int) := none
  deriving DecidableEq, Repr

/-- The references, the DPLL and the outputs. -/
structure RefState where
  slots : Store RefSlot := []
  fsw : Option Switch := none
  tsw : Option Switch := none
  disagree : List Disagreement := []
  /-- Tick of the last hand-over; cycles within and beyond the window; whether the loop is at its final bandwidth. -/
  handAt : Nat := 0
  good : Nat := 0
  bad : Nat := 0
  narrow : Bool := false
  /-- The loop filter's integrator, units of 2^-56, and the phase error of the last cycle in ps (R247). -/
  integ : Int := 0
  err : Int := 0
  /-- A lost CV: the control value stays frozen (R244). -/
  frozen : Bool := false
  /-- History of control values (R251), newest first: tick at the second's end, mean CV, temperature in 1/16 °C. -/
  hist : List (Nat × Int × Int) := []
  cvSum : Int := 0
  cvN : Nat := 0
  secAt : Nat := 0
  /-- The present second is not one of history: a switch ran in it, or the oscillator was warming (R251). -/
  secSwitch : Bool := false
  /-- The control value last stored in flash, if any. -/
  flashCv : Option Int := none
  ho : Option Holdover := none
  /-- The time class has had a selection; the tick at which it lost it. -/
  hadTime : Bool := false
  timeHo : Option Int := none
  /-- Whole seconds in LOCKED with a warmed oscillator. -/
  lockedS : Nat := 0
  wickLow : Bool := false
  /-- The virtual slot: tick of the last write, its value, the integral of its difference in 2^-56 × ms. -/
  virtAt : Option Nat := none
  virt : Int := 0
  virtInt : Int := 0
  outs : Store Out := []
  /-- Selection waits until every register of a set has been written (R241). -/
  held : Bool := false
  /-- Undecodable IRIG_IN frames in a row (R239). -/
  irigBad : Nat := 0
  /-- Realignments in progress: tag, outputs to wait for, outputs asked for. -/
  realign : List (Nat × Nat × Nat) := []
  deriving DecidableEq, Repr

/-! ### Event timing inputs (11_event_timing.md) -/

/-- A captured edge: its stamp (units of 2^-16 ns), its place on the tick count in units of a tenth of that (R270), its
polarity and interpolator bin. -/
structure Edge where
  stamp : Nat
  fine : Int
  rising : Bool
  bin : Nat
  deriving DecidableEq, Repr

/-- What an input holds beside its registers (R264..R285). -/
structure Tin where
  armed : Bool := false
  /-- An open measurement: whether its start opened it, the opening edge, and its stored timeout instant (R274). -/
  opened : Option (Bool × Edge × Nat) := none
  /-- Armed for edges stamped after this instant (R275). -/
  after_ : Option Nat := none
  /-- Stops stamped while an ordered measurement waits for its start (R272). -/
  earlyStops : List Edge := []
  /-- The last captured edge, the tick of the last edge seen at the comparator. -/
  last : Option Edge := none
  /-- Its place on the tick count at the converter, in units of a tenth of 2^-16 ns (R267). -/
  lastAt : Int := 0
  seenAt : Option Nat := none
  missed : Nat := 0
  seq : Nat := 0
  /-- Frequency: crossings since the last prescaled edge, the gate number and e_k, edges counted in it, the edge that ends
  it and edges counted from that on, and whether one fell in dead time. -/
  psc : Nat := 0
  gate : Nat := 0
  e0 : Option Edge := none
  cnt : Nat := 0
  e1 : Option Edge := none
  cnt1 : Nat := 0
  overran : Bool := false
  overran1 : Bool := false
  /-- TIC_CFG and TIC_THRESH as they stay in force while a change of them waits for an idle period (R265, R276, R285). -/
  kept : Option (Word × Word) := none
  /-- The bin table in force, by centre; none: the factory's. A new one waiting for an idle period with its widest bin; an empty one is the
  factory's. -/
  bins : Option (List Nat) := none
  nextBins : Option (List Nat × Nat) := none
  tableAt : Nat := 0
  launchAt : Nat := 0
  /-- Records that wait for the high-rate ring, oldest first, with the ticks of their making (R279). -/
  fifo : List (Nat × BitVec 256) := []
  deriving DecidableEq, Repr

/-! ### Calibration (12_calibration.md) -/

/-- A due run (R290): its trigger and since when; a host's run that a supply warning holds has its tag and reference; of a port that is down,
how long it had waited when it went down. -/
structure CalDue where
  trigger : Nat
  since : Nat
  tag : Option Nat
  ext : Bool
  waited : Option Nat
  deriving DecidableEq, Repr

/-- A run in progress: trigger, forced, external reference, start tick, sensor reading at its start, its command's tag. -/
structure CalRun where
  trigger : Nat
  forced : Bool
  ext : Bool
  since : Nat
  temp : Nat
  tag : Option Nat
  deriving DecidableEq, Repr

/-- Calibration, by instance number j (R289). -/
structure CalState where
  due : Store (Option CalDue) := []
  runs : Store (Option CalRun) := []
  /-- Port runs that wait for their turn in their lane group, first to run first (R292). -/
  queue : List (Nat × CalRun) := []
  /-- Port instances whose out-of-range run is repeated: the tick of its end and its trigger (R293). -/
  retry : Store (Option (Nat × Nat)) := []
  /-- Tick at which a lane group's last port run ended, by power domain (R292). -/
  portEnd : Store Nat := []
  /-- Instances of restructured lane groups whose initial runs follow at link up (R298). -/
  again : List Nat := []
  /-- Instances whose factory table in flash fails its check, each with its flash address (R299). -/
  badTables : List (Nat × Nat) := []
  /-- Tick at which the calibration in force took effect, where a run made it. -/
  tookAt : Store (Option Nat) := []
  /-- Tick from which an instance has been on its factory table: by power domain since it was cleared, by instance since USE_FACTORY or a
  change of FEC. -/
  clearedAt : Store Nat := []
  factoryAt : Store Nat := []
  /-- The factory tables in flash, by figure (`figCentre` and the rest): temperature in 1/16 °C and value at each point measured (R299). -/
  factory : Store (List (Int × Int)) := []
  /-- The redundant elements in use where a run has chosen them (R288): taps and cells by 2 × instance, a port's transmit cells one above. -/
  cells : Store (List Nat) := []
  /-- Bin tables of the reference converters; one that waits for an idle period of its input; tick of the last edge there. -/
  refBins : Store (Option (List Nat)) := []
  refNext : Store (Option (List Nat)) := []
  refSeen : Store (Option Nat) := []
  /-- Errors in fs of an output's edges as the input of its external run has stamped them (R296). -/
  extErrs : Store (List Int) := []
  /-- Sensor reading at the start of the last successful run, by instance (R290). -/
  temps : Store (Option Nat) := []
  /-- Linearity tables of the phase detectors, lanes 0..63, MIR0 and MIR1: the correction in fs for each count of helper periods (R291). -/
  linear : Store (Option (List Int)) := []
  deriving DecidableEq, Repr

/-! ### Pairs (13_mirrored_pair.md) -/

/-- A planned exchange (R328): the tag of its command (none on the unit that did not receive it), whether this unit is
the holder whose queues drain, the tick it began, and the apply instant (units of 2^-16 ns) with this unit's new
preference. -/
structure Exchange where
  tag : Option Nat
  holder : Bool
  since : Nat
  apply : Option (Nat × Nat)
  /-- The partner has accepted. -/
  acked : Bool
  /-- The apply instant has passed and the command waits for the claims to move the roles. -/
  moved : Bool
  deriving DecidableEq, Repr

/-- The pair logic beside its registers. -/
structure MirState where
  /-- Emulug session count, kept in PD0, and the SEQ of the next message (R314). -/
  session : Nat := 0
  seq : Nat := 0
  /-- Session and SEQ last taken from the partner. -/
  taken : Option (Nat × Nat) := none
  /-- Tick of the last valid CLAIM. -/
  heardAt : Option Nat := none
  /-- Tick of the last valid CLAIM, or since when this unit listens without one: silence counts from there (R316, R317). -/
  silentFrom : Nat := 0
  /-- At the last CLAIM the partner's image identity differed from this unit's. -/
  imgDiffered : Bool := false
  /-- Tick of the last synchronisation completed. -/
  syncedAt : Nat := 0
  /-- The last claim word received and its tick (R310). -/
  word : Option Nat := none
  wordAt : Nat := 0
  /-- Claim-gated drivers enabled: CLAIM_OUT[1] HOLD (R311). -/
  driving : Bool := false
  /-- This unit's claim exceeds the partner claim it has taken: CLAIM_OUT[2] READY (R309). -/
  ready : Bool := false
  /-- Synchronisation (R320): attempts failed, start tick of this one, items received, apply instant and epoch. -/
  syncFails : Nat := 0
  syncAt : Nat := 0
  items : List MirItem := []
  syncApply : Option (Nat × Nat) := none
  /-- The owner has reached its apply instant and waits for the partner's CLAIM to report IN_SERVICE (R320). -/
  await : Bool := false
  /-- A dual-active window is open: the roles that both hold, and the partner's reported take time, units of 2^-16 ns (R318). -/
  dual : Option (Nat × Nat) := none
  /-- The claim before the last change, and the tick of that change: a claim word in progress goes out whole (R310). -/
  claimWas : Nat × Nat := (0, 0)
  /-- The partner's FRER windows: RECOV_SEQ and history by instance (R326). -/
  shadow : Store (Option (Nat × Nat)) := []
  /-- The partner's journal states by tag: state, ring, opcode, cookie (R327). -/
  partnerJournal : Store (Nat × Nat × Nat × Nat) := []
  exch : Option Exchange := none
  /-- Inserts sent as HANDLE_REQ that wait for the owner's CHANGE: tag, table code, data (R322). -/
  requests : List (Nat × Nat × List Byte) := []
  /-- Module time of the last role taken, units of 2^-16 ns. -/
  takeTime : Nat := 0
  claimSent : Nat := 0
  stateSent : Nat := 0
  frerSent : Nat := 0
  /-- Recovery windows as they were last sent, by instance. -/
  frerShown : Store (Option (Nat × Nat)) := []
  /-- Holdover entry time that a unit taking TIME_SOURCE counts from, units of 2^-16 ns (R325). -/
  partnerHoldover : Option Nat := none
  deriving DecidableEq, Repr

/-! ### Energy, thermal, supply (14_energy_and_thermal.md) -/

/-- A unit of background work (R336): task, the pipeline, bank, table or record it concerns, since when it is due, and
whether event 6 has been raised for it. -/
structure BgUnit where
  task : Nat
  unit : Nat
  since : Nat
  deriving DecidableEq, Repr

/-- A pipeline below its floor (R18, R19): start tick, floor, rail and core temperature at detection, the elastic store's peak fill
in KiB, and the refusals counted before. -/
structure Slow where
  since : Nat
  floor : Nat
  mv : Nat
  temp : Nat
  peak : Nat
  ovf : Nat
  deriving DecidableEq, Repr

/-- The energy accounts, the governor, the supply supervisor, the domains and the oven. -/
structure PwrState where
  /-- Tick of the last tally boundary. -/
  tallyAt : Nat := 0
  /-- Units due, and units started and not yet carried out. -/
  due : List BgUnit := []
  started : List BgUnit := []
  /-- Next unit of tasks 0..2 and the tick at which it falls due; units since the schedule began. -/
  nextDue : Store Nat := []
  nextUnit : Store Nat := []
  /-- The aging period that the present cycle of units was given, seconds (R155). -/
  agePeriod : Nat := 0
  /-- Beads charged in the tally that runs; over-envelope tallies in the short episode. -/
  charged : Nat := 0
  /-- Kinds of flash record that have changed within a minute of the last of their kind (R336). -/
  wanted : List Nat := []
  /-- The spare of the tally that runs and the beads of the units it left unstarted. -/
  spare : Nat := 0
  deferred : Nat := 0
  shortOver : Nat := 0
  /-- Domains whose meter has failed (R333). -/
  meterFail : Nat := 0
  /-- Tenths of beads short of a whole joule, by domain. -/
  rest : Store Nat := []
  /-- Governor: since when hot, since when cool, when it left NORMAL, highest step and temperature. -/
  hotSince : Option Nat := none
  coolSince : Option Nat := none
  govAt : Nat := 0
  govTop : Nat := 0
  topTemp : Int := 0
  /-- Tick of the last change of step or THROTTLE. -/
  stepAt : Nat := 0
  step3At : Option Nat := none
  /-- Tick since which a sensor has read 120 °C or more. -/
  tripSince : Option Nat := none
  tripped : Bool := false
  /-- Start of the present throttle period. -/
  periodAt : Nat := 0
  /-- The tick at which each rail was last read at or below its recovery level (R345). -/
  mainLow : Nat := 0
  auxLow : Nat := 0
  /-- Sensor 7 as it read before PD4 was cleared (R355). -/
  oscTemp : Nat := 0
  /-- A supply warning: start tick, rail, lowest voltage. -/
  warnAt : Option Nat := none
  warnRail : Nat := 0
  warnLow : Nat := 0
  /-- Faults of a domain within 600 s, and the tick from which it is to be restored. -/
  faultsAt : Store (List Nat) := []
  restoreAt : Store (Option Nat) := []
  /-- Tick at which PD1 came up; a fault of the oscillator by cause, and whether its output is lost. -/
  oscAt : Nat := 0
  oscFault : Bool := false
  /-- The oven heater has reported a fault (R367). -/
  heaterFault : Bool := false
  oscLost : Bool := false
  /-- Pipelines below their floor (R18). -/
  slow : Store (Option Slow) := []
  deriving DecidableEq, Repr

/-! ### Resets and hot plug (15_bring_up_and_hot_plug.md) -/

/-- Start-up, resets and removal. -/
structure RstState where
  /-- Tick of the last reset that cleared PD4. -/
  upAt : Nat := 0
  /-- A core reset runs since this tick (R358). -/
  core : Option Nat := none
  /-- The management controller is restarting. -/
  controller : Bool := false
  /-- Removal (R359..R363): tick of event 8; a surprise removal has squelched every transmitter. -/
  ejectAt : Option Nat := none
  surprise : Bool := false
  /-- The drain is over and every port is held down: copies flushed, drain limit reached (R360). -/
  drained : Option (Nat × Bool) := none
  /-- The latch has closed again before event 9 (R363). -/
  closed : Bool := false
  /-- What event 15 is to report when PD4 next comes up: cause, domains cleared, uptime, hottest sensor, completions
  prepared. -/
  report : Option (Nat × Nat × Nat × Nat × Nat) := none
  /-- Records kept in PD0 until the event logic is up again (R85, R362). -/
  kept : List EvtRec := []
  /-- PD4 has been restored while the module ran: the image is to be read from flash again (R356). -/
  reload : Bool := false
  /-- The levels that the nets of TOUT0..7 (bits 0..7) and LANE_SEL_OUT0..3 (bits 8..11) were last driven to (R403). -/
  nets : Nat := 0
  /-- The levels at READY_IN (bit 0) and HOLD_IN (bit 1). -/
  wires : Nat := 0
  /-- The identity record's pointer on the I2C slave (R406). -/
  i2cPtr : Nat := 0
  deriving DecidableEq, Repr
/-! ### The whole state -/

/-- The state of one module. -/
structure State where
  /-- Commands that wait, first in, first out (the model's own field: the queue of the block). -/
  pending : List Instr
  /-- Ticks of 1.6 ns since the cold start (the model's own clock; module time is `time.now`). -/
  clk : Nat
  /-- Every register of BAR0, by offset; unlisted offsets read as their reset value (R391). -/
  regs : Store Word
  /-- Lower words written and held until their highest word is written (R387). -/
  held : Store (Option Word)
  /-- Higher words latched by a read of their lowest word (R387). -/
  latched : Store (Option Word)
  /-- The SLOT_ID strap: true in slot A (R6). -/
  slotA : Bool
  /-- The grade: true for EX (R2). -/
  gradeEx : Bool
  time : TimeBase
  hif : HifState
  evt : EvtState
  lanes : Store Lane
  links : Store Link
  ports : Store PortState
  buf : BufState
  tbl : TblState
  gates : Store Gate
  img : ImgState
  txn : TxnState
  mir : MirState
  lan : Store Lantern
  /-- The second of module time in which BAD_1S counts (R231). -/
  lanSec : Nat
  ref : RefState
  tin : Store Tin
  cal : CalState
  pwr : PwrState
  rst : RstState
  /-- The raw health score as it last was, and the tick since when it has held (R306). -/
  rawHeld : Nat × Nat
  /-- What has left the module, newest first (the model's own field). -/
  outbox : List Output
  deriving DecidableEq, Repr

/-- Faults: none. No command of the block stops it: every effect the manual gives, a reset, a trip or a refused
command included, is a next state. The constructor is kept so that the type is not empty; nothing raises it. Safe. -/
inductive Fault where
  | unreachable
  deriving DecidableEq, Repr

/-- Refusals. `notModelled` names a command without a meaning; no arm of `exec` answers it. Safe. -/
inductive Refusal where
  | notModelled (mnemonic : String)
  deriving DecidableEq, Repr

/-- The module right after AUX3 has come: a cold start before power-good (R351, R355). PD0 alone is on; every register holds its
reset value, nothing is in the tables, the buffer, the journal or a queue. The strap reads slot B, which the module's own pull-up
gives, the grade is EX, and the flash slots hold no image (log 3). -/
def State.reset : State where
  pending := []
  clk := 0
  regs := []
  held := []
  latched := []
  slotA := false
  gradeEx := true
  time := {}
  hif := {}
  evt := {}
  lanes := []
  links := []
  ports := []
  buf := {}
  tbl := {}
  gates := []
  img := {}
  txn := {}
  mir := {}
  lan := []
  lanSec := 0
  ref := {}
  tin := []
  cal := {}
  pwr := {}
  rst := { report := some (0, 0x1FFF, 0, 0, 0) }
  rawHeld := (0, 0)
  outbox := []


end Sys2Proof.Machine
end

