-- ==== Sys2Proof/Machine/Ops.lean ====
section
/-! DEFINITION. The named operations over registers, domains and time, and the raising of an event: every meaning reads
and writes the state through these. -/

namespace Sys2Proof.Machine

/-! ### Registers and fields -/

/-- The bits of a field, in place. -/
def FieldRef.mask (f : FieldRef) : Word := BitVec.ofNat 32 ((2 ^ f.width - 1) <<< f.lo)

/-- A register's present word. -/
def State.reg (s : State) (off : Nat) : Word := Store.get regReset s.regs off

/-- Put a word into a register. -/
def State.setReg (s : State) (off : Nat) (v : Word) : State :=
  { s with regs := Store.set regReset s.regs off v }

/-- A field of a word. -/
def FieldRef.of (f : FieldRef) (w : Word) : Nat := (w.toNat >>> f.lo) % 2 ^ f.width

/-- A word with a field replaced; a value too wide is cut. -/
def FieldRef.into (f : FieldRef) (w : Word) (v : Nat) : Word :=
  (w &&& ~~~f.mask) ||| (BitVec.ofNat 32 ((v % 2 ^ f.width) <<< f.lo))

/-- A field's present value. -/
def State.f (s : State) (f : FieldRef) : Nat := f.of (s.reg f.off)

/-- Put a value into a field. -/
def State.setF (s : State) (f : FieldRef) (v : Nat) : State := s.setReg f.off (f.into (s.reg f.off) v)

/-- A one-bit field as a truth value. -/
def State.flag (s : State) (f : FieldRef) : Bool := s.f f != 0

/-- Put a truth value into a one-bit field. -/
def State.setFlag (s : State) (f : FieldRef) (b : Bool) : State := s.setF f (if b then 1 else 0)

/-- Add to a 32-bit counter, which wraps. -/
def State.bumpBy (s : State) (off n : Nat) : State := s.setReg off (s.reg off + BitVec.ofNat 32 n)

/-- Count one. -/
def State.bump (s : State) (off : Nat) : State := s.bumpBy off 1

/-- Add to a 32-bit counter that saturates. -/
def State.bumpSat (s : State) (off n : Nat) : State :=
  s.setReg off (BitVec.ofNat 32 (min ((s.reg off).toNat + n) 0xFFFFFFFF))

/-- A field read as a signed number of its width. -/
def signed (width v : Nat) : Int := if v < 2 ^ (width - 1) then (v : Int) else (v : Int) - (2 ^ width : Nat)

/-- A signed number as the bits of a field of a width. -/
def unsigned (width : Nat) (v : Int) : Nat := (v % ((2 ^ width : Nat) : Int)).toNat

/-- A value held in two registers, low word first. -/
def State.pair (s : State) (lo hi : Nat) : Nat := (s.reg lo).toNat + (s.reg hi).toNat * 2 ^ 32

/-- Put a value into two registers. -/
def State.setPair (s : State) (lo hi v : Nat) : State :=
  (s.setReg lo (BitVec.ofNat 32 v)).setReg hi (BitVec.ofNat 32 (v / 2 ^ 32))

/-- A 48-bit signed value of two registers. -/
def State.pair48 (s : State) (lo hi : Nat) : Int := signed 48 (s.pair lo hi % 2 ^ 48)

/-- Put a signed value into two registers as 48 bits. -/
def State.setPair48 (s : State) (lo hi : Nat) (v : Int) : State := s.setPair lo hi (unsigned 48 v)

/-- A value held in three registers. -/
def State.triple (s : State) (w0 w1 w2 : Nat) : Nat :=
  (s.reg w0).toNat + (s.reg w1).toNat * 2 ^ 32 + (s.reg w2).toNat * 2 ^ 64

/-- Put a value into three registers. -/
def State.setTriple (s : State) (w0 w1 w2 v : Nat) : State :=
  ((s.setReg w0 (BitVec.ofNat 32 v)).setReg w1 (BitVec.ofNat 32 (v / 2 ^ 32))).setReg w2 (BitVec.ofNat 32 (v / 2 ^ 64))

/-- Is power domain `d` on (PWR_DOMAIN_ON)? -/
def State.domainOn (s : State) (d : Nat) : Bool := (s.f Fld.PWR_DOMAIN_ON_ON).testBit d

/-- The lane group of a lane or port (R20). -/
def groupOf (n : Nat) : Nat := n / 16

/-- The power domain of a port: its lane group's, or PD4 for port 64. -/
def portDomain (n : Nat) : Nat := if n < 64 then 9 + groupOf n else 4

/-! ### Module time -/

/-- Module time in units of 2^-16 ns, as every reader sees it (R196). -/
def State.now16 (s : State) : Nat := s.time.now / 2 ^ 24

/-- Units of 2^-16 ns in a second. -/
def unitsPerS : Nat := 1000000000 * 65536

/-- Module time at this tick in units of 2^-40 ns, truncated as every reader sees it (R196, R204). -/
def State.tickTime (s : State) : Nat := s.now16 * 2 ^ 24

/-- The 96-bit layout of R8 for a time in units of 2^-16 ns. -/
def time96 (t : Nat) : Nat :=
  (t / unitsPerS) * 2 ^ 48 + ((t % unitsPerS) / 65536) * 2 ^ 16 + t % 65536

/-- Is a 96-bit word a time in range (R202)? -/
def time96Ok (w : Nat) : Bool := decide (w / 2 ^ 16 % 2 ^ 32 ≤ 999999999)

/-- The time a 96-bit word stands for, in units of 2^-16 ns. -/
def ofTime96 (w : Nat) : Nat := (w / 2 ^ 48) * unitsPerS + (w / 2 ^ 16 % 2 ^ 32) * 65536 + w % 65536

/-- |T − now| < 2^45 ns (R202), both in units of 2^-16 ns. -/
def inHorizon (t now : Nat) : Bool :=
  decide (t < now + 2 ^ 61) && decide (now < t + 2 ^ 61)

/-- The signed 46-bit difference of linear nanoseconds of R202, from `now` to a stored time. -/
def linDiff (t now : Nat) : Int := signed 46 (unsigned 46 (((t / 65536 : Nat) : Int) - ((now / 65536 : Nat) : Int)))

/-- Is a stored time due (R202)? -/
def isDue (t now : Nat) : Bool :=
  let d := linDiff t now
  decide (d < 0) || (decide (d = 0) && decide (t % 65536 ≤ now % 65536))

/-- A stored instant that the module acts on has come: it is due by R202, or lies behind by the full time, where a step has carried module
time 2^45 ns or more past it (R201, R203). -/
def reached (t now : Nat) : Bool := isDue t now || decide (t ≤ now)

/-! ### Events (R54..R56) -/

/-- The severity of an event source (R59). -/
def severity (src : Nat) : Nat :=
  if 32 ≤ src ∧ src ≤ 47 then 0
  else if src ∈ [27, 30, 50, 52, 55, 75, 88, 93] then 0
  else if src ∈ [1, 4, 5, 10, 14, 16, 18, 19, 21, 24, 29, 49, 57, 61, 64, 68, 72, 74, 78, 80, 89] then 1
  else if src ∈ [0, 3, 12, 13, 22, 23, 25, 53, 54, 63, 66, 76, 81, 84, 85, 92, 94] then 3
  else if src ∈ [7, 11, 87, 95] then 4
  else 2

/-- The sources that are raised per frame or per command and are gathered (R56). -/
def coalesced (src : Nat) : Bool := src ∈ [49, 52, 54, 57, 61, 69, 70, 71, 78, 91]

/-- DETAIL bytes from a list of (first byte 24..63, number of bytes, value). -/
def mkDetail : List (Nat × Nat × Nat) → BitVec 320
  | [] => 0
  | (b, n, v) :: l => (BitVec.ofNat 320 ((v % 2 ^ (8 * n)) <<< (8 * (b - 24)))) ||| mkDetail l

/-- The bytes of a field that a DETAIL takes from a frame, first byte on the wire lowest (R7). -/
def wireDetail (at_ n v : Nat) : List (Nat × Nat × Nat) :=
  (List.range n).map (fun i => (at_ + i, 1, v / 256 ^ (n - 1 - i) % 256))

/-- The bytes of a MAC address in a DETAIL (R7). -/
def macDetail (at_ mac : Nat) : List (Nat × Nat × Nat) := wireDetail at_ 6 mac

/-- Is a supply warning in force (event 0, R346)? -/
def State.supplyWarn (s : State) : Bool := s.flag Fld.PWR_STATUS_MAIN_WARN || s.flag Fld.PWR_STATUS_AUX_WARN

/-- COMMON_FLAGS [2:0] as they stand: supply-disturbed, holdover, warming. Bit 3, calibration-pending, is set for the sources 32..47
alone, whose condition R280 states; for the others the manual states none. DESIGN CHOICE (log 81). -/
def State.commonFlags (s : State) : Nat :=
  (if s.supplyWarn then 1 else 0) + (if s.flag Fld.TIM_STATUS_HOLDOVER then 2 else 0)
    + (if s.flag Fld.TIM_STATUS_WARMING then 4 else 0)

/-- Is a source masked (EVT_MASK)? -/
def State.masked (s : State) (src : Nat) : Bool := (s.reg (Reg.EVT_MASK (src / 32))).toNat.testBit (src % 32)

/-- Append a generated record. -/
def State.genRecord (s : State) (r : EvtRec) : State := { s with evt := { s.evt with gen := s.evt.gen ++ [r] } }

/-- A record of a coalesced source with the number it stands for in bytes 24..27. -/
def EvtRec.counted (r : EvtRec) (n flags : Nat) : EvtRec :=
  { r with flags := r.flags ||| flags,
           detail := (r.detail >>> 32 <<< 32) ||| BitVec.ofNat 320 (n % 2 ^ 32) }

/-- What a window remembers at its record: of source 69 the port's corrected codewords so far (R108). -/
def State.corrected (s : State) (src scope : Nat) : Nat :=
  if src = 69 then (s.reg (Reg.PRT_FEC_CORR_CNT scope)).toNat else 0

/-- The record of event 69 that ends a window: bytes 28..31 are the codewords corrected in it (R108). -/
def EvtRec.fecWindow (r : EvtRec) (n : Nat) : EvtRec :=
  if r.source = 69 then
    { r with detail := (r.detail >>> 64 <<< 64) ||| BitVec.ofNat 320 ((n % 2 ^ 32) <<< 32) ||| BitVec.ofNat 320 (r.detail.toNat % 2 ^ 32) }
  else r

/-- An occurrence of a coalesced source (R56): a record at once when 1 ms or more has passed since the last of its
source and scope, gathered otherwise. -/
def State.coalesce (s : State) (r : EvtRec) : State :=
  match s.evt.windows.find? (fun w => w.source == r.source && w.scope == r.scope) with
  | none =>
    { s with evt := { s.evt with gen := s.evt.gen ++ [r.counted 1 0], windows := s.evt.windows ++ [⟨r.source, r.scope, s.clk, 0, 0, s.corrected r.source r.scope, r⟩] } }
  | some w =>
    let rest := s.evt.windows.filter (fun w => !(w.source == r.source && w.scope == r.scope))
    if w.gathered = 0 ∧ w.since + Config.ticksPerMs ≤ s.clk then
      { s with evt := { s.evt with gen := s.evt.gen ++ [r.counted 1 0], windows := rest ++ [⟨r.source, r.scope, s.clk, 0, 0, s.corrected r.source r.scope, r⟩] } }
    else
      { s with evt := { s.evt with
          windows := rest ++ [⟨r.source, r.scope, w.since, w.gathered + 1, w.flags ||| r.flags, w.corrected, r⟩] } }

/-- An occurrence of an event: counted in EVT_SRC_CNT; unless its source is masked, a record is generated or the
occurrence gathered. While PD4 is off there is no event logic, and nothing is counted. -/
def State.raiseRec (s : State) (r : EvtRec) : State :=
  if s.domainOn 4 then
    let s := s.bump (Reg.EVT_SRC_CNT r.source)
    if s.masked r.source then s
    else if coalesced r.source then s.coalesce r
    else s.genRecord r
  else s

/-- Raise an event of a source and scope now. -/
def State.raise (s : State) (src scope : Nat) (detail : List (Nat × Nat × Nat)) : State :=
  s.raiseRec ⟨src, scope, s.commonFlags, s.now16, mkDetail detail⟩

/-- Raise an event for several occurrences at once. -/
def State.raiseMany (s : State) (src scope : Nat) (detail : List (Nat × Nat × Nat)) : Nat → State
  | 0 => s
  | n + 1 => (s.raise src scope detail).raiseMany src scope detail n

/-- Raise an event with COMMON_FLAGS[4], condition ended. -/
def State.raiseEnd (s : State) (src scope : Nat) (detail : List (Nat × Nat × Nat)) : State :=
  s.raiseRec ⟨src, scope, s.commonFlags + 16, s.now16, mkDetail detail⟩

/-- Module scope. -/
def moduleScope : Nat := 0xFFFF

/-- Send something out of the module. -/
def State.emit (s : State) (o : Output) : State := { s with outbox := o :: s.outbox }

/-- Milliseconds, microseconds and seconds passed since a tick. -/
def State.msSince (s : State) (t : Nat) : Nat := (s.clk - t) / Config.ticksPerMs
def State.usSince (s : State) (t : Nat) : Nat := (s.clk - t) / Config.ticksPerUs
def State.sSince (s : State) (t : Nat) : Nat := (s.clk - t) / Config.ticksPerS

/-- Have `n` units of `unit` ticks passed since tick `t`? -/
def State.passed (s : State) (t n unit : Nat) : Bool := decide (t + n * unit ≤ s.clk)

/-! ### Per-unit records -/

def State.lane (s : State) (n : Nat) : Lane := Store.get (fun _ => {}) s.lanes n
def State.setLane (s : State) (n : Nat) (l : Lane) : State := { s with lanes := Store.set (fun _ => {}) s.lanes n l }
def State.link (s : State) (n : Nat) : Link := Store.get (fun _ => {}) s.links n
def State.setLink (s : State) (n : Nat) (l : Link) : State := { s with links := Store.set (fun _ => {}) s.links n l }
def State.port (s : State) (n : Nat) : PortState := Store.get (fun _ => {}) s.ports n
def State.setPort (s : State) (n : Nat) (p : PortState) : State := { s with ports := Store.set (fun _ => {}) s.ports n p }
def State.gate (s : State) (n : Nat) : Gate := Store.get (fun _ => {}) s.gates n
def State.setGate (s : State) (n : Nat) (g : Gate) : State := { s with gates := Store.set (fun _ => {}) s.gates n g }
def State.table (s : State) (t : Nat) : Table := Store.get (fun _ => {}) s.tbl.tables t
def State.setTable (s : State) (t : Nat) (x : Table) : State :=
  { s with tbl := { s.tbl with tables := Store.set (fun _ => {}) s.tbl.tables t x } }

/-- The SPEED code of a port (R88); 0 for a covered or unused port. -/
def State.speed (s : State) (n : Nat) : Nat := s.f (Fld.PRT_CFG_SPEED n)

/-- How many lanes a SPEED code bonds (R88). -/
def lanesOf (speed : Nat) : Nat :=
  if speed = 0 then 0 else if speed ≤ 3 then 1 else if speed = 5 then 2 else 4

/-- The port a lane belongs to under the active structure (R89). -/
def State.portOfLane (s : State) (l : Nat) : Option Nat :=
  if 1 ≤ s.speed l ∧ s.speed l ≤ 6 then some l
  else if s.speed (l - l % 2) = 5 then some (l - l % 2)
  else if s.speed (l - l % 4) = 4 ∨ s.speed (l - l % 4) = 6 then some (l - l % 4)
  else none

/-- The lanes of a port. -/
def State.portLanes (s : State) (n : Nat) : List Nat := (List.range (lanesOf (s.speed n))).map (n + ·)

/-- A port's rate in Gb/s. -/
def rateOf (speed : Nat) : Nat :=
  if speed = 1 then 1 else if speed = 2 then 10 else if speed = 3 then 25 else if speed = 4 then 40
  else if speed = 5 then 50 else 100

/-- Ports that the active structure provides: those with a SPEED, and port 64. -/
def State.provided (s : State) (n : Nat) : Bool := n == 64 || (decide (n < 64) && s.speed n != 0)

/-- Is a port up: its link, or for port 64 the rule of R52. -/
def State.portUp (s : State) (n : Nat) : Bool :=
  if n = 64 then s.flag Fld.HIF_CPU_RX_CFG_ENABLE && s.flag Fld.HIF_CTRL_RUN
  else s.flag (Fld.PRT_LINK_STATUS_UP n)

/-! ### Arithmetic without a stated rounding -/

/-- A quotient in whole units; where it is no whole number, one of its two neighbours (log 22). -/
def ratio (num : Int) (den : Nat) : Int :=
  if den = 0 then 0
  else if num % (den : Int) = 0 then num / (den : Int)
  else num / (den : Int) + (if Config.roundUp num den then 1 else 0)

/-- The integer square root, from bit `n` down. -/
def isqrtFrom (v : Nat) : Nat → Nat → Nat
  | 0, r => r
  | n + 1, r => isqrtFrom v n (if (r + 2 ^ n) * (r + 2 ^ n) ≤ v then r + 2 ^ n else r)

def isqrt (v : Nat) : Nat := isqrtFrom v 256 0

end Sys2Proof.Machine
end

