-- ==== Sys2Proof/Machine/Dma.lean ====
section
/-! DEFINITION. What the host interface's users share (02_host_interface.md): when DMA may be issued, the MSI-X vectors
and their moderation, and the sample ring. -/

namespace Sys2Proof.Machine

/-- DMA is issued only while Bus Master Enable is set and HIF_CTRL.RUN is 1 (R31), with PD4 on. -/
def State.dmaOk (s : State) : Bool := s.domainOn 4 && s.hif.busMaster && s.flag Fld.HIF_CTRL_RUN

/-- A vector's unsignalled entries. -/
def State.vec (s : State) (v : Nat) : MsixVec := Store.get (fun _ => {}) s.hif.vecs v
def State.setVec (s : State) (v : Nat) (x : MsixVec) : State :=
  { s with hif := { s.hif with vecs := Store.set (fun _ => {}) s.hif.vecs v x } }

/-- Pending bits of the MSI-X pending-bit array (R390). -/
def State.pba (s : State) : Nat := s.f Fld.HIF_MSIX_PBA_LO_PENDING
def setBit (n i : Nat) (b : Bool) : Nat := if b then n ||| 2 ^ i else if n.testBit i then n - 2 ^ i else n
def State.setPba (s : State) (v : Nat) (b : Bool) : State := s.setF Fld.HIF_MSIX_PBA_LO_PENDING (setBit s.pba v b)

/-- Send a vector's message, or set its pending bit while its entry or the function is masked (R390). While MSI-X Enable is clear the
entries stay unsignalled (log 31); vector 7 never signals (R33). -/
def State.sendMsix (s : State) (v : Nat) : State :=
  if v = 7 then s.setVec v {}
  else if s.hif.msixEnable = false then s
  else
  let s := s.setVec v {}
  if s.flag (Fld.HIF_MSIX_CTRL_MASK v) || s.hif.msixFuncMask then s.setPba v true
  else s.emit (.msix v)

/-- A new entry for a vector (R34): the message goes at COUNT entries, or for every entry while HOLDOFF_US is 0. -/
def State.signal (s : State) (v : Nat) : State :=
  let x := s.vec v
  let x := { count := x.count + 1, since := if x.count = 0 then s.clk else x.since : MsixVec }
  let s := s.setVec v x
  if s.f (Fld.HIF_MSIX_MOD_HOLDOFF_US v) = 0 ∨ s.f (Fld.HIF_MSIX_MOD_COUNT v) ≤ x.count then s.sendMsix v else s

/-- HOLDOFF_US has passed since the first unsignalled entry. -/
def State.holdoffDone (s : State) (v : Nat) : State :=
  let x := s.vec v
  if x.count ≠ 0 ∧ s.passed x.since (s.f (Fld.HIF_MSIX_MOD_HOLDOFF_US v)) Config.ticksPerUs then s.sendMsix v else s

/-- MSI-X Enable is set: entries whose message fell due while it was clear are signalled (log 31). -/
def State.signalDue (s : State) (v : Nat) : State :=
  let x := s.vec v
  if x.count ≠ 0 ∧ (s.f (Fld.HIF_MSIX_MOD_COUNT v) ≤ x.count ∨ s.passed x.since (s.f (Fld.HIF_MSIX_MOD_HOLDOFF_US v)) Config.ticksPerUs = true)
  then s.sendMsix v else s

/-- Bytes packed into a record, byte 0 lowest, from (first byte, number of bytes, value). -/
def packRecord (w : Nat) : List (Nat × Nat × Nat) → BitVec w
  | [] => 0
  | (b, n, v) :: l => BitVec.ofNat w ((v % 2 ^ (8 * n)) <<< (8 * b)) ||| packRecord w l

/-- The unit's letter as an ASCII code (R6). -/
def State.unitLetter (s : State) : Nat := if s.slotA then 0x41 else 0x42

/-- Size of a ring from its SIZE_LOG2. -/
def ringSize (log2 : Nat) : Nat := 2 ^ log2

/-- The ring of R60 whose entry something sent is, by index: what a failed write leaves to be written again (R32). -/
def Output.ringEntry : Output → Option (Nat × Nat)
  | .txDone i _ => some (5, i)
  | .rxDescriptor i _ _ => some (6, i)
  | .sample i _ _ => some (7, i)
  | .ringRecord i _ => some (9, i)
  | _ => none

/-- The write of a ring's entry has failed: the newest such entry has not left the module and is held (R32). -/
def State.holdEntry (s : State) (ring index : Nat) : State :=
  match s.outbox.find? (fun o => o.ringEntry == some (ring, index)) with
  | some o => { s with outbox := s.outbox.erase o, hif := { s.hif with unwritten := s.hif.unwritten ++ [o] } }
  | none => s

/-- ENABLE of a ring by its number (R60). -/
def ringEnable (ring : Nat) : FieldRef :=
  if ring < 4 then Fld.HIF_SQ_CFG_ENABLE ring else if ring = 4 then Fld.HIF_CQ_CFG_ENABLE else if ring = 5 then Fld.HIF_CPU_TX_CFG_ENABLE
  else if ring = 6 then Fld.HIF_CPU_RX_CFG_ENABLE else if ring = 7 then Fld.HIF_SMP_CFG_ENABLE
  else if ring = 8 then Fld.EVT_Q_CFG_ENABLE else Fld.TIC_RING_CFG_ENABLE

/-- The vector that signals a ring's entries (R33). -/
def ringVector (ring : Nat) : Nat :=
  if ring = 5 then 4 else if ring = 6 then 3 else if ring = 7 then 5 else 6

/-- Held entries are written once their ring is enabled and DMA may be issued. -/
def State.rewriteHeld (s : State) : List Output → State
  | [] => s
  | o :: l =>
    match o.ringEntry with
    | some (ring, _) =>
      if s.dmaOk && s.flag (ringEnable ring) then ((s.emit o).signal (ringVector ring)).rewriteHeld l
      else ({ s with hif := { s.hif with unwritten := s.hif.unwritten ++ [o] } }).rewriteHeld l
    | none => s.rewriteHeld l

/-- A host's access may have made held entries writable (R32). -/
def State.rewrite (s : State) : State :=
  if s.hif.unwritten.isEmpty then s
  else ({ s with hif := { s.hif with unwritten := [] } }).rewriteHeld s.hif.unwritten

/-- Post a sample to the sample ring, or count it lost when the ring is full or cannot be written (R53). -/
def State.postSample (s : State) (port dir stamp : Nat) (data : List Byte) : State :=
  let size := ringSize (s.f Fld.HIF_SMP_CFG_SIZE_LOG2)
  let prod := s.f Fld.HIF_SMP_PROD_PROD
  let seq := s.hif.sampleSeq
  let s := { s with hif := { s.hif with sampleSeq := (seq + 1) % 2 ^ 32 } }
  if s.dmaOk && s.flag Fld.HIF_SMP_CFG_ENABLE && (prod + 1) % size != s.f Fld.HIF_SMP_CONS_CONS then
    let cap := min (s.f (Fld.PRT_SMP_CAP_CAP_LEN port dir)) data.length
    let h : BitVec 512 := packRecord 512 [(0, 2, port), (2, 1, dir), (3, 1, s.unitLetter), (4, 4, seq), (8, 12, time96 stamp),
      (20, 2, data.length), (22, 2, cap), (24, 4, s.hif.sampleLost)]
    let s := { s with hif := { s.hif with sampleLost := 0 } }
    ((s.emit (.sample prod h (data.take cap ++ List.replicate (256 - cap) 0))).setF Fld.HIF_SMP_PROD_PROD ((prod + 1) % size)).signal 5
  else
    { (s.bump Reg.HIF_SMP_LOST) with hif := { s.hif with sampleLost := s.hif.sampleLost + 1 } }

/-- The countdown of one direction of a port: one frame counted, and whether it is sampled (R132). -/
def State.sampleCount (s : State) (port dir : Nat) : Bool × State :=
  if s.flag (Fld.PRT_SMP_CFG_ENABLE port dir) then
    let n := s.f (Fld.PRT_SMP_CFG_RATE_M1 port dir) + 1
    let p := s.port port
    let left := if dir = 0 then p.smpIn else p.smpOut
    let left := if left = 0 then n else left
    let next := if left = 1 then n else left - 1
    (left == 1, s.setPort port (if dir = 0 then { p with smpIn := next } else { p with smpOut := next }))
  else (false, s)

/-- Count a frame for sampling and post its sample when its turn has come. -/
def State.sampleFrame (s : State) (port dir stamp : Nat) (data : List Byte) : State :=
  match s.sampleCount port dir with
  | (true, s) => s.postSample port dir stamp data
  | (false, s) => s

/-- A write of ENABLE from 0 to 1, or of RATE_M1, reloads the countdown. -/
def State.reloadSample (s : State) (port dir : Nat) : State :=
  let n := s.f (Fld.PRT_SMP_CFG_RATE_M1 port dir) + 1
  let p := s.port port
  s.setPort port (if dir = 0 then { p with smpIn := n } else { p with smpOut := n })

end Sys2Proof.Machine
end

