-- ==== Sys2Proof/Machine/Events.lean ====
section
/-! DEFINITION. The event queue (R54..R58, R413): writing a generated record, holding it while the queue cannot be written,
losing it, and the two records of event 92 that frame an overflow. -/

namespace Sys2Proof.Machine

/-- Can the module write to the event queue (R58)? -/
def State.evtWritable (s : State) : Bool := s.dmaOk && s.flag Fld.EVT_Q_CFG_ENABLE

/-- Free slots of the queue, one slot staying unused so that a full queue does not look empty. -/
def State.evtFree (s : State) : Nat :=
  let size := ringSize (s.f Fld.EVT_Q_CFG_SIZE_LOG2)
  size - 1 - (s.f Fld.EVT_Q_PROD_PROD + size - s.f Fld.EVT_Q_CONS_CONS % size) % size

/-- The next SEQ. -/
def State.takeSeq (s : State) : Nat × State := ((s.reg Reg.EVT_SEQ).toNat, s.bump Reg.EVT_SEQ)

/-- The 64 bytes of a record (R54). -/
def State.recordBytes (s : State) (seq : Nat) (r : EvtRec) : BitVec 512 :=
  packRecord 512 [(0, 2, r.source), (2, 1, severity r.source), (3, 1, s.unitLetter), (4, 4, seq), (8, 12, time96 r.time),
    (20, 2, r.scope), (22, 1, r.flags), (24, 40, r.detail.toNat)]

def State.setBatch (s : State) (l : List Nat) : State := { s with evt := { s.evt with batch := l } }
def State.setOverflow (s : State) (o : Option Overflow) : State := { s with evt := { s.evt with overflow := o } }

/-- Signal the records of a batch, each on its vector. -/
def State.signalAll (s : State) : List Nat → State
  | [] => s
  | v :: l => (s.signal v).signalAll l

/-- A batch ends: the producer shadow, then the messages (R413). -/
def State.endBatch (s : State) : State :=
  match s.evt.batch with
  | [] => s
  | l =>
    let s := s.setBatch []
    let s := if s.flag Fld.EVT_Q_CFG_SHADOW_EN then s.emit (.shadow (s.f Fld.EVT_Q_PROD_PROD)) else s
    s.signalAll l

/-- The run of records ends when none waits, after 64, or when no slot is left. -/
def State.batchDone (s : State) : State :=
  if (s.evt.gen.isEmpty && s.evt.held.isEmpty) || decide (64 ≤ s.evt.batch.length) || s.evtFree == 0 then s.endBatch else s

/-- Put a record into the queue's next slot. A record of an input counts in its RECORDS. -/
def State.putRecord (s : State) (seq : Nat) (r : EvtRec) : State :=
  let i := s.f Fld.EVT_Q_PROD_PROD
  let s := s.emit (.eventRecord i (s.recordBytes seq r))
  let s := s.setF Fld.EVT_Q_PROD_PROD ((i + 1) % ringSize (s.f Fld.EVT_Q_CFG_SIZE_LOG2))
  let s := if 32 ≤ r.source ∧ r.source ≤ 47 then s.bump (Reg.TIC_RECORDS (r.source - 32)) else s
  let v := if s.f Fld.EVT_Q_CFG_URGENT_SEV ≤ severity r.source then 1 else 2
  let s := s.setBatch (s.evt.batch ++ [v])
  s.batchDone

/-- A record of event 92, of which the two of an episode are never lost; none while source 92 is masked (R55). -/
def State.overflowRecord (s : State) (o : Overflow) (ended : Bool) : State :=
  let s := s.bump (Reg.EVT_SRC_CNT 92)
  if s.masked 92 then s
  else
    let d := if ended then [(24, 4, o.first), (28, 4, o.lost), (32, 12, o.map.toNat)] else [(24, 4, o.first)]
    let q := s.takeSeq
    q.2.putRecord q.1 ⟨92, moduleScope, s.commonFlags + (if ended then 16 else 0), s.now16, mkDetail d⟩

/-- A record is lost: counted, and joined to the episode, which begins with it. -/
def State.loseRecord (s : State) (seq : Nat) (r : EvtRec) : State :=
  let s := s.bump Reg.EVT_LOST
  let s := if 32 ≤ r.source ∧ r.source ≤ 47 then s.bump (Reg.TIC_LOST (r.source - 32)) else s
  let m : BitVec 96 := BitVec.ofNat 96 (2 ^ r.source)
  match s.evt.overflow with
  | none => s.setOverflow (some ⟨seq, 1, m, false⟩)
  | some o => s.setOverflow (some { o with lost := o.lost + 1, map := o.map ||| m })

/-- A record finds the queue full: it is lost, and the first of an episode writes event 92 into the last slot (R57). -/
def State.loseFull (s : State) (seq : Nat) (r : EvtRec) : State :=
  let s := s.loseRecord seq r
  match s.evt.overflow with
  | some o =>
    if o.queueFull = false ∧ s.evtFree ≠ 0 then ((s.setOverflow (some { o with queueFull := true })).overflowRecord o false).batchDone
    else s.batchDone
  | none => s

/-- EVT_OVERFLOW_END: two slots are free, nothing is held, and the episode's ending record is written (R57, R58). -/
def State.overflowEnd (s : State) : State :=
  match s.evt.overflow with
  | some o =>
    if s.evtWritable && s.evt.held.isEmpty && decide (2 ≤ s.evtFree) then (s.setOverflow none).overflowRecord o true else s
  | none => s

/-- EVENT_RECORD_WRITE: the oldest generated record is written, held, or lost. It waits for held records and for the ending
record of an episode. -/
def State.writeEvent (s : State) : State :=
  match s.evt.gen with
  | [] => s
  | r :: rest =>
    let take (s : State) : Nat × State := State.takeSeq { s with evt := { s.evt with gen := rest } }
    if !s.evtWritable then
      let q := take s
      if s.evt.held.length < 256 then
        { q.2 with evt := { q.2.evt with held := q.2.evt.held ++ [(q.1, r)] } }
      else q.2.loseRecord q.1 r
    else if !s.evt.held.isEmpty then s
    else if s.evtFree ≤ 1 then
      let q := take s
      q.2.loseFull q.1 r
    else if s.evt.overflow.isSome then s
    else
      let q := take s
      q.2.putRecord q.1 r

/-- The held records are written in order, or lost where they find the queue full. -/
def State.flushRecords (s : State) : List (Nat × EvtRec) → State
  | [] => s
  | (q, r) :: l =>
    let s := { s with evt := { s.evt with held := l } }
    (if s.evtFree ≤ 1 then s.loseFull q r else s.putRecord q r).flushRecords l

/-- EVT_HELD_FLUSH (R58). -/
def State.flushHeld (s : State) : State :=
  if s.evtWritable && !s.evt.held.isEmpty then (s.flushRecords s.evt.held).overflowEnd else s

/-- EVT_COALESCE_WINDOW_END: the 1 ms of a source and scope has passed (R56). -/
def State.windowEnd (s : State) (src scope : Nat) : State :=
  match s.evt.windows.find? (fun w => w.source == src && w.scope == scope) with
  | none => s
  | some w =>
    if s.passed w.since 1 Config.ticksPerMs then
      let rest := s.evt.windows.filter (fun w => !(w.source == src && w.scope == scope))
      if w.gathered = 0 ∨ s.masked src = true then { s with evt := { s.evt with windows := rest } }
      else
        let s := { s with evt := { s.evt with windows := rest ++ [(⟨src, scope, s.clk, 0, 0, s.corrected src scope, w.last⟩ : Coalesce)] } }
        s.genRecord ((w.last.counted w.gathered w.flags).fecWindow (s.corrected src scope + 2 ^ 32 - w.corrected))
    else s

end Sys2Proof.Machine
end

