-- ==== Sys2Proof/Machine/Factory.lean ====
section
/-! DEFINITION. Calibration instances and the factory tables that flash holds of them (12_calibration.md, R288, R289, R299): figures measured
at manufacture at several temperatures, taken at the temperature of the instance's sensor. -/

namespace Sys2Proof.Machine

/-! ### Instances (R288, R289) -/

/-- The type of an instance number; 0 names none. -/
def calType (j : Nat) : Nat :=
  if j < 16 then 1 else if j < 22 then 2 else if 32 ≤ j ∧ j < 98 then 3 else if 128 ≤ j ∧ j < 192 then 4
  else if 192 ≤ j ∧ j < 200 then 5 else if 200 ≤ j ∧ j < 203 then 6 else 0

/-- The instance number of a type and index. -/
def calInst (t i : Nat) : Option Nat :=
  if t = 1 ∧ i < 16 then some i else if t = 2 ∧ i < 6 then some (16 + i) else if t = 3 ∧ i < 66 then some (32 + i)
  else if t = 4 ∧ i < 64 then some (128 + i) else if t = 5 ∧ i < 8 then some (192 + i) else if t = 6 ∧ i < 3 then some (200 + i)
  else none

/-- Every instance number. -/
def calAll : List Nat := (List.range 203).filter (fun j => calType j != 0)

/-- The trigger sensor of an instance. -/
def calSensor (j : Nat) : Option Nat :=
  match calType j with
  | 1 => some 5
  | 2 => some 4
  | 3 => some (if 96 ≤ j then 4 else groupOf (j - 32))
  | 4 => some (groupOf (j - 128))
  | 5 => some 6
  | _ => none

/-- The power domain of an instance. -/
def calDomain (j : Nat) : Nat :=
  match calType j with
  | 1 => 3
  | 3 => if 96 ≤ j then 5 else 9 + groupOf (j - 32)
  | 4 => 9 + groupOf (j - 128)
  | _ => 2

/-- The reading of an instance's sensor, 1/16 °C as 16 bits. -/
def State.calTemp (s : State) (j : Nat) : Nat :=
  match calSensor j with
  | some k => s.f (Fld.CAL_SENSOR_TEMP k)
  | none => s.f (Fld.CAL_SENSOR_TEMP 4)

/-- Has an instance a calibration in force other than its factory table's? -/
def State.calibrated (s : State) (j : Nat) : Bool := (Store.get (fun _ => none) s.cal.tookAt j).isSome

/-- Tick from which an instance has been on its factory table. -/
def State.factorySince (s : State) (j : Nat) : Nat :=
  max (Store.get (fun _ => 0) s.cal.clearedAt (calDomain j)) (Store.get (fun _ => 0) s.cal.factoryAt j)

/-- Tick at which the calibration in force took effect: a run's, or the factory table. -/
def State.calSince (s : State) (j : Nat) : Nat := (Store.get (fun _ => none) s.cal.tookAt j).getD (s.factorySince j)

/-! ### Factory figures (R299) -/

/-- The figures of the factory tables, by number: centre of bin `b` of a converter (b < 512), its widest bin, IN_DELAY; the temperature at
which an instance's table was measured; a port's delay by plane (0 receive, 1 transmit) and FEC, S_factory and k_rx; an output's trim. -/
def figCentre (j b : Nat) : Nat := j * 1024 + b
def figWidest (j : Nat) : Nat := j * 1024 + 512
def figInDelay (i : Nat) : Nat := i * 1024 + 513
def figTemp (j : Nat) : Nat := 2 ^ 16 + j
def figDelay (n plane fec : Nat) : Nat := 2 ^ 17 + n * 8 + plane * 4 + fec
def figLoop (n : Nat) : Nat := 2 ^ 17 + n * 8 + 3
def figShare (n : Nat) : Nat := 2 ^ 17 + n * 8 + 7
def figTrim (k : Nat) : Nat := 2 ^ 18 + k

/-- The value at a temperature between the points measured, which lie in rising order: on the line through the two that enclose it, beyond
them the outermost value. DESIGN CHOICE (log 24). -/
def between (t : Int) : List (Int × Int) → Int
  | [] => 0
  | [p] => p.2
  | p :: q :: l =>
    if t ≤ p.1 then p.2
    else if t ≤ q.1 then p.2 + ratio ((q.2 - p.2) * (t - p.1)) (q.1 - p.1).toNat
    else between t (q :: l)

/-- A figure of an instance at a temperature; `nominal` where flash lists none. An instance whose table fails its check runs on the silicon
default cells, whose figures stand apart (R299). -/
def State.figure (s : State) (j fig : Nat) (nominal t : Int) : Int :=
  match Store.get (fun _ => []) s.cal.factory (if s.cal.badTables.any (fun x => x.1 == j) then 2 ^ 20 + fig else fig) with
  | [] => nominal
  | l => between t l

/-- The temperature at which an instance's factory table was measured. -/
def State.factoryTemp (s : State) (j : Nat) : Int := s.figure j (figTemp j) 0 0

/-- A figure at the present temperature of the instance's sensor. -/
def State.figureNow (s : State) (j fig : Nat) (nominal : Int) : Int := s.figure j fig nominal (signed 16 (s.calTemp j))

/-- LAST_TEMP: the reading at the start of the last successful run; the factory table's until there has been one (R290). -/
def State.lastTemp (s : State) (j : Nat) : Int :=
  match Store.get (fun _ => none) s.cal.temps j with
  | some t => signed 16 t
  | none => s.factoryTemp j

/-! ### Port delays (R96, R292, R293) -/

/-- A port's factory delay for its FEC, units of 2^-16 ns, in a plane (0 receive, 1 transmit): at the temperature of the table, and now. -/
def State.delayBase (s : State) (n plane : Nat) : Int :=
  s.figure (128 + n) (figDelay n plane (s.f (Fld.PRT_CFG_FEC n))) 0 (s.factoryTemp (128 + n))
def State.delayNow (s : State) (n plane : Nat) : Int := s.figureNow (128 + n) (figDelay n plane (s.f (Fld.PRT_CFG_FEC n))) 0

/-- What calibration has added to a port's factory delay: the delay registers hold it. The transmit plane keeps the previous figure while
the copy is sent whose slot was reserved before the frame boundary (R292). -/
def State.rxAdjust (s : State) (n : Nat) : Int := signed 32 (s.reg (Reg.PRT_TS_RX_DELAY n)).toNat
def State.txAdjust (s : State) (n : Nat) : Int :=
  match (s.link n).newTx, (s.port n).tx with
  | some (v, first), some t => if t.startTick = first then signed 32 (s.reg (Reg.PRT_TS_TX_DELAY n)).toNat else v
  | some (v, _), none => v
  | none, _ => signed 32 (s.reg (Reg.PRT_TS_TX_DELAY n)).toNat

/-- The calibrated delay in force of a plane, before its trim. -/
def State.planeDelay (s : State) (n plane : Nat) : Int :=
  if s.calibrated (128 + n) then s.delayBase n plane + (if plane = 0 then s.rxAdjust n else s.txAdjust n) else s.delayNow n plane

end Sys2Proof.Machine
end

