-- ==== Sys2Proof/Machine/Buffer.lean ====
section
/-! DEFINITION. The shared buffer (05_frame_path.md): cells and codewords, their placement and retirement, the pools and
what is charged to them, storing, reading and releasing frames. -/

namespace Sys2Proof.Machine

/-- Cells in the buffer. -/
def cellCount : Nat := 524288

/-! ### Structure: queues and ports provided -/

/-- Has the port 4 queues, as its pipeline has loaded (R72, R174)? -/
def State.fourQueues (s : State) (p : Nat) : Bool := s.img.four.contains p

/-- The queue number that class `k` uses on port `p` (R174). -/
def State.queueNum (s : State) (p k : Nat) : Nat :=
  if s.fourQueues p then (if 6 ≤ k then k else if 4 ≤ k then 5 else 0) else k

/-- The queue numbers of a port. -/
def State.queueNums (s : State) (p : Nat) : List Nat :=
  if s.fourQueues p then [0, 5, 6, 7] else [0, 1, 2, 3, 4, 5, 6, 7]

/-- The ports that the active structure provides, port 64 among them. -/
def State.portsProvided (s : State) : List Nat := (List.range 65).filter s.provided

/-! ### Cells -/

/-- What is known of a cell. -/
def State.cell (s : State) (c : Nat) : CellInfo := Store.get (fun _ => {}) s.buf.cells c

/-- Put back what is known of a cell. -/
def State.setCell (s : State) (c : Nat) (i : CellInfo) : State :=
  { s with buf := { s.buf with cells := Store.set (fun _ => {}) s.buf.cells c i } }

/-- Cells taken out of the free lists. -/
def State.takenCells (s : State) : List Nat :=
  (s.buf.cells.filter (fun e => e.2.used || e.2.retired)).map (·.1)

/-- Retired cells. -/
def State.retiredCells (s : State) : Nat := (s.buf.cells.filter (fun e => e.2.retired)).length

/-- Free cells of the module and of a bank (R120). -/
def State.freeCells (s : State) : Nat := cellCount - s.takenCells.length
def State.bankFree (s : State) (b : Nat) : Nat := 8192 - (s.takenCells.filter (fun c => c % 64 == b)).length

/-- The lowest row of a list's complement, found within `n` tries. -/
def lowestFree (taken : List Nat) : Nat → Nat → Nat
  | 0, r => r
  | n + 1, r => if taken.contains r then lowestFree taken n (r + 1) else r

/-- The bank for the next cell (R120): of the banks that none of the frame's last 63 cells lies in and that have a free row, the one
with the fewest pending accesses, ties to the first counted from the starting bank. `access` is the pending accesses, bank 0 first. -/
def pickBank (access taken recent : List Nat) (start : Nat) : Option Nat :=
  let allowed := ((List.range 64).map (fun i => (start + i) % 64)).filter (fun b =>
    !((recent.take 63).any (fun c => c % 64 == b)) && decide ((taken.filter (fun c => c % 64 == b)).length < 8192))
  allowed.foldl (fun best b => match best with
    | none => some b
    | some a => if access.getD b 0 < access.getD a 0 then some b else some a) none

/-- Choose `n` cells, the latest first; none when no allowed bank has a free row. -/
def pickCells (access taken : List Nat) (start : Nat) : Nat → List Nat → Option (List Nat)
  | 0, got => some got
  | n + 1, got =>
    match pickBank access (got ++ taken) got start with
    | none => none
    | some b =>
      let rows := ((got ++ taken).filter (fun c => c % 64 == b)).map (· / 64)
      let r := lowestFree rows rows.length 0
      pickCells access taken start n ((r * 64 + b) :: got)

/-- The cells a frame of a number of cells is given. -/
def State.chooseCells (s : State) (access : List Nat) (n : Nat) : Option (List Nat) :=
  (pickCells access s.takenCells s.buf.startBank n []).map List.reverse

/-! ### Storing and reading -/

/-- The 32 data bytes of word `w` of the frame's `k`-th cell, zero beyond its end (R116). -/
def wordData (data : List Byte) (k w : Nat) : List Nat :=
  (List.range 32).map (fun j => ((data.drop (128 * k + 32 * w + j)).headD 0).toNat)

/-- The stored words of a frame: (4 × cell + word, codeword). -/
def frameWords (data : List Byte) (cells : List Nat) : List (Nat × BitVec 288) :=
  (cells.zipIdx.map (fun ck => (List.range 4).map (fun w => (4 * ck.1 + w, rsEncode (wordData data ck.2 w))))).flatten

/-- A stored word. -/
def State.word (s : State) (a : Nat) : BitVec 288 := Store.get (fun _ => 0) s.buf.words a

/-- Write a stored word. -/
def State.setWord (s : State) (a : Nat) (w : BitVec 288) : State :=
  { s with buf := { s.buf with words := Store.set (fun _ => 0) s.buf.words a w } }

/-- Disturb stored words: each entry flips bits of one word (an upset of the memory). -/
def State.upset (s : State) : List (Nat × BitVec 288) → State
  | [] => s
  | (a, m) :: l => (s.setWord a (s.word a ^^^ m)).upset l

/-- Put a frame's words into the buffer, take its cells, and advance the starting bank. -/
def State.storeFrame (s : State) (data : List Byte) (cells : List Nat) : State :=
  { s with buf := { s.buf with
      words := Store.setAll (fun _ => 0) s.buf.words (frameWords data cells)
      cells := Store.setAll (fun _ => {}) s.buf.cells
        (cells.map (fun c => (c, { s.cell c with used := true })))
      startBank := (s.buf.startBank + 1) % 64 } }

/-- A frame as it is read: its bytes, the corrections made by cell, word and byte positions, the uncorrectable words by cell and word. -/
structure ReadResult where
  data : List Byte
  fixed : List (Nat × Nat × List Nat)
  badWords : List (Nat × Nat)
  deriving DecidableEq, Repr

/-- Read words in order (R115, R118): the whole frame is read, whatever is found. -/
def readWords (get : Nat → BitVec 288) : List (Nat × Nat) → ReadResult
  | [] => ⟨[], [], []⟩
  | (c, w) :: l =>
    let r := readWords get l
    match rsDecode (get (4 * c + w)) with
    | .bad => { r with badWords := (c, w) :: r.badWords }
    | .good bytes fixed =>
      { r with data := (bytes.take 32).map (BitVec.ofNat 8) ++ r.data
               fixed := if fixed.isEmpty then r.fixed else (c, w, fixed) :: r.fixed }

/-- Read a frame's cells for a copy (R118). -/
def State.readFrame (s : State) (f : Frame) : ReadResult :=
  let r := readWords s.word ((f.cells.map (fun c => (List.range 4).map (fun w => (c, w)))).flatten)
  { r with data := r.data.take f.len }

/-- Retire a cell (R119): counted, and event 7 for PD7 once when BUF_RETIRED passes 4,096. A retired cell is retired once. -/
def State.retireCell (s : State) (c : Nat) : State :=
  if (s.cell c).retired then s
  else
    let s := s.setCell c { used := false, marked := false, retired := true, fixes := [] }
    let s := s.setF Fld.BUF_RETIRED_CELLS s.retiredCells
    if s.f Fld.BUF_RETIRED_CELLS = 4097 then s.raise 7 7 [(24, 1, 3), (28, 2, (Config.railNow 7 0 s.clk).toNat), (30, 2, (Config.railNow 7 1 s.clk).toNat)] else s

/-- One corrected word (R118, R119): counted and reported, remembered for retirement. `who` is the frame that read it,
or the scrubber's pass as a number no frame has. A cell is marked when two reads of one word by different readers
correct the same byte. -/
def State.noteFix (s : State) (who : Nat) (scrub : Bool) (fx : Nat × Nat × List Nat) : State :=
  let (c, w, pos) := fx
  let b := c % 64
  let s := (s.bump Reg.BUF_CORR_CNT).bump (Reg.BUF_BANK_CORR b)
  let s := s.raise 52 b [(28, 4, c), (32, 1, (if scrub then 1 else 0) + (if pos.length = 2 then 2 else 0))]
  let i := s.cell c
  let old := i.fixes.filter (fun x => x.1 == w)
  let again := pos.any (fun p => old.any (fun x => x.2.1 == p && x.2.2 != who))
  let same := old.any (fun x => x.2.2 == who)
  let fixes := if same then i.fixes else i.fixes.filter (fun x => x.1 != w) ++ pos.map (fun p => (w, p, who))
  s.setCell c { i with fixes := fixes, marked := i.marked || again }

/-- Note the corrections of a read. -/
def State.noteFixes (s : State) (who : Nat) (scrub : Bool) : List (Nat × Nat × List Nat) → State
  | [] => s
  | x :: l => (s.noteFix who scrub x).noteFixes who scrub l

/-- Uncorrectable words of a frame: each is counted, and its cell marked for retirement (R118, R119). -/
def State.noteBad (s : State) : List (Nat × Nat) → State
  | [] => s
  | (c, _) :: l => ((s.bump Reg.BUF_UNCORR_CNT).setCell c { s.cell c with marked := true }).noteBad l

/-- Words of a frame read clean end the run of successive corrections of their cells (R119). -/
def State.noteClean (s : State) (who : Nat) (fixed : List (Nat × Nat × List Nat)) : List Nat → State
  | [] => s
  | c :: l =>
    let i := s.cell c
    let fixes := i.fixes.filter (fun x => x.2.2 == who || fixed.any (fun y => y.1 == c && y.2.1 == x.1))
    (if fixes = i.fixes then s else s.setCell c { i with fixes := fixes }).noteClean who fixed l

/-! ### Frames, queues and charges -/

/-- A stored frame by its identifier. -/
def State.frame (s : State) (id : Nat) : Option Frame := s.buf.frames.find? (fun f => f.id == id)

/-- Replace a stored frame. -/
def State.setFrame (s : State) (f : Frame) : State :=
  { s with buf := { s.buf with frames := s.buf.frames.map (fun g => if g.id == f.id then f else g) } }

/-- A queue 8p + j, head first. -/
def State.queue (s : State) (q : Nat) : List Nat := Store.get (fun _ => []) s.buf.queues q

/-- Put back a queue. -/
def State.setQueue (s : State) (q : Nat) (l : List Nat) : State :=
  { s with buf := { s.buf with queues := Store.set (fun _ => []) s.buf.queues q l } }

/-- The copy of a frame on a port. -/
def Frame.copy (f : Frame) (p : Nat) : Option Copy := f.copies.find? (fun c => c.port == p)

/-- Cells charged to the reservation of queue q (R121). -/
def State.rsvUsed (s : State) (q : Nat) : Nat :=
  (s.buf.frames.map (fun f => ((f.copies.filter (fun c => c.rsv && (8 * c.port + c.queue == q))).length) * f.cells.length)).sum

/-- Cells that frames from a port in a class have charged to a pool (R123, R125). -/
def State.poolUsed (s : State) (p k : Nat) (pool : Pool) : Nat :=
  (s.buf.frames.map (fun f => if f.inPort = p ∧ f.cls = k ∧ f.pool = pool then f.charged else 0)).sum

/-- occ[n][k] of R123: shared, headroom and escalation cells. -/
def State.occ (s : State) (p k : Nat) : Nat :=
  s.poolUsed p k .shared + s.poolUsed p k .headroom + s.poolUsed p k .escalation

/-- Shared cells charged, escalation included. -/
def State.sharedUsed (s : State) : Nat :=
  (s.buf.frames.map (fun f => if f.pool = .shared ∨ f.pool = .escalation then f.charged else 0)).sum

/-- The reservation pool, the headroom pool and the shared pool's size (R122), from the registers. -/
def State.rsvTotal (s : State) : Nat :=
  (s.portsProvided.map (fun p => ((s.queueNums p).map (fun j => s.f (Fld.BUF_RSV_CELLS (8 * p + j)))).sum)).sum
def State.headroomTotal (s : State) : Nat :=
  ((s.portsProvided.filter (· < 64)).map (fun p =>
    ((List.range 6).map (fun k => s.f (Fld.PRT_PFC_HR_HEADROOM_CELLS p k))).sum)).sum
def State.sharedSize (s : State) : Nat := (cellCount - s.retiredCells) - s.rsvTotal - s.headroomTotal

/-- Free cells of the shared pool. -/
def State.sharedFree (s : State) : Nat := s.sharedSize - s.sharedUsed

/-- Cells of the frames linked on a queue, and copies linked on it. -/
def State.queueOcc (s : State) (q : Nat) : Nat :=
  ((s.queue q).map (fun id => match s.frame id with | some f => f.cells.length | none => 0)).sum
def State.queueLen (s : State) (q : Nat) : Nat := (s.queue q).length

/-- Frames in the module of an epoch other than the current (R80), and of the step generation before the present (R208). -/
def State.olderFrames (s : State) : Nat :=
  (s.buf.frames.filter (fun f => f.epoch != (s.reg Reg.TXN_EPOCH).toNat)).length
def State.olderGenFrames (s : State) : Nat :=
  (s.buf.frames.filter (fun f => f.stepGen != s.f Fld.TIM_STATUS_STEP_GEN)).length

/-- The port rules of charge_ingress (R125): the pool that takes `c` cells, if any. The PFC registers of port 64 read 0 (R137), so that
none takes a frame from there: DEDUCED (log 96). -/
def State.chargePool (s : State) (p k c : Nat) : Option Pool :=
  if 64 ≤ p then none
  else if s.occ p k + c ≤ s.f (Fld.PRT_PFC_THR_XOFF_CELLS p k) ∧ c ≤ s.sharedFree then some .shared
  else if s.poolUsed p k .headroom + c ≤ s.f (Fld.PRT_PFC_HR_HEADROOM_CELLS p k) then some .headroom
  else if s.poolUsed p k .escalation + c ≤ s.f (Fld.PRT_PFC_HR_ESC_CELLS p k) ∧ c ≤ s.sharedFree then some .escalation
  else none

/-- Release the cells of a frame whose last copy has gone: marked cells retire (R119, R130). -/
def State.releaseCells (s : State) : List Nat → State
  | [] => s
  | c :: l =>
    let i := s.cell c
    (if i.marked then s.retireCell c else s.setCell c { i with used := false }).releaseCells l

/-- One copy of a frame has gone: its reservation charge with it; with the last copy, the frame's cells (R130). -/
def State.dropCopy (s : State) (id p : Nat) : State :=
  match s.frame id with
  | none => s
  | some f =>
    let rest := f.copies.filter (fun c => c.port != p)
    if rest.isEmpty then
      let s := { s with buf := { s.buf with frames := s.buf.frames.filter (fun g => g.id != id) } }
      s.releaseCells f.cells
    else s.setFrame { f with copies := rest }

/-- Take a frame out of the queue its copy on a port is linked on. -/
def State.unlink (s : State) (id p : Nat) : State :=
  match s.frame id with
  | none => s
  | some f => match f.copy p with
    | none => s
    | some c => s.setQueue (8 * p + c.queue) ((s.queue (8 * p + c.queue)).filter (· != id))

end Sys2Proof.Machine
end

