-- ==== Sys2Proof/Machine/TimeBase.lean ====
section
/-! DEFINITION. The time core (08_time_base.md): how module time advances, the increment, slews, the snapshot and the
transmit timestamp FIFOs. Steps stand in Machine/Steps.lean, because every user of time answers to them. -/

namespace Sys2Proof.Machine

/-! ### The counter -/

/-- What a slew has added after `j` ticks, in units of 2^-40 ns (R199): ⌊j × A × 2^24 / N⌋. -/
def slewSum (amt : Int) (n j : Nat) : Int := (j * amt * 2 ^ 24) / (n : Int)

/-- The slew after `k` more ticks. -/
def Slew.run (w : Slew) (k : Nat) : Slew := { w with done := min w.n (w.done + k) }

/-- The amount of a slew not yet applied, in units of 2^-16 ns, rounded toward what remains (R200). -/
def Slew.remain (w : Slew) : Int := w.amt - (slewSum w.amt w.n w.done) / 2 ^ 24

/-- Module time after `k` ticks: the active increment each tick, and the present slew's shares (R196, R199). -/
def TimeBase.run (t : TimeBase) (k : Nat) : TimeBase :=
  match t.slew with
  | none => { t with now := t.now + t.inc * k }
  | some w =>
    let w' := w.run k
    { t with
      now := (((t.now + t.inc * k : Nat) : Int) + (slewSum w.amt w.n w'.done - slewSum w.amt w.n w.done)).toNat
      slew := some w' }

/-! ### The increment (R198) -/

/-- The range of the increment: ±1,000 ppm of nominal. -/
def incOk (v : Nat) : Bool := decide (1757459385838 ≤ v) && decide (v ≤ 1760977823046)

/-- DETAIL of event 27 (R217). -/
def adjDetail (s : State) (kind : Nat) (applied remain : Int) : List (Nat × Nat × Nat) :=
  [(24, 1, kind), (28, 8, s.time.inc), (36, 6, unsigned 48 applied), (42, 6, unsigned 48 remain)]

/-- A write to TIM_INC_HI asks for the pair to be transferred at the next tick. -/
def State.askInc (s : State) : State :=
  { s with time := { s.time with incNext := some (s.pair Reg.TIM_INC_LO Reg.TIM_INC_HI % 2 ^ 48) } }

/-- The pair asked for becomes the active increment: event 27, kind 0. -/
def State.transferInc (s : State) : State :=
  match s.time.incNext with
  | none => s
  | some v =>
    let s := { s with time := { s.time with inc := v, incNext := none } }
    let s := s.setPair Reg.TIM_INC_ACTIVE_LO Reg.TIM_INC_ACTIVE_HI v
    s.raise 27 moduleScope (adjDetail s 0 0 0)

/-! ### Slews (R199, R200) -/

/-- Is the rate |A| × 2^-16 ns / (N × 1.6 ns) at most 1,000 ppm? -/
def slewRateOk (amt : Int) (n : Nat) : Bool := decide (amt.natAbs * 10 * 1000 ≤ n * 16 * 65536)

/-- Load and start a slew from TIM_SLEW_AMT and TIM_SLEW_TICKS. -/
def State.loadSlew (s : State) : State :=
  let a := s.pair48 Reg.TIM_SLEW_AMT_LO Reg.TIM_SLEW_AMT_HI
  let n := (s.reg Reg.TIM_SLEW_TICKS).toNat
  let s := { s with time := { s.time with slew := some ⟨a, n, 0⟩ } }
  s.setFlag Fld.TIM_STATUS_SLEW_ACTIVE true

/-- End a running slew with event 27 of a kind (1 completed, 2 cancelled, 3 superseded). -/
def State.endSlew (s : State) (kind : Nat) : State :=
  match s.time.slew with
  | none => s
  | some w =>
    let d := adjDetail s kind (w.amt - w.remain) w.remain
    let s := { s with time := { s.time with slew := none } }
    (s.setFlag Fld.TIM_STATUS_SLEW_ACTIVE false).raise 27 moduleScope d

/-- START written: a rate beyond the limit sets SLEW_REJECTED and changes nothing else. -/
def State.startSlew (s : State) : State :=
  if slewRateOk (s.pair48 Reg.TIM_SLEW_AMT_LO Reg.TIM_SLEW_AMT_HI) (s.reg Reg.TIM_SLEW_TICKS).toNat then
    (s.endSlew 3).loadSlew
  else s.setFlag Fld.TIM_STATUS_SLEW_REJECTED true

/-- The written bits of TIM_SLEW_CTRL: CANCEL acts before START. -/
def State.slewCtrl (s : State) (start cancel : Bool) : State :=
  let s := if cancel then s.endSlew 2 else s
  if start then s.startSlew else s

/-- The slew's N ticks are done: event 27, kind 1. -/
def State.finishSlew (s : State) : State :=
  match s.time.slew with
  | some w => if w.n ≤ w.done then s.endSlew 1 else s
  | none => s

/-! ### The snapshot (R216) -/

/-- CAPTURE written: DONE clears, and the copy is asked for. -/
def State.askSnap (s : State) : State :=
  { (s.setFlag Fld.TIM_SNAP_CTRL_DONE false) with time := { s.time with snapReq := true } }

/-- Module time is copied and DONE set. -/
def State.takeSnap (s : State) : State :=
  if s.time.snapReq then
    let s := { s with time := { s.time with snapReq := false } }
    let s := s.setTriple Reg.TIM_SNAP_W0 Reg.TIM_SNAP_W1 Reg.TIM_SNAP_W2 (time96 s.now16)
    s.setFlag Fld.TIM_SNAP_CTRL_DONE true
  else s

/-! ### Timestamp FIFOs (R214, R215) -/

/-- A port's timestamp FIFO. -/
def State.tsf (s : State) (n : Nat) : List TsfEntry := Store.get (fun _ => []) s.time.tsf n

/-- Put back a port's FIFO and show its level. -/
def State.setTsf (s : State) (n : Nat) (l : List TsfEntry) : State :=
  ({ s with time := { s.time with tsf := Store.set (fun _ => []) s.time.tsf n l } }).setF
    (Fld.TIM_TSF_STATUS_LEVEL n) l.length

/-- Write an entry, or lose it when the FIFO is full. -/
def State.pushTsf (s : State) (n : Nat) (e : TsfEntry) : State :=
  if (s.tsf n).length < 64 then s.setTsf n (s.tsf n ++ [e])
  else (s.bump (Reg.TIM_TSF_LOST n)).setFlag (Fld.TIM_TSF_STATUS_OVERFLOW n) true

/-- W0 of an entry (R214). -/
def TsfEntry.w0 (e : TsfEntry) : Nat :=
  e.tag + 0x10000 + (if e.discarded then 0x20000 else 0) + e.flags * 0x40000

/-- A read of TIM_TSF[n]_W0: the oldest entry leaves the FIFO, and W1..W3 hold its rest. -/
def State.readTsf (s : State) (n : Nat) : Word × State :=
  match s.tsf n with
  | [] => (0, s)
  | e :: l =>
    let t := if e.discarded then 0 else time96 e.stamp
    let s := s.setTsf n l
    let s := s.setTriple (Reg.TIM_TSF_W1 n) (Reg.TIM_TSF_W2 n) (Reg.TIM_TSF_W3 n) t
    (BitVec.ofNat 32 e.w0, s)

/-- A reset that clears PD2: module time at the PTP epoch, nominal increment, no slew (R197). -/
def TimeBase.cleared : TimeBase := {}

end Sys2Proof.Machine
end

