-- ==== Sys2Proof/Machine/Flow.lean ====
section
/-! DEFINITION. Flow control and the exits of copies (05_frame_path.md): PFC and link-level PAUSE sent and received, the
pause-ignored episodes, the ways an accepted copy leaves without being sent, the port-down hold, and the end of a
transmission. -/

namespace Sys2Proof.Machine

/-! ### Pause sent (R123, R124, R127, R129) -/

/-- The priorities 0..5 that satisfy a test, as a bit set. -/
def prioSet (p : Nat → Bool) : Nat := ((List.range 6).map (fun k => if p k then 2 ^ k else 0)).sum

/-- Fill of a lane group's elastic store in bytes. -/
def State.elastic (s : State) (g : Nat) : Nat := Store.get (fun _ => 0) s.buf.elastic g

/-- A number of bytes in KiB, as event 63 carries it (R19). The manual states no rounding: `ratio` (log 22). -/
def kib (bytes : Nat) : Nat := (ratio (bytes : Int) 1024).toNat

/-- The fill of a group's elastic store is reported: its peak enters the episode of a slow pipeline (R18, R19). -/
def State.noteFill (s : State) (g fill : Nat) : State :=
  let s := { s with buf := { s.buf with elastic := Store.set (fun _ => 0) s.buf.elastic g fill } }
  match Store.get (fun _ => none) s.pwr.slow g with
  | some x => { s with pwr := { s.pwr with slow := Store.set (fun _ => none) s.pwr.slow g (some { x with peak := max x.peak (kib fill) }) } }
  | none => s

/-- Does R123 hold priority k of port n in XOFF after this instant, given whether it held it before? -/
def State.r123Next (s : State) (n k : Nat) (held : Bool) : Bool :=
  let o := s.occ n k
  if held then
    !(decide (o ≤ s.f (Fld.PRT_PFC_THR_XON_CELLS n k)) && decide (s.f Fld.BUF_GLOBAL_XON_FREE ≤ s.sharedFree))
  else
    decide (s.f (Fld.PRT_PFC_THR_XOFF_CELLS n k) ≤ o)
      || (decide (s.sharedFree < s.f Fld.BUF_GLOBAL_XOFF_FREE) && decide (0 < o))

/-- Does the elastic store hold the port's priorities after this instant (R124)? -/
def State.elasticNext (s : State) (n : Nat) (held : Bool) : Bool :=
  let fill := s.elastic (groupOf n)
  if held then decide (s.f Fld.BUF_ELASTIC_CFG_XON_KIB * 1024 ≤ fill)
  else decide (s.f Fld.BUF_ELASTIC_CFG_XOFF_KIB * 1024 < fill) && s.flag (Fld.PRT_CFG_ENABLE n)

/-- The times of a PFC frame: 0xFFFF for the priorities held in XOFF, 0 for the others. -/
def pfcTimes (held : Nat) : List Nat := (List.range 8).map (fun k => if held.testBit k then 0xFFFF else 0)

/-- The priorities that the governor holds on a port (R342). -/
def State.throttled (s : State) (n : Nat) : Nat :=
  if s.flag (Fld.PRT_PFC_CFG_TX_EN n) then (s.port n).throttle else 0

/-- Ticks in a number of pause quanta (512 bit times) at a port's rate. -/
def State.quantaTicks (s : State) (n q : Nat) : Nat := q * 320 / rateOf (s.speed n)

/-- Ticks in a number of bytes at a port's rate, rounded up. -/
def byteTicks (rate b : Nat) : Nat := (b * 5 + rate - 1) / rate

/-- The priorities held in XOFF on a port: R123's and R124's, and the governor's. -/
def State.heldXoff (s : State) (n : Nat) : Nat := s.f (Fld.PRT_PFC_STATUS_TX_XOFF n) ||| s.throttled n

/-- A pause frame takes the wire for 64 bytes, preamble and gap. -/
def State.sendPause (s : State) (n : Nat) (o : Output) (p : PortState) : State :=
  (s.emit o).setPort n { p with busy := max p.busy s.clk + byteTicks (rateOf (s.speed n)) 84 }

/-- At a frame or fragment boundary of an up port (R123): a PFC frame when the priorities in XOFF are not those the peer was last told,
or 0x8000 quanta after the last while any is held. It names the priorities held, and those that go to XON with time 0. -/
def State.sendPfc (s : State) (n : Nat) : State :=
  let p := s.port n
  let x := s.heldXoff n
  if x ≠ p.told ∨ (x ≠ 0 ∧ p.xoffSent + s.quantaTicks n 0x8000 ≤ s.clk) then
    s.sendPause n (.pfc n (p.told ||| x) (pfcTimes x)) { p with told := x, xoffSent := s.clk }
  else s

/-- The same for link-level PAUSE (R127). -/
def State.sendLlp (s : State) (n : Nat) : State :=
  let p := s.port n
  let on := s.flag (Fld.PRT_PFC_STATUS_LLP_ACTIVE n)
  if on ≠ p.toldLlp ∨ (on = true ∧ p.llpSent + s.quantaTicks n 0x8000 ≤ s.clk) then
    s.sendPause n (.llp n (if on then 0xFFFF else 0)) { p with toldLlp := on, llpSent := s.clk }
  else s

/-- Send what pause a port owes its peer, unless a frame or fragment is on the wire: then it goes at that one's end. -/
def State.sendControl (s : State) (n : Nat) : State :=
  if s.portUp n = false ∨ (s.port n).tx.isSome = true then s else (s.sendPfc n).sendLlp n

/-- Re-evaluate a port's XOFF set; event 55 marks its becoming non-empty and empty. The governor's pause enters neither the status nor
the event (R342). -/
def State.pfcPort (s : State) (n : Nat) : State :=
  let p := s.port n
  let r := prioSet (fun k => s.r123Next n k (p.r123.testBit k))
  let e := s.elasticNext n p.elasticHold
  let old := s.f (Fld.PRT_PFC_STATUS_TX_XOFF n)
  let new := if s.flag (Fld.PRT_PFC_CFG_TX_EN n) then (if e then 0x3F else r) else 0
  let s := if p.r123 = r ∧ p.elasticHold = e then s else s.setPort n { p with r123 := r, elasticHold := e }
  if old = new then s
  else
    let s := s.setF (Fld.PRT_PFC_STATUS_TX_XOFF n) new
    let top := ((List.range 6).map (s.occ n)).foldl max 0
    if old = 0 then
      let byPort := (List.range 6).any (fun k => decide (s.f (Fld.PRT_PFC_THR_XOFF_CELLS n k) ≤ s.occ n k))
      let trig := if byPort then 0 else if r ≠ 0 then 1 else 2
      s.raise 55 n [(24, 1, new), (25, 1, trig), (28, 4, top)]
    else if new = 0 then s.raiseEnd 55 n [(24, 1, 0), (28, 4, top)]
    else s

/-- The governor's hold on a port begins, changes or ends (R342). -/
def State.setThrottle (s : State) (n m : Nat) : State :=
  (s.setPort n { s.port n with throttle := m }).sendControl n

/-- End the pause-ignored episodes whose occupancy has fallen to XON_CELLS (R127). -/
def State.endEpisodes (s : State) (n : Nat) : List Nat → State
  | [] => s
  | k :: l =>
    let ign := s.f (Fld.PRT_PFC_STATUS_IGNORED n)
    if ign.testBit k && decide (s.occ n k ≤ s.f (Fld.PRT_PFC_THR_XON_CELLS n k)) then
      let p := s.port n
      let llp := setBit p.llpEpisodes k false
      let s := s.setF (Fld.PRT_PFC_STATUS_IGNORED n) (setBit ign k false)
      let s := s.setPort n { p with llpEpisodes := llp }
      let s := if p.llpEpisodes ≠ 0 ∧ llp = 0 then s.setFlag (Fld.PRT_PFC_STATUS_LLP_ACTIVE n) false else s
      (s.raiseEnd 56 n [(24, 1, k), (25, 1, if p.llpEpisodes.testBit k then 1 else 0),
        (28, 4, s.poolUsed n k .escalation)]).endEpisodes n l
    else s.endEpisodes n l

/-- Begin a pause-ignored episode: the class has taken its first escalation cell (R127). -/
def State.beginEpisode (s : State) (n k : Nat) : State :=
  let ign := s.f (Fld.PRT_PFC_STATUS_IGNORED n)
  if ign.testBit k then s
  else
    let s := (s.setF (Fld.PRT_PFC_STATUS_IGNORED n) (setBit ign k true)).bump (Reg.PRT_PFC_IGNORED_CNT n)
    let esc := s.flag (Fld.PRT_PFC_CFG_LLP_ESCALATE n)
    let s := if esc then
        let s := s.setPort n { s.port n with llpEpisodes := setBit (s.port n).llpEpisodes k true }
        s.setFlag (Fld.PRT_PFC_STATUS_LLP_ACTIVE n) true
      else s
    s.raise 56 n [(24, 1, k), (25, 1, if esc then 1 else 0), (28, 4, s.poolUsed n k .escalation)]

/-- Re-evaluate pause on every port that the structure provides. -/
def State.pfcAll (s : State) : List Nat → State
  | [] => s
  | n :: l => if n < 64 then (((s.endEpisodes n (List.range 6)).pfcPort n).sendControl n).pfcAll l else s.pfcAll l

/-- Re-evaluate pause after occupancies have changed. -/
def State.flow (s : State) : State := s.pfcAll s.portsProvided

/-- PFC_XOFF_REFRESH: the fill of the port's elastic store is seen again (R124), and a held XOFF or a link-level PAUSE in force is
repeated when 0x8000 quanta have passed. -/
def State.refreshXoff (s : State) (n fill : Nat) : State := ((s.noteFill (groupOf n) fill).flow).sendControl n

/-! ### Pause received (R128, R377) -/

/-- The received pause of a class. -/
def State.rxPause (s : State) (n k : Nat) : RxPause := Store.get (fun _ => {}) (s.port n).rxPause k
def State.setRxPause (s : State) (n k : Nat) (r : RxPause) : State :=
  s.setPort n { s.port n with rxPause := Store.set (fun _ => {}) (s.port n).rxPause k r }

/-- Is class k of port n held by received pause now (a class in a storm is not)? -/
def State.paused (s : State) (n k : Nat) : Bool :=
  let r := s.rxPause n k
  decide (k < 6) && decide (s.clk < r.until_) && r.storm.isNone

/-- Does the queue of a class hold a copy? -/
def State.queueHolds (s : State) (n k : Nat) : Bool := !(s.queue (8 * n + s.queueNum n k)).isEmpty

/-- Queue q has got its first copy or lost its last: the run of a hold of its classes starts or breaks (R377). -/
def State.holdRun (s : State) (n q : Nat) : State :=
  ((List.range 6).filter (fun k => s.queueNum n k == q)).foldl (fun (t : State) k =>
    let r := t.rxPause n k
    if t.queueHolds n k = false then (if r.since.isSome then t.setRxPause n k { r with since := none } else t)
    else if t.paused n k && r.since.isNone then t.setRxPause n k { r with since := some t.clk } else t) s

/-- One class named by a received pause of a time in quanta. The run of a hold starts when the queue is first held with a
copy in it, and starts again after any break (R377). -/
def State.takePause (s : State) (n k time : Nat) (link : Bool) : State :=
  let r := s.rxPause n k
  match r.storm with
  | some _ =>
    s.setRxPause n k { r with stormLast := if time = 0 then r.stormLast else s.clk, stormIgnored := r.stormIgnored + 1 }
  | none =>
    let until_ := if time = 0 then s.clk else s.clk + s.quantaTicks n time
    let since := if time = 0 then none
      else if s.clk < r.until_ then (if r.since.isSome then r.since else if s.queueHolds n k then some s.clk else none)
      else if s.queueHolds n k then some s.clk else none
    s.setRxPause n k { r with until_ := until_, since := since, linkLevel := link }

/-- The classes named, one after the other. -/
def State.takePauses (s : State) (n : Nat) (link : Bool) : List (Nat × Nat) → State
  | [] => s
  | (k, t) :: l => (s.takePause n k t link).takePauses n link l

/-- A received pause frame that names classes with times: consumed at the MAC (R128). It is counted once as ignored
when it is without effect for a priority or class it names. -/
def State.pauseFrame (s : State) (n : Nat) (named : List (Nat × Nat)) (link : Bool) : State :=
  if s.portUp n then
    let en := s.flag (Fld.PRT_PFC_CFG_RX_EN n)
    let lost := named.any (fun x => decide (6 ≤ x.1) || !en || (s.rxPause n x.1).storm.isSome)
    let s := if en then s.takePauses n link (named.filter (fun x => x.1 < 6)) else s
    if lost then s.bump (Reg.PRT_PFC_RX_IGNORED n) else s
  else s

/-- The pause time of a class runs out. -/
def State.pauseExpired (s : State) (n k : Nat) : State :=
  let r := s.rxPause n k
  if r.until_ ≤ s.clk ∧ r.storm.isNone then s.setRxPause n k { r with until_ := 0, since := none } else s

/-- A class has been held paused without a break for 100 ms with a copy waiting: a storm begins (R377). -/
def State.stormStart (s : State) (n k : Nat) : State :=
  let r := s.rxPause n k
  match r.since with
  | none => s
  | some t =>
    if s.paused n k && s.queueHolds n k && s.flag (Fld.PRT_PFC_CFG_RX_EN n) && s.passed t 100 Config.ticksPerMs then
      let s := s.setRxPause n k { r with storm := some s.clk, stormLast := s.clk, stormIgnored := 0 }
      s.raise 76 n [(24, 1, 2 ^ k), (25, 1, if r.linkLevel then 1 else 0), (28, 4, s.msSince t)]
    else s

/-- One second without non-zero pause for the class ends the storm. -/
def State.stormEnd (s : State) (n k : Nat) : State :=
  let r := s.rxPause n k
  match r.storm with
  | none => s
  | some t =>
    if s.passed r.stormLast 1 Config.ticksPerS then
      let s := s.setRxPause n k {}
      s.raiseEnd 76 n [(24, 1, 2 ^ k), (25, 1, if r.linkLevel then 1 else 0), (28, 4, s.msSince t), (32, 4, r.stormIgnored)]
    else s

/-! ### Exits of accepted copies (R111) -/

/-- A preempted copy of a frame waits no more. -/
def State.dropCut (s : State) (id p : Nat) : State :=
  s.setPort p { s.port p with cut := (s.port p).cut.filter (fun t => t.frame != id) }

/-- A queue that holds no copy any more has its deficit at 0 and its visit at an end (R179). -/
def State.emptied (s : State) (p q : Nat) : State :=
  let pt := s.port p
  if (s.queue (8 * p + q)).isEmpty && !(pt.cut.any (fun t => t.queue == q)) then
    (s.setPort p { pt with
      deficit := Store.set (fun _ => 0) pt.deficit q 0
      drrAt := if pt.drrAt = some q then none else pt.drrAt }).holdRun p q
  else s

/-- A timestamp entry with DISCARDED for a TS_REQ copy that is lost before it was launched (R214). -/
def State.discardStamp (s : State) (f : Frame) (p : Nat) : State :=
  match f.tsTag with
  | some tag => if p < 64 ∧ (s.port p).cut.all (fun t => t.frame != f.id) = true then s.pushTsf p ⟨tag, true, 0, 0⟩ else s
  | none => s

/-- A copy leaves without being transmitted complete: counted, its timestamp entry, its charges released (R130). -/
def State.exitCopy (s : State) (id p counter : Nat) : State :=
  match s.frame id with
  | none => s
  | some f =>
    let s := (s.bump counter).discardStamp f p
    let q := match f.copy p with | some c => c.queue | none => 0
    ((((s.unlink id p).dropCut id p).dropCopy id p)).emptied p q

/-- The same for a list of frames. -/
def State.exitAll (s : State) (p counter : Nat) : List Nat → State
  | [] => s
  | id :: l => (s.exitCopy id p counter).exitAll p counter l

/-- Frames queued on a port, by queue 7 down to 0, and those whose transmission was preempted. -/
def State.portQueued (s : State) (p : Nat) : List Nat :=
  (s.port p).cut.map (·.frame) ++ ([7, 6, 5, 4, 3, 2, 1, 0].map (fun j => s.queue (8 * p + j))).flatten

/-- Cells of a list of frames whose last copy leaves on this port. -/
def State.cellsFreed (s : State) (ids : List Nat) : Nat :=
  (ids.map (fun id => match s.frame id with
    | some f => if f.copies.length = 1 then f.cells.length else 0
    | none => 0)).sum

/-- Classes of a list of frames, as a bit set. -/
def State.classSet (s : State) (ids : List Nat) : Nat :=
  ids.foldl (fun a id => match s.frame id with | some f => a ||| 2 ^ f.cls | none => a) 0

/-- Flush every held copy of a port with event 58; `why` is 0 for an expired hold, 1 for a disabled port (R135). It reports the HOLD_MS
that the hold began with, or where none runs the present one. -/
def State.flushPort (s : State) (p why : Nat) : State :=
  let ids := s.portQueued p
  let d := [(24, 4, ids.length), (28, 4, s.cellsFreed ids), (32, 1, s.classSet ids), (33, 1, why),
    (34, 2, if (s.port p).hold.isSome then (s.port p).holdMs else s.f (Fld.PRT_HOLD_CFG_HOLD_MS p))]
  let s := s.exitAll p (Reg.PRT_TX_HOLD_FLUSH p) ids
  let s := s.setPort p { s.port p with hold := none, holdSingle := false, cut := [] }
  (s.raise 58 p d).flow

/-- Bytes of the present fragment that have left the port, preamble excluded. -/
def State.sentNow (s : State) (p : Nat) (t : Tx) : Nat := (s.clk - t.startTick) * rateOf (s.speed p) / 5 - 8

/-- A transmission in progress is cut with an error block (R134). -/
def State.abortTx (s : State) (p : Nat) : State :=
  let pt := s.port p
  let s := match pt.tx with
    | none => s
    | some t =>
      let s := s.setPort p { pt with tx := none, busy := s.clk }
      let s := s.emit (.frame p ((t.data.drop t.sentBefore).take (s.sentNow p t)) t.stamp false)
      (s.bump (Reg.PRT_TX_ABORTED p)).dropCopy t.frame p
  s

/-- Preempted copies are transmissions that have begun: a link down cuts them too. -/
def State.abortCuts (s : State) (p : Nat) : List Tx → State
  | [] => s.setPort p { s.port p with cut := [] }
  | t :: l => ((((s.bump (Reg.PRT_TX_ABORTED p)).dropCopy t.frame p).dropCut t.frame p).emptied p t.queue).abortCuts p l

/-- What a port's queues do at link down with a cause of R134: cut, flush TC7, start the hold. -/
def State.freezePort (s : State) (p : Nat) : State :=
  let s := (s.abortTx p)
  let s := s.abortCuts p (s.port p).cut
  let s := s.exitAll p (Reg.PRT_TX_TC7_FLUSH p) (s.queue (8 * p + 7))
  let ms := s.f (Fld.PRT_HOLD_CFG_HOLD_MS p)
  if ms = 0 then s.flushPort p 0
  else (s.setPort p { s.port p with hold := some (s.clk + ms * Config.ticksPerMs), holdMs := ms }).flow

/-! ### The end of a transmission (R130) -/

/-- The last byte of a port's transmission has crossed the egress plane: counted, sampled, its charges released. -/
def State.finishTx (s : State) (p : Nat) (t : Tx) : State :=
  let pt := s.port p
  let s := s.setPort p { pt with
    tx := none
    ran := if t.express then some (t.cls, t.startTick, t.endTick) else pt.ran }
  let s := s.bump (Reg.PRT_TX_FRAMES p)
  let s := if p < 64 then s.bump (Reg.SCH_Q_TX p t.cls) else s
  let s := if t.sentBefore = 0 then s else s.bump (Reg.SCH_FRAG_CNT p)
  let s := s.emit (.frame p (t.data.drop t.sentBefore) t.stamp true)
  let s := s.sampleFrame p 1 t.stamp t.data
  (s.dropCopy t.frame p).flow

/-- End the transmissions whose last bit has passed, on the ports of a list. -/
def State.settleTx (s : State) : List Nat → State
  | [] => s
  | p :: l =>
    match (s.port p).tx with
    | some t => (if t.endTick ≤ s.clk then s.finishTx p t else s).settleTx l
    | none => s.settleTx l

/-- The ports with a transmission in progress. -/
def State.sending (s : State) : List Nat := (s.ports.filter (fun e => e.2.tx.isSome)).map (·.1)

/-! ### Time passes -/

/-! ### The high-rate ring (R279, R281) -/

/-- Write a record of an input to the ring, or lose it where the ring is full or not in use. -/
def State.ringWrite (s : State) (i : Nat) (w : BitVec 256) : State :=
  let size := ringSize (s.f Fld.TIC_RING_CFG_SIZE_LOG2)
  let prod := s.f Fld.TIC_RING_PROD_PROD
  if s.flag Fld.TIC_RING_CFG_ENABLE && (prod + 1) % size != s.f Fld.TIC_RING_CONS_CONS then
    ((((s.emit (.ringRecord prod w)).bump (Reg.TIC_RECORDS i))).setF Fld.TIC_RING_PROD_PROD ((prod + 1) % size)).signal 6
  else (s.bump Reg.TIC_RING_LOST).bump (Reg.TIC_LOST i)

/-- The oldest record that waits for the ring, with its input. -/
def ringHead (l : Store Tin) : Option (Nat × Nat × BitVec 256) :=
  l.foldl (fun a e => match e.2.fifo, a with
    | [], _ => a
    | (t, w) :: _, none => some (e.1, t, w)
    | (t, w) :: _, some (j, u, v) => if t < u then some (e.1, t, w) else some (j, u, v)) none

/-- Records waiting for the ring. -/
def ringWaiting (l : Store Tin) : Nat := (l.map (fun e => e.2.fifo.length)).sum

/-- Write waiting records, at most `fuel`, oldest first, as the rate of 10 million a second allows. -/
def State.drainRing (s : State) : Nat → State
  | 0 => s
  | fuel + 1 =>
    match ringHead s.tin with
    | none => s
    | some (i, _, w) =>
      if s.dmaOk = false then { s with hif := { s.hif with ringAt := max s.hif.ringAt (2 * s.clk) } }
      else if s.hif.ringAt ≤ 2 * s.clk then
        let x := Store.get (fun _ => {}) s.tin i
        (({ s with
            tin := Store.set (fun _ => {}) s.tin i { x with fifo := x.fifo.tail }
            hif := { s.hif with ringAt := s.hif.ringAt + 125 } }).ringWrite i w).drainRing fuel
      else s

/-- Some ticks pass: the clock and module time advance, transmissions end whose last bit has passed, and records go to the ring. -/
def State.advance (s : State) (dt : Nat) : State :=
  let s := { s with clk := s.clk + dt, time := if s.domainOn 2 then s.time.run dt else s.time }
  let s := s.settleTx s.sending
  s.drainRing (ringWaiting s.tin)

end Sys2Proof.Machine
end

