-- ==== Sys2Proof/Machine/MirBase.lean ====
section
/-! DEFINITION. What every part of the module needs of the pair (13_mirrored_pair.md): its configuration and state,
the roles held, and sending and taking Emulug messages (R313..R316). -/

namespace Sys2Proof.Machine

/-- MIR_STATUS.PAIR_STATE (R316). -/
def psAlone : Nat := 0
def psSyncing : Nat := 1
def psInService : Nat := 2
def psLost : Nat := 3
def psDiverged : Nat := 4

def State.pairState (s : State) : Nat := s.f Fld.MIR_STATUS_PAIR_STATE
def State.pairConfig (s : State) : Nat := s.f Fld.MIR_CFG_CONFIG
def State.inService (s : State) : Bool := s.pairState == psInService

/-- Do changes cross to the partner (R322): in service, or on the owner that has applied the state and waits for its partner to be? -/
def State.mirroring (s : State) : Bool := s.inService || s.mir.await

/-- Role bits (R307). -/
def roleTime : Nat := 1
def roleOwner : Nat := 2
def roleSingle : Nat := 4
def roleOutputs : Nat := 8
def roleLanes : Nat := 16

/-- The roles held. -/
def State.roles (s : State) : Nat := s.f Fld.MIR_STATUS_ROLES

/-- Does the unit hold a role (given by its bit value)? -/
def State.holds (s : State) (r : Nat) : Bool := s.roles &&& r != 0

/-- Every role that exists in a configuration (R303). -/
def rolesOf (config : Nat) : Nat := if config = 1 then 31 else 7

/-- Does the Emulug link run: PD5 on, ENABLE 1, a pair configured, and no surprise removal (R362)? -/
def State.mirOn (s : State) : Bool :=
  s.domainOn 5 && s.flag Fld.MIR_CFG_ENABLE && s.pairConfig != 0 && !s.rst.surprise

/-- Message types (R315). -/
def msgClaim : Nat := 0x01
def msgSyncData : Nat := 0x02
def msgSyncDone : Nat := 0x03
def msgPrepare : Nat := 0x10
def msgVote : Nat := 0x11
def msgDecision : Nat := 0x12
def msgChange : Nat := 0x13
def msgHandleReq : Nat := 0x14
def msgTimeState : Nat := 0x20
def msgFrer : Nat := 0x21
def msgJournal : Nat := 0x22
def msgExchange : Nat := 0x30
def msgExchangeAck : Nat := 0x31

/-- Is anything but claims mirrored: the link runs, and the pair is not DIVERGED (R316)? -/
def State.mirrors (s : State) : Bool := s.mirOn && s.pairState != psDiverged

/-- Send a message with the next SEQ (R314): a frame of Ethertype 0x88B5 on each of MIR0 and MIR1 (R313); nothing is sent while the link
does not run. -/
def State.sendMir (s : State) (kind : Nat) (body : List Nat) : State :=
  if s.mirOn then
    let s := ((s.bump Reg.MIR_MSG_TX).emit (.emulug 0 s.mir.session s.mir.seq kind body)).emit (.emulug 1 s.mir.session s.mir.seq kind body)
    { s with mir := { s.mir with seq := (s.mir.seq + 1) % 2 ^ 32 } }
  else s

/-- A new session begins (R314). -/
def State.startSession (s : State) : State :=
  { s with mir := { s.mir with session := (s.mir.session + 1) % 2 ^ 32, seq := 0, silentFrom := s.clk } }

/-- Is the partner heard: a valid CLAIM within the last 100 µs (R313)? -/
def State.heard (s : State) : Bool :=
  match s.mir.heardAt with
  | some t => decide (s.clk < t + 100 * Config.ticksPerUs)
  | none => false

/-- Microseconds since a valid CLAIM, saturating (MIR_HEARD_AGE). -/
def State.heardAge (s : State) : Nat :=
  match s.mir.heardAt with
  | some t => min (s.usSince t) 0xFFFFFFFF
  | none => 0xFFFFFFFF

/-- May a message with this session and SEQ be taken (R314)? -/
def State.mayTake (s : State) (session seq : Nat) : Bool :=
  match s.mir.taken with
  | none => true
  | some (ses, q) =>
    decide (ses ≠ session) || !s.heard || (decide (q ≠ seq) && decide ((seq + 2 ^ 32 - q) % 2 ^ 32 < 2 ^ 31))

/-- Take a message, or discard and count it (R313); the link must run. -/
def State.takeMir (s : State) (session seq : Nat) (good : Bool) : Option State × State :=
  if s.mirOn then
    if good && s.mayTake session seq then
      (some { (s.bump Reg.MIR_MSG_RX) with mir := { s.mir with taken := some (session, seq) } }, s)
    else (none, s.bump Reg.MIR_MSG_BAD)
  else (none, s)

/-- Tell the partner that an exchange ends: the unit that has sent an EXCHANGE gets its refusal, one that was only told of the exchange an
EXCHANGE without instant and preference. DESIGN CHOICE (log 150). -/
def State.tellEnd (s : State) (x : Exchange) : State :=
  if x.holder && x.tag.isSome then s.sendMir msgExchange [0, 0] else s.sendMir msgExchangeAck [1]

/-- The single-homed ports (R307). -/
def State.singleHomed (s : State) (p : Nat) : Bool :=
  decide (p < 64) && s.pairConfig != 0
    && ((s.f Fld.MIR_CFG_LANE_SEL_GROUPS).testBit (groupOf p)
      || (s.pair Reg.MIR_SH_PORTS_LO Reg.MIR_SH_PORTS_HI).testBit p)

/-- Is a port's lane group withheld from this unit by LANE_SELECT (R308)? -/
def State.laneWithheld (s : State) (p : Nat) : Bool :=
  decide (p < 64) && s.pairConfig == 1 && (s.f Fld.MIR_CFG_LANE_SEL_GROUPS).testBit (groupOf p) && !s.holds roleLanes

end Sys2Proof.Machine
end

