-- ==== Sys2Proof/Machine/Tables.lean ====
section
/-! DEFINITION. The forwarding tables (06_tables.md): entries and handles, references, cuckoo placement, ternary rows,
trie room, visibility by epoch, and the removal and repair of entries. -/

namespace Sys2Proof.Machine

/-! ### Tables and handles (R139, R140) -/

/-- Table number of a command code; 0x10 stands for pipeline 0's copy of the static entries. -/
def tableOf (code : Nat) : Option Nat :=
  if code = 0x10 then some 0
  else if 0x11 ≤ code ∧ code ≤ 0x14 then some (code - 0x11)
  else if code = 0x20 then some 4 else if code = 0x21 then some 5
  else if code = 0x30 then some 6 else if code = 0x31 then some 7
  else if code = 0x40 then some 8 else if code = 0x50 then some 9
  else if code = 0x60 then some 10 else if code = 0x70 then some 11 else none

/-- Command code of a table's entries (learned entries for the MAC tables). -/
def codeOf (t : Nat) : Nat :=
  if t < 4 then 0x11 + t else if t = 4 then 0x20 else if t = 5 then 0x21 else if t = 6 then 0x30
  else if t = 7 then 0x31 else if t = 8 then 0x40 else if t = 9 then 0x50 else if t = 10 then 0x60 else 0x70

/-- Is an entry a static MAC entry? -/
def Payload.isStatic : Payload → Bool
  | .mac _ _ _ _ st _ _ => st
  | _ => false

/-- Is an entry a learned MAC entry? -/
def Payload.isLearned : Payload → Bool
  | .mac _ _ _ _ st _ _ => !st
  | _ => false

/-- The handle of an entry (R140). -/
def Entry.handle (e : Entry) (t : Nat) : Nat :=
  (if e.payload.isStatic then 0x10 else codeOf t) * 2 ^ 24 + (e.gen % 16) * 2 ^ 20 + e.index % 2 ^ 20

/-- Two entries have one key (R141): the keyless tables have none. -/
def sameKey : Payload → Payload → Bool
  | .mac m f _ _ _ _ _, .mac m' f' _ _ _ _ _ => m == m' && f == f'
  | .stream m v k _, .stream m' v' k' _ => m == m' && v == v' && k == k'
  | .route4 p l _, .route4 p' l' _ => p == p' && l == l'
  | .route6 p l _, .route6 p' l' _ => p == p' && l == l'
  | .ternary k m p _, .ternary k' m' p' _ => k == k' && m == m' && p == p'
  | .vid v _ _ _ _, .vid v' _ _ _ _ => v == v'
  | _, _ => false

/-- Bits of an entry's result word. -/
def bitsAt (v lo n : Nat) : Nat := v / 2 ^ lo % 2 ^ n

/-- The entries that an entry names, as (table, index), by its set enables (R142). A route has no enable and always names its DEST; the
NEXT of a list's final entry names nothing (log 33). -/
def namesOf : Payload → List (Nat × Nat)
  | .mac _ _ tgt kind _ _ _ => if kind = 1 then [(9, tgt)] else []
  | .stream _ _ _ w =>
    (if bitsAt w 18 1 = 1 then [(10, bitsAt w 4 14)] else [])
      ++ (if bitsAt w 32 2 ≠ 0 then [(5, bitsAt w 19 13)] else [])
      ++ (if bitsAt w 46 1 = 1 then [(9, bitsAt w 34 12)] else [])
  | .route4 _ _ r => [(9, bitsAt r 0 12)]
  | .route6 _ _ r => [(9, bitsAt r 0 12)]
  | .ternary _ _ _ r =>
    (if bitsAt r 20 1 = 1 then [(10, bitsAt r 6 14)] else [])
      ++ (if bitsAt r 33 1 = 1 then [(9, bitsAt r 21 12)] else [])
      ++ (if bitsAt r 48 1 = 1 then [(4, bitsAt r 34 14)] else [])
  | .dest _ _ next last _ _ _ => if last then [] else [(9, next)]
  | _ => []

/-- All entries of a table. -/
def State.entries (s : State) (t : Nat) : List Placed := (s.table t).entries

/-- How many table entries name an entry (R142). -/
def State.refCount (s : State) (t index : Nat) : Nat :=
  (s.tbl.tables.map (fun x => (x.2.entries.map (fun p =>
    ((namesOf p.entry.payload).filter (fun n => n == (t, index))).length)).sum)).sum

/-- The parity of the current epoch. -/
def State.parity (s : State) : Nat := (s.reg Reg.TXN_EPOCH).toNat % 2

/-- Does an entry stand at an index, visible, staged or waiting to be freed? -/
def State.isTaken (s : State) (t index : Nat) : Bool := (s.entries t).any (fun p => p.entry.index == index)

/-- Is an index of a table live: does an entry visible to the present epoch stand at it (R142)? -/
def State.isLive (s : State) (t index : Nat) : Bool :=
  (s.entries t).any (fun p => p.entry.index == index && p.entry.vis.testBit s.parity)

/-- Every entry that content names is live. -/
def State.namesLive (s : State) (p : Payload) : Bool := (namesOf p).all (fun n => s.isLive n.1 n.2)

/-- Capacity of a table under the active partition, and the room of its stash. -/
def State.cap (s : State) (t : Nat) : Nat := s.f (Fld.TBL_STAT_CAP_SLOTS t)
def stashRoom (t : Nat) : Nat := if t ≤ 4 then 8 else 0

/-- The first free index at or after `pick`, cyclically: which free index a new entry takes is the module's choice. -/
def freeIndex (taken : Nat → Bool) (size pick : Nat) : Nat → Option Nat
  | 0 => none
  | n + 1 => if taken (pick % size) then freeIndex taken size (pick + 1) n else some (pick % size)

/-- A free index of a table. -/
def State.newIndex (s : State) (t pick : Nat) : Option Nat :=
  let size := s.cap t + stashRoom t
  if size = 0 then none
  else freeIndex (s.isTaken t) size pick ((s.entries t).length + 1)

/-- A free index in all four pipelines' index spaces (R140). -/
def State.newStaticIndex (s : State) (pick : Nat) : Option Nat :=
  let size := s.cap 0 + 8
  if s.cap 0 = 0 then none
  else freeIndex (fun i => s.isTaken 0 i || s.isTaken 1 i || s.isTaken 2 i || s.isTaken 3 i) size pick
    ((s.entries 0).length + (s.entries 1).length + (s.entries 2).length + (s.entries 3).length + 1)

/-- The generation of an index: of the entry that stands at it, or of its next use (R140). -/
def State.genOf (s : State) (t index : Nat) : Nat :=
  match (s.entries t).find? (fun p => p.entry.index == index) with
  | some p => p.entry.gen
  | none => Store.get (fun _ => 0) (s.table t).gens index

/-- The entry that a handle names, with the table's number; a static entry is found in pipeline 0 (R140). -/
def State.byHandle (s : State) (code h : Nat) : Option Placed :=
  match tableOf code with
  | none => none
  | some t => (s.entries t).find? (fun p =>
      p.entry.handle t == h && decide (h / 2 ^ 24 = code) && p.entry.vis.testBit ((s.reg Reg.TXN_EPOCH).toNat % 2))

/-! ### Buckets (R147) -/

/-- The hash input of an entry: 8 bytes. -/
def hashInput : Payload → List Byte
  | .mac m f _ _ _ _ _ => BitVec.ofNat 8 (f / 256 % 16) :: BitVec.ofNat 8 (f % 256) :: toBe 6 m
  | .stream m v k _ => BitVec.ofNat 8 ((k % 4) * 64 + v / 256 % 16) :: BitVec.ofNat 8 (v % 256) :: toBe 6 m
  | _ => []

/-- The exponent B of a cuckoo table. -/
def State.bucketLog (s : State) (t : Nat) : Nat :=
  if t < 4 then s.f Fld.TBL_GEOM_MAC_BKT_LOG2 else s.f Fld.TBL_GEOM_STREAM_BKT_LOG2

/-- The two candidate buckets of a key. -/
def buckets (log2 : Nat) (p : Payload) : Nat × Nat :=
  let b1 := crc32c 0x4C414D50 (hashInput p) % 2 ^ log2
  let b2 := crc32c 0x5749434B (hashInput p) % 2 ^ log2
  (b1, if b2 = b1 then b1 ^^^ 1 else b2)

/-- The entry in a slot. -/
def atSlot (es : List Placed) (n : Nat) : Option Placed := es.find? (fun p => p.place == .slot n)

/-- The first free slot of a bucket. -/
def freeSlot (es : List Placed) (b : Nat) : Option Nat :=
  ([4 * b, 4 * b + 1, 4 * b + 2, 4 * b + 3]).find? (fun n => (atSlot es n).isNone)

/-- How many slots of a bucket are taken. -/
def bucketFill (es : List Placed) (b : Nat) : Nat :=
  ([4 * b, 4 * b + 1, 4 * b + 2, 4 * b + 3].filter (fun n => (atSlot es n).isSome)).length

/-- The other candidate bucket of the entry in a slot. -/
def otherBucket (log2 : Nat) (p : Placed) (b : Nat) : Nat :=
  let bs := buckets log2 p.entry.payload
  if bs.1 = b then bs.2 else bs.1

/-- One step of the breadth-first search (R148): from chains of slots that end at a bucket, either a chain whose last
entry has a free slot to go to, or the longer chains. -/
def searchStep (es : List Placed) (log2 : Nat) :
    List (List Nat × Nat) → List (List Nat × Nat) → (Option (List Nat × Nat)) × List (List Nat × Nat)
  | [], acc => (none, acc)
  | (chain, b) :: rest, acc =>
    let cand := ([4 * b, 4 * b + 1, 4 * b + 2, 4 * b + 3]).filterMap (fun n =>
      if chain.contains n then none else (atSlot es n).map (fun p => (chain ++ [n], otherBucket log2 p b)))
    match cand.findSome? (fun c => (freeSlot es c.2).map (fun f => (c.1, f))) with
    | some found => (some found, acc)
    | none => searchStep es log2 rest (acc ++ cand)

/-- The search to a depth of at most `n` moves. -/
def searchPath (es : List Placed) (log2 : Nat) : Nat → List (List Nat × Nat) → Option (List Nat × Nat)
  | 0, _ => none
  | n + 1, front =>
    match searchStep es log2 front [] with
    | (some r, _) => some r
    | (none, next) => searchPath es log2 n next

/-- Move the entry in a slot to a free slot (R149): its handle and hit bit go with it. -/
def moveSlot (es : List Placed) (src dst : Nat) : List Placed :=
  es.map (fun p => if p.place = .slot src then { p with place := .slot dst } else p)

/-- Carry out a chain of moves, from the one that ends in the free slot backward; answers the slot freed. -/
def runMoves (es : List Placed) : List Nat → Nat → List Placed × Nat
  | [], free => (es, free)
  | n :: l, free => runMoves (moveSlot es n free) l n

/-- Find a place for a new key in a cuckoo table: the entries after any moves, the place, the moves made. -/
def findPlace (es : List Placed) (log2 : Nat) (p : Payload) : Option (List Placed × Place × Nat) :=
  let bs := buckets log2 p
  let first := if bucketFill es bs.2 < bucketFill es bs.1 then bs.2 else bs.1
  let second := if first = bs.1 then bs.2 else bs.1
  match freeSlot es first with
  | some n => some (es, .slot n, 0)
  | none =>
    match freeSlot es second with
    | some n => some (es, .slot n, 0)
    | none =>
      match searchPath es log2 3 [([], bs.1), ([], bs.2)] with
      | some (chain, free) =>
        let r := runMoves es chain.reverse free
        some (r.1, .slot r.2, chain.length)
      | none =>
        if (es.filter (fun q => q.place == .stash)).length < 8 then some (es, .stash, 0) else none

/-! ### Ternary rows (R165) -/

/-- Does entry `a` rank before entry `b`? -/
def ranksBefore (a b : Entry) : Bool :=
  match a.payload, b.payload with
  | .ternary _ _ pa _, .ternary _ _ pb _ => decide (pb < pa) || (pa == pb && decide (a.order < b.order))
  | _, _ => false

/-- The nearest free row below and above a gap that has no free row of its own: how many rows must shift. -/
def freeRowFrom (es : List Placed) (up : Bool) : Nat → Nat → Nat → Option Nat
  | 0, _, _ => none
  | n + 1, r, cap =>
    if cap ≤ r then none
    else if (atSlot es r).isNone then some r
    else if up then freeRowFrom es up n (r + 1) cap
    else if r = 0 then none else freeRowFrom es up n (r - 1) cap

/-- Shift the rows lo..hi by one, up or down. -/
def shiftRows (es : List Placed) (lo hi : Nat) (up : Bool) : List Placed :=
  es.map (fun p => match p.place with
    | .slot n => if lo ≤ n ∧ n ≤ hi then { p with place := .slot (if up then n + 1 else n - 1) } else p
    | .stash => p)

/-- Find a row for a new ternary entry: after those that rank before it, before those it ranks before. -/
def findRow (es : List Placed) (cap : Nat) (e : Entry) : Option (List Placed × Place × Nat) :=
  let rows (p : Entry → Bool) := (es.filter (fun q => p q.entry)).filterMap (fun q =>
    match q.place with | .slot n => some n | .stash => none)
  let lo := (rows (fun x => ranksBefore x e)).foldl (fun a n => max a (n + 1)) 0
  let hi := (rows (fun x => !ranksBefore x e)).foldl min cap
  if lo < hi then some (es, .slot lo, 0)
  else
    let up := freeRowFrom es true (es.length + 1) hi cap
    let down := if lo = 0 then none else freeRowFrom es false (es.length + 1) (lo - 1) cap
    match up, down with
    | none, none => none
    | some u, none => some (shiftRows es hi (u - 1) true, .slot hi, u - hi)
    | none, some d => some (shiftRows es (d + 1) (lo - 1) false, .slot (lo - 1), lo - 1 - d)
    | some u, some d =>
      if u - hi ≤ lo - 1 - d then some (shiftRows es hi (u - 1) true, .slot hi, u - hi)
      else some (shiftRows es (d + 1) (lo - 1) false, .slot (lo - 1), lo - 1 - d)

/-! ### The tries (R162, R163)

A trie's content follows from the routes visible to its root, and which number a block bears is nothing that a host can see (log 19):
the state holds the routes, and what the six stages hold is computed from them, entry by entry. -/

/-- Remove repeats from a list. -/
def distinct [BEq α] : List α → List α
  | [] => []
  | x :: l => if (distinct l).contains x then distinct l else x :: distinct l

/-- A route as the tries hold it: prefix (32 or 128 bits), length, route index. -/
structure Route where
  addr : Nat
  len : Nat
  index : Nat
  deriving DecidableEq, Repr

/-- The routes of a list of entries. -/
def routesOf (es : List Placed) : List Route :=
  es.filterMap (fun p => match p.entry.payload with
    | .route4 a l _ => some ⟨a, l, p.entry.index⟩
    | .route6 a l _ => some ⟨a, l, p.entry.index⟩
    | _ => none)

/-- Bits of an address. -/
def addrBits (v6 : Bool) : Nat := if v6 then 128 else 32

/-- Bits of address consumed before stage s (1..6), and after it. -/
def strideStart (v6 : Bool) (s : Nat) : Nat :=
  if s ≤ 1 then 0 else if v6 then 16 * (s - 1) else 16 + 8 * (s - 2)
def strideEnd (v6 : Bool) (s : Nat) : Nat := strideStart v6 (s + 1)

/-- Does a route go on below the value `x` of the first `n` address bits? -/
def Route.deeper (r : Route) (v6 : Bool) (n x : Nat) : Bool := decide (n < r.len) && r.addr / 2 ^ (addrBits v6 - n) == x

/-- Does a route of at most `n` bits cover that value? -/
def Route.covers (r : Route) (v6 : Bool) (n x : Nat) : Bool :=
  decide (r.len ≤ n) && r.addr / 2 ^ (addrBits v6 - r.len) == x / 2 ^ (n - r.len)

/-- The longest route that covers the value. -/
def coveringRoute (v6 : Bool) (routes : List Route) (n x : Nat) : Option Route :=
  routes.foldl (fun best r => if r.covers v6 n x then
    (match best with | none => some r | some b => if b.len < r.len then some r else best) else best) none

/-- The blocks of a stage s ≥ 2, by their leading address bits: a block stands exactly while a longer route lies beneath it. -/
def blocksAt (v6 : Bool) (routes : List Route) (s : Nat) : List Nat :=
  let n := strideStart v6 s
  if s < 2 ∨ (v6 = false ∧ 3 < s) then []
  else distinct ((routes.filter (fun r => n < r.len)).map (fun r => r.addr / 2 ^ (addrBits v6 - n)))

/-- The 32-bit trie entry of stage s for the value `x` of the address bits consumed after it: a node with its block's number in the next
stage, or the pushed leaf of the longest route above, or empty. -/
def trieWord (v6 : Bool) (routes : List Route) (s x : Nat) : Word :=
  let n := strideEnd v6 s
  if routes.any (fun r => r.deeper v6 n x) then BitVec.ofNat 32 (2 * 2 ^ 30 + (blocksAt v6 routes (s + 1)).idxOf x)
  else match coveringRoute v6 routes n x with
    | some r => BitVec.ofNat 32 (2 ^ 30 + r.index)
    | none => 0

/-- Put a number into a rising list once. -/
def addAsc (x : Nat) : List Nat → List Nat
  | [] => [x]
  | y :: l => if x < y then x :: y :: l else if x = y then y :: l else y :: addAsc x l

/-- The boundaries inside a range block: the first value of each run that a prefix ends or continues in, and the value after its last. -/
def boundariesIn (routes : List Route) (s block : Nat) : List Nat :=
  let n := strideStart true s
  let mine := routes.filter (fun r => r.deeper true n block)
  let ends := (mine.map (fun r =>
    let m := min (r.len - n) 16
    let lo := r.addr / 2 ^ (128 - n - 16) % 65536 / 2 ^ (16 - m) * 2 ^ (16 - m)
    [lo, lo + 2 ^ (16 - m)])).flatten
  (ends.filter (fun x => decide (0 < x) && decide (x < 65536))).foldl (fun l x => addAsc x l) []

/-- A range block: its ascending boundaries, the first value 0, with the entry from each on. -/
def rangeBlock (routes : List Route) (s block : Nat) : List (Nat × Word) :=
  (0 :: boundariesIn routes s block).map (fun x => (x, trieWord true routes s (block * 65536 + x)))

/-- The entry that a range block has for 16 address bits: that of the highest boundary not above them. -/
def resolveRange (l : List (Nat × Word)) (x : Nat) : Word := l.foldl (fun w b => if b.1 ≤ x then b.2 else w) 0

/-- What is read in one access at stage s for an address: the entry of stage 1 or of an IPv4 block, or a whole range block. -/
def trieKey (v6 : Bool) (s addr : Nat) : Nat :=
  addr / 2 ^ (addrBits v6 - (if v6 && decide (1 < s) then strideStart v6 s else strideEnd v6 s))

/-- The entry of stage s that an address meets. -/
def trieRead (v6 : Bool) (routes : List Route) (s addr : Nat) : Word :=
  let x := addr / 2 ^ (addrBits v6 - strideEnd v6 s)
  if v6 && decide (1 < s) then resolveRange (rangeBlock routes s (x / 65536)) (x % 65536) else trieWord v6 routes s x

/-- How a walk ends: at an empty entry, at a leaf, or at an entry that fails parity. -/
inductive TrieEnd where
  | miss
  | leaf (index : Nat)
  | bad (stage key : Nat)
  deriving DecidableEq, Repr

/-- Walk the stages from `s` on: the first leaf or empty entry ends the lookup. -/
def trieWalk (v6 : Bool) (routes : List Route) (bad : Nat → Nat → Bool) (addr : Nat) : Nat → Nat → TrieEnd
  | 0, _ => .miss
  | n + 1, s =>
    if bad s (trieKey v6 s addr) then .bad s (trieKey v6 s addr)
    else
      let w := (trieRead v6 routes s addr).toNat
      if w / 2 ^ 30 = 1 then .leaf (w % 2 ^ 30)
      else if w / 2 ^ 30 = 2 then trieWalk v6 routes bad addr n (s + 1)
      else .miss

/-- Table number of an IP version's routes. -/
def lpmTable (v6 : Bool) : Nat := if v6 then 7 else 6

/-- The routes of the root of an epoch parity; 2 is the root that the open transaction builds aside (R163). -/
def State.rootRoutes (s : State) (v6 : Bool) (ver : Nat) : List Route :=
  let t := lpmTable v6
  if ver < 2 then routesOf ((s.entries t).filter (fun q => q.entry.vis.testBit ver))
  else
    let ops := match s.txn.open_ with | some x => x.ops.filter (fun (o : StagedOp) => tableOf o.code == some t) | none => []
    routesOf ((s.entries t).filter (fun q => q.entry.vis.testBit 2
      || (q.entry.vis.testBit s.parity && !(ops.any (fun (o : StagedOp) => o.index == q.entry.index)))))

/-- The longest-prefix lookup of an address from the root of an epoch parity (R162). -/
def State.trieFind (s : State) (v6 : Bool) (par addr : Nat) : TrieEnd :=
  trieWalk v6 (s.rootRoutes v6 par) (fun st key => s.tbl.badTrie.contains (v6, st, key)) addr 6 1

/-- The blocks that the partition gives a stage 1..6. -/
def State.stageBlocks (s : State) (stage : Nat) : Nat :=
  match s.img.active with
  | some i => i.partition.stages.getD (stage - 1) 0
  | none => 0

/-- What tells a block of one root from that of another at its place: the routes beneath it and the leaf above it. Roots share a block
whose content is the same. -/
def blockContent (v6 : Bool) (routes : List Route) (s block : Nat) : Nat × List Route × Option Route :=
  let n := strideStart v6 s
  (block, routes.filter (fun r => r.deeper v6 n block), coveringRoute v6 routes n block)

/-- Blocks in use in a stage by the roots of some versions (R163). -/
def State.usedBy (s : State) (vers : List Nat) (stage : Nat) : Nat :=
  let of (v6 : Bool) := (distinct ((vers.map (fun v =>
    (blocksAt v6 (s.rootRoutes v6 v) stage).map (blockContent v6 (s.rootRoutes v6 v) stage))).flatten)).length
  of false + of true

/-- The roots there are: of both parities, and of an open transaction. -/
def State.roots (s : State) : List Nat := if s.txn.open_.isSome then [0, 1, 2] else [0, 1]

/-- Blocks in use in a stage. Stage 1 is a direct array and has none. -/
def State.stageUsed (s : State) (stage : Nat) : Nat := s.usedBy s.roots stage

/-- Do the tries have the blocks that they need, with at most 64 boundaries in each range block (R163)? -/
def State.trieFits (s : State) : Bool :=
  ([2, 3, 4, 5, 6]).all (fun st =>
    decide (s.stageUsed st ≤ s.stageBlocks st)
      && s.roots.all (fun v => (blocksAt true (s.rootRoutes true v) st).all (fun b =>
        decide ((boundariesIn (s.rootRoutes true v) st b).length ≤ 64))))

/-! ### Placing, replacing and removing entries -/

/-- Visibility: bit 0 and bit 1 the epoch parities, bit 2 a staged insert not yet applied (R143). -/
def visBoth : Nat := 3
def visStaged : Nat := 4

/-- Count moves and the longest chain (TBL_STAT). -/
def State.noteMoves (s : State) (t n : Nat) : State :=
  if n = 0 then s
  else
    let s := s.bumpBy (Reg.TBL_STAT_MOVES t) n
    if t ≤ 4 ∧ s.f (Fld.TBL_STAT_MAX_PATH_MOVES t) < n then s.setF (Fld.TBL_STAT_MAX_PATH_MOVES t) n else s

/-- Stash entries in use, and the highest use seen. -/
def State.stashUsed (s : State) (t : Nat) : Nat := ((s.entries t).filter (fun p => p.place == .stash)).length
def State.notePeak (s : State) (t : Nat) : State :=
  if s.f (Fld.TBL_STAT_STASH_PEAK t) < s.stashUsed t then s.setF (Fld.TBL_STAT_STASH_PEAK t) (s.stashUsed t) else s

/-- Find a place in a table for new content: the entries after moves, the place, the moves. -/
def State.placeFor (s : State) (t : Nat) (e : Entry) : Option (List Placed × Place × Nat) :=
  let es := s.entries t
  if t ≤ 4 then findPlace es (s.bucketLog t) e.payload
  else if t = 8 then findRow es (s.cap 8) e
  else if es.length < s.cap t then some (es, .slot e.index, 0) else none

/-- Put an entry with a given index into a table; none when there is no place for it, or for the trie blocks it needs. -/
def State.addEntry (s : State) (t : Nat) (e : Entry) : Option State :=
  match s.placeFor t e with
  | none => none
  | some (es, place, n) =>
    let s := s.setTable t { (s.table t) with entries := es ++ [⟨e, place⟩], nextOrder := (s.table t).nextOrder + 1 }
    if (t = 6 ∨ t = 7) ∧ s.trieFits = false then none else some ((s.noteMoves t n).notePeak t)

/-- Rewrite the entries of a table that satisfy a test. -/
def State.mapEntries (s : State) (t : Nat) (p : Entry → Bool) (g : Entry → Entry) : State :=
  s.setTable t { (s.table t) with
    entries := (s.table t).entries.map (fun q => if p q.entry then { q with entry := g q.entry } else q) }

/-- Free the index of removed entries of table `t` that no other version still uses: its next use has the next generation. A static MAC
entry stands in pipelines 1..3 under the generation of pipeline 0's index space, and counts as one use of the index in each of theirs.
DESIGN CHOICE (log 138). -/
def freeGens (t : Nat) (gens : Store Nat) (kept : List Placed) : List Placed → Store Nat
  | [] => gens
  | q :: l =>
    let used := if q.entry.payload.isStatic && t != 0 then Store.get (fun _ => 0) gens q.entry.index else q.entry.gen
    freeGens t (if kept.any (fun k => k.entry.index == q.entry.index) then gens
      else Store.set (fun _ => 0) gens q.entry.index ((used + 1) % 16)) kept l

/-- Remove the entries of a table that satisfy a test. -/
def State.removeEntries (s : State) (t : Nat) (p : Entry → Bool) : State :=
  let tb := s.table t
  let kept := tb.entries.filter (fun q => !p q.entry)
  let gone := tb.entries.filter (fun q => p q.entry)
  s.setTable t { tb with entries := kept, gens := freeGens t tb.gens kept gone }

/-- Tables that an entry named by code touches: all four MAC tables for a static entry. -/
def copiesOf (code : Nat) : List Nat :=
  if code = 0x10 then [0, 1, 2, 3] else match tableOf code with | some t => [t] | none => []

/-- Once the older epoch has drained, every entry visible to the current epoch becomes visible to both parities, and
every entry visible to none is freed (R143). -/
def State.settleTables (s : State) (parity : Nat) : List Nat → State
  | [] => s
  | t :: l =>
    let s := s.removeEntries t (fun e => !(e.vis.testBit parity) && !(e.vis.testBit 2))
    (s.mapEntries t (fun e => e.vis.testBit parity && e.vis != visBoth) (fun e => { e with vis := visBoth })).settleTables parity l

/-- All table numbers. -/
def allTables : List Nat := [0, 1, 2, 3, 4, 5, 6, 7, 8, 9, 10, 11]

/-- A rollback frees every place that staged inserts reserved (R76). -/
def State.dropStaged (s : State) : List Nat → State
  | [] => s
  | t :: l => (s.removeEntries t (fun e => e.vis.testBit 2)).dropStaged l

/-- A reset that clears PD8: every table empty, every index unused. -/
def State.clearTables (s : State) : State := { s with tbl := {} }

/-- A change of partition (R73): every table empty; an index used before has its next generation (R140). -/
def State.emptyTables (s : State) : State :=
  let s := allTables.foldl (fun (s : State) t => s.setTable t { (s.removeEntries t (fun _ => true)).table t with
    learnQ := [], full := none, sweepPos := 0, sweepRemoved := 0, sweepDue := [], sweepSeen := [], scrubPos := 0, scrubSeen := [], badMap := [] }) s
  { s with tbl := { s.tbl with badTrie := [], flushKept := [] } }

/-! ### Stash moves (R151) -/

/-- The oldest stash entry with a free slot in a candidate bucket. -/
def stashCandidate (es : List Placed) (log2 : Nat) : Option (Placed × Nat) :=
  (es.filter (fun q => q.place == .stash)).findSome? (fun q =>
    let bs := buckets log2 q.entry.payload
    match freeSlot es bs.1 with
    | some n => some (q, n)
    | none => (freeSlot es bs.2).map (fun n => (q, n)))

/-- Move the oldest stash entry that a bucket can take. -/
def State.stashMove (s : State) (t : Nat) : State :=
  if 4 < t then s
  else
    match stashCandidate (s.entries t) (s.bucketLog t) with
    | none => s
    | some (q, n) =>
      let s := s.setTable t { (s.table t) with entries := (s.entries t).map (fun x => if x = q then { x with place := .slot n } else x) }
      s.bump (Reg.TBL_STAT_MOVES t)

/-! ### Parity (R168, R169) -/

/-- Outcome codes of event 51 (R170). -/
def parityOutcome (t : Nat) (e : Entry) : Nat :=
  if t = 5 then (if e.copyBad then 3 else 2)
  else if e.payload.isLearned then 1
  else if e.copyBad then 5
  else if t = 6 ∨ t = 7 then 4 else 0

/-- A policer with full buckets. -/
def Payload.refilled : Payload → Payload
  | .policer c p cb pb fl b => .policer c p cb pb fl { b with tc := cb * 65536, tp := pb * 65536 }
  | p => p

/-- A FRER instance reset as by its timer (R160, R169). -/
def Payload.frerReset : Payload → Payload
  | .frer h fl d r st => .frer h fl d r { st with takeAny := true, history := 0, resets := (st.resets + 1) % 2 ^ 32 }
  | p => p

/-- Found bad: TBL_STAT[t]_PARITY counts, event 51 reports. `by_` is 0 lookup, 1 host read, 2 sweeper, 3 scrubber. A
learned entry, or one whose copy is also bad, is removed, a static one from all four tables (R141); the others wait for
TBL_PARITY_REPAIR. -/
def State.foundBad (s : State) (t : Nat) (q : Placed) (by_ : Nat) : State :=
  let e := q.entry
  let s := s.bump (Reg.TBL_STAT_PARITY t)
  let slot := match q.place with | .slot n => n | .stash => s.cap t
  let s := s.raise 51 t [(24, 4, e.handle t), (28, 4, slot), (32, 1, by_), (33, 1, parityOutcome t e), (34, 1, 0)]
  if t = 5 then
    s.mapEntries t (fun x => x == e)
      (fun x => { x with payload := if e.copyBad then x.payload.frerReset else x.payload, bad := false, copyBad := false })
  else if e.copyBad = true ∧ e.payload.isStatic = true then
    (copiesOf 0x10).foldl (fun s u => s.removeEntries u (fun x => x.index == e.index && x.gen == e.gen && x.vis == e.vis && x.payload.isStatic)) s
  else if e.copyBad ∨ e.payload.isLearned then s.removeEntries t (fun x => x == e)
  else s

/-- A trie entry found bad: event 51 without a handle, the block to be rebuilt (R168..R170). A trie entry's number is its index in stage 1,
and behind its block's number in an IPv4 block; a range block goes by its own. -/
def State.foundTrie (s : State) (v6 : Bool) (stage key by_ : Nat) : State :=
  let rs := s.rootRoutes v6 s.parity
  let at_ := if stage = 1 then key
    else if v6 then (blocksAt true rs stage).idxOf key else (blocksAt false rs stage).idxOf (key / 256) * 256 + key % 256
  (s.bump (Reg.TBL_STAT_PARITY (lpmTable v6))).raise 51 (lpmTable v6)
    [(24, 4, 0xFFFFFFFF), (28, 4, at_), (32, 1, by_), (33, 1, 4), (34, 1, stage)]

/-- An index-map entry found bad: its number is the index. -/
def State.foundMap (s : State) (t index by_ : Nat) : State :=
  (s.bump (Reg.TBL_STAT_PARITY t)).raise 51 t [(24, 4, 0xFFFFFFFF), (28, 4, index), (32, 1, by_), (33, 1, 0), (34, 1, 0)]

/-- Repair of an entry from the protected copy (R168): counted in TBL_STAT[t]_REPAIR; a policer restarts with full buckets. -/
def State.repairEntry (s : State) (t index : Nat) : State :=
  if (s.entries t).any (fun q => q.entry.index == index && q.entry.bad && !q.entry.copyBad && q.entry.host) then
    (s.mapEntries t (fun e => e.index == index && e.bad && !e.copyBad && e.host)
      (fun e => { e with bad := false, payload := e.payload.refilled })).bump (Reg.TBL_STAT_REPAIR t)
  else s

/-- Repair of a place of the table memories: an entry, an index-map entry, or the block of a trie entry. -/
def State.repair (s : State) : TblPlace → State
  | .entry t i => s.repairEntry t i
  | .map t i =>
    if (s.table t).badMap.contains i then
      (s.setTable t { s.table t with badMap := (s.table t).badMap.erase i }).bump (Reg.TBL_STAT_REPAIR t)
    else s
  | .trie v6 st key =>
    if s.tbl.badTrie.contains (v6, st, key) then
      ({ s with tbl := { s.tbl with badTrie := s.tbl.badTrie.erase (v6, st, key) } }).bump (Reg.TBL_STAT_REPAIR (lpmTable v6))
    else s

/-- Is the index-map entry of an index bad? -/
def State.mapBad (s : State) (t index : Nat) : Bool := (s.table t).badMap.contains index

end Sys2Proof.Machine
end

