-- ==== Sys2Proof/Machine/TblData.lean ====
section
/-! DEFINITION. The data of the table commands (R141, R145, R146, R157, R159, R161, R164, R166, R167): lengths, layouts and their
range checks, and an entry's data as it is read. -/

namespace Sys2Proof.Machine

/-! ### Data layouts -/

/-- Lengths of the data of R141: insert, delete by key, lookup; 0 where the table does not accept the command. -/
def insertLen (code : Nat) : Nat :=
  if code = 0x10 then 12 else if code = 0x20 then 16 else if code = 0x21 then 16 else if code = 0x30 then 12
  else if code = 0x31 then 24 else if code = 0x40 then 132 else if code = 0x50 then 36 else if code = 0x60 then 24
  else if code = 0x70 then 24 else 0
def deleteLen (code : Nat) : Nat :=
  if 0x10 ≤ code ∧ code ≤ 0x14 then 8 else if code = 0x20 then 8 else if code = 0x30 then 8 else if code = 0x31 then 20
  else if code = 0x40 then 122 else if code = 0x70 then 2 else 0
def lookupLen (code : Nat) : Nat :=
  if 0x11 ≤ code ∧ code ≤ 0x14 then 8 else if code = 0x20 then 8 else if code = 0x30 then 4 else if code = 0x31 then 16
  else if code = 0x40 then 60 else if code = 0x70 then 2 else 0

/-- Tables whose entries have no key. -/
def keyless (code : Nat) : Bool := code == 0x21 || code == 0x50 || code == 0x60

/-- The KEY of a keyless insert that asks for a new entry, and the HANDLE that says the key is in the data. -/
def noHandle : Nat := 0xFFFFFFFF

/-- What is wrong with a value: a reserved bit (2) or a range (3); none when both hold. -/
def fault (reservedOk rangeOk : Bool) : Option Nat := if !reservedOk then some 2 else if !rangeOk then some 3 else none

/-- MAC data: key, and for an insert the word that follows (R146). -/
def parseMac (d : List Byte) (key : Bool) : Except Nat Payload :=
  let f := leAt d 6 2
  let w := if key then 0 else leAt d 8 4
  let kind := w / 4096 % 4
  let tgt := w % 4096
  match fault (f / 4096 == 0 && !(w.testBit 15) && w / 2 ^ 18 == 0)
      (decide (kind = 1) || (kind == 0 && decide (tgt ≤ 64)) || (decide (2 ≤ kind) && tgt == 0)) with
  | some r => .error r
  | none => .ok (.mac (beAt d 0 6) (f % 4096) tgt kind true false false)

/-- Stream data (R157). -/
def parseStream (d : List Byte) (key : Bool) : Except Nat Payload :=
  let k := leAt d 6 2
  let w := if key then 0 else leAt d 8 8
  let vid := k % 4096
  let kind := k / 4096 % 4
  match fault (k / 2 ^ 14 == 0 && w / 2 ^ 48 == 0)
      (decide (1 ≤ vid) && decide (vid ≤ 4094) && decide (kind ≤ 1) && bitsAt w 32 2 != 3) with
  | some r => .error r
  | none => .ok (.stream (beAt d 0 6) vid kind w)

/-- FRER instance data (R159). -/
def parseFrer (d : List Byte) : Except Nat Payload :=
  let h := leAt d 4 2
  let fl := leAt d 6 1
  let m := leAt d 7 1
  let ms := leAt d 8 2
  match fault (fl / 8 == 0 && leAt d 10 6 == 0)
      (decide (2 ≤ h) && decide (h ≤ 1024) && decide (1 ≤ m) && decide (1 ≤ ms)) with
  | some r => .error r
  | none => .ok (.frer h fl m ms {})

/-- Route data (R161); `key` for a delete. -/
def parseRoute (v6 : Bool) (d : List Byte) (key : Bool) : Except Nat Payload :=
  let n := if v6 then 16 else 4
  let a := beAt d 0 n
  let l := leAt d n 1
  let r := if key then 0 else leAt d (n + 4) 4
  let top := if v6 then 96 else 32
  match fault (leAt d (n + 1) 3 == 0 && r / 2 ^ 14 == 0)
      (decide (l ≤ top) && a % 2 ^ (8 * n - l) == 0) with
  | some e => .error e
  | none => .ok (if v6 then .route6 a l r else .route4 a l r)

/-- Ternary data (R164). -/
def parseTernary (d : List Byte) (key : Bool) : Except Nat Payload :=
  let k := beAt d 0 60
  let m := beAt d 60 60
  let p := leAt d 120 2
  let r := if key then 0 else leAt d 124 8
  match fault ((key || leAt d 122 2 == 0) && r / 2 ^ 49 == 0 && k % 16 == 0 && !(k.testBit 36)) ((k &&& m) == k) with
  | some e => .error e
  | none => .ok (.ternary k m p r)

/-- Destination data (R166). -/
def parseDest (d : List Byte) : Except Nat Payload :=
  let ports := leAt d 4 9
  let e := leAt d 13 1
  let nx := leAt d 14 2
  let v := leAt d 28 2
  match fault (ports / 2 ^ 65 == 0 && !(e.testBit 7) && nx / 2 ^ 13 == 0 && v / 2 ^ 15 == 0 && leAt d 30 6 == 0) true with
  | some r => .error r
  | none => .ok (.dest ports e (nx % 4096) (nx.testBit 12) (beAt d 16 6) (beAt d 22 6) v)

/-- Policer data (R167); a new policer has full buckets. -/
def parsePolicer (now : Nat) (d : List Byte) : Except Nat Payload :=
  let cir := leAt d 4 4
  let pir := leAt d 8 4
  let cbs := leAt d 12 4
  let pbs := leAt d 16 4
  let fl := leAt d 20 1
  let rate (x : Nat) : Bool := decide (1 ≤ x) && decide (x ≤ 12500000)
  let size (x : Nat) : Bool := decide (64 ≤ x) && decide (x ≤ 16777216)
  match fault (cir / 2 ^ 24 == 0 && pir / 2 ^ 24 == 0 && cbs / 2 ^ 25 == 0 && pbs / 2 ^ 25 == 0 && fl / 8 == 0 && leAt d 21 3 == 0)
      (rate cir && rate pir && size cbs && size pbs && decide (cir ≤ pir) && decide (cbs ≤ pbs)) with
  | some r => .error r
  | none => .ok (.policer cir pir cbs pbs fl ⟨cbs * 65536, pbs * 65536, now⟩)

/-- VID data (R145); `key` for a delete or lookup. -/
def parseVid (d : List Byte) (key : Bool) : Except Nat Payload :=
  let v := leAt d 0 2
  let mem := if key then 0 else leAt d 2 9
  let unt := if key then 0 else leAt d 11 9
  let fid := if key then 0 else leAt d 20 2
  let fl := if key then 0 else leAt d 22 1
  match fault (v / 4096 == 0 && mem / 2 ^ 65 == 0 && unt / 2 ^ 65 == 0 && fid / 4096 == 0 && fl / 4 == 0 && (key || leAt d 23 1 == 0))
      (decide (1 ≤ v) && decide (v ≤ 4094)) with
  | some r => .error r
  | none => .ok (.vid v mem unt fid fl)

/-- Data of an insert. -/
def parseInsert (now code : Nat) (d : List Byte) : Except Nat Payload :=
  if code = 0x10 then parseMac d false
  else if code = 0x20 then parseStream d false
  else if code = 0x21 then parseFrer d
  else if code = 0x30 then parseRoute false d false
  else if code = 0x31 then parseRoute true d false
  else if code = 0x40 then parseTernary d false
  else if code = 0x50 then parseDest d
  else if code = 0x60 then parsePolicer now d
  else parseVid d false

/-- The key of a delete by key, as content with that key. -/
def parseKey (code : Nat) (d : List Byte) : Except Nat Payload :=
  if code ≤ 0x14 then parseMac d true
  else if code = 0x20 then parseStream d true
  else if code = 0x30 then parseRoute false d true
  else if code = 0x31 then parseRoute true d true
  else if code = 0x40 then parseTernary d true
  else parseVid d true

/-- The KEY of a keyless insert's data. -/
def keyOf (d : List Byte) : Nat := leAt d 0 4

/-- A table entry's data as it is read (R141): key and result, with the state that R159 and R167 append. -/
def entryData (handle : Nat) (p : Payload) : List Byte :=
  match p with
  | .mac m f t k st h a => toBe 6 m ++ toLe 2 f ++ toLe 4 (t + k * 4096 + (if st then 2 ^ 14 else 0) + (if h then 2 ^ 16 else 0)
      + (if a then 2 ^ 17 else 0))
  | .stream m v k w => toBe 6 m ++ toLe 2 (v + k * 4096) ++ toLe 8 w
  | .frer h fl m r st => toLe 4 handle ++ toLe 2 h ++ toLe 1 fl ++ toLe 1 m ++ toLe 2 r ++ toLe 6 0
      ++ toLe 2 st.recovSeq ++ toLe 2 st.genSeq ++ toLe 4 st.passed ++ toLe 4 st.discarded ++ toLe 4 st.outOfOrder
      ++ toLe 4 st.rogue ++ toLe 4 st.lost ++ toLe 4 st.resets ++ toLe 4 st.tagless ++ toLe 4 0
  | .route4 a l r => toBe 4 a ++ toLe 1 l ++ toLe 3 0 ++ toLe 4 r
  | .route6 a l r => toBe 16 a ++ toLe 1 l ++ toLe 3 0 ++ toLe 4 r
  | .ternary k m p r => toBe 60 k ++ toBe 60 m ++ toLe 2 p ++ toLe 2 0 ++ toLe 8 r
  | .dest ports e nx last da sa v => toLe 4 handle ++ toLe 9 ports ++ toLe 1 e ++ toLe 2 (nx + (if last then 4096 else 0))
      ++ toBe 6 da ++ toBe 6 sa ++ toLe 2 v ++ toLe 6 0
  | .policer c pi cb pb fl b => toLe 4 handle ++ toLe 4 c ++ toLe 4 pi ++ toLe 4 cb ++ toLe 4 pb ++ toLe 1 fl ++ toLe 3 0
      ++ toLe 4 (b.tc / 65536) ++ toLe 4 (b.tp / 65536)
  | .vid v m u f fl => toLe 2 v ++ toLe 9 m ++ toLe 9 u ++ toLe 2 f ++ toLe 1 fl ++ toLe 1 0

end Sys2Proof.Machine
end

