-- ==== Sys2Proof/Machine/Journal.lean ====
section
/-! DEFINITION. Tagged commands (02_host_interface.md): the journal's states, a command's fields, its completion, the
order in which commands may begin (R45), fetching, and writing completions. -/

namespace Sys2Proof.Machine

/-! ### Entries -/

/-- The journal entry of a tag. -/
def State.jget (s : State) (tag : Nat) : Option JEntry := Store.get (fun _ => none) s.hif.journal tag

/-- Put back a journal entry. -/
def State.jput (s : State) (tag : Nat) (e : Option JEntry) : State :=
  { s with hif := { s.hif with journal := Store.set (fun _ => none) s.hif.journal tag e } }

/-- `n` bytes of a command from byte `b`, little-endian (R37). -/
def cmdField (cmd : BitVec 512) (b n : Nat) : Nat := (cmd.toNat >>> (8 * b)) % 2 ^ (8 * n)

def JEntry.op (e : JEntry) (b n : Nat) : Nat := cmdField e.cmd b n
def JEntry.opcode (e : JEntry) : Nat := e.op 0 2
def JEntry.ordered (e : JEntry) : Bool := (e.op 2 1).testBit 0
def JEntry.stagedRead (e : JEntry) : Bool := (e.op 2 1).testBit 1
def JEntry.indirect (e : JEntry) : Bool := (e.op 2 1).testBit 2
def JEntry.txn (e : JEntry) : Nat := e.op 4 4
def JEntry.cookie (e : JEntry) : Nat := e.op 8 8

/-- The bytes 32..63 of a command. -/
def JEntry.inline (e : JEntry) : List Byte := toLe 32 (e.op 32 32)

/-- The state code of MIR_PJ_STATE (R331). -/
def JState.code : JState → Nat
  | .received => 1
  | .marked => 2
  | .done => 3

/-- Send a journal state to the partner (R315); 0 is FREE. -/
def State.markPartner (s : State) (tag st : Nat) (e : JEntry) : State :=
  if s.mirrors then s.sendMir msgJournal [tag, st, e.ring, e.opcode, e.cookie] else s

/-- The commit mark of the last paired commit, then the state of every tag, for a partner that is heard anew (R84, R327). DEDUCED
(log 151). -/
def State.tellJournal (s : State) : State :=
  if s.mirrors then
    let s := match s.txn.lastMark with
      | some (tag, ring, opcode, cookie) => s.sendMir msgJournal [tag, 2, ring, opcode, cookie]
      | none => s
    (List.range 512).foldl (fun (s : State) tag =>
      match s.jget tag with
      | some e => s.sendMir msgJournal [tag, e.st.code, e.ring, e.opcode, e.cookie]
      | none => s.sendMir msgJournal [tag, 0, 0, 0, 0]) s
  else s

/-- Change a tag's entry. -/
def State.jmap (s : State) (tag : Nat) (g : JEntry → JEntry) : State :=
  match s.jget tag with
  | some e => s.jput tag (some (g e))
  | none => s

/-- The commit mark (R46). -/
def State.mark (s : State) (tag : Nat) : State :=
  match s.jget tag with
  | some e => (s.jput tag (some { e with st := .marked })).markPartner tag 2 e
  | none => s

/-- A command that begins work that ends in a later step. -/
def State.begin (s : State) (tag : Nat) : State := s.jmap tag (fun e => { e with started := true })

/-- A command ends: its completion is prepared, behind those prepared before it (R43, R44). -/
def State.finish (s : State) (tag status a b : Nat) : State :=
  match s.jget tag with
  | none => s
  | some e =>
    let s := s.jput tag (some { e with st := .done, comp := ⟨status, a, b, s.now16⟩ })
    ({ s with hif := { s.hif with doneQ := s.hif.doneQ ++ [tag] } }).markPartner tag 3 e

/-- Status codes (R41). -/
def stOk : Nat := 0x00
def stLate : Nat := 0x01
def stMalformed : Nat := 0x10
def stBusy : Nat := 0x11
def stFull : Nat := 0x20
def stNotFound : Nat := 0x21
def stConflict : Nat := 0x30
def stMissed : Nat := 0x31
def stDrain : Nat := 0x32
def stParity : Nat := 0x40
def stAbandoned : Nat := 0x50

/-- A rejected command (R42, R60): counted, event 91, completed with its reason. `place` is the register offset or
operand byte for reasons 3 and 4. -/
def State.malformed (s : State) (tag reason place : Nat) : State :=
  match s.jget tag with
  | none => s
  | some e =>
    let s := s.bump Reg.HIF_MALFORMED_CNT
    let s := s.raise 91 e.ring [(28, 2, e.opcode), (30, 1, reason), (31, 1, if e.txn = 0 then 0 else 1), (32, 8, e.cookie),
      (40, 2, tag), (44, 4, if reason = 3 ∨ reason = 4 then place else 0)]
    s.finish tag stMalformed reason 0

/-! ### Order (R45) -/

/-- The first `len` bytes of a command's data: its bytes 32..63, or its operand buffer (R38). A buffer given short stands for one that
goes on with zeros. -/
def JEntry.data (e : JEntry) (len : Nat) : List Byte :=
  ((if e.indirect then e.buffer else e.inline) ++ List.replicate len 0).take len

/-- The tables whose entries an insert's data names by index (R142). -/
def namedTables (code : Nat) (d : List Byte) : List Nat :=
  match parseInsert 0 code d with
  | .ok p => (namesOf p).map (·.1)
  | .error _ => []

/-- What a command touches, as numbers: registers by offset, tables from 0x200000 on, the transaction as 0x300000. A register is touched
by a command that names it, and by one whose effect is to write it: LAN_PRBS_CFG by CMD_LANE_PRBS, MIR_CFG by CMD_PAIR_EXCHANGE. DEDUCED
(log 80). -/
def touches (e : JEntry) : List Nat :=
  let tb (l : List Nat) : List Nat := l.map (0x200000 + ·)
  let code := e.op 16 1
  let own := if code = 0x10 then [0, 1, 2, 3] else if 0x11 ≤ code ∧ code ≤ 0x14 then [code - 0x11]
    else if code = 0x20 then [4] else if code = 0x21 then [5] else if code = 0x30 then [6] else if code = 0x31 then [7]
    else if code = 0x40 then [8] else if code = 0x50 then [9] else if code = 0x60 then [10] else if code = 0x70 then [11] else []
  let named := namedTables code (e.data (insertLen code))
  let namers := if code = 0x50 then [0, 1, 2, 3, 4, 6, 7, 8, 9] else if code = 0x60 then [4, 8] else if code = 0x21 then [4]
    else if code = 0x20 then [8] else []
  let o := e.opcode
  (if o = 1 ∨ o = 2 then [e.op 16 4] else if o = 0x10 then tb (own ++ named) else if o = 0x11 then tb (own ++ namers)
    else if o = 0x12 ∨ o = 0x13 then tb own
    else if o = 0x60 then ((List.range 64).filter (e.op 16 8).testBit).map Reg.LAN_PRBS_CFG
    else if o = 0x50 then [Reg.MIR_CFG] else [])
    ++ (if e.txn ≠ 0 ∨ o = 0x20 ∨ o = 0x21 ∨ o = 0x22 then [0x300000] else [])

/-- The rings a fence covers; 0 means all. -/
def fenceMask (e : JEntry) : Nat := if e.op 16 1 % 16 = 0 then 15 else e.op 16 1 % 16

/-- Does an earlier command keep a later one from beginning? One that has begun has taken effect, but for an insert that waits for the
pair's owner (R322). -/
def holdsBack (x e : JEntry) : Bool :=
  decide (x.seq < e.seq) && x.st != .done &&
    ((e.ordered && x.ring == e.ring)
      || (x.opcode == 0xF0 && x.ring == e.ring)
      || (e.opcode == 0xF0 && (fenceMask e).testBit x.ring)
      || (x.st == .received && (!x.started || x.opcode == 0x10)
        && (touches x).any (fun t => (touches e).contains t)))

/-- May the command of an entry begin now? -/
def State.inOrder (s : State) (e : JEntry) : Bool :=
  s.hif.journal.all (fun p => match p.2 with | some x => !holdsBack x e | none => true)

/-- The entry of a tag whose command, of a given opcode, may begin now: received, in order, PD4 up. An operand buffer or image is read
and written only while DMA may be issued (R31, R38). -/
def State.startable (s : State) (tag opcode : Nat) : Option JEntry :=
  match s.jget tag with
  | none => none
  | some e =>
    if e.st = .received ∧ e.started = false ∧ e.opcode = opcode ∧ s.domainOn 4 = true
        ∧ s.inOrder e = true
        ∧ (e.indirect = false ∧ opcode ≠ 0x30 ∨ s.dmaOk = true) then some e
    else none

/-! ### Fetching (R35..R40) -/

/-- Opcodes of the command table (R39). -/
def knownOpcode (o : Nat) : Bool :=
  o ∈ [0x0001, 0x0002, 0x0010, 0x0011, 0x0012, 0x0013, 0x0020, 0x0021, 0x0022, 0x0030, 0x0040, 0x0041, 0x0042, 0x0050, 0x0060, 0x00F0]

/-- The first format check of R37..R42 that a fetched command fails, as (reason, operand byte). -/
def formatFault (e : JEntry) : Option (Nat × Nat) :=
  let o := e.opcode
  let flags := e.op 2 1
  if !knownOpcode o then some (1, 0)
  else if flags / 8 ≠ 0 ∨ e.op 3 1 ≠ 0 then some (2, 0)
  else if o = 0xF0 ∧ e.op 16 1 / 16 ≠ 0 then some (2, 0)
  else if e.txn ≠ 0 ∧ !(o ∈ [0x01, 0x10, 0x11, 0x21, 0x22] || (o == 0x02 && e.stagedRead)) then some (8, 0)
  else if e.stagedRead ∧ (o ≠ 0x02 ∨ e.txn = 0) then some (3, 2)
  else if e.indirect ∧ !(o ∈ [0x10, 0x11, 0x12, 0x13, 0x30]) then some (3, 2)
  else none

/-- Tags in flight. -/
def State.tagsInFlight (s : State) : Nat := s.hif.journal.length

/-- Completions of the journal that a reset prepared or kept and that are not yet written (R47). -/
def State.replayPending (s : State) : Bool :=
  s.hif.journal.any (fun p => match p.2 with | some e => e.recovered && e.st == .done | none => false)

/-- Is there an entry in MARKED that a reset left to be finished before any fetch (R46)? A timed commit waits under R85. -/
def State.releasePending (s : State) : Bool :=
  s.hif.journal.any (fun p => match p.2 with
    | some e => e.recovered && e.st == .marked && !(e.opcode == 0x21 && e.op 16 12 != 0)
    | none => false)

/-- Can the module fetch from a ring? -/
def State.canFetch (s : State) (n : Nat) : Bool :=
  decide (n < 4) && s.flag (Fld.HIF_SQ_CFG_ENABLE n) && s.f (Fld.HIF_SQ_HEAD_HEAD n) != s.f (Fld.HIF_SQ_TAIL_TAIL n)

/-- The ring whose turn it is (R35): the present one while it can be fetched and has given fewer than WEIGHT. -/
def State.nextRing (s : State) : Option Nat :=
  let r := s.hif.rrRing
  if s.canFetch r && decide (s.hif.rrTaken < s.f (Fld.HIF_SQ_CFG_WEIGHT r)) then some r
  else ([r + 1, r + 2, r + 3, r + 4].map (· % 4)).find? s.canFetch

/-- The first free tag at or after `pick`, cyclically: which free tag is given is the module's choice (R36). -/
def freeTag (used : Nat → Bool) (pick : Nat) : Nat → Option Nat
  | 0 => none
  | n + 1 => if used (pick % 512) then freeTag used (pick + 1) n else some (pick % 512)

/-- One command is fetched and recorded; a command that fails a format check completes at once, whatever ORDERED and fences before it
hold back: it does not start. DESIGN CHOICE (log 80). `buffer` is what stands in the operand buffer of an INDIRECT command, which the host
leaves unchanged until the completion (R38). Nothing is fetched from event 8 on (R360). -/
def State.fetch (s : State) (cmd : BitVec 512) (pick : Nat) (buffer : List Byte) : State :=
  if s.dmaOk && s.rst.ejectAt.isNone && decide (s.tagsInFlight < 512) && !s.releasePending then
    match s.nextRing, freeTag (fun t => (s.jget t).isSome) pick 512 with
    | some r, some tag =>
      let taken := if r = s.hif.rrRing ∧ s.hif.rrTaken < s.f (Fld.HIF_SQ_CFG_WEIGHT r) then s.hif.rrTaken + 1 else 1
      let e : JEntry := ⟨r, s.hif.fetchSeq, cmd, buffer, .received, false, false, ⟨0, 0, 0, 0⟩⟩
      let s := { s with hif := { s.hif with fetchSeq := s.hif.fetchSeq + 1, rrRing := r, rrTaken := taken } }
      let s := s.setF (Fld.HIF_SQ_HEAD_HEAD r) ((s.f (Fld.HIF_SQ_HEAD_HEAD r) + 1) % ringSize (s.f (Fld.HIF_SQ_CFG_SIZE_LOG2 r)))
      let s := (s.jput tag (some e)).markPartner tag 1 e
      match formatFault e with
      | some (why, at_) => s.malformed tag why at_
      | none => s
    | _, _ => s
  else s

/-! ### Completions (R43, R44, R47) -/

/-- Is the completion ring full? -/
def State.cqFull (s : State) : Bool :=
  (s.f Fld.HIF_CQ_TAIL_TAIL + 1) % ringSize (s.f Fld.HIF_CQ_CFG_SIZE_LOG2) == s.f Fld.HIF_CQ_HEAD_HEAD

/-- May a completion be written now: the ring enabled, with room, and DMA allowed? -/
def State.cqOpen (s : State) : Bool := s.dmaOk && s.flag Fld.HIF_CQ_CFG_ENABLE && !s.cqFull

/-- HIF_STATUS.CQ_FULL, "completions are being held" (R61): one is prepared and cannot be written, for whatever cause. DEDUCED (log 132). -/
def State.cqHeld (s : State) : Bool := !s.hif.doneQ.isEmpty && !s.cqOpen

/-- The 32 bytes of a completion entry. -/
def completionEntry (tag : Nat) (e : JEntry) (phase : Nat) : BitVec 256 :=
  packRecord 256 [(0, 2, tag), (2, 1, e.comp.status), (3, 1, phase + e.ring * 2 + (if e.recovered then 8 else 0)),
    (4, 4, e.comp.resA), (8, 8, e.cookie), (16, 8, e.comp.resB), (24, 8, time96 e.comp.time % 2 ^ 64)]

/-- The next prepared completion is written when the ring is enabled and has room; its tag is freed, vector 0 signalled. -/
def State.writeCompletion (s : State) : State :=
  match s.hif.doneQ with
  | [] => s
  | tag :: rest =>
    if s.cqOpen then
      match s.jget tag with
      | none => { s with hif := { s.hif with doneQ := rest } }
      | some e =>
        let i := s.f Fld.HIF_CQ_TAIL_TAIL
        let ph := s.f Fld.HIF_CQ_TAIL_PHASE
        let next := (i + 1) % ringSize (s.f Fld.HIF_CQ_CFG_SIZE_LOG2)
        let s := s.emit (.completion i (completionEntry tag e ph))
        let s := s.setF Fld.HIF_CQ_TAIL_TAIL next
        let s := if next = 0 then s.setF Fld.HIF_CQ_TAIL_PHASE (1 - ph) else s
        let s := { s with hif := { s.hif with doneQ := rest } }
        ((s.jput tag none).markPartner tag 0 e).signal 0
    else s

/-! ### Fences -/

/-- A fence ends once every earlier command of its rings has completed. -/
def State.fence (s : State) (tag : Nat) : State :=
  match s.startable tag 0xF0 with
  | some _ => s.finish tag stOk 0 0
  | none => s

end Sys2Proof.Machine
end

