-- ==== Sys2Proof/Machine/Txn.lean ====
section
/-! DEFINITION. The transaction's states and how it ends without applying (R74..R78, R82, R83): opening, conflicts with
host writes, rollback, the missed deadline. -/

namespace Sys2Proof.Machine

/-- TXN_STATUS.STATE (R83). -/
def tsIdle : Nat := 0
def tsOpen : Nat := 1
def tsValidating : Nat := 2
def tsDrain : Nat := 3
def tsPrepare : Nat := 4
def tsWait : Nat := 5
def tsApplying : Nat := 6

def State.txnState (s : State) : Nat := s.f Fld.TXN_STATUS_STATE
def State.setTxnState (s : State) (v : Nat) : State := s.setF Fld.TXN_STATUS_STATE v

/-- Show what is staged. -/
def State.showStaged (s : State) : State :=
  match s.txn.open_ with
  | none => ((s.setReg Reg.TXN_OPEN_ID 0).setReg Reg.TXN_STAGED 0)
  | some t => ((s.setReg Reg.TXN_OPEN_ID (BitVec.ofNat 32 t.id)).setF Fld.TXN_STAGED_REGS t.regs.length).setF
      Fld.TXN_STAGED_TBL_OPS t.ops.length

/-- Put back the open transaction. -/
def State.setOpen (s : State) (t : Option Staging) : State := { s with txn := { s.txn with open_ := t } }.showStaged

/-- Put back the commit in progress. -/
def State.setCommit (s : State) (c : Option Commit) : State := { s with txn := { s.txn with commit := c } }

/-- Show the pending AT. -/
def State.showAt (s : State) (at96 : Nat) : State := s.setTriple Reg.TXN_AT_W0 Reg.TXN_AT_W1 Reg.TXN_AT_W2 at96

/-- The next TXN_ID (R74). -/
def nextTxnId (last : Nat) : Nat := if (last + 1) % 2 ^ 32 = 0 then 1 else (last + 1) % 2 ^ 32

/-- CMD_TXN_BEGIN. -/
def State.txnBegin (s : State) (tag : Nat) : State :=
  match s.startable tag 0x20 with
  | none => s
  | some _ =>
    if s.txn.open_.isSome then s.finish tag stBusy 0 0
    else
      let id := nextTxnId s.txn.lastId
      let s := { s with txn := { s.txn with lastId := id } }
      let s := (s.mark tag).setOpen (some { id := id })
      (s.setTxnState tsOpen).finish tag stOk id 0

/-- A drain's wait ends, however it does (by its end, its limit, a miss, a conflict or a rollback): the longest seen (TXN_DRAIN_MAX_US, R87).
DEDUCED (log 130). -/
def State.noteDrain (s : State) : State :=
  match s.txn.commit with
  | some c =>
    if s.txnState = tsDrain then
      s.setReg Reg.TXN_DRAIN_MAX_US (BitVec.ofNat 32 (max (s.reg Reg.TXN_DRAIN_MAX_US).toNat (min (s.usSince c.drainSince) 0xFFFFFFFF)))
    else s
  | none => s

/-- Discard the staging and return to IDLE. -/
def State.dropTxn (s : State) : State :=
  let s := s.noteDrain
  let s := if s.txn.commit.any (·.paired) then { s with txn := { s.txn with lastMark := none } } else s
  (((s.dropStaged allTables).setOpen none).setCommit none).setTxnState tsIdle |>.showAt 0

/-- Event 89 (R86). -/
def State.rolledBack (s : State) (id cause : Nat) : State :=
  (s.bump Reg.TXN_ROLLBACK_CNT).raise 89 moduleScope [(24, 4, id), (28, 1, cause)]

/-- The transaction ends rolled back with a cause of event 89; a commit in progress completes with a status. -/
def State.rollback (s : State) (cause status resB : Nat) : State :=
  match s.txn.open_ with
  | none => s
  | some t =>
    let c := s.txn.commit
    let s := s.dropTxn.rolledBack t.id cause
    match c with
    | some ⟨some tag, _, _, _, _, _, _, _, _, _, _⟩ => s.finish tag status 0 resB
    | _ => s

/-- The lead of R81 in units of 2^-16 ns. -/
def State.lead (s : State) : Nat :=
  let own := s.f Fld.TXN_CTRL_MIN_LEAD_US
  (if s.inService then max own 250 else own) * 1000 * 65536

/-- The commit completes TIMED_MISSED: rolled back, event 90 (R81, R86). AT reads 0 for an immediate commit, which has none: DEDUCED
(log 134). -/
def State.missed (s : State) (cause : Nat) : State :=
  match s.txn.open_, s.txn.commit with
  | some t, some c =>
    let s := s.dropTxn.bump Reg.TXN_MISSED_CNT
    let s := s.raise 90 moduleScope [(24, 4, t.id), (28, 12, c.at96), (40, 12, time96 s.now16), (52, 1, cause)]
    match c.tag with
    | some tag => s.finish tag stMissed 0 0
    | none => s
  | _, _ => s

/-- Has the commit reached its apply instant (R78)? -/
def State.instantPast (s : State) : Bool :=
  match s.txn.commit with
  | some c => s.txnState == tsWait && reached c.instant s.now16
  | none => false

/-- A conflict with the open transaction (R78): found at once while a commit waits undecided before its apply instant,
otherwise remembered for VALIDATING; from the apply instant on there is none. -/
def State.conflict (s : State) : State :=
  match s.txn.open_ with
  | none => s
  | some t =>
    let st := s.txnState
    let undecided := match s.txn.commit with | some c => !c.decided && !s.instantPast | none => false
    if (st = tsDrain ∨ st = tsPrepare ∨ st = tsWait) ∧ undecided = true then
      let s := if st = tsPrepare then s.sendMir msgDecision [t.id, 0] else s
      s.rollback 1 stConflict 1
    else if st = tsOpen ∨ st = tsValidating then s.setOpen (some { t with conflict := true })
    else s

/-- The bits of a register that the open transaction stages. -/
def State.stagedMask (s : State) (off : Nat) : Word :=
  match s.txn.open_ with
  | none => 0
  | some t => match Store.get (fun _ => none) t.regs off with
    | some r => r.mask
    | none => 0

/-- Spread selected bits over the whole fields they lie in: a field counts as written when any of its bits is selected. -/
def fieldCover (mask : Word) : List FieldDesc → Word
  | [] => 0
  | f :: fs =>
    let m := (BitVec.ofNat 32 (2 ^ f.width - 1)) <<< f.lo
    (if mask &&& m = 0 then 0 else m) ||| fieldCover mask fs

/-- A host write outside the transaction selects bits of a register: a conflict when it touches a staged field (R78). -/
def State.noteHostReg (s : State) (off : Nat) (mask : Word) : State :=
  match findReg off with
  | none => s
  | some (r, _, _) => if s.stagedMask off &&& fieldCover mask r.fields = 0 then s else s.conflict

/-- Does a staged operation name the entry that a host operation names, by handle (its low 24 bits) or by key? -/
def StagedOp.names (o : StagedOp) (code : Nat) (handle : Option Nat) (key : Option Payload) : Bool :=
  ((copiesOf o.code).any (fun t => (copiesOf code).contains t))
    && ((o.code == code && some (o.gen % 16 * 2 ^ 20 + o.index) == handle) || (match key with | some k => sameKey o.payload k | none => false))

/-- A host table operation, an insert or a delete, outside the transaction names an entry, whatever its end (R78). DEDUCED (log 89). -/
def State.noteHostTable (s : State) (code : Nat) (handle : Option Nat) (key : Option Payload) : State :=
  match s.txn.open_ with
  | none => s
  | some t => if t.ops.any (fun o => o.names code handle key) then s.conflict else s

/-- Stage a table operation. -/
def State.stageOp (s : State) (o : StagedOp) : State :=
  match s.txn.open_ with
  | none => s
  | some t => s.setOpen (some { t with ops := t.ops ++ [o] })

/-- May a command stage into a transaction: open by that number, no commit in progress? -/
def State.canStage (s : State) (id : Nat) : Bool :=
  match s.txn.open_ with
  | some t => t.id == id && s.txnState == tsOpen
  | none => false

/-- CMD_TXN_ROLLBACK (R82). A TXN_ID of 0 names no open transaction. DESIGN CHOICE (log 87). -/
def State.txnRollback (s : State) (tag : Nat) : State :=
  match s.startable tag 0x22 with
  | none => s
  | some e =>
    match s.txn.open_ with
    | none => s.finish tag stBusy 0 0
    | some t =>
      let st := s.txnState
      let decided := match s.txn.commit with | some c => c.decided | none => false
      if t.id ≠ e.txn then s.finish tag stBusy 0 0
      else if st = tsOpen ∨ st = tsDrain ∨ (st = tsWait ∧ decided = false) then
        let s := s.mark tag
        (s.rollback 0 stConflict 0).finish tag stOk 0 0
      else s.finish tag stBusy 0 0

end Sys2Proof.Machine
end

