-- ==== Sys2Proof/Machine/Gates.lean ====
section
/-! DEFINITION. Gate control lists (07_classes_and_gates.md): the layout of a cycle, present states and closes, longest
windows, configuration changes, and the stranded check. -/

namespace Sys2Proof.Machine

/-- One used entry of a cycle: where it begins and ends in ns, its gates, its operation, its index (R183). -/
structure Seg where
  from_ : Nat
  to_ : Nat
  gates : Nat
  op : Nat
  idx : Nat
  deriving DecidableEq, Repr

/-- Lay the entries out in a cycle: cut at its end, the last held to it. -/
def layoutFrom (cycle : Nat) : Nat → Nat → List (Nat × Nat × Nat) → List Seg
  | _, _, [] => []
  | at_, i, (n, g, o) :: l =>
    if cycle ≤ at_ then []
    else
      let e := if l.isEmpty then cycle else min cycle (at_ + n)
      ⟨at_, e, g, o, i⟩ :: layoutFrom cycle (at_ + n) (i + 1) l

/-- The used entries of a list. -/
def GateList.segs (g : GateList) : List Seg := layoutFrom g.cycle 0 0 g.entries

/-- Where a time lies in the cycle, in units of 2^-16 ns (R186, R187: cycles step from the base time both ways). -/
def GateList.phase (g : GateList) (t : Nat) : Nat :=
  if g.cycle = 0 then 0 else (((t : Int) - (g.base : Int)) % ((g.cycle * 65536 : Nat) : Int)).toNat

/-- The entry in force at a time. -/
def GateList.segAt (g : GateList) (t : Nat) : Option Seg :=
  let p := g.phase t
  (g.segs.filter (fun x => decide (x.from_ * 65536 ≤ p))).getLast?

/-- The segments from a time on, for two cycles, as (start after the time in units of 2^-16 ns, segment). -/
def GateList.ahead (g : GateList) (t : Nat) : List (Nat × Seg) :=
  let p := g.phase t
  let c := g.cycle * 65536
  (g.segs.filter (fun x => decide (p < x.from_ * 65536))).map (fun x => (x.from_ * 65536 - p, x))
    ++ g.segs.map (fun x => (x.from_ * 65536 + c - p, x))

/-- The time from now to the next close of class k's gate in a list; none when it never closes. -/
def GateList.closeIn (g : GateList) (t k : Nat) : Option Nat :=
  ((g.ahead t).find? (fun x => !x.2.gates.testBit k)).map (·.1)

/-- The longest run of open time of class k, over the cycle and across its boundary, in ns (R191). -/
def runsOf (k : Nat) : Nat → Nat → List Seg → Nat
  | best, _, [] => best
  | best, run, x :: l =>
    if x.gates.testBit k then
      let r := run + (x.to_ - x.from_)
      runsOf k (max best r) r l
    else runsOf k best 0 l

/-- The longest open window of class k: 0xFFFF_FFFF when always open. -/
def GateList.window (g : GateList) (k : Nat) : Nat :=
  if g.segs.all (fun x => x.gates.testBit k) then 0xFFFFFFFF else runsOf k 0 0 (g.segs ++ g.segs)

/-! ### Present states -/

/-- SCH[n]_GATE_STATUS.STATE values (R188). -/
def gsDisabled : Nat := 0
def gsPending : Nat := 1
def gsRunning : Nat := 2
def gsRunningPending : Nat := 3

def State.gateState (s : State) (n : Nat) : Nat := s.f (Fld.SCH_GATE_STATUS_STATE n)

/-- The list that runs on a port. -/
def State.operList (s : State) (n : Nat) : Option GateList :=
  if s.gateState n = gsRunning ∨ s.gateState n = gsRunningPending then (s.gate n).oper else none

/-- The gate states of a port now: the running list's, or ADMIN_GATES. -/
def State.gatesNow (s : State) (n : Nat) : Nat :=
  match s.operList n with
  | some g => match g.segAt s.now16 with
    | some x => x.gates
    | none => s.f (Fld.SCH_GATE_CTRL_ADMIN_GATES n)
  | none => s.f (Fld.SCH_GATE_CTRL_ADMIN_GATES n)

/-- The transmit delay from the egress plane to the contacts, trim included (R96, R206). -/
def State.txDelay (s : State) (n : Nat) : Int :=
  s.planeDelay n 1 + signed 24 (s.f (Fld.PRT_TS_TRIM_TX_TRIM n))

/-- The time at which what crosses the egress plane now begins at the transmit contacts, to which gate instants refer (R184). -/
def State.contactTime (s : State) (n : Nat) : Nat := ((s.now16 : Int) + s.txDelay n).toNat

/-- The list in force at a port's contacts for what crosses the plane now, with the time it began: a pending one that starts by then is
in force already. -/
def State.listOut (s : State) (n : Nat) : Option (GateList × Nat) :=
  let own := (s.operList n).map (fun g => (g, (s.gate n).since))
  match (s.gate n).pend with
  | some p => if s.gateState n ≠ gsDisabled ∧ isDue p.start (s.contactTime n) = true then some (p.list, p.start) else own
  | none => own

/-- The pending list that starts only later. -/
def State.listNext (s : State) (n : Nat) : Option PendingList :=
  match (s.gate n).pend with
  | some p => if s.gateState n ≠ gsDisabled ∧ isDue p.start (s.contactTime n) = false then some p else none
  | none => none

/-- The gate states that what crosses the plane now finds at the contacts. -/
def State.gatesOut (s : State) (n : Nat) : Nat :=
  match s.listOut n with
  | some (g, _) => match g.segAt (s.contactTime n) with
    | some x => x.gates
    | none => s.f (Fld.SCH_GATE_CTRL_ADMIN_GATES n)
  | none => s.f (Fld.SCH_GATE_CTRL_ADMIN_GATES n)

/-- The entry index of a port's running list now. -/
def State.gateIdx (s : State) (n : Nat) : Nat :=
  match s.operList n with
  | some g => match g.segAt s.now16 with | some x => x.idx | none => 0
  | none => 0

/-- Is a SetAndHold in force, from the last OP that sets or releases one: in this cycle, or in the one before it where one has run
(R183)? A hold lasts until a SetAndRelease, and none outlives its list: DEDUCED (log 105). -/
def State.gateHold (s : State) (n : Nat) : Bool :=
  match s.listOut n with
  | some (g, began) =>
    let t := s.contactTime n
    let ops := g.segs.filter (fun x => x.op != 0)
    match (ops.filter (fun x => decide (x.from_ * 65536 ≤ g.phase t))).getLast? with
    | some x => x.op == 1
    | none =>
      if began + g.phase t < t then
        match ops.getLast? with
        | some x => x.op == 1
        | none => false
      else false
  | none => false

/-- Is preemption active on a port (R181)? -/
def State.preemptActive (s : State) (n : Nat) : Bool := decide (n < 64) && s.f (Fld.SCH_PREEMPT_STATUS_VERIFY n) == 2

/-- Is class k express on port n: by EXPRESS, and always while preemption is not active. -/
def State.express (s : State) (n k : Nat) : Bool :=
  !s.preemptActive n || (s.f (Fld.SCH_PREEMPT_CFG_EXPRESS n)).testBit k

/-- The time at the contacts from the present to the next close of class k's gate, a pending list that closes it counted (R189); none: never. -/
def State.closeIn (s : State) (n k : Nat) : Option Nat :=
  let t := s.contactTime n
  let own := (s.listOut n).bind (fun (g : GateList × Nat) => g.1.closeIn t k)
  match s.listNext n with
  | none => own
  | some p =>
    let first := match p.list.segAt p.start with | some x => x.gates.testBit k | none => true
    let atStart := p.start - t
    let viaPend := if first then (p.list.closeIn p.start k).map (· + atStart) else some atStart
    match own with
    | some o => if o < atStart then some o else viaPend
    | none => viaPend

/-- Does a number of wire bytes fit a time in units of 2^-16 ns at a port's rate (R189)? -/
def fitsIn (bytes rate : Nat) : Option Nat → Bool
  | none => true
  | some t => decide (bytes * 8 * 65536 ≤ t * rate)

/-- The fit check of a copy of edited length e with `left` bytes still to send (R189, R190). -/
def State.fits (s : State) (n k left : Nat) : Bool :=
  if n = 64 then true
  else
    let r := rateOf (s.speed n)
    let c := s.closeIn n k
    fitsIn (left + 20) r c
      || (!s.express n k && decide (124 ≤ left) && fitsIn 84 r c)

/-- The longest open window of class k on a port, which SCH[n]_WIN[k] shows: that of the running list, or of ADMIN_GATES (R191). -/
def State.window (s : State) (n k : Nat) : Nat :=
  match s.operList n with
  | some g => g.window k
  | none => if (s.f (Fld.SCH_GATE_CTRL_ADMIN_GATES n)).testBit k then 0xFFFFFFFF else 0

/-- Is the window of a class on a port too short for a copy of edited length e (R191)? -/
def State.overWindow (s : State) (n k e : Nat) : Bool :=
  if n = 64 then false
  else
    let bytes := if s.express n k || decide (e < 124) then e + 20 else 84
    let w := s.window n k
    decide (w ≠ 0xFFFFFFFF) && decide (w * rateOf (s.speed n) < bytes * 8)

/-! ### The heads of queues and the open visit (R178, R179) -/

/-- The classes that share a queue (R174). -/
def State.queueClasses (s : State) (p j : Nat) : List Nat := (List.range 8).filter (fun k => s.queueNum p k == j)

/-- What stands at the head of a queue: a preempted copy, or the first linked one. -/
structure Head where
  id : Nat
  cls : Nat
  cut : Option Tx
  /-- Bytes still to be sent. -/
  left : Nat
  /-- Wire bytes that the deficit is charged with; a preempted copy was charged at its start. -/
  wire : Nat
  waited : Bool
  deriving DecidableEq, Repr

/-- The head of a queue. -/
def State.head (s : State) (p j : Nat) : Option Head :=
  match (s.port p).cut.find? (fun t => t.queue == j) with
  | some t => some ⟨t.frame, t.cls, some t, t.data.length - t.sentBefore, 0, true⟩
  | none =>
    match s.queue (8 * p + j) with
    | [] => none
    | id :: _ => match s.frame id with
      | none => none
      | some f => (f.copy p).map (fun c => ⟨id, f.cls, none, c.editLen, c.editLen + 20, c.fitWaited⟩)

/-- Is a head free to go but for the fit check: not paused, its gate open, no hold of preemptable frames? -/
def State.headOpen (s : State) (p j : Nat) (h : Head) : Bool :=
  p == 64 || (!(s.queueClasses p j).any (s.paused p) && (s.gatesOut p).testBit h.cls
    && !(s.gateHold p && s.preemptActive p && !s.express p h.cls))

/-- An open visit ends where its queue is not eligible, as far as `ok` tells (R179). -/
def State.endVisit (s : State) (p : Nat) (ok : Nat → Head → Bool) : State :=
  match (s.port p).drrAt with
  | none => s
  | some q =>
    if (match s.head p q with | some h => ok q h | none => false) then s
    else s.setPort p { s.port p with drrAt := none }

/-- A received pause frame, and the visit that it ends. -/
def State.pauseIn (s : State) (n : Nat) (named : List (Nat × Nat)) (link : Bool) : State :=
  let s := s.pauseFrame n named link
  s.endVisit n (s.headOpen n)

/-- Put the present states into GATE_STATUS; a visit whose gate has closed ends. -/
def State.showGates (s : State) (n : Nat) : State :=
  let s := (s.setF (Fld.SCH_GATE_STATUS_OPER_GATES n) (s.gatesNow n)).setF (Fld.SCH_GATE_STATUS_OPER_IDX n) (s.gateIdx n)
  s.endVisit n (s.headOpen n)

/-! ### The stranded check (R192) -/

/-- The copies that wait on a port and no longer fit their window, the rests of preempted ones among them. -/
def State.stranded (s : State) (n : Nat) : List Nat :=
  ((s.port n).cut.filter (fun t => s.overWindow n t.cls (t.data.length - t.sentBefore))).map (·.frame)
  ++ (([7, 6, 5, 4, 3, 2, 1, 0].map (fun j => s.queue (8 * n + j))).flatten).filter (fun id =>
    match s.frame id with
    | some f => match f.copy n with
      | some c => s.overWindow n f.cls c.editLen
      | none => false
    | none => false)

/-- Discard them as schedule-stranded; answers how many. -/
def State.strand (s : State) (n : Nat) : Nat × State :=
  let ids := s.stranded n
  (ids.length, (s.exitAll n (Reg.PRT_TX_STRANDED n) ids).flow)

/-- Wire time from now on, in units of 2^-16 ns, by which a copy of a class runs past a close of the new states at the contacts, where it is
from its first bit's tick at the plane to its last's, its gap included and the transmit delay later (R184, R192). -/
def State.runsPast (s : State) (n cls first last : Nat) : Nat :=
  let away (tick : Nat) : Int := (((tick : Int) - s.clk) * 16 * 65536) / 10 + s.txDelay n
  let from_ := (away first).toNat
  let until_ := (away (last + byteTicks (rateOf (s.speed n)) 12)).toNat
  if !(s.gatesNow n).testBit cls then until_ - from_
  else match (s.operList n).bind (fun (g : GateList) => g.closeIn s.now16 cls) with
    | some c => until_ - max from_ c
    | none => 0

/-- Wire time in whole ns by which express copies run past a close of the new states: the one in transmission, and the one before it, which
may still be at the contacts or in its gap (R192). -/
def State.overrun (s : State) (n : Nat) : Nat :=
  let pt := s.port n
  ((match pt.tx with | some t => if t.express then s.runsPast n t.cls t.startTick t.endTick else 0 | none => 0)
    + (match pt.ran with | some (c, a, b) => s.runsPast n c a b | none => 0)) / 65536

/-! ### Configuration changes (R185, R186, R188) -/

/-- The administrative base time as written. -/
def State.adminBase (s : State) (n : Nat) : Nat :=
  s.triple (Reg.SCH_ADMIN_BASE_W0 n) (Reg.SCH_ADMIN_BASE_W1 n) (Reg.SCH_ADMIN_BASE_W2 n)

/-- The administrative list as a snapshot. -/
def State.snapshot (s : State) (n : Nat) : GateList :=
  { entries := (List.range (s.f (Fld.SCH_GATE_CTRL_ADMIN_LEN n))).map (fun i => Store.get (fun _ => (0, 0, 0)) (s.gate n).admin i)
    cycle := (s.reg (Reg.SCH_ADMIN_CYCLE n)).toNat
    base := ofTime96 (s.adminBase n) }

/-- Every entry of a snapshot has an interval of at least 1 and an operation of 0 to 2. -/
def GateList.entriesOk (g : GateList) : Bool := g.entries.all (fun e => decide (1 ≤ e.1) && decide (e.2.2 ≤ 2))

/-- Event 31 (R194). -/
def State.lateEvent (s : State) (n k base start outcome : Nat) : State :=
  s.raise 31 n [(24, 4, min k 0xFFFFFFFF), (28, 12, time96 base), (40, 12, if outcome = 0 then time96 start else 0), (52, 1, outcome)]

/-- 2 µs in units of 2^-16 ns. -/
def startLead : Nat := 2000 * 65536

/-- The start instant of a list (R186): the smallest k that puts it at or after now + 2 µs. -/
def startOf (g : GateList) (now : Nat) : Nat × Nat :=
  let limit := now + startLead
  if limit ≤ g.base then (0, g.base)
  else
    let c := g.cycle * 65536
    let k := (limit - g.base + c - 1) / c
    (k, g.base + k * c)

/-- The reason of R42 for which a change is refused: 6 outside the horizon, 3 an entry out of range. -/
def changeReason (g : GateList) (now : Nat) : Option Nat :=
  if !inHorizon g.base now then some 6 else if !g.entriesOk then some 3 else none

/-- Compute the start instant of an accepted snapshot and make it pending, or refuse it under STRICT_LATE. -/
def State.schedule (s : State) (n : Nat) (g : GateList) : State :=
  let r := startOf g s.now16
  let late := decide (g.base < s.now16 + startLead)
  if late && s.flag (Fld.SCH_GATE_CTRL_STRICT_LATE n) then
    ((s.setFlag (Fld.SCH_GATE_STATUS_LATE_REJECTED n) true).lateEvent n 0 g.base 0 1)
  else
    let s := s.setGate n { s.gate n with pend := some ⟨g, r.2, late⟩ }
    let s := s.setTriple (Reg.SCH_PEND_START_W0 n) (Reg.SCH_PEND_START_W1 n) (Reg.SCH_PEND_START_W2 n) (time96 r.2)
    let st := s.gateState n
    let s := s.setF (Fld.SCH_GATE_STATUS_STATE n) (if st = gsRunning ∨ st = gsRunningPending then gsRunningPending else gsPending)
    if late then
      ((s.setReg (Reg.SCH_LATE_K n) (BitVec.ofNat 32 (min r.1 0xFFFFFFFF))).bump (Reg.SCH_GATE_LATE_CNT n)).lateEvent n r.1 g.base r.2 0
    else s

/-- CONFIG_CHANGE takes the value 1 (R185, R188): snapshot, checks, and the start instant or the stored snapshot. A commit's B was
checked at its validation and is not refused at its apply instant. -/
def State.gateChange (s : State) (n : Nat) : State :=
  let g := s.snapshot n
  let s := s.setFlag (Fld.SCH_GATE_CTRL_CONFIG_CHANGE n) false
  match changeReason g (if s.txnState = tsApplying then g.base else s.now16) with
  | some 6 => s.lateEvent n 0 g.base 0 2
  | some _ => s.lateEvent n 0 g.base 0 3
  | none =>
    if s.flag (Fld.SCH_GATE_CTRL_ENABLE n) then
      (s.setGate n { s.gate n with stored := none }).schedule n g
    else s.setGate n { s.gate n with stored := some g }

/-- ENABLE becomes 1 with no new change: a stored snapshot is checked again and scheduled. -/
def State.gateEnabled (s : State) (n : Nat) : State :=
  match (s.gate n).stored with
  | none => s
  | some g =>
    let s := s.setGate n { s.gate n with stored := none }
    if inHorizon g.base s.now16 then s.schedule n g else s.lateEvent n 0 g.base 0 2

/-- ENABLE becomes 0: the pending list is discarded, the gates take ADMIN_GATES, the stranded check is made; event 30 tells of it
whether or not a list ran. -/
def State.gateDisabled (s : State) (n : Nat) : State :=
  let g := s.operList n
  let s := s.setGate n { s.gate n with pend := none, oper := none }
  let s := s.setF (Fld.SCH_GATE_STATUS_STATE n) gsDisabled
  let s := s.setTriple (Reg.SCH_PEND_START_W0 n) (Reg.SCH_PEND_START_W1 n) (Reg.SCH_PEND_START_W2 n) 0
  let s := s.showGates n
  let overran := s.overrun n
  let s := s.bumpBy (Reg.SCH_GATE_OVERRUN_NS n) overran
  let r := s.strand n
  let (cyc, len) := match g with | some g => (g.cycle, g.entries.length) | none => (0, 0)
  r.2.raise 30 n [(24, 12, time96 s.now16), (36, 4, cyc), (40, 2, len), (42, 1, 4), (44, 4, r.1), (48, 4, overran)]

/-- The start instant of the pending list is reached (R186, R188, R192): it becomes operational. -/
def State.gateStart (s : State) (n : Nat) (viaStep : Bool) : State :=
  match (s.gate n).pend with
  | none => s
  | some p =>
    if reached p.start s.now16 then
      let s := s.setGate n { s.gate n with oper := some p.list, pend := none, since := if viaStep then s.now16 else p.start }
      let s := s.setF (Fld.SCH_GATE_STATUS_STATE n) gsRunning
      let s := s.setReg (Reg.SCH_OPER_CYCLE n) (BitVec.ofNat 32 p.list.cycle)
      let s := s.setReg (Reg.SCH_OPER_LEN n) (BitVec.ofNat 32 p.list.entries.length)
      let s := s.setTriple (Reg.SCH_OPER_BASE_W0 n) (Reg.SCH_OPER_BASE_W1 n) (Reg.SCH_OPER_BASE_W2 n) (time96 p.list.base)
      let s := s.setTriple (Reg.SCH_PEND_START_W0 n) (Reg.SCH_PEND_START_W1 n) (Reg.SCH_PEND_START_W2 n) 0
      let s := s.showGates n
      let overran := s.overrun n
      let s := s.bumpBy (Reg.SCH_GATE_OVERRUN_NS n) overran
      let r := s.strand n
      r.2.raise 30 n [(24, 12, time96 p.start), (36, 4, p.list.cycle), (40, 2, p.list.entries.length),
        (42, 1, (if p.late then 1 else 0) + (if viaStep then 2 else 0)), (44, 4, r.1), (48, 4, overran)]
    else s

/-- Commit the window's entry into the administrative list at IDX (R195). -/
def State.gclCommit (s : State) (n : Nat) : State :=
  if s.flag (Fld.SCH_GCL_IDX_OPER n) then s
  else
    let lo := (s.reg (Reg.SCH_GCL_ENTRY_LO n)).toNat
    let hi := s.f (Fld.SCH_GCL_ENTRY_HI_GATES_OP n)
    let i := s.f (Fld.SCH_GCL_IDX_IDX n)
    let s := s.setGate n { s.gate n with admin := Store.set (fun _ => (0, 0, 0)) (s.gate n).admin i (lo, hi % 256, hi / 256) }
    if s.flag (Fld.SCH_GCL_IDX_AUTO_INC n) then s.setF (Fld.SCH_GCL_IDX_IDX n) ((i + 1) % 1024) else s

/-- The entry that the window reads: administrative, or operational while OPER is 1. -/
def State.gclEntry (s : State) (n : Nat) : Nat × Nat × Nat :=
  let i := s.f (Fld.SCH_GCL_IDX_IDX n)
  if s.flag (Fld.SCH_GCL_IDX_OPER n) then
    match (s.gate n).oper with
    | some g => g.entries.getD i (0, 0, 0)
    | none => (0, 0, 0)
  else Store.get (fun _ => (0, 0, 0)) (s.gate n).admin i

end Sys2Proof.Machine
end

