-- ==== Sys2Proof/Machine/Parse.lean ====
section
/-! DEFINITION. What the parse stage reads from a frame (R112, R164, R172, R208, R374): tags, R-TAG and PRP trailer, IP and
ports, PTP. The places of these fields are those of the published standards (R11). PRESUMED (log 12). -/

namespace Sys2Proof.Machine

/-- A PTP message in a frame: where it begins, how it is carried (0 Layer 2, 1 UDP/IPv4, 2 UDP/IPv6), the bytes of it
present, where the UDP header begins, and whether the UDP length agrees with the bytes present. -/
structure Ptp where
  off : Nat
  carriage : Nat
  present : Nat
  udp : Nat
  lenOk : Bool
  deriving DecidableEq, Repr

/-- What parsing a frame yields. -/
structure Parsed where
  da : Nat := 0
  sa : Nat := 0
  tagged : Bool := false
  pcp : Nat := 0
  dei : Nat := 0
  vid : Nat := 0
  rtag : Option Nat := none
  prp : Option Nat := none
  ethertype : Nat := 0
  ipv4 : Bool := false
  ipv6 : Bool := false
  ipSrc : Nat := 0
  ipDst : Nat := 0
  proto : Nat := 0
  dscp : Nat := 0
  frag : Bool := false
  l4Src : Nat := 0
  l4Dst : Nat := 0
  ptp : Option Ptp := none
  /-- A header is truncated. -/
  bad : Bool := false
  deriving DecidableEq, Repr

/-- Walk the Ethertypes after VLAN tags and R-TAGs, however many; answers the place of the final Ethertype. -/
def walkTags (l : List Byte) : Nat → Nat → Parsed → Nat × Parsed
  | 0, at_, p => (at_, p)
  | n + 1, at_, p =>
    let t := beAt l at_ 2
    if t = 0x8100 ∨ t = 0x88A8 then
      let tci := beAt l (at_ + 2) 2
      walkTags l n (at_ + 4)
        (if p.tagged then p else { p with tagged := true, pcp := tci / 8192, dei := tci / 4096 % 2, vid := tci % 4096 })
    else if t = 0xF1C1 then walkTags l n (at_ + 6) { p with rtag := some (beAt l (at_ + 4) 2) }
    else (at_, p)

/-- Add what the UDP header at `u` says; `have_` is the bytes that IP gives it. -/
def withUdp (l : List Byte) (u have_ carriage : Nat) (p : Parsed) : Parsed :=
  let dst := beAt l (u + 2) 2
  let p := { p with l4Src := beAt l u 2, l4Dst := dst }
  if dst = 319 ∨ dst = 320 then
    { p with ptp := some ⟨u + 8, carriage, have_ - 8, u, beAt l (u + 4) 2 == have_⟩ }
  else p

/-- The layer 4 header at `u`, with the bytes IP gives it. -/
def parseL4 (l : List Byte) (u have_ carriage : Nat) (p : Parsed) : Parsed :=
  let end_ := l.length - 4
  if p.proto = 17 then
    if end_ < u + 8 then { p with bad := true } else withUdp l u (min have_ (end_ - u)) carriage p
  else if p.proto = 6 then
    if end_ < u + 4 then { p with bad := true } else { p with l4Src := beAt l u 2, l4Dst := beAt l (u + 2) 2 }
  else p

/-- An IPv4 header at `h`. -/
def parseV4 (l : List Byte) (h : Nat) (p : Parsed) : Parsed :=
  let end_ := l.length - 4
  let ihl := beAt l h 1 % 16 * 4
  if end_ < h + 20 ∨ ihl < 20 ∨ end_ < h + ihl then { p with bad := true }
  else
    let fr := beAt l (h + 6) 2 % 16384
    let q : Parsed := { p with
      ipv4 := true
      ipSrc := beAt l (h + 12) 4
      ipDst := beAt l (h + 16) 4
      proto := beAt l (h + 9) 1
      dscp := beAt l (h + 1) 1 / 4
      frag := fr != 0 }
    if fr % 8192 ≠ 0 then q else parseL4 l (h + ihl) (beAt l (h + 2) 2 - ihl) 1 q

/-- An IPv6 header at `h`. -/
def parseV6 (l : List Byte) (h : Nat) (p : Parsed) : Parsed :=
  if l.length - 4 < h + 40 then { p with bad := true }
  else
    parseL4 l (h + 40) (beAt l (h + 4) 2) 2 { p with
      ipv6 := true
      ipSrc := beAt l (h + 8) 16
      ipDst := beAt l (h + 24) 16
      proto := beAt l (h + 6) 1
      dscp := beAt l h 2 / 64 % 64
      frag := beAt l (h + 6) 1 == 44 }

/-- What the final Ethertype, whose payload begins at `h`, leads to. -/
def parseType (l : List Byte) (h : Nat) (p : Parsed) : Parsed :=
  let end_ := l.length - 4
  if p.ethertype = 0x88F7 then { p with ptp := some ⟨h, 0, end_ - h, 0, true⟩, bad := decide (end_ < h) }
  else if p.ethertype = 0x0800 then parseV4 l h p
  else if p.ethertype = 0x86DD then parseV6 l h p
  else { p with bad := decide (end_ < h) }

/-- Parse a frame (the FCS included in its bytes). -/
def parseFrame (l : List Byte) : Parsed :=
  let end_ := l.length - 4
  let prp := if beAt l (end_ - 2) 2 = 0x88FB then some (beAt l (end_ - 6) 2) else none
  let w := walkTags l l.length 12 { da := beAt l 0 6, sa := beAt l 6 6, prp := prp }
  parseType l (w.1 + 2) { w.2 with ethertype := beAt l w.1 2 }

/-! ### PTP header fields -/

/-- messageType, majorVersionPTP, messageLength and twoStepFlag of a PTP message; of one too short to hold them, 0xFF and 0 (R383). -/
def Ptp.msgType (m : Ptp) (l : List Byte) : Nat := if m.present = 0 then 0xFF else beAt l m.off 1 % 16
def Ptp.version (m : Ptp) (l : List Byte) : Nat := if m.present < 2 then 0 else beAt l (m.off + 1) 1 % 16
def Ptp.msgLen (m : Ptp) (l : List Byte) : Nat := if m.present < 4 then 0 else beAt l (m.off + 2) 2
def Ptp.twoStep (m : Ptp) (l : List Byte) : Bool := beAt l (m.off + 6) 1 / 2 % 2 == 1

/-- The least messageLength of a type (R374). -/
def ptpMinLen (t : Nat) : Nat :=
  if t = 0 ∨ t = 1 ∨ t = 8 ∨ t = 12 then 44
  else if t = 13 then 48
  else if t = 9 ∨ t = 2 ∨ t = 3 ∨ t = 10 then 54
  else if t = 11 then 64 else 0

/-- The first reason for which a PTP message is malformed (R374). -/
def Ptp.fault (m : Ptp) (l : List Byte) : Option Nat :=
  let t := m.msgType l
  if m.version l ≠ 2 then some 1
  else if (4 ≤ t ∧ t ≤ 7) ∨ t = 14 ∨ t = 15 then some 2
  else if m.msgLen l < ptpMinLen t then some 3
  else if m.present < m.msgLen l then some 4
  else if m.carriage ≠ 0 ∧ m.lenOk = false then some 5
  else none

/-- Sync, Delay_Req, Pdelay_Req and Pdelay_Resp are event messages. -/
def ptpEvent (t : Nat) : Bool := t < 4

/-! ### The ternary key (R164) -/

/-- The 480-bit key of a frame. -/
def ternaryKey (port vid : Nat) (p : Parsed) (user : Nat) : Nat :=
  let flags := (if p.tagged then 128 else 0) + (if p.ipv4 then 64 else 0) + (if p.ipv6 then 32 else 0)
    + (if p.ptp.isSome then 16 else 0) + (if p.frag then 8 else 0) + (if p.rtag.isSome then 4 else 0) + (if p.prp.isSome then 2 else 0)
  port * 2 ^ 473 + vid * 2 ^ 461 + p.pcp * 2 ^ 458 + p.ethertype * 2 ^ 442 + p.da * 2 ^ 394 + p.sa * 2 ^ 346
    + p.ipSrc * 2 ^ 218 + p.ipDst * 2 ^ 90 + p.proto * 2 ^ 82 + p.dscp * 2 ^ 76 + p.l4Src * 2 ^ 60 + p.l4Dst * 2 ^ 44
    + flags * 2 ^ 36 + user * 2 ^ 4

/-- The default class of a frame under a CLASS_CFG word (R172, R173). -/
def defaultClass (cfg : Nat) (p : Parsed) : Nat :=
  let ptp := p.ethertype == 0x88F7 || ((p.ipv4 || p.ipv6) && p.proto == 17 && (p.l4Dst == 319 || p.l4Dst == 320))
  let pmu := (p.ipv4 || p.ipv6) && ((p.proto == 6 && p.l4Dst == 4712) || (p.proto == 17 && p.l4Dst == 4713))
  if ptp && cfg.testBit 28 then 7
  else if p.ethertype == 0x88B8 && cfg.testBit 29 then 6
  else if p.ethertype == 0x88BA && cfg.testBit 30 then 5
  else if pmu && cfg.testBit 31 then 5
  else if p.tagged then cfg / 2 ^ (3 * p.pcp) % 8
  else cfg / 2 ^ 24 % 8

end Sys2Proof.Machine
end

