-- ==== Sys2Proof/Machine/Lookup.lean ====
section
/-! DEFINITION. The lookups of a pipeline (R144..R161, R164, R172): what they find, learning and hit bits, sequence
recovery, and the policer (R175..R177). Each lookup reads the entries visible to the frame's epoch. -/

namespace Sys2Proof.Machine

/-- A memory upset of a place of the tables, and of an entry's protected copy where it is said (R168). -/
def State.upsetPlace (s : State) (copy : Bool) : TblPlace → State
  | .entry t i => s.mapEntries t (fun e => e.index == i) (fun e => { e with bad := true, copyBad := e.copyBad || copy })
  | .map t i => if s.isTaken t i ∧ s.mapBad t i = false then s.setTable t { s.table t with badMap := (s.table t).badMap ++ [i] } else s
  | .trie v6 st key =>
    if s.tbl.badTrie.contains (v6, st, key) then s else { s with tbl := { s.tbl with badTrie := s.tbl.badTrie ++ [(v6, st, key)] } }

/-- Upsets one after the other. -/
def State.upsetTables (s : State) : List (TblPlace × Bool) → State
  | [] => s
  | (p, c) :: l => (s.upsetPlace c p).upsetTables l

/-- The entry of a table that satisfies a test and is visible to an epoch parity. -/
def State.lookup (s : State) (t par : Nat) (p : Payload → Bool) : Option Placed :=
  (s.entries t).find? (fun q => q.entry.vis.testBit par && p q.entry.payload)

/-- The entry of a table with an index, visible to an epoch parity. -/
def State.byIndex (s : State) (t par i : Nat) : Option Placed :=
  (s.entries t).find? (fun q => q.entry.vis.testBit par && q.entry.index == i)

/-- The VID entry of a VID. -/
def isVid (v : Nat) : Payload → Bool
  | .vid w _ _ _ _ => w == v
  | _ => false

/-- A MAC entry of an address and FID. -/
def isMac (m fid : Nat) : Payload → Bool
  | .mac a f _ _ _ _ _ => a == m && f == fid
  | _ => false

/-- A stream entry of a MAC, VID and kind. -/
def isStream (m v k : Nat) : Payload → Bool
  | .stream a w j _ => a == m && w == v && j == k
  | _ => false

/-- The highest ranked ternary entry that matches a key (R165). -/
def bestTernary (key par : Nat) (es : List Placed) : Option Placed :=
  es.foldl (fun best q =>
    match q.entry.payload with
    | .ternary k m _ _ =>
      if q.entry.vis.testBit par && (key &&& m) == k then
        match best with
        | none => some q
        | some b => if ranksBefore q.entry b.entry then some q else best
      else best
    | _ => best) none

/-! ### Destinations (R166) -/

/-- One target of a frame: the port, the destination entry whose edits it is given. -/
structure Target where
  port : Nat
  dest : Option Nat
  reason : Nat
  deriving DecidableEq, Repr

/-- Ports of a port bit map. -/
def portsIn (m : Nat) : List Nat := (List.range 65).filter m.testBit

/-- The targets of a destination list, followed through NEXT for at most `n` entries; or the bad entry that it met. -/
def State.destTargets (s : State) (par : Nat) : Nat → Nat → List Target × Option Placed
  | 0, _ => ([], none)
  | n + 1, i =>
    match s.byIndex 9 par i with
    | none => ([], none)
    | some q =>
      if q.entry.bad then ([], some q)
      else match q.entry.payload with
        | .dest ports _ next last _ _ _ =>
          let mine := (portsIn ports).map (fun p => (⟨p, some i, 0⟩ : Target))
          if last then (mine, none)
          else
            let r := s.destTargets par n next
            (mine ++ r.1, r.2)
        | _ => ([], none)

/-- The edits of a destination entry, as a lookup reads them. -/
def State.destEdit (s : State) (par : Nat) : Option Nat → Edit
  | none => {}
  | some i => match s.byIndex 9 par i with
    | some q => match q.entry.payload with | .dest _ e _ _ da sa v => ⟨e, da, sa, v⟩ | _ => {}
    | none => {}

/-! ### Learning (R152, R153) -/

/-- The tokens of a port, in tokens × ticks per second, refilled up to now. -/
def State.tokens (s : State) (n : Nat) : Nat :=
  let full := s.f (Fld.TBL_PORT_LEARN_BURST n) * Config.ticksPerS
  match Store.get (fun _ => none) s.tbl.tokens n with
  | none => full
  | some (have_, at_) => min full (have_ + (s.clk - at_) * s.f (Fld.TBL_PORT_LEARN_RATE n))

/-- Take one token, if the port has one. -/
def State.takeToken (s : State) (n : Nat) : Option State :=
  let t := s.tokens n
  if Config.ticksPerS ≤ t then
    some { s with tbl := { s.tbl with tokens := Store.set (fun _ => none) s.tbl.tokens n (some (t - Config.ticksPerS, s.clk)) } }
  else none

/-- RATE or BURST has been written over an old word: what the bucket held under the old ones stays, as far as the new size allows. -/
def State.learnWritten (s : State) (n : Nat) (old : Word) : State :=
  let full := (Fld.TBL_PORT_LEARN_BURST n).of old * Config.ticksPerS
  let have_ := match Store.get (fun _ => none) s.tbl.tokens n with
    | none => full
    | some (h, at_) => min full (h + (s.clk - at_) * (Fld.TBL_PORT_LEARN_RATE n).of old)
  { s with tbl := { s.tbl with tokens := Store.set (fun _ => none) s.tbl.tokens n (some (have_, s.clk)) } }


/-- A learn refused for want of a token. -/
def State.learnRefused (s : State) (p n mac fid : Nat) : State :=
  (s.bump (Reg.TBL_LEARN_RATE_DROP p)).raise 49 n (macDetail 28 mac ++ [(34, 2, fid)])

/-- Set a learned or static entry's hit bit. -/
def Payload.setHit : Payload → Payload
  | .mac m f t k st _ a => .mac m f t k st true a
  | p => p

/-- The TARGET of a MAC entry rewritten; its hit bit is left, for the frame came from a port that the entry did not name (R155). -/
def Payload.retarget (n : Nat) : Payload → Payload
  | .mac m f _ _ st h a => .mac m f n 0 st h a
  | p => p

/-- The source lookup of a frame from port `n` in pipeline `p` (R152, R155): hit bits, station moves, new senders.
`may` says whether the conditions for learning hold, tokens apart. A static entry that names no port counts as naming another, and a sender
that already waits for its learning is queued again: DESIGN CHOICE (log 139). -/
def State.sourceLookup (s : State) (p n par mac fid : Nat) (may : Bool) : State :=
  let learn (s : State) : State :=
    if !may then s
    else match s.takeToken n with
      | none => s.learnRefused p n mac fid
      | some s' =>
        let tb := s'.table p
        if tb.learnQ.length < 64 then s'.setTable p { tb with learnQ := tb.learnQ ++ [(mac, fid, n)] }
        else s.bump (Reg.TBL_LEARN_QFULL p)
  match s.lookup p par (isMac mac fid) with
  | none => learn s
  | some q =>
    if q.entry.bad then
      let s := s.foundBad p q 0
      if q.entry.payload.isStatic then s else learn s
    else match q.entry.payload with
      | .mac _ _ tgt kind st _ _ =>
        if kind = 0 ∧ tgt = n then
          s.mapEntries p (fun e => e == q.entry) (fun e => { e with payload := e.payload.setHit })
        else if st then (if may then s.bump (Reg.TBL_LEARN_STATIC p) else s)
        else if !may then s
        else match s.takeToken n with
          | none => s.learnRefused p n mac fid
          | some s =>
            (s.mapEntries p (fun e => e == q.entry) (fun e => { e with payload := e.payload.retarget n })).bump (Reg.TBL_LEARN_CNT p)
      | _ => s

/-- A learn of pipeline `p` has failed for want of room: event 48 opens an episode (R153). -/
def State.learnFailed (s : State) (p mac fid n : Nat) : State :=
  let s := (s.bump (Reg.TBL_LEARN_FULL_DROP p)).bump (Reg.TBL_STAT_INS_FAIL p)
  match (s.table p).full with
  | some (c, m) => s.setTable p { s.table p with full := some (c + 1, m) }
  | none =>
    let s := s.setTable p { s.table p with full := some (1, mac, fid, n) }
    s.raise 48 p ([(24, 4, 1)] ++ macDetail 28 mac ++ [(34, 2, fid), (36, 2, n)])

/-- A learn of pipeline `p` has succeeded: it is counted and ends the episode. -/
def State.learnDone (s : State) (p : Nat) : State :=
  let s := s.bump (Reg.TBL_LEARN_CNT p)
  match (s.table p).full with
  | none => s
  | some (c, m, f, q) =>
    (s.setTable p { s.table p with full := none }).raiseEnd 48 p ([(24, 4, c)] ++ macDetail 28 m ++ [(34, 2, f), (36, 2, q)])

/-- The next queued sender of a pipeline is learned into its MAC table (R152, R153). `pick` chooses the index; `behind` says whether
the walk of a flush in progress has passed the entry's place (R154). A bad entry of the key is a miss (R168, R169): a learned one is gone and
learned again, a static one waits for its repair. -/
def State.learnNext (s : State) (p pick : Nat) (behind : Bool) : State :=
  let tb := s.table p
  match tb.learnQ with
  | [] => s
  | (mac, fid, n) :: rest =>
    let s := s.setTable p { tb with learnQ := rest }
    let own (s : State) : Option Placed := (s.entries p).find? (fun q => isMac mac fid q.entry.payload && q.entry.vis.testBit s.parity)
    let s := match own s with | some q => if q.entry.bad then s.foundBad p q 0 else s | none => s
    match own s with
    | some q =>
      if q.entry.payload.isLearned then
        (s.mapEntries p (fun e => e == q.entry) (fun e => { e with payload := .mac mac fid n 0 false true false })).learnDone p
      else s
    | none =>
      match s.newIndex p pick with
      | none => s.learnFailed p mac fid n
      | some i =>
        let e : Entry := ⟨i, s.genOf p i, .mac mac fid n 0 false true false, visBoth, false, false, false, (s.table p).nextOrder⟩
        match s.addEntry p e with
        | none => s.learnFailed p mac fid n
        | some s =>
          let s := if behind && s.tbl.flush.isSome then { s with tbl := { s.tbl with flushKept := s.tbl.flushKept ++ [(p, i)] } } else s
          s.learnDone p

/-! ### FRER (R159, R160) -/

/-- Count a discard and a pass in the millisecond and second windows of an instance. -/
def FrerState.window (st : FrerState) (clk : Nat) : FrerState :=
  if st.msSince + Config.ticksPerMs ≤ clk ∧ st.msPassed = 0 ∧ st.msElim = 0 then { st with msSince := clk } else st

/-- A frame passed. -/
def FrerState.pass (st : FrerState) (clk : Nat) : FrerState :=
  { st with passed := (st.passed + 1) % 2 ^ 32, msPassed := st.msPassed + 1, lastTick := clk }

/-- A frame eliminated. -/
def FrerState.drop (st : FrerState) : FrerState :=
  { st with discarded := (st.discarded + 1) % 2 ^ 32, msElim := st.msElim + 1 }

/-- Zero bits among the oldest `d` positions of a history of `n`: numbers that leave it never received. -/
def zerosOut (history n d : Nat) : Nat :=
  ((List.range (min n d)).filter (fun i => !history.testBit (n - 1 - i))).length

/-- One frame with a sequence number at a recovery instance: passed or not, and the instance's new state. -/
def recover (historyLen alg seq clk : Nat) (st : FrerState) : Bool × FrerState :=
  let d := signed 16 (unsigned 16 ((seq : Int) - (st.recovSeq : Int)))
  if st.takeAny then (true, { st.pass clk with takeAny := false, recovSeq := seq, history := 1 })
  else if alg = 1 then
    if seq = st.recovSeq then (false, st.drop)
    else (true, { st.pass clk with recovSeq := seq, outOfOrder := if d < 0 then (st.outOfOrder + 1) % 2 ^ 32 else st.outOfOrder })
  else if d.natAbs ≥ historyLen then
    (false, { st with rogue := (st.rogue + 1) % 2 ^ 32, rogueCount := st.rogueCount + 1, rogueSeq := seq, rogueRecov := st.recovSeq,
                      rogueSince := if st.rogueCount = 0 then clk else st.rogueSince })
  else if d ≤ 0 then
    if st.history.testBit d.natAbs then (false, st.drop)
    else (true, { st.pass clk with history := st.history ||| 2 ^ d.natAbs,
                                    outOfOrder := if d < 0 then (st.outOfOrder + 1) % 2 ^ 32 else st.outOfOrder })
  else
    let k := d.natAbs
    (true, { st.pass clk with recovSeq := seq, history := (st.history * 2 ^ k) % 2 ^ historyLen ||| 1,
                               lost := (st.lost + zerosOut st.history historyLen k) % 2 ^ 32 })

/-- A frame at an instance used for recovery; `seq` is none for a frame without a sequence number. -/
def State.frerRecover (s : State) (par i : Nat) (p : Parsed) : Bool × State :=
  match s.byIndex 5 par i with
  | none => (true, s)
  | some q =>
    let s := if q.entry.bad then s.foundBad 5 q 0 else s
    match s.byIndex 5 par i with
    | none => (true, s)
    | some q =>
      match q.entry.payload with
      | .frer h fl m r st =>
        let seq := if fl.testBit 1 then p.prp else p.rtag
        let st := st.window s.clk
        let res := match seq with
          | some x => recover h (fl % 2) x s.clk st
          | none =>
            let st := { st with tagless := (st.tagless + 1) % 2 ^ 32 }
            if fl.testBit 2 then (true, st.pass s.clk) else (false, st.drop)
        (res.1, s.mapEntries 5 (fun e => e == q.entry) (fun e => { e with payload := .frer h fl m r res.2 }))
      | _ => (true, s)

/-- The next sequence number of an instance used for generation. A bad instance is recovered first (R169). -/
def State.frerGenerate (s : State) (par i : Nat) : Nat × State :=
  let s := match s.byIndex 5 par i with | some q => if q.entry.bad then s.foundBad 5 q 0 else s | none => s
  match s.byIndex 5 par i with
  | none => (0, s)
  | some q => match q.entry.payload with
    | .frer h fl m r st =>
      (st.genSeq, s.mapEntries 5 (fun e => e == q.entry)
        (fun e => { e with payload := .frer h fl m r { st with genSeq := (st.genSeq + 1) % 65536 } }))
    | _ => (0, s)

/-! ### Policing (R175..R177) -/

/-- The colours of RFC 2698. -/
inductive Colour where
  | green | yellow | red
  deriving DecidableEq, Repr

/-- Refill the buckets and colour a frame (R175, R176). -/
def police (cir pir cbs pbs : Nat) (pre : Colour) (len stamp : Nat) (b : Buckets) : Colour × Buckets :=
  let d := stamp - b.last
  let tc := min (cbs * 65536) (b.tc + cir * d / 1000000)
  let tp := min (pbs * 65536) (b.tp + pir * d / 1000000)
  let last := max stamp b.last
  let need := len * 65536
  if tp < need then (.red, ⟨tc, tp, last⟩)
  else if pre = .yellow ∨ tc < need then (.yellow, ⟨tc, tp - need, last⟩)
  else (.green, ⟨tc - need, tp - need, last⟩)

/-- What policing decides for a frame: refused, and whether its copies carry DEI = 1. -/
structure Policed where
  drop : Bool
  setDei : Bool
  deriving DecidableEq, Repr

/-- Police a frame by a policer (R175..R177). A policer that fails parity polices as green (R169). -/
def State.policeFrame (s : State) (par i n len stamp : Nat) (p : Parsed) : Policed × State :=
  let count (s : State) (r : Nat) : State := if n < 64 then s.bump r else s
  match s.byIndex 10 par i with
  | none => (⟨false, false⟩, s)
  | some q =>
    if q.entry.bad then (⟨false, false⟩, count (s.foundBad 10 q 0) (Reg.SCH_POL_GREEN n))
    else match q.entry.payload with
      | .policer cir pir cbs pbs fl b =>
        let pre := if fl.testBit 0 && p.tagged && p.dei == 1 then Colour.yellow else Colour.green
        let r := police cir pir cbs pbs pre len stamp b
        let s := s.mapEntries 10 (fun e => e == q.entry) (fun e => { e with payload := .policer cir pir cbs pbs fl r.2 })
        match r.1 with
        | .green => (⟨false, false⟩, count s (Reg.SCH_POL_GREEN n))
        | .yellow => (⟨false, fl.testBit 2⟩, count s (Reg.SCH_POL_YELLOW n))
        | .red =>
          let drop := fl.testBit 1
          let s := count s (Reg.SCH_POL_RED n)
          let s := s.raise 61 i [(28, 2, n), (30, 1, if drop then 1 else 0), (32, 4, r.2.tp / 65536), (36, 2, len)]
          (⟨drop, !drop && fl.testBit 2⟩, s)
      | _ => (⟨false, false⟩, s)

end Sys2Proof.Machine
end

