-- ==== Sys2Proof/Machine/Ingress.lean ====
section
/-! DEFINITION. A frame's way from the ingress PCS to its queues (R112): the stamp, the stages in order and their
refusals, the combination of the lookups (R144), and admission (R121). -/

namespace Sys2Proof.Machine

/-! ### The ingress stamp (R204, R205) -/

/-- `n` unit intervals of a port's line in units of 2^-40 ns (R205); the aggregate rate on a multi-lane port. -/
def uiUnits (speed n : Nat) : Nat :=
  if speed = 1 then 0
  else if speed = 2 then n * 16 * 2 ^ 40 / 165
  else if speed = 3 then n * 32 * 2 ^ 40 / 825
  else if speed = 4 then n * 4 * 2 ^ 40 / 165
  else if speed = 5 then n * 16 * 2 ^ 40 / 825
  else n * 8 * 2 ^ 40 / 825

/-- The position of the first byte after the SFD, in unit intervals: behind a start block of type 0x78, or 0x33 (R205). -/
def startUi (start33 : Bool) : Nat := if start33 then 34 else 2

/-- Round a time in units of 2^-40 ns to the nearest 2^-16 ns. -/
def roundUnits (t : Int) : Nat := ((t + 2 ^ 23) / 2 ^ 24).toNat

/-- φ of a detector's clock, units of 2^-40 ns (R226): the mean of its last 64 undithered beats, each of k helper periods of 12.5 ps and put
right by the linearity table. `beats` are its beat measurements, latest first, and whether each was dithered. -/
def State.phase (s : State) (det : Nat) (beats : List (Nat × Bool)) : Int :=
  let l := (beats.filter (fun b => !b.2)).take 64
  let corr (k : Nat) : Int := match Store.get (fun _ => none) s.cal.linear det with
    | some t => t.getD k 0
    | none => (Config.factoryLinear det k).toInt
  if l.isEmpty then Config.phaseOfNone.toNat
  else ratio ((l.map (fun b => 12500 * (b.1 : Int) + corr b.1)).sum * 2 ^ 40) (1000000 * l.length)

/-- A stamp in units of 2^-16 ns: T_tick − φ + p ± D, with φ in units of 2^-40 ns, `ui` the unit intervals of the byte's
position, and `d` the signed delay in units of 2^-16 ns. -/
def stampOf (tTick : Nat) (phi : Int) (speed ui : Nat) (d : Int) : Nat :=
  roundUnits ((tTick : Int) - phi + uiUnits speed ui + d * 2 ^ 24)

/-- The receive delay subtracted at ingress: the calibrated delay in force, trim included, and on a port of several lanes the deskew of
lane n (R96, R206). -/
def State.rxDelay (s : State) (n : Nat) : Int :=
  s.planeDelay n 0 + signed 24 (s.f (Fld.PRT_TS_TRIM_RX_TRIM n)) +
    (((if 1 < lanesOf (s.speed n) then (s.link n).deskew * 65536 else 0) : Nat) : Int)

/-! ### Admission (R121) -/

/-- A target ready for admission: the queue's port, the edits fixed at lookup, the edited length (R131). -/
structure Aim where
  port : Nat
  edit : Edit
  untag : Bool
  rtag : Nat
  reason : Nat
  len : Nat
  deriving DecidableEq, Repr

/-- A target refused at admission: counted on its port by reason, event 57. -/
def State.refuseAim (s : State) (inPort k why : Nat) (a : Aim) : State :=
  let s := s.bump (if why = 2 then Reg.PRT_TX_REFUSE_DOWN a.port else if why = 5 then Reg.PRT_TX_REFUSE_LEN a.port
    else if why = 3 then Reg.PRT_TX_REFUSE_WINDOW a.port else if why = 1 then Reg.PRT_TX_REFUSE_RSV a.port
    else Reg.PRT_RX_REFUSE_PAUSE_IGN inPort)
  s.raise 57 (if why = 4 then inPort else a.port)
    [(28, 1, why), (29, 1, k), (30, 2, if why = 4 then a.port else inPort), (32, 2, a.len)]

/-- Does this unit, the holder, stop admission to single-homed ports for a planned exchange (R328)? -/
def State.draining (s : State) : Bool :=
  match s.mir.exch with
  | some x => x.holder && !x.moved
  | none => false

/-- Is a port down for admission: not up, held, its lane group being restructured, or single-homed while this unit does
not hold SINGLE_HOMED or drains for an exchange (R72, R121, R307, R328)? -/
def State.downForAdmit (s : State) (p : Nat) : Bool :=
  !s.portUp p || (s.port p).hold.isSome || (s.singleHomed p && (!s.holds roleSingle || s.draining))
    || (decide (p < 64) && (Store.get (fun _ => none) s.img.restr (groupOf p)).isSome)

/-- The charge of a frame as admission goes on: the pool taken, whether the charge failed, the copies linked. -/
structure Admit where
  s : State
  pool : Option Pool
  failed : Bool
  copies : List Copy

/-- One target of the admission step. `c` is the cell count, `used` the reservation cells linked by earlier targets. -/
def admitOne (inPort k c : Nat) (m : Admit) (a : Aim) : Admit :=
  let s := m.s
  let j := s.queueNum a.port k
  let q := 8 * a.port + j
  let copy (rsv : Bool) : Copy := ⟨a.port, j, a.len, a.edit, a.rtag, a.untag, rsv, false, a.reason⟩
  let refuse (why : Nat) : Admit := { m with s := s.refuseAim inPort k why a }
  if s.downForAdmit a.port then refuse 2
  else if 9216 < a.len then refuse 5
  else if s.overWindow a.port k a.len then refuse 3
  else if s.rsvUsed q + c ≤ s.f (Fld.BUF_RSV_CELLS q) then { m with copies := m.copies ++ [copy true] }
  else if 6 ≤ k ∨ a.port = 64 then refuse 1
  else match m.pool with
    | some _ => { m with copies := m.copies ++ [copy false] }
    | none =>
      if m.failed then refuse 4
      else match s.chargePool inPort k c with
        | some pool => { m with pool := some pool, copies := m.copies ++ [copy false] }
        | none => { refuse 4 with failed := true }

/-- Every target in turn, against the state of one step (R110). -/
def admitAll (inPort k c : Nat) : Admit → List Aim → Admit
  | m, [] => m
  | m, a :: l => admitAll inPort k c (admitOne inPort k c m a) l

/-- Link a stored frame's copies onto their queues. -/
def State.linkCopies (s : State) (id : Nat) : List Copy → State
  | [] => s
  | c :: l =>
    let q := 8 * c.port + c.queue
    ((s.setQueue q (s.queue q ++ [id])).holdRun c.port c.queue).linkCopies id l

/-- A frame's data for admission. -/
structure Ready where
  inPort : Nat
  cls : Nat
  data : List Byte
  integrity : Nat
  stamp : Nat
  epoch : Nat
  setDei : Bool
  tsTag : Option Nat
  flags : Nat
  aims : List Aim
  /-- Pending accesses of the buffer's banks (R120). -/
  access : List Nat

/-- Admission and enqueue (R110, R121), before pause is evaluated again: answers whether the frame was accepted. When no allowed bank has a free row the
frame is refused at every target under reason 1 (log 15). -/
def State.admitFrame (r : Ready) (s : State) : Bool × State :=
  let c := (r.data.length + 127) / 128
  let count (s : State) (acc : Bool) : State :=
    s.bump (if acc then Reg.PRT_RX_ACCEPTED r.inPort else Reg.PRT_RX_ADMIT_REFUSED r.inPort)
  match s.chooseCells r.access c with
  | none => (false, count (r.aims.foldl (fun s a => s.refuseAim r.inPort r.cls 1 a) s) false)
  | some cells =>
    let m := admitAll r.inPort r.cls c ⟨s, none, false, []⟩ r.aims
    if m.copies.isEmpty then (false, count m.s false)
    else
      let s := m.s.storeFrame r.data cells
      let pool := m.pool.getD .none
      let f : Frame := ⟨s.buf.nextFrame, r.inPort, r.cls, r.data.length, cells, BitVec.ofNat 32 r.integrity, r.stamp,
        s.f Fld.TIM_STATUS_STEP_GEN, r.epoch, pool, if pool = .none then 0 else c, m.copies, r.setDei, r.tsTag, r.flags⟩
      let s := { s with buf := { s.buf with frames := s.buf.frames ++ [f], nextFrame := s.buf.nextFrame + 1 } }
      let s := s.linkCopies f.id m.copies
      let s := if pool = .escalation then s.beginEpisode r.inPort r.cls else s
      (true, count s true)

/-! ### The lookups combined (R144) -/

/-- What the lookups decide. -/
inductive Verdict where
  /-- Refused, counted here. -/
  | refuse (counter : Nat)
  | forward (cls : Nat) (policer : Option Nat) (targets : List Target) (untagged members : Nat) (rtag : Nat)
  deriving DecidableEq, Repr

/-- The default class of a frame from a port: port 64 uses the reset values (R173). -/
def State.classOf (s : State) (n : Nat) (p : Parsed) : Nat :=
  defaultClass (if n < 64 then (s.reg (Reg.SCH_CLASS_CFG n)).toNat else 0xF092C688) p

/-- The stream result of a frame: the entry found, or a parity refusal or flood (R157, R158). -/
inductive StreamHit where
  | miss
  | flood
  | discard
  | hit (word : Nat)
  deriving DecidableEq, Repr

/-- What an entry found by the stream lookup gives; a bad one follows its miss policy. -/
def State.streamResult (s : State) (q : Placed) : StreamHit × State :=
  match q.entry.payload with
  | .stream _ _ _ w =>
    if q.entry.bad then ((if bitsAt w 47 1 = 1 then .discard else .flood), s.foundBad 4 q 0) else (.hit w, s)
  | _ => (.miss, s)

/-- The stream lookup, or the stream a ternary result names: that goes through the index map, whose bad entry leaves the stream's miss
policy to act (R158, R168). -/
def State.streamLookup (s : State) (par vid : Nat) (p : Parsed) (named : Option Nat) : StreamHit × State :=
  match named with
  | some i => match s.byIndex 4 par i with
    | some q => if s.mapBad 4 i then ((s.streamResult { q with entry := { q.entry with bad := true } }).1, s.foundMap 4 i 0) else s.streamResult q
    | none => (.miss, s)
  | none =>
    match s.lookup 4 par (isStream p.da vid 0) with
    | some q => s.streamResult q
    | none => match s.lookup 4 par (isStream p.sa vid 1) with
      | some q => s.streamResult q
      | none => (.miss, s)

/-- The MAC destination's answer: targets, or a refusal. -/
inductive MacHit where
  | unknown
  | to (ts : List Target)
  | toDest (i : Nat)
  | discard
  | route
  deriving DecidableEq, Repr

/-- The destination MAC lookup of a pipeline. -/
def State.macLookup (s : State) (pl par mac fid : Nat) : MacHit × State :=
  match s.lookup pl par (isMac mac fid) with
  | none => (.unknown, s)
  | some q =>
    if q.entry.bad then (.unknown, s.foundBad pl q 0)
    else match q.entry.payload with
      | .mac _ _ tgt kind _ _ _ =>
        if kind = 0 then (.to [⟨tgt, none, 0⟩], s) else if kind = 1 then (.toDest tgt, s)
        else if kind = 2 then (.route, s) else (.discard, s)
      | _ => (.unknown, s)

/-- The route's answer. -/
inductive RouteHit where
  | miss
  | refuse (counter : Nat)
  | trap
  | toDest (i : Nat)
  deriving DecidableEq, Repr

/-- The longest-prefix lookup of a frame's IP version (R161, R162, R169). -/
def State.routeLookup (s : State) (n par : Nat) (p : Parsed) : RouteHit × State :=
  let t := if p.ipv4 then 6 else 7
  if !p.ipv4 && !p.ipv6 then (.miss, s)
  else
    let ifBad : RouteHit := if s.flag Fld.TBL_PARITY_ACT_LPM_DISCARD then .refuse (Reg.PRT_RX_PARITY_DISCARD n) else .miss
    match s.trieFind p.ipv6 par p.ipDst with
    | .miss => (.miss, s)
    | .bad st key => (ifBad, s.foundTrie p.ipv6 st key 0)
    | .leaf i => match s.byIndex t par i with
    | none => (.miss, s)
    | some q =>
      if q.entry.bad then (ifBad, s.foundBad t q 0)
      else
        let r := match q.entry.payload with | .route4 _ _ r => r | .route6 _ _ r => r | _ => 0
        if r.testBit 12 then (.refuse (Reg.PRT_RX_RULE_DISCARD n), s)
        else if r.testBit 13 then (.trap, s) else (.toDest (r % 4096), s)

/-- Members of a VID but one port, as targets. -/
def floodTargets (members n : Nat) : List Target := ((portsIn members).filter (· != n)).map (fun p => ⟨p, none, 0⟩)

/-- PTP messages that a port's MODE traps to port 64 (R209). -/
def State.ptpTrap (s : State) (n : Nat) (data : List Byte) (p : Parsed) : Bool :=
  match p.ptp with
  | none => false
  | some m =>
    let mode := s.f (Fld.PRT_PTP_CFG_MODE n)
    let t := m.msgType data
    decide (n < 64) && (mode == 3 || (mode == 2 && (t == 2 || t == 3 || t == 10)))

/-- A result word's FRER function: recovery may eliminate the frame, generation draws a number. -/
def State.applyFrer (s : State) (par w : Nat) (p : Parsed) : Option Nat × State :=
  let fn := bitsAt w 32 2
  if fn = 2 then
    let r := s.frerRecover par (bitsAt w 19 13) p
    (if r.1 then some 0 else none, r.2)
  else if fn = 1 then
    let r := s.frerGenerate par (bitsAt w 19 13)
    (some r.1, r.2)
  else (some 0, s)

/-- Where a frame may go: the counter that refuses it, or its targets. -/
structure Way where
  refused : Option Nat
  targets : List Target
  deriving DecidableEq, Repr

/-- The way of a destination list; a bad entry that it meets refuses the frame (R169). -/
def State.viaDest (s : State) (n par i : Nat) : Way × State :=
  let r := s.destTargets par 65 i
  match r.2 with
  | some q => (⟨some (Reg.PRT_RX_PARITY_DISCARD n), []⟩, s.foundBad 9 q 0)
  | none => (⟨none, r.1⟩, s)

/-- The way that the MAC entry gives, and the route where that calls for one. -/
def State.viaMac (s : State) (n pl par fid members : Nat) (flood : Bool) (p : Parsed) : Way × State :=
  let m := s.macLookup pl par p.da fid
  let s := m.2
  match m.1 with
  | .unknown => (⟨none, if flood then floodTargets members n else []⟩, s)
  | .to ts => (⟨none, ts⟩, s)
  | .toDest i => s.viaDest n par i
  | .discard => (⟨some (Reg.PRT_RX_RULE_DISCARD n), []⟩, s)
  | .route =>
    let r := s.routeLookup n par p
    match r.1 with
    | .miss => (⟨none, []⟩, r.2)
    | .refuse c => (⟨some c, []⟩, r.2)
    | .trap => (⟨none, [⟨64, none, 1⟩]⟩, r.2)
    | .toDest i => r.2.viaDest n par i

/-- The searches of MAC and longest-prefix table where another result gives the destination: the counter of a refusal for a bad trie entry
or route, whose LPM_DISCARD the frame meets all the same (R144, R169). What the entries found say is overridden, a KIND 3, DISCARD or TRAP
included: DESIGN CHOICE (log 140). -/
def State.searchAside (s : State) (n pl par fid : Nat) (p : Parsed) : Option Nat × State :=
  let m := s.macLookup pl par p.da fid
  match m.1 with
  | .route =>
    let r := m.2.routeLookup n par p
    (match r.1 with | .refuse c => if c = Reg.PRT_RX_PARITY_DISCARD n then some c else none | _ => none, r.2)
  | _ => (none, m.2)

/-- The destination a frame takes (R144): the ternary or stream destination, the flood of a bad stream entry, else the route, the MAC
entry, or the flood. MAC table and routes are searched whichever gives the destination. -/
def State.destination (s : State) (n pl par fid members : Nat) (flood : Bool) (p : Parsed) (forced : Option Nat)
    (streamFlood : Bool) : Way × State :=
  let aside := s.searchAside n pl par fid p
  match forced, aside.1 with
  | some i, none => aside.2.viaDest n par i
  | some _, some c => (⟨some c, []⟩, aside.2)
  | none, bad => if streamFlood then (⟨bad, if bad.isSome then [] else floodTargets members n⟩, aside.2) else s.viaMac n pl par fid members flood p

/-- Prune the targets by VLAN membership and source port (R112, R144). Neither a trapped frame nor a copy goes back to port 64. -/
def State.prune (s : State) (n par members : Nat) (ts : List Target) : List Target :=
  ts.filter (fun t =>
    let e := (s.destEdit par t.dest).flags
    (decide (t.reason ≠ 0) || members.testBit t.port || e.testBit 2) && (t.port != n || e.testBit 6))

/-- The best ternary entry that is not bad: bad ones that the search meets are found bad and skipped (R165, R169). -/
def State.ternaryFind (s : State) (key par : Nat) : Nat → List Placed → Option Placed × State
  | 0, _ => (none, s)
  | n + 1, es => match bestTernary key par es with
    | none => (none, s)
    | some q => if q.entry.bad then State.ternaryFind (s.foundBad 8 q 0) key par n (es.filter (· != q)) else (some q, s)

/-- The result of the ternary search: the word of the entry found, and whether a bad one refuses the frame (R165, R169). -/
def State.ternaryLookup (s : State) (n par vid : Nat) (data : List Byte) (p : Parsed) : Option Nat × Bool × State :=
  let key := ternaryKey n vid p (Config.userField data).toNat
  let bad := match bestTernary key par (s.entries 8) with | some q => q.entry.bad | none => false
  let strict := s.flag Fld.TBL_PARITY_ACT_TERNARY_DISCARD
  let r := s.ternaryFind key par (if strict then 1 else (s.entries 8).length) (s.entries 8)
  let w := match r.1 with
    | some q => match q.entry.payload with | .ternary _ _ _ r => some r | _ => none
    | none => none
  (w, bad && strict, r.2)

/-- What overrides class, policer and destination (R144): the ternary result's field if enabled, else the stream entry's. -/
def override (w sw ew eo es so n : Nat) : Option Nat :=
  if bitsAt w ew 1 = 1 then some (bitsAt w eo n) else if bitsAt sw es 1 = 1 then some (bitsAt sw so n) else none

/-- The verdict once every lookup has been made. A ternary discard stands first, then a bad ternary entry. A trap takes the frame to port
64 and no other result touches it; a copy goes to port 64 whatever refuses the rest. Else the rows of R112 in their order: discards by
rule, by parity, elimination, no target; sequence recovery sees only frames that the rows before leave. DEDUCED (log 98). -/
def State.verdict (s : State) (n par members untagged act cls sw : Nat) (pol : Option Nat) (badTernary missed parity : Bool) (way : Way)
    (p : Parsed) : Verdict × State :=
  let rule := Reg.PRT_RX_RULE_DISCARD n
  let bad := Reg.PRT_RX_PARITY_DISCARD n
  let go (s : State) (ts : List Target) (rtag none_ : Nat) : Verdict × State :=
    let ts := s.prune n par members (if act = 3 then ⟨64, none, 1⟩ :: ts.filter (fun t => t.port != 64) else ts)
    (if ts.isEmpty then .refuse none_ else .forward cls pol ts untagged members rtag, s)
  if act = 1 then (.refuse rule, s)
  else if badTernary then (.refuse bad, s)
  else if act = 2 then go s [⟨64, none, 1⟩] 0 (Reg.PRT_RX_NO_TARGET n)
  else if missed ∨ way.refused = some rule then go s [] 0 rule
  else if parity ∨ way.refused = some bad then go s [] 0 bad
  else
    let fr := s.applyFrer par sw p
    match fr.1 with
    | none => go fr.2 [] 0 (Reg.PRT_RX_FRER_ELIM n)
    | some rtag => go fr.2 way.targets rtag (Reg.PRT_RX_NO_TARGET n)

/-- Lookups after the VID entry: ternary, stream, destination, source (R144). -/
def State.lookupRest (s : State) (n pl par vid fid members untagged vflags : Nat) (data : List Byte) (p : Parsed) :
    Verdict × State :=
  let tern := s.ternaryLookup n par vid data p
  let w := tern.1.getD 0
  let st := tern.2.2.streamLookup par vid p (if bitsAt w 48 1 = 1 then some (bitsAt w 34 14) else none)
  let sw := match st.1 with | .hit x => x | _ => 0
  let cls := (override w sw 5 2 3 0 3).getD (s.classOf n p)
  let pol := override w sw 20 6 18 4 14
  let trapPtp := bitsAt w 0 2 != 1 && bitsAt w 0 2 != 2 && s.ptpTrap n data p
  let d := st.2.destination n pl par fid members (vflags.testBit 1) p (override w sw 33 21 46 34 12) (st.1 == .flood)
  let may := s.flag Fld.TBL_LEARN_CFG_ENABLE && s.flag (Fld.TBL_PORT_CFG_LEARN_EN n) && vflags.testBit 0
  let s := d.2.sourceLookup pl n par p.sa fid may
  let missed := st.1 == .miss && s.flag (Fld.TBL_PORT_CFG_STREAM_MISS_DISCARD n)
  let way := if trapPtp then ⟨none, [⟨64, none, 2⟩]⟩ else d.1
  let v := s.verdict n par members untagged (bitsAt w 0 2) cls sw pol tern.2.1 missed (st.1 == .discard) way p
  match v.1 with
  | .forward .. => (v.1, if trapPtp then v.2.bump (Reg.PRT_PTP_TRAPPED n) else v.2)
  | .refuse _ => v

/-- The lookups of a frame from port `n` (R144, R145). -/
def State.lookups (s : State) (n par : Nat) (data : List Byte) (p : Parsed) : Verdict × State :=
  let pl := if n < 64 then groupOf n else 0
  let vid := if p.tagged && p.vid != 0 then p.vid else s.f (Fld.TBL_PORT_CFG_PVID n)
  match s.lookup 11 par (isVid vid) with
  | none => (.refuse (Reg.PRT_RX_RULE_DISCARD n), s)
  | some q =>
    if q.entry.bad then (.refuse (Reg.PRT_RX_PARITY_DISCARD n), s.foundBad 11 q 0)
    else match q.entry.payload with
      | .vid _ members untagged fid fl =>
        if members.testBit n then s.lookupRest n pl par vid fid members untagged fl data p
        else (.refuse (Reg.PRT_RX_RULE_DISCARD n), s)
      | _ => (.refuse (Reg.PRT_RX_RULE_DISCARD n), s)

/-- The edited length of a copy (R131, R145, R166). -/
def editLen (len : Nat) (tagged untag : Bool) (e : Edit) : Nat :=
  len - (if tagged && (untag || e.flags.testBit 3) then 4 else 0) + (if e.flags.testBit 4 then 6 else 0)

/-- The epoch of a frame by its ingress stamp (R79). -/
def State.epochOf (s : State) (stamp : Nat) : Nat :=
  let e := (s.reg Reg.TXN_EPOCH).toNat
  if stamp < s.txn.appliedAt ∧ 0 < e then e - 1 else e

/-- Bits of registers from one state put into another. -/
def State.putBits (s src : State) (l : List (Nat × StagedReg)) : State :=
  l.foldl (fun (t : State) (x : Nat × StagedReg) => t.setReg x.1 ((t.reg x.1 &&& ~~~x.2.mask) ||| (src.reg x.1 &&& x.2.mask))) s

/-- The registers as the epoch before had them. -/
def State.withOld (s : State) : State :=
  s.txn.oldRegs.foldl (fun (t : State) (x : Nat × StagedReg) =>
    t.setReg x.1 ((t.reg x.1 &&& ~~~x.2.mask) ||| (x.2.value &&& x.2.mask))) s

/-- Carry a frame with the registers of its stamp's epoch (R79); then pause is evaluated again with the present ones. -/
def State.underEpoch (s : State) (stamp : Nat) (g : State → Bool × State) : Bool × State :=
  let r := if stamp < s.txn.appliedAt then
      let r := g s.withOld
      (r.1, r.2.putBits s s.txn.oldRegs)
    else g s
  (r.1, if r.1 then r.2.flow else r.2)

/-- From parse to enqueue, for a frame whose FCS and length are good (R112). -/
def State.carryFrame (n : Nat) (data : List Byte) (stamp flags epoch : Nat) (tsTag : Option Nat) (access : List Nat) (s : State) : Bool × State :=
  let p := parseFrame data
  let mode := s.f (Fld.PRT_PTP_CFG_MODE n)
  let ptpBad := match p.ptp with
    | some m => if n < 64 ∧ mode ≠ 0 then (m.fault data).map (fun r => (m, r)) else none
    | none => none
  match ptpBad with
  | some (m, r) =>
    let s := s.bump (Reg.PRT_RX_PARSE_ERR n)
    (false, s.raise 70 n ([(28, 1, r), (29, 1, m.msgType data), (32, 2, m.present), (34, 1, m.carriage)] ++
      wireDetail 30 2 (m.msgLen data)))
  | none =>
    if p.bad then (false, s.bump (Reg.PRT_RX_PARSE_ERR n))
    else
      let par := epoch % 2
      let v := s.lookups n par data p
      match v.1 with
      | .refuse c => (false, v.2.bump c)
      | .forward cls pol ts untagged _ rtag =>
        let pr := match pol with
          | some i => v.2.policeFrame par i n data.length stamp p
          | none => (⟨false, false⟩, v.2)
        if pr.1.drop then (false, pr.2.bump (Reg.PRT_RX_POLICER_DROP n))
        else
          let s := pr.2
          let aims := ts.map (fun t =>
            let untag := untagged.testBit t.port
            let e := s.destEdit par t.dest
            (⟨t.port, e, untag, rtag, t.reason, editLen data.length p.tagged untag e⟩ : Aim))
          s.admitFrame ⟨n, cls, data, crc32c 0xFFFFFFFF data, stamp, epoch, pr.1.setDei, tsTag, flags, aims, access⟩

/-- A frame's way from the parse stage on, with the tables and registers of its epoch. -/
def State.forwardFrame (s : State) (n : Nat) (data : List Byte) (stamp flags : Nat) (tsTag : Option Nat) (access : List Nat) : Bool × State :=
  s.underEpoch stamp (State.carryFrame n data stamp flags (s.epochOf stamp) tsTag access)

/-- Is a port's Level 1 calibration running (R25)? Instances 128..191 are the ports (R289). -/
def State.portCalibrating (s : State) (n : Nat) : Bool :=
  match Store.get (fun _ => none) s.cal.runs (128 + n) with | some r => decide (r.since ≤ s.clk) | none => false

/-- Block and codeword counters of a port, and event 69 for uncorrectable codewords (R95, R108). -/
def State.countBlocks (s : State) (n : Nat) (a : PcsCounts) : State :=
  let add (s : State) (r k : Nat) : State := if k = 0 then s else s.bumpBy r k
  let s := add s (Reg.PRT_FEC_CORR_CNT n) a.fecCorr
  let s := add s (Reg.PRT_FEC_UNCORR_CNT n) a.fecUncorr
  let s := add s (Reg.PRT_BAD_SYNC_CNT n) a.badSync
  let s := add s (Reg.PRT_ERR_BLOCK_CNT n) a.errBlocks
  s.raiseMany 69 n [(28, 4, a.fecCorr)] a.fecUncorr

/-- A refusal for length with event 78 (R375). -/
def State.refuseLength (s : State) (n len why : Nat) : State :=
  (s.bump (Reg.PRT_RX_LEN_ERR n)).raise 78 n [(28, 4, len), (32, 1, why)]

/-- Does the ingress PCS deliver no frames: a core reset, a removal, or the core domains off (R358, R360)? -/
def State.noDelivery (s : State) : Bool :=
  s.rst.core.isSome || s.rst.ejectAt.isSome || !s.domainOn 6 || !s.domainOn 7

/-- The ingress PCS, the elastic store, the stamp, and the FCS and length check; then the pipeline (R112). The command comes at the tick
of the ingress stamp, so that the stamp, the calibration and the flags are those of that tick (log 16). A frame finds the store full when
all its bytes do not fit the 65,536 of it: DESIGN CHOICE (log 99). -/
def State.receive (s : State) (n : Nat) (data : List Byte) (a : Arrival) : State :=
  let s := s.countBlocks n a.counts
  let g := groupOf n
  if s.noDelivery then s.bump (Reg.GEN_CORE_RX_DROP g)
  else if s.laneWithheld n then s.bump (Reg.MIR_STBY_RX_FRAMES g)
  else
  let s := s.bump (Reg.PRT_RX_FRAMES n)
  if (Store.get (fun _ => none) s.img.restr g).isSome then
    (s.bump (Reg.PRT_RX_RESTRUCT_DROP n)).bump Reg.TXN_RESTRUCT_RX_DROP
  else
    let s := (s.noteFill g a.fill).flow
    if 65536 < a.fill + data.length then
      (s.bump (Reg.PRT_RX_ELASTIC_OVF n)).bump (Reg.BUF_ELASTIC_OVF_CNT g)
    else if a.fragment then (s.bump (Reg.SCH_REASM_ERR n)).bump (Reg.PRT_RX_FCS_ERR n)
    else if a.cut then s.refuseLength n 16384 2
    else if data.length < 64 then s.refuseLength n data.length 0
    else if 9216 < data.length then s.refuseLength n data.length 1
    else if a.marked || !fcsOk data then s.bump (Reg.PRT_RX_FCS_ERR n)
    else
      let stamp := stampOf s.tickTime (s.phase n a.beats) (s.speed n) (startUi a.start33) (-(s.rxDelay n))
      let flags := (if s.portCalibrating n then 1 else 0) + (s.commonFlags % 8) * 2
      let s := s.sampleFrame n 0 stamp data
      (s.forwardFrame n data stamp flags none a.access).2

end Sys2Proof.Machine
end

