-- ==== Sys2Proof/Machine/Egress.lean ====
section
/-! DEFINITION. The egress pass (R115, R118, R130), the scheduler (R178..R180), frame preemption (R181, R182), the edits
of a destination entry (R166), and what is written into PTP messages on the way out (R209..R214). -/

namespace Sys2Proof.Machine

/-! ### The edits (R145, R166, R177) -/

/-- Where the first VLAN tag of a frame stands, from an Ethertype on: R-TAGs before it are passed. -/
def tagFrom (l : List Byte) : Nat → Nat → Option Nat
  | 0, _ => none
  | n + 1, i =>
    let t := beAt l i 2
    if t = 0x8100 ∨ t = 0x88A8 then some i else if t = 0xF1C1 then tagFrom l n (i + 6) else none

/-- Where the first VLAN tag of a frame stands. -/
def tagAt (l : List Byte) : Option Nat := tagFrom l l.length 12

/-- Where the payload of the final Ethertype begins. -/
def payloadAt (l : List Byte) : Nat := (walkTags l l.length 12 {}).1 + 2

/-- One's-complement sum of two 16-bit numbers. -/
def onesAdd (a b : Nat) : Nat := let t := a + b; if 65536 ≤ t then t - 65535 else t

/-- What a checksum word gains when 16-bit words change (RFC 1624): the sum of ~old and new. -/
def wordGain : List (Nat × Nat) → Nat
  | [] => 0
  | (o, n) :: l => if o = n then wordGain l else onesAdd (onesAdd (0xFFFF - o) n) (wordGain l)

/-- A checksum after words have changed: HC' = ~(~HC + ~m + m'). -/
def newChecksum (hc gain : Nat) : Nat := 0xFFFF - onesAdd (0xFFFF - hc) gain

/-- TTL or hop limit less one, with the IPv4 header checksum. -/
def ttlDec (l : List Byte) : List Byte :=
  let h := payloadAt l
  let less (v : Nat) : Nat := if v = 0 then Config.ttlOfZero.toNat else v - 1
  if beAt l (h - 2) 2 = 0x0800 then
    let old := beAt l (h + 8) 2
    let new := less (old / 256) * 256 + old % 256
    overlay (overlay l (h + 8) (toBe 2 new)) (h + 10) (toBe 2 (newChecksum (beAt l (h + 10) 2) (wordGain [(old, new)])))
  else if beAt l (h - 2) 2 = 0x86DD then overlay l (h + 7) (toBe 1 (less (beAt l (h + 7) 1)))
  else l

/-- The VLAN tag of a leaving copy: stripped, rewritten, marked. -/
def editTag (e vlan : Nat) (untag dei : Bool) (l : List Byte) : List Byte :=
  match tagAt l with
  | none => l
  | some i =>
    if untag || e.testBit 3 then l.take i ++ l.drop (i + 4)
    else
      let t := beAt l (i + 2) 2
      let t := if e.testBit 2 then (vlan / 4096 % 8) * 8192 + (t / 4096 % 2) * 4096 + vlan % 4096 else t
      let t := if dei then t / 8192 * 8192 + 4096 + t % 4096 else t
      overlay l (i + 2) (toBe 2 t)

/-- Insert an R-TAG behind the VLAN tag, or behind the addresses. -/
def insertRtag (seq : Nat) (l : List Byte) : List Byte :=
  let i := match tagAt l with | some i => i + 4 | none => 12
  l.take i ++ toBe 2 0xF1C1 ++ toBe 2 0 ++ toBe 2 seq ++ l.drop i

/-- A copy's bytes after its edits, without the FCS. -/
def editBody (e : Edit) (rtag : Nat) (untag dei : Bool) (body : List Byte) : List Byte :=
  let l := if e.flags.testBit 0 then overlay body 0 (toBe 6 e.da) else body
  let l := if e.flags.testBit 1 then overlay l 6 (toBe 6 e.sa) else l
  let l := if e.flags.testBit 5 then ttlDec l else l
  let l := editTag e.flags e.vlan untag dei l
  if e.flags.testBit 4 then insertRtag rtag l else l

/-! ### PTP on the way out (R209..R213) -/

/-- The 16-bit words of `n` bytes at `i` before and after a change. -/
def wordsAt (a b : List Byte) (i n : Nat) : List (Nat × Nat) :=
  (List.range (n / 2)).map (fun j => (beAt a (i + 2 * j) 2, beAt b (i + 2 * j) 2))

/-- Put a change of a PTP message right in the checksum that covers it (R211); answers whether a trailer was rewritten. -/
def fixChecksum (m : Ptp) (old new : List Byte) (at_ n : Nat) : List Byte × Bool :=
  let gain := wordGain (wordsAt old new at_ n)
  let field := beAt new (m.udp + 6) 2
  if m.carriage = 0 then (new, false)
  else if m.carriage = 1 then
    (if field = 0 then new else overlay new (m.udp + 6) (toBe 2 (newChecksum field gain)), false)
  else if m.msgLen old + 2 ≤ m.present ∧ m.present % 2 = 0 then
    let t := m.off + m.present - 2
    (overlay new t (toBe 2 (newChecksum (beAt new t 2) gain)), true)
  else
    let c := newChecksum field gain
    (overlay new (m.udp + 6) (toBe 2 (if c = 0 then 0xFFFF else c)), false)

/-- Add to a correctionField; answers whether it saturated (R210). -/
def addCorrection (old : Nat) (d : Int) : Nat × Bool :=
  let v := signed 64 old + d
  let top : Int := 0x7FFFFFFFFFFFFFFF
  if v > top ∨ v < -top then (0x7FFFFFFFFFFFFFFF, true) else (unsigned 64 v, false)

/-- Write a PTP message's correctionField and, where given, the 10 bytes of its timestamp; then the checksum. -/
def State.writePtp (s : State) (p : Nat) (m : Ptp) (l : List Byte) (d : Int) (stamp : Option (List Byte)) : List Byte × State :=
  let c := addCorrection (beAt l (m.off + 8) 8) d
  let l1 := overlay l (m.off + 8) (toBe 8 c.1)
  let r := match stamp with
    | none => fixChecksum m l l1 (m.off + 8) 8
    | some b => fixChecksum m l (overlay l1 (m.off + 34) b) (m.off + 8) 36
  let s := if c.2 then s.bump (Reg.PRT_PTP_CORR_SAT p) else s
  (r.1, if r.2 then s.bump (Reg.PRT_PTP_CSUM_TRAILER p) else s)

/-- The amount S added to an ingress stamp of the step generation before the present (R208). -/
def State.genAdjust (s : State) (f : Frame) : Int :=
  if f.stepGen = s.f Fld.TIM_STATUS_STEP_GEN then 0 else s.time.lastStep

/-- ΔC of R210. -/
def State.deltaC (s : State) (f : Frame) (p t stamp : Nat) : Int :=
  let res : Int := (stamp : Int) - ((f.stamp : Int) + s.genAdjust f)
  if t = 0 ∧ s.f (Fld.PRT_PTP_CFG_MODE p) = 2 then
    res + s.pair48 (Reg.PRT_PTP_LINK_DELAY_LO f.inPort) (Reg.PRT_PTP_LINK_DELAY_HI f.inPort)
      + signed 32 (s.reg (Reg.PRT_PTP_ASYM f.inPort)).toNat
  else res

/-- Is a copy corrected: both ports in MODE 1 or 2, and the egress port's MODE covers the message (R209)? -/
def State.ptpCorrected (s : State) (inPort p t : Nat) : Bool :=
  let a := s.f (Fld.PRT_PTP_CFG_MODE inPort)
  let b := s.f (Fld.PRT_PTP_CFG_MODE p)
  decide (inPort < 64) && (a == 1 || a == 2) && ((b == 1 && ptpEvent t) || (b == 2 && t == 0))

/-- What the egress pass writes into a PTP message of a copy on port `p` with its egress stamp. -/
def State.ptpEgress (s : State) (f : Frame) (p stamp : Nat) (l : List Byte) : List Byte × State :=
  match (parseFrame (l ++ toBe 4 0)).ptp with
  | none => (l, s)
  | some m =>
    let t := m.msgType l
    let mode := s.f (Fld.PRT_PTP_CFG_MODE p)
    let one := f.inPort == 64 && s.flag (Fld.PRT_PTP_CFG_ONE_STEP_EN p) && !m.twoStep l && m.version l == 2
    if m.version l = 2 ∧ s.ptpCorrected f.inPort p t = true then
      s.bump (Reg.PRT_PTP_CORRECTED p) |>.writePtp p m l (s.deltaC f p t stamp) none
    else if one && t == 0 && mode == 3 then
      s.bump (Reg.PRT_PTP_ONESTEP p) |>.writePtp p m l ((stamp % 65536 : Nat) : Int)
        (some (toBe 6 (stamp / unitsPerS) ++ toBe 4 (stamp % unitsPerS / 65536)))
    else if one && t == 3 && (mode == 3 || mode == 2) then
      let at_ := beAt l (m.off + 34) 6 * unitsPerS + beAt l (m.off + 40) 4 * 65536
      s.bump (Reg.PRT_PTP_ONESTEP p) |>.writePtp p m l ((stamp : Int) - (at_ : Int)) (some (toBe 10 0))
    else (l, s)

/-! ### The scheduler (R178, R179) -/

/-- The head of an eligible queue (R178). -/
def State.eligible (s : State) (p j : Nat) : Option Head :=
  match s.head p j with
  | none => none
  | some h => if s.headOpen p j h && s.fits p h.cls h.left then some h else none

/-- Can the port start a frame now? Egress transmits idle during a core reset (R358). -/
def State.canSend (s : State) (p : Nat) : Bool :=
  s.domainOn (portDomain p) && s.domainOn 6 && s.domainOn 7 && s.rst.core.isNone && s.portUp p && (s.port p).hold.isNone && (s.port p).tx.isNone
    && decide ((s.port p).busy ≤ s.clk)

/-- The quantum of a queue: that of its lowest-numbered class; 1,542 bytes on port 64 (R174, R180). -/
def State.quantum (s : State) (p j : Nat) : Nat :=
  if p = 64 then 1542 else s.f (Fld.SCH_DRR_QUANTUM_QUANTUM p (if s.fourQueues p ∧ j = 5 then 4 else j))

/-- The queue visited after `q`: TC5 down to TC0, then TC5 again. -/
def nextVisit (q : Nat) : Nat := if q = 0 then 5 else q - 1

/-- A queue's deficit. -/
def deficitOf (d : Store Nat) (q : Nat) : Nat := Store.get (fun _ => 0) d q

/-- Visit queues in turn until one may send (R179); `w` gives the wire length of an eligible queue's head. -/
def drrVisit (w : Nat → Option Nat) (quant : Nat → Nat) : Nat → Nat → Store Nat → Option (Nat × Store Nat)
  | 0, _, _ => none
  | n + 1, q, d =>
    match w q with
    | none => drrVisit w quant n (nextVisit q) d
    | some x =>
      let v := deficitOf d q + quant q
      let d := Store.set (fun _ => 0) d q v
      if x ≤ v then some (q, d) else drrVisit w quant n (nextVisit q) d

/-- The queue that the scheduler chooses, with the deficits after the visits it took. -/
def State.choose (s : State) (p : Nat) : Option (Nat × Store Nat) :=
  let pt := s.port p
  let w (j : Nat) : Option Nat := (s.eligible p j).map (·.wire)
  if (w 7).isSome then some (7, pt.deficit)
  else if (w 6).isSome then some (6, pt.deficit)
  else if ([5, 4, 3, 2, 1, 0]).all (fun j => (w j).isNone) then none
  else
    let fresh (q : Nat) := drrVisit w (s.quantum p) 1000 q pt.deficit
    match pt.drrAt with
    | none => fresh pt.drrNext
    | some q =>
      match w q with
      | some x => if x ≤ deficitOf pt.deficit q then some (q, pt.deficit) else fresh (nextVisit q)
      | none => fresh (nextVisit q)

/-- Count each head copy that waits for want of fit, once (R189). -/
def State.noteWaits (s : State) (p : Nat) : List Nat → State
  | [] => s
  | j :: l =>
    match s.head p j with
    | none => s.noteWaits p l
    | some h =>
      if s.headOpen p j h && !s.fits p h.cls h.left && !h.waited then
        let s := match s.frame h.id with
          | some f => s.setFrame { f with copies := f.copies.map (fun (c : Copy) => if c.port = p then { c with fitWaited := true } else c) }
          | none => s
        (s.bump (Reg.SCH_FIT_WAIT_CNT p)).noteWaits p l
      else s.noteWaits p l

/-- The visit after a copy of wire length `x` has gone from queue `q`. -/
def State.afterSend (s : State) (p q : Nat) (d : Store Nat) (x : Nat) : State :=
  let pt := s.port p
  if 6 ≤ q then s.setPort p { pt with deficit := d }
  else
    let empty := (s.queue (8 * p + q)).isEmpty && !(pt.cut.any (fun t => t.queue == q))
    let left := if empty then 0 else deficitOf d q - x
    s.setPort p { pt with
      deficit := Store.set (fun _ => 0) d q left
      drrAt := if empty then none else some q
      drrNext := nextVisit q }

/-! ### The pass -/

/-- A copy read for transmission: its bytes, or the exit it takes. Each bad word is counted and the copy leaves with one event 53, of the
first of them (R118). Corrections are noted; the reads of the copies of one
frame count as one (R119). -/
def State.readCopy (s : State) (f : Frame) (p : Nat) : Option (List Byte) × State :=
  let r := s.readFrame f
  let s := ((s.noteFixes (2 * f.id) false r.fixed).noteClean (2 * f.id) r.fixed f.cells).noteBad r.badWords
  match r.badWords with
  | (c, w) :: _ =>
    let last := f.copies.length = 1
    let s := s.raise 53 (c % 64) [(24, 4, c), (28, 1, w), (29, 1, 0), (30, 2, p), (32, 1, f.cls), (33, 1, if last then 1 else 0)]
    (none, (s.exitCopy f.id p (Reg.PRT_TX_BUF_UNCORR_DISCARD p)).flow)
  | [] =>
    let x := crc32c 0xFFFFFFFF r.data
    if x = f.integrity.toNat then (some r.data, s)
    else
      let s := s.bump Reg.BUF_INTEGRITY_CNT
      let s := s.raise 54 p [(28, 2, f.inPort), (30, 1, f.cls), (32, 4, f.integrity.toNat), (36, 4, x)]
      (none, (s.exitCopy f.id p (Reg.PRT_TX_INTEGRITY_DISCARD p)).flow)

/-- The flags of a stamp: calibration pending, then COMMON_FLAGS [2:0] (R214). -/
def State.stampFlags (s : State) (p : Nat) : Nat :=
  (if s.portCalibrating p then 1 else 0) + (s.commonFlags % 8) * 2

/-- The edited bytes of a copy, without its FCS, by the edits that its lookup read (R80, R143). -/
def Copy.edited (c : Copy) (f : Frame) (data : List Byte) : List Byte :=
  editBody c.edit c.rtag c.untag f.setDei (data.take (data.length - 4))

/-- Add the FCS. -/
def withFcs (l : List Byte) : List Byte := l ++ toLe 4 (fcs32 l)

/-- The time from the boundary of the block in which the preamble begins, the reserved slot, to that of the first byte after the SFD, in
units of 2^-40 ns: a block of 66 UI (R205, R207); eight code groups at 1000BASE-X. -/
def slotToBlock (speed : Nat) : Nat := if speed = 1 then 64 * 2 ^ 40 else uiUnits speed 66

/-- T_tick − φ of a block boundary that lies `ahead` behind the present tick's clock edge, in units of 2^-40 ns: module time at the first tick
at or after it, less the time from it to that tick (R204). -/
def State.boundaryTime (s : State) (ahead : Int) : Int :=
  let k := ((ahead * 10 + (16 * 2 ^ 40 - 1)) / (16 * 2 ^ 40)).toNat
  let tick := if s.domainOn 2 then (s.time.run k).now / 2 ^ 24 * 2 ^ 24 else s.tickTime
  (tick : Int) - (((k * 16 * 2 ^ 40 / 10 : Nat) : Int) - ahead)

/-- The egress stamp of a copy whose start block's boundary lies φ before the present tick (R204, R207): that of the block which holds the
first byte after the SFD, and the byte's position in it. -/
def State.egressStamp (s : State) (p : Nat) (beats : List (Nat × Bool)) (ui : Nat) : Nat :=
  roundUnits (s.boundaryTime ((slotToBlock (s.speed p) : Int) - s.phase p beats) + uiUnits (s.speed p) ui + s.txDelay p * 2 ^ 24)

/-- Launch a checked copy on a port: stamp, PTP, FCS, timestamp entry, transmission. -/
def State.launch (s : State) (p j : Nat) (f : Frame) (c : Copy) (data : List Byte) (beats : List (Nat × Bool)) (ui : Nat) : State :=
  let rate := rateOf (s.speed p)
  let stamp := s.egressStamp p beats ui
  let r := s.ptpEgress f p stamp (c.edited f data)
  let l := withFcs r.1
  let s := r.2
  let s := match f.tsTag with
    | some tag => s.pushTsf p ⟨tag, false, s.stampFlags p, stamp⟩
    | none => s
  let t : Tx := ⟨f.id, f.cls, j, s.clk, s.clk + byteTicks rate (l.length + 8), s.now16, stamp, s.express p f.cls, l, 0⟩
  s.setPort p { s.port p with tx := some t, busy := s.clk + byteTicks rate (l.length + 20) }

/-- A preempted copy resumes with the rest of its bytes. -/
def State.resume (s : State) (p : Nat) (t : Tx) : State :=
  let rate := rateOf (s.speed p)
  let left := t.data.length - t.sentBefore
  let pt := s.port p
  s.setPort p { pt with
    cut := pt.cut.filter (fun x => x.frame != t.frame)
    tx := some { t with startTick := s.clk, endTick := s.clk + byteTicks rate (left + 8), startTime := s.now16 }
    busy := s.clk + byteTicks rate (left + 20) }

/-- The port can start a frame: the scheduler chooses a copy, and the egress pass reads, checks, edits, stamps and sends
it (R130). -/
def State.transmit (s : State) (p : Nat) (beats : List (Nat × Bool)) (ui : Nat) : State :=
  if 64 ≤ p ∨ s.canSend p = false then s
  else
    let s := s.noteWaits p [7, 6, 5, 4, 3, 2, 1, 0]
    let s := s.endVisit p (fun j h => s.headOpen p j h && s.fits p h.cls h.left)
    match s.choose p with
    | none => s
    | some (j, d) =>
      match s.head p j with
      | none => s
      | some h =>
        match h.cut with
        | some t => (s.resume p t).afterSend p j d 0
        | none =>
          match s.frame h.id with
          | none => s
          | some f => match f.copy p with
            | none => s
            | some c =>
              let s := s.unlink f.id p
              match s.readCopy f p with
              | (none, s) => s.afterSend p j d 0
              | (some data, s) => (s.launch p j f c data beats ui).afterSend p j d h.wire

/-! ### Preemption (R181, R182) -/

/-- Wire bytes from the start of the present fragment to the close of its gate; none: it never closes. -/
def State.closeBytes (s : State) (p : Nat) (t : Tx) : Option Nat :=
  (s.closeIn p t.cls).map (fun c => (s.now16 + c - t.startTime) * rateOf (s.speed p) / (8 * 65536))

/-- Must a preemptable frame be cut at its earliest cut point: an express copy is the scheduler's choice, its gate has closed, or a hold
is in force (R182, R183)? -/
def State.cutNow (s : State) (p : Nat) (t : Tx) : Bool :=
  let exp := match s.choose p with
    | some (j, _) => (match s.head p j with | some h => s.express p h.cls | none => false)
    | none => false
  exp || !(s.gatesOut p).testBit t.cls || s.gateHold p

/-- The bytes at which the present fragment ends, where it is to be cut now: at once, or for a gate that closes before the frame ends at the
last cut point whose fragment, mCRC and gap end by the close, no earlier than the tick that reaches it (R190). -/
def State.cutPoint (s : State) (p : Nat) (t : Tx) : Option Nat :=
  let sent := s.sentNow p t
  let left := t.data.length - t.sentBefore
  if s.cutNow p t then some sent
  else match s.closeBytes p t with
    | none => none
    | some room =>
      let last := min (room - 24) (left - 64)
      if left + 20 ≤ room ∨ sent + rateOf (s.speed p) / 5 + 1 ≤ last then none else some (max sent last)

/-- A preemptable frame in transmission is cut: the fragment has at least 60 bytes before its mCRC, the rest at least 64. -/
def State.preempt (s : State) (p : Nat) : State :=
  match (s.port p).tx with
  | none => s
  | some t => match s.cutPoint p t with
    | none => s
    | some n =>
      if s.preemptActive p && !t.express && decide (60 ≤ n) && decide (t.sentBefore + n + 64 ≤ t.data.length) then
        let pt := s.port p
        let s := s.emit (.frame p ((t.data.drop t.sentBefore).take n) t.stamp false)
        let s := if t.sentBefore = 0 then s.bump (Reg.SCH_PREEMPT_CNT p) else s
        let s := s.bump (Reg.SCH_FRAG_CNT p)
        (s.setPort p { pt with
          tx := none
          cut := pt.cut ++ [{ t with sentBefore := t.sentBefore + n }]
          busy := t.startTick + byteTicks (rateOf (s.speed p)) (n + 24) }).sendControl p
      else s

/-! ### Verification of preemption (R181) -/

/-- SCH[n]_PREEMPT_STATUS.VERIFY. -/
def State.setVerify (s : State) (n v : Nat) : State := s.setF (Fld.SCH_PREEMPT_STATUS_VERIFY n) v

/-- ENABLE or VERIFY_DIS has been written over an old word: preemption stops, is active at once, or verification begins, also where
preemption was active without it. -/
def State.preemptConfig (s : State) (n : Nat) (old : Word) : State :=
  let pt := s.port n
  if !s.flag (Fld.SCH_PREEMPT_CFG_ENABLE n) then
    (s.setPort n { pt with verifyTries := 0, verifyBad := false, verifyFailed := false }).setVerify n 0
  else if s.flag (Fld.SCH_PREEMPT_CFG_VERIFY_DIS n) then s.setVerify n 2
  else if s.f (Fld.SCH_PREEMPT_STATUS_VERIFY n) = 0 ∨ (Fld.SCH_PREEMPT_CFG_VERIFY_DIS n).of old = 1 then
    ((s.setPort n { pt with verifyTries := 1, verifyAt := s.clk, verifyBad := false, verifyFailed := false }).emit (.mpacket n 0)).setVerify n 1
  else s

/-- VERIFY_MS has passed since the last verify mPacket, or 1 s since verification failed. -/
def State.verifyTimer (s : State) (n : Nat) : State :=
  let pt := s.port n
  let v := s.f (Fld.SCH_PREEMPT_STATUS_VERIFY n)
  if v = 1 ∧ s.passed pt.verifyAt (s.f (Fld.SCH_PREEMPT_CFG_VERIFY_MS n)) Config.ticksPerMs then
    if pt.verifyTries < 3 then
      (s.setPort n { pt with verifyTries := pt.verifyTries + 1, verifyAt := s.clk }).emit (.mpacket n 0)
    else
      let s := (s.setPort n { pt with verifyAt := s.clk, verifyFailed := true }).setVerify n 3
      s.raise 62 n [(24, 1, pt.verifyTries), (25, 1, if pt.verifyBad then 1 else 0)]
  else if v = 3 ∧ s.passed pt.verifyAt 1 Config.ticksPerS then
    ((s.setPort n { pt with verifyTries := 1, verifyAt := s.clk, verifyBad := false }).emit (.mpacket n 0)).setVerify n 1
  else s

/-- A response arrives; a malformed one is remembered as the cause of failure. -/
def State.verifyResponse (s : State) (n : Nat) (bad : Bool) : State :=
  let pt := s.port n
  if s.f (Fld.SCH_PREEMPT_STATUS_VERIFY n) ≠ 1 then s
  else if bad then s.setPort n { pt with verifyBad := true }
  else
    let s := (s.setPort n { pt with verifyFailed := false }).setVerify n 2
    if pt.verifyFailed then s.raiseEnd 62 n [(24, 1, pt.verifyTries), (25, 1, 0)] else s

end Sys2Proof.Machine
end

