-- ==== Sys2Proof/Machine/TblCmd.lean ====
section
/-! DEFINITION. The table commands (06_tables.md): inserting (R148), deleting, looking up and reading, at once or staged (R76,
R143). The layouts of their data stand in Machine/TblData.lean. -/

namespace Sys2Proof.Machine

/-! ### Checks -/

/-- The content that an index of the destination table has among some versions, for a check; `instead` is a change under test. -/
def State.destOf (s : State) (among : Entry → Bool) (instead : Option (Nat × Payload)) (i : Nat) : Option Payload :=
  let now := ((s.entries 9).filter (fun q => q.entry.index == i && among q.entry)).getLast?.map (·.entry.payload)
  match instead with
  | some (j, p) => if i = j then some p else now
  | none => now

/-- A list from an entry obeys R166: no loop, at most 65 entries, each port in at most one. -/
def listOk (get : Nat → Option Payload) : Nat → Nat → Nat → Bool
  | 0, _, _ => false
  | n + 1, i, seen =>
    match get i with
    | some (.dest ports _ nx last _ _ _) =>
      decide (ports &&& seen = 0) && (last || listOk get n nx (seen ||| ports))
    | _ => true

/-- Every list of the versions obeys R166, with a change put in: of an index, or of none. -/
def State.destListsOk (s : State) (among : Entry → Bool) (instead : Option (Nat × Payload)) : Bool :=
  let get := s.destOf among instead
  (match instead with | some (i, _) => listOk get 65 i 0 | none => true)
    && (s.entries 9).all (fun q => !among q.entry || listOk get 65 q.entry.index 0)

/-! ### Inserting -/

/-- What an insert answers. -/
structure Inserted where
  status : Nat
  handle : Nat
  replaced : Bool
  s : State

/-- Content that replaces an entry's: a FRER instance keeps its state. -/
def Payload.replacedBy (old new : Payload) : Payload :=
  match old, new with
  | .frer _ _ _ _ st, .frer h fl m r _ => .frer h fl m r { st with history := st.history % 2 ^ h }
  | .mac _ _ _ _ true h _, .mac m f t k st _ a => .mac m f t k st h a
  | _, p => p

/-- The live entry with a key, in one table, as host commands see it. -/
def State.byKey (s : State) (t : Nat) (k : Payload) : Option Placed :=
  (s.entries t).find? (fun q => sameKey q.entry.payload k && q.entry.vis.testBit s.parity)

/-- The staged version of an entry (R76). -/
def State.stagedBy (s : State) (t : Nat) (p : Entry → Bool) : Option Placed :=
  (s.entries t).find? (fun q => q.entry.vis.testBit 2 && p q.entry)

/-- TABLE_FULL is counted (TBL_STAT[t]_INS_FAIL). -/
def State.full (s : State) (t : Nat) : Inserted := ⟨stFull, 0, false, s.bump (Reg.TBL_STAT_INS_FAIL t)⟩

/-- Place a new entry of a table with a given index and generation. -/
def State.place (s : State) (t index gen vis : Nat) (p : Payload) : Option State :=
  s.addEntry t ⟨index, gen, p, vis, true, false, false, (s.table t).nextOrder⟩

/-- Rewrite the content of a live entry in place, its handle kept. -/
def State.overwrite (s : State) (t : Nat) (q : Placed) (p : Payload) : State :=
  s.mapEntries t (fun e => e == q.entry)
    (fun e => { e with payload := e.payload.replacedBy p, host := true, bad := false, copyBad := false })

/-- Place one entry of a shared table. `given` fixes the index and generation: a VID, or a staged replacement. -/
def State.placeNew (s : State) (t pick vis : Nat) (given : Option (Nat × Nat)) (p : Payload) : Inserted :=
  match (match given with | some x => some x | none => (s.newIndex t pick).map (fun i => (i, s.genOf t i))) with
  | none => s.full t
  | some (i, g) =>
    match s.place t i g vis p with
    | none => s.full t
    | some s' => ⟨stOk, (Entry.handle ⟨i, g, p, vis, true, false, false, 0⟩ t), given.isSome && t != 11, s'⟩

/-- One pipeline's copy of a static MAC entry is placed, under the entry's index and generation; a learned entry of the key gives way at
once, unless the insert is staged. -/
def State.placeCopy (s : State) (vis i g : Nat) (p : Payload) (t : Nat) : Option State :=
  let s := if vis = visBoth then s.removeEntries t (fun e => e.payload.isLearned && sameKey e.payload p) else s
  s.place t i g vis p

/-- Insert a static MAC entry into the tables of a list (R148): into all of them, or none. -/
def State.placeStatic (s : State) (vis i g : Nat) (p : Payload) : List Nat → Option State
  | [] => some s
  | t :: l => match s.placeCopy vis i g p t with
    | none => none
    | some s => s.placeStatic vis i g p l

/-- A static insert completes TABLE_FULL: counted for each pipeline whose table has no place, or for all where no index is free. -/
def State.staticFull (s : State) (vis : Nat) (index : Option Nat) (p : Payload) : Inserted :=
  let full := [0, 1, 2, 3].filter (fun t => match index with | some i => (s.placeCopy vis i (s.genOf 0 i) p t).isNone | none => true)
  ⟨stFull, 0, false, full.foldl (fun s t => s.bump (Reg.TBL_STAT_INS_FAIL t)) s⟩

/-- A static insert at a free index, or at that of the live entry that a staged one replaces. -/
def State.putStatic (s : State) (vis : Nat) (index : Option Nat) (replaced : Bool) (p : Payload) : Inserted :=
  match index with
  | none => s.staticFull vis none p
  | some i => match s.placeStatic vis i (s.genOf 0 i) p [0, 1, 2, 3] with
    | some s' => ⟨stOk, Entry.handle ⟨i, s.genOf 0 i, p, vis, true, false, false, 0⟩ 0, replaced, s'⟩
    | none => s.staticFull vis index p

/-- A static insert, at once (`vis` = both) or staged. Its key may stand in a pipeline as a learned entry, which it replaces. -/
def State.insertStatic (s : State) (pick vis : Nat) (p : Payload) : Inserted :=
  let learned := [0, 1, 2, 3].any (fun t => match s.byKey t p with | some q => q.entry.payload.isLearned | none => false)
  match (if vis = visBoth then none else s.stagedBy 0 (fun e => sameKey e.payload p)) with
  | some q =>
    ⟨stOk, q.entry.handle 0, true,
      [0, 1, 2, 3].foldl (fun s t => s.mapEntries t (fun e => e.vis.testBit 2 && sameKey e.payload p) (fun e => { e with payload := p })) s⟩
  | none =>
    match (s.byKey 0 p).filter (fun q => q.entry.payload.isStatic) with
    | some q =>
      if vis = visBoth then
        ⟨stOk, q.entry.handle 0, true,
          [0, 1, 2, 3].foldl (fun s t => match s.byKey t p with | some x => s.overwrite t x p | none => s) s⟩
      else s.putStatic vis (some q.entry.index) true p
    | none => s.putStatic vis (s.newStaticIndex pick) learned p

/-- An insert into a shared table, at once or staged. `key` is KEY for a keyless table. -/
def State.insertShared (s : State) (code t pick vis key : Nat) (p : Payload) : Inserted :=
  let staged := if keyless code then (if key = noHandle then none else s.stagedBy t (fun e => e.handle t == key))
    else s.stagedBy t (fun e => sameKey e.payload p)
  let live := if keyless code then (if key = noHandle then none else s.byHandle code key) else s.byKey t p
  match (if vis = visBoth then none else staged) with
  | some q => ⟨stOk, q.entry.handle t, true, s.overwrite t q p⟩
  | none =>
    match live with
    | some q =>
      if vis = visBoth then ⟨stOk, q.entry.handle t, true, s.overwrite t q p⟩
      else s.placeNew t pick vis (some (q.entry.index, q.entry.gen)) p
    | none =>
      if keyless code && key != noHandle then ⟨stNotFound, 0, false, s⟩
      else match p with
        | .vid v _ _ _ _ =>
          let r := s.placeNew t pick vis (some (v, s.genOf t v)) p
          { r with replaced := false }
        | _ => s.placeNew t pick vis none p

/-- An insert of any table. -/
def State.insertEntry (s : State) (code pick vis key : Nat) (p : Payload) : Inserted :=
  if code = 0x10 then s.insertStatic pick vis p
  else match tableOf code with
    | some t => s.insertShared code t pick vis key p
    | none => ⟨stFull, 0, false, s⟩

/-- The index that a keyless KEY or a key names now, for list and conflict checks. -/
def State.indexFor (s : State) (code key : Nat) (p : Payload) : Option Nat :=
  match tableOf code with
  | none => none
  | some t =>
    if keyless code then (if key = noHandle then none else some (key % 2 ^ 20))
    else (s.byKey t p).map (·.entry.index)

/-- Are the destination lists in order with an insert: at the index of its KEY, or at the one that it would take? A staged insert is
checked against the staged versions. -/
def State.destInsertOk (s : State) (staged : Bool) (pick key : Nat) (p : Payload) : Bool :=
  let among (e : Entry) : Bool := e.vis.testBit s.parity || (staged && e.vis.testBit 2)
  match p with
  | .dest _ _ _ _ _ _ _ =>
    (match (if key = noHandle then s.newIndex 9 pick else some (key % 2 ^ 20)) with
    | some i => s.destListsOk among (some (i, p))
    | none => true)
  | _ => true

/-- Once no frame of the older epoch remains, entries settle (R143). -/
def State.settle (s : State) : State := if s.olderFrames = 0 then s.settleTables s.parity allTables else s

/-! ### Commands -/

/-- Is the data's length right and passed as it must be (R38, R141)? -/
def lengthOk (e : JEntry) (want : Nat) : Bool := e.op 18 2 == want && (e.indirect || decide (want ≤ 32))

/-- Result of a check of a table operation's references: committed ones are checked at once, staged ones at commit. -/
def State.insertFault (s : State) (txn pick key : Nat) (p : Payload) : Option Nat :=
  if txn = 0 ∧ s.namesLive p = false then some 3
  else if s.destInsertOk (txn != 0) pick key p = false then some 3 else none

/-- The handle of the entry that an insert into a keyless table replaces; none for any other (R141). -/
def replacedHandle (code : Nat) (d : List Byte) : Nat := if keyless code then keyOf d else noHandle

/-- Does a pair in service carry a table operation to the owner as HANDLE_REQ (R322): one of the owner's own goes as CHANGE? -/
def State.asksOwner (s : State) : Bool := s.inService && !s.holds roleOwner

/-- A host table operation is carried to the partner as CHANGE (R322). -/
def State.changeEntry (s : State) (kind code handle : Nat) (d : List Byte) : State :=
  if s.mirroring then s.sendMir msgChange ([kind, code, handle] ++ d.map (·.toNat)) else s

/-- A deleted entry is told to the partner: by the owner as CHANGE, by the other unit as HANDLE_REQ with the handle in place of data, which
the owner answers with CHANGE; a CHANGE of its own would be a break (R380). DEDUCED (log 52). -/
def State.tellDelete (s : State) (code handle : Nat) : State :=
  if s.asksOwner then s.sendMir msgHandleReq ([code] ++ (toLe 4 handle).map (·.toNat)) else s.changeEntry 2 code handle []

/-- CMD_TBL_INSERT (R141, R142, R148, R76). `pick` is the module's choice of index. -/
def State.cmdInsert (s : State) (tag pick : Nat) : State :=
  match s.startable tag 0x10 with
  | none => s
  | some e =>
    let code := e.op 16 1
    let want := insertLen code
    if e.txn ≠ 0 ∧ s.canStage e.txn = false then s.finish tag stBusy 0 0
    else if want = 0 then s.malformed tag 3 16
    else if lengthOk e want = false then s.malformed tag 3 18
    else
      let d := e.data want
      let key := replacedHandle code d
      match parseInsert s.now16 code d with
      | .error r => s.malformed tag r 32
      | .ok p =>
        let s := if e.txn ≠ 0 then s
          else s.noteHostTable code (if keyless code && key != noHandle then some (key % 2 ^ 24) else none) (some p)
        match s.insertFault e.txn pick key p with
        | some r => s.malformed tag r 32
        | none =>
          if e.txn ≠ 0 then
            if (match s.txn.open_ with | some t => decide (16384 ≤ t.ops.length) | none => true) then s.malformed tag 3 0
            else
              let r := s.insertEntry code pick visStaged key p
              if r.status = stOk then
                let o : StagedOp := ⟨code, true, r.handle % 2 ^ 20, r.handle / 2 ^ 20 % 16, r.replaced, !keyless code, p⟩
                ((r.s.mark tag).stageOp o).finish tag stOk r.handle (if r.replaced then 1 else 0)
              else r.s.finish tag r.status 0 0
          else if s.asksOwner && (key == noHandle || (s.byHandle code key).isSome) then
            let s := (s.begin tag).sendMir msgHandleReq ([code] ++ d.map (·.toNat))
            { s with mir := { s.mir with requests := s.mir.requests ++ [(tag, code, d)] } }
          else
            let r := s.insertEntry code pick visBoth key p
            if r.status = stOk then
              let s := (r.s.mark tag).changeEntry 1 code r.handle d
              s.settle.finish tag stOk r.handle (if r.replaced then 1 else 0)
            else r.s.finish tag r.status 0 0

/-- The entry that a delete names: by handle, or by key; a pipeline's code finds only a learned entry (R141). -/
def State.deleteTarget (s : State) (code handle : Nat) (key : Option Payload) : Option Placed :=
  match key with
  | none => (s.byHandle code handle).filter (fun q => code != 0x10 || q.entry.payload.isStatic)
  | some k =>
    match tableOf code with
    | none => none
    | some t =>
      match s.byKey t k with
      | none => none
      | some q =>
        if code = 0x10 then (if q.entry.payload.isStatic then some q else none)
        else if code ≤ 0x14 then (if q.entry.payload.isLearned then some q else none)
        else some q

/-- Remove an entry from its tables, with what follows from a freed slot left to STASH_MOVE. -/
def State.deleteEntry (s : State) (code : Nat) (q : Placed) : State :=
  let isOne (e : Entry) : Bool := e.index == q.entry.index && e.payload.isStatic == q.entry.payload.isStatic && !(e.vis.testBit 2)
  (copiesOf code).foldl (fun s t => s.removeEntries t isOne) s

/-- CMD_TBL_DELETE (R141, R142, R76). -/
def State.cmdDelete (s : State) (tag : Nat) : State :=
  match s.startable tag 0x11 with
  | none => s
  | some e =>
    let code := e.op 16 1
    let h := e.op 20 4
    let byKey := h == noHandle
    let want := if byKey then deleteLen code else 0
    match tableOf code with
    | none => if e.txn ≠ 0 ∧ s.canStage e.txn = false then s.finish tag stBusy 0 0 else s.malformed tag 3 16
    | some t =>
      if e.txn ≠ 0 ∧ s.canStage e.txn = false then s.finish tag stBusy 0 0
      else if (byKey && want == 0) || !lengthOk e want then s.malformed tag 3 18
      else
        match (if byKey then (parseKey code (e.data want)).map some else .ok none) with
        | .error r => s.malformed tag r 32
        | .ok key =>
          let s := if e.txn ≠ 0 then s else s.noteHostTable code (if byKey then none else some (h % 2 ^ 24)) key
          if e.txn ≠ 0 ∧ (match s.txn.open_ with | some t => decide (16384 ≤ t.ops.length) | none => true) = true then
            s.malformed tag 3 0
          else
            match s.deleteTarget code h key with
            | none => s.finish tag stNotFound 0 0
            | some q =>
              if e.txn ≠ 0 then
                let o : StagedOp := ⟨code, false, q.entry.index, q.entry.gen, false, byKey, q.entry.payload⟩
                ((s.mark tag).stageOp o).finish tag stOk 0 0
              else if s.refCount t q.entry.index ≠ 0 then s.malformed tag 3 20
              else
                let s := ((s.mark tag).deleteEntry code q).tellDelete code (q.entry.handle t)
                s.settle.finish tag stOk 0 0

/-- An entry's content as read: a static entry's H is set when any pipeline's copy has it, and its A is 0 (R146). -/
def State.readPayload (s : State) (q : Placed) : Payload :=
  match q.entry.payload with
  | .mac m f t k true _ _ =>
    let h := [0, 1, 2, 3].any (fun p => (s.entries p).any (fun x => x.entry.index == q.entry.index && (match x.entry.payload with
      | .mac _ _ _ _ true true _ => true | _ => false)))
    .mac m f t k true h false
  | p => p

/-- The answer to a lookup or read that found an entry: PARITY when it is bad (R168), its data to the buffer when
INDIRECT is set. -/
def State.answerEntry (s : State) (tag t : Nat) (e : JEntry) (q : Placed) : State :=
  if q.entry.bad then (s.foundBad t q 1).finish tag stParity 0 0
  else
    let h := q.entry.handle t
    let s := if e.indirect then s.emit (.buffer (e.op 24 8) (entryData h (s.readPayload q))) else s
    s.finish tag stOk h 0

/-- The entry that a lookup key finds in a table without tries, as a frame of the present epoch would find it. -/
def State.lookupKey (s : State) (code t : Nat) (d : List Byte) : Except Nat (Option Placed) :=
  if code = 0x40 then
    let k := beAt d 0 60
    if k % 16 ≠ 0 ∨ k.testBit 36 = true then .error 2 else .ok (bestTernary k s.parity (s.entries 8))
  else (parseKey code d).map (s.byKey t)

/-- A lookup of an address in the tries: PARITY at a bad trie entry. -/
def State.answerRoute (s : State) (tag : Nat) (v6 : Bool) (e : JEntry) (addr : Nat) : State :=
  match s.trieFind v6 s.parity addr with
  | .miss => s.finish tag stNotFound 0 0
  | .bad st key => (s.foundTrie v6 st key 1).finish tag stParity 0 0
  | .leaf i => match s.byIndex (lpmTable v6) s.parity i with
    | some q => s.answerEntry tag (lpmTable v6) e q
    | none => s.finish tag stNotFound 0 0

/-- CMD_TBL_LOOKUP. -/
def State.cmdLookup (s : State) (tag : Nat) : State :=
  match s.startable tag 0x12 with
  | none => s
  | some e =>
    let code := e.op 16 1
    let want := lookupLen code
    match tableOf code with
    | none => s.malformed tag 3 16
    | some t =>
      if want = 0 then s.malformed tag 3 16
      else if lengthOk e want = false then s.malformed tag 3 18
      else if code = 0x30 ∨ code = 0x31 then s.answerRoute tag (code == 0x31) e (beAt (e.data want) 0 want)
      else match s.lookupKey code t (e.data want) with
        | .error r => s.malformed tag r 32
        | .ok none => s.finish tag stNotFound 0 0
        | .ok (some q) => s.answerEntry tag t e q

/-- CMD_TBL_READ: through the index map, whose entry carries parity as well (R150, R168). -/
def State.cmdRead (s : State) (tag : Nat) : State :=
  match s.startable tag 0x13 with
  | none => s
  | some e =>
    let code := e.op 16 1
    match tableOf code with
    | none => s.malformed tag 3 16
    | some t =>
      if e.op 18 2 ≠ 0 then s.malformed tag 3 18
      else match s.byHandle code (e.op 20 4) with
        | none => s.finish tag stNotFound 0 0
        | some q =>
          if s.mapBad t q.entry.index then (s.foundMap t q.entry.index 1).finish tag stParity 0 0
          else s.answerEntry tag t e q

/-! ### At the apply instant and at rollback (R79, R143) -/

/-- Clear one parity's visibility of an entry that a staged operation replaces or deletes; a learned entry gives way to a
static insert of its key (R78). -/
def State.hideOld (s : State) (par : Nat) (o : StagedOp) : State :=
  let old (e : Entry) : Bool := !(e.vis.testBit 2) && e.vis.testBit par &&
    ((e.index == o.index && e.gen == o.gen && e.payload.isStatic == o.payload.isStatic)
      || (o.insert && o.code == 0x10 && e.payload.isLearned && sameKey e.payload o.payload))
  (copiesOf o.code).foldl (fun s t => s.mapEntries t old (fun e => { e with vis := e.vis &&& (3 - 2 ^ par) })) s

/-- Staged entries become visible to the new epoch. -/
def State.showNew (s : State) (par : Nat) : List Nat → State
  | [] => s
  | t :: l => (s.mapEntries t (fun e => e.vis.testBit 2) (fun e => { e with vis := 2 ^ par })).showNew par l

/-- Apply the staged operations at the apply instant of the epoch with parity `par`. -/
def State.applyOps (s : State) (par : Nat) (ops : List StagedOp) : State :=
  (ops.foldl (fun s o => s.hideOld par o) s).showNew par allTables

/-- The references of R142 and the lists of R166 are in order over the staged set as the commit leaves it: once the older epoch has drained,
and its versions are freed. -/
def State.stagedRefsOk (s : State) : Bool :=
  match s.txn.open_ with
  | none => true
  | some t =>
    let par := (s.parity + 1) % 2
    let s' := (s.settleTables s.parity allTables).applyOps par t.ops
    let live (n : Nat × Nat) : Bool := (s'.entries n.1).any (fun q => q.entry.index == n.2 && q.entry.vis.testBit par)
    allTables.all (fun tb => (s'.entries tb).all (fun q =>
      !(q.entry.vis.testBit par) || (namesOf q.entry.payload).all live))
      && s'.destListsOk (fun e => e.vis.testBit par) none

/-- Place a recovered insert afresh after PD8 was cleared (R85); one that cannot be placed is lost. -/
def State.placeAfresh (s : State) (pick : Nat) : List StagedOp → State
  | [] => s
  | o :: l =>
    (if o.insert then
      if (keyless o.code && o.replaced) || !s.namesLive o.payload then s
      else
        let r := s.insertEntry o.code pick visBoth noHandle o.payload
        if r.status = stOk then r.s else s
    else if o.byKey then
      match s.deleteTarget o.code 0 (some o.payload) with
      | some q => s.deleteEntry o.code q
      | none => s
    else s).placeAfresh pick l

end Sys2Proof.Machine
end

