-- ==== Sys2Proof/Machine/Upkeep.lean ====
section
/-! DEFINITION. Background and timed work on tables and buffer: the flush (R154), aging (R155, R156), the scrubbers (R119,
R168), FRER intervals (R160), the malformed-rate test (R376) and the expiry of the port hold (R135). -/

namespace Sys2Proof.Machine

/-! ### The core rail (R339) -/

/-- The rail stands at nominal unless RAIL_SAVE is 1 or the governor is at step 2 or beyond (`deep`). -/
def State.railHeld (s : State) (deep : Bool) : State :=
  if s.flag Fld.PWR_CTRL_RAIL_SAVE || deep then s else s.setF Fld.PWR_CORE_RAIL_MV 800

/-! ### The flush (R154) -/

/-- START written: a flush begins, unless one runs. -/
def State.flushStart (s : State) : State :=
  if s.flag Fld.TBL_FLUSH_STATUS_BUSY then s
  else
    let byPort := if s.flag Fld.TBL_FLUSH_CTRL_BY_PORT then some (s.f Fld.TBL_FLUSH_CTRL_PORT) else none
    let byFid := if s.flag Fld.TBL_FLUSH_CTRL_BY_FID then some (s.f Fld.TBL_FLUSH_CTRL_FID) else none
    { (s.setFlag Fld.TBL_FLUSH_STATUS_BUSY true) with tbl := { s.tbl with flush := some (byPort, byFid), flushKept := [] } }

/-- Does a learned entry match a flush? -/
def flushMatch (f : Option Nat × Option Nat) : Payload → Bool
  | .mac _ fid tgt _ false _ _ => (f.1.all (· == tgt)) && (f.2.all (· == fid))
  | _ => false

/-- Is an entry of a pipeline one that a flush removes: it matches, and was not learned behind the walk? -/
def State.flushes (s : State) (f : Option Nat × Option Nat) (p : Nat) (e : Entry) : Bool :=
  flushMatch f e.payload && !s.tbl.flushKept.contains (p, e.index)

/-- The walk of the four tables ends: the matching learned entries are gone, and their number is shown. -/
def State.flushDone (s : State) : State :=
  match s.tbl.flush with
  | none => s
  | some f =>
    let n := ([0, 1, 2, 3].map (fun t => ((s.entries t).filter (fun q => s.flushes f t q.entry)).length)).sum
    let s := [0, 1, 2, 3].foldl (fun (u : State) t => u.removeEntries t (s.flushes f t)) s
    let s := { s with tbl := { s.tbl with flush := none, flushKept := [] } }
    (s.setReg Reg.TBL_FLUSH_CNT (BitVec.ofNat 32 n)).setFlag Fld.TBL_FLUSH_STATUS_BUSY false

/-! ### Aging (R155, R156) -/

/-- What a sweeper visit makes of a learned entry: none when it is removed. -/
def ageVisit : Payload → Option Payload
  | .mac m f t k st h a =>
    if h && !a then some (.mac m f t k st false false)
    else if !h && !a then some (.mac m f t k st false true)
    else if h then some (.mac m f t k st false false)
    else none
  | p => some p

/-- Where an entry stands on a walk of its table: its slot, the stash behind all slots. -/
def State.walkPos (s : State) (t : Nat) (q : Placed) : Nat := match q.place with | .slot n => n | .stash => s.cap t

/-- Units that a walk of a table takes at so many slots a unit. -/
def State.unitsOf (s : State) (t per : Nat) : Nat := (s.cap t + per - 1) / per

/-- Does the unit `k` of a walk of `t` reach a place: its slots, and the last unit the stash too? -/
def State.inUnit (s : State) (t per k : Nat) (q : Placed) : Bool :=
  decide (k * per ≤ s.walkPos t q) && (decide (s.walkPos t q < (k + 1) * per) || decide (s.unitsOf t per ≤ k + 1))

/-- The learned entries of a pipeline. -/
def State.learned (s : State) (p : Nat) : List Placed := (s.entries p).filter (fun q => q.entry.payload.isLearned)

/-- An entry as the sweep remembers it. -/
def Entry.mark (e : Entry) : Nat × Nat := (e.index, e.gen)

/-- What the next unit of a pipeline's sweep visits: the entries in its slots, and of those that the sweep found at its start any that
has moved behind it; none twice. -/
def State.unswept (s : State) (p : Nat) : List Placed :=
  let tb := s.table p
  (s.learned p).filter (fun q => !tb.sweepSeen.contains q.entry.mark &&
    (s.inUnit p 8192 tb.sweepPos q || (tb.sweepDue.contains q.entry.mark && decide (s.walkPos p q < (tb.sweepPos + 1) * 8192))))

/-- Visit the entries of a list. -/
def State.sweepEntries (s : State) (p : Nat) : List Placed → State
  | [] => s
  | q :: l =>
    let s := s.setTable p { s.table p with sweepSeen := (s.table p).sweepSeen ++ [q.entry.mark] }
    let s := if q.entry.bad then s.foundBad p q 2
      else match ageVisit q.entry.payload with
        | some x => s.mapEntries p (fun e => e == q.entry) (fun e => { e with payload := x })
        | none =>
          let s := (s.removeEntries p (fun e => e == q.entry)).bump (Reg.TBL_AGED_CNT p)
          s.setTable p { s.table p with sweepRemoved := (s.table p).sweepRemoved + 1 }
    s.sweepEntries p l

/-- A sweep begins with the learned entries that there are. -/
def State.sweepBegin (s : State) (p : Nat) : State :=
  s.setTable p { s.table p with sweepAt := s.clk, sweepRemoved := 0, sweepDue := (s.learned p).map (·.entry.mark), sweepSeen := [] }

/-- A unit has been done; the last one ends the sweep with event 50. -/
def State.sweepNext (s : State) (p : Nat) : State :=
  let tb := s.table p
  if s.unitsOf p 8192 ≤ tb.sweepPos + 1 then
    let s := s.raise 50 p [(24, 4, tb.sweepRemoved), (28, 4, (s.learned p).length), (32, 4, s.msSince tb.sweepAt)]
    s.setTable p { s.table p with sweepPos := 0, sweepDue := [], sweepSeen := [] }
  else s.setTable p { tb with sweepPos := tb.sweepPos + 1 }

/-- One unit of a pipeline's sweep: the visits to 8,192 slots, so that the visits of one entry lie a period apart (R155, R336). -/
def State.sweepUnit (s : State) (p : Nat) : State :=
  if s.flag Fld.TBL_AGE_CFG_ENABLE && s.domainOn 8 && decide (p < 4) then
    let s := if (s.table p).sweepPos = 0 then s.sweepBegin p else s
    (s.sweepEntries p (s.unswept p)).sweepNext p
  else s

/-! ### The table scrubber (R168) -/

/-- Check the entries of a list. -/
def State.scrubEntries (s : State) (t : Nat) : List Placed → State
  | [] => s
  | q :: l => (if q.entry.bad then s.foundBad t q 3 else s).scrubEntries t l

/-- Check a table's index map, and a longest-prefix table's trie. -/
def State.scrubMaps (s : State) (t : Nat) : State :=
  let s := (s.table t).badMap.foldl (fun (s : State) i => s.foundMap t i 3) s
  s.tbl.badTrie.foldl (fun (s : State) (x : Bool × Nat × Nat) => if lpmTable x.1 = t then s.foundTrie x.1 x.2.1 x.2.2 3 else s) s

/-- One unit of the scrubber's pass of a table: 16,384 entries by their slots; the last unit takes with it what has moved behind the pass,
index map and trie. -/
def State.scrubTable (s : State) (t : Nat) : State :=
  if s.flag Fld.TBL_SCRUB_CFG_ENABLE && s.domainOn 8 && decide (t < 12) then
    let k := (s.table t).scrubPos
    let last := decide (s.unitsOf t 16384 ≤ k + 1)
    let seen := if k = 0 then [] else (s.table t).scrubSeen
    let due := (s.entries t).filter (fun q => !seen.contains q.entry.order && (last || s.inUnit t 16384 k q))
    let s := s.scrubEntries t due
    if last then (s.scrubMaps t).setTable t { (s.scrubMaps t).table t with scrubPos := 0, scrubSeen := [] }
    else s.setTable t { s.table t with scrubPos := k + 1, scrubSeen := seen ++ due.map (·.entry.order) }
  else s

/-! ### FRER (R160) -/

/-- Rewrite a FRER instance's state. -/
def State.frerMap (s : State) (i : Nat) (g : FrerState → FrerState) : State :=
  s.mapEntries 5 (fun e => e.index == i)
    (fun e => match e.payload with | .frer h f m r st => { e with payload := .frer h f m r (g st) } | _ => e)

/-- A FRER instance's settings and state. -/
def State.frerOf (s : State) (i : Nat) : Option (Nat × Nat × Nat × Nat × FrerState) :=
  match (s.entries 5).find? (fun q => q.entry.index == i && q.entry.vis.testBit s.parity) with
  | some q => match q.entry.payload with | .frer h f m r st => some (h, f, m, r, st) | _ => none
  | none => none

/-- A one-second interval with rogue frames ends: event 59. -/
def State.frerRogueEnd (s : State) (i : Nat) : State :=
  match s.frerOf i with
  | some (_, _, _, _, st) =>
    if st.rogueCount ≠ 0 ∧ s.passed st.rogueSince 1 Config.ticksPerS then
      (s.frerMap i (fun x => { x with rogueCount := 0 })).raise 59 i
        ([(24, 4, st.rogueCount), (30, 2, st.rogueRecov)] ++ wireDetail 28 2 st.rogueSeq)
    else s
  | none => s

/-- The millisecond check of an instance: event 60 at the start and end of a burst. -/
def State.frerBurst (s : State) (i : Nat) : State :=
  match s.frerOf i with
  | some (_, _, m, _, st) =>
    if s.passed st.msSince 1 Config.ticksPerMs then
      let now := decide (st.msPassed + m < st.msElim)
      let d := [(24, 4, st.msElim), (28, 4, st.msPassed)]
      let s := s.frerMap i (fun x => { x with msSince := s.clk, msPassed := 0, msElim := 0, burst := now })
      if now && !st.burst then s.raise 60 i d else if !now && st.burst then s.raiseEnd 60 i d else s
    else s
  | none => s

/-- RESET_MS has passed since an instance last passed a frame: its recovery resets. -/
def State.frerReset (s : State) (i : Nat) : State :=
  match s.frerOf i with
  | some (_, _, _, r, st) =>
    if !st.takeAny && s.passed st.lastTick r Config.ticksPerMs then
      s.frerMap i (fun x => { x with takeAny := true, history := 0, resets := (x.resets + 1) % 2 ^ 32 })
    else s
  | none => s

/-! ### The buffer scrubber (R119) -/

/-- Read the four words of a free cell: corrected words are written back; an uncorrectable word is written with zeros and
read again, and the cell retires when it fails again, as `hard` says it does. -/
def State.scrubWords (s : State) (who c : Nat) (hard : Bool) : List Nat → State
  | [] => s
  | w :: l =>
    let a := 4 * c + w
    (match rsDecode (s.word a) with
     | .good bytes fixed => if fixed.isEmpty then s else (s.setWord a (cwPack bytes)).noteFix who true (c, w, fixed)
     | .bad =>
       let i := s.cell c
       let s := ((s.setWord a 0).setCell c { i with fixes := i.fixes.filter (fun x => x.1 != w) }).bump Reg.BUF_UNCORR_CNT
       let s := s.raise 53 (c % 64) [(24, 4, c), (28, 1, w), (29, 1, 1), (30, 2, 0xFFFF), (33, 1, if hard then 1 else 0)]
       if hard then s.retireCell c else s).scrubWords who c hard l

/-- Words of a free cell that are read clean end its run of corrections. -/
def State.scrubCell (s : State) (who c : Nat) (hard : Bool) : State :=
  let i := s.cell c
  if i.used || i.retired then s
  else
    let bad (w : Nat) : Bool := match rsDecode (s.word (4 * c + w)) with | .good _ f => !f.isEmpty | .bad => true
    let s := s.setCell c { i with fixes := i.fixes.filter (fun x => bad x.1) }
    let s := s.scrubWords who c hard [0, 1, 2, 3]
    if (s.cell c).marked then s.retireCell c else s

/-- The free cells of a bank that anything is known of: written words or noted corrections. -/
def State.scrubTargets (s : State) (b : Nat) : List Nat :=
  distinct ((s.buf.words.map (fun (e : Nat × BitVec 288) => e.1 / 4) ++ s.buf.cells.map (·.1)).filter (fun (c : Nat) => c % 64 == b))

/-- Scrub the free cells of a bank; `hard` lists the cells that fail again after zeros are written. -/
def State.scrubBank (s : State) (b : Nat) (hard : List Nat) : State :=
  if s.flag Fld.BUF_SCRUB_CFG_ENABLE && s.domainOn 7 && decide (b < 64) then
    let who := 2 * (s.reg Reg.BUF_SCRUB_PASS_CNT).toNat + 1
    let s := (s.scrubTargets b).foldl (fun s c => s.scrubCell who c (hard.contains c)) s
    let seen := if s.buf.scrubbed.contains b then s.buf.scrubbed else s.buf.scrubbed ++ [b]
    if seen.length = 64 then ({ s with buf := { s.buf with scrubbed := [] } }).bump Reg.BUF_SCRUB_PASS_CNT
    else { s with buf := { s.buf with scrubbed := seen } }
  else s

end Sys2Proof.Machine
end

