-- ==== Sys2Proof/Machine/Lantern.lean ====
section
/-! DEFINITION. Lantern sets (09_lantern_phase.md): words on the wire, sending, receiving and stamping, the 1 ms blocks and
their reports, the state of a port, fibre asymmetry and role swaps. -/

namespace Sys2Proof.Machine

/-! ### Words (R221, R222) -/

/-- One step of the CRC-12, a bit at a time, most significant first. -/
def crc12Bit (c : Nat) (b : Bool) : Nat :=
  let top := (c / 2048 % 2 == 1) != b
  (c * 2 % 4096) ^^^ (if top then 0x80F else 0)

/-- The bits of a number, most significant first. -/
def bitsOf (n v : Nat) : List Bool := (List.range n).map (fun i => v.testBit (n - 1 - i))

/-- The CRC-12 of a word: D1[7:3], D2 and D3 of its sets (each set as D1, D2, D3 in 24 bits). -/
def wordCrc (sets : List Nat) : Nat :=
  ((sets.map (fun x => bitsOf 21 (x / 2 ^ 19 * 2 ^ 16 + x % 2 ^ 16))).flatten).foldl crc12Bit 0xFFF

/-- The four sets of a word from its type, flags and payloads. -/
def wordSets (type flags : Nat) (payload : List Nat) : List Nat :=
  let body := payload.zipIdx.map (fun (x : Nat × Nat) =>
    (x.2 * 64 + type * 16 + (if flags.testBit x.2 then 8 else 0)) * 2 ^ 16 + x.1 % 2 ^ 16)
  let c := wordCrc body
  body.zipIdx.map (fun (x : Nat × Nat) => x.1 + (c / 2 ^ (9 - 3 * x.2) % 8) * 2 ^ 16)

/-- The 66-bit block of a set, in the order of R221: sync header, block type, D1, D2, D3, O-code and 28 zeros. -/
def setBlock (set : Nat) : BitVec 66 := BitVec.ofNat 66 (2 * 2 ^ 64 + 0x4B * 2 ^ 56 + set % 2 ^ 24 * 2 ^ 32 + 0xA * 2 ^ 28)

/-- The set that a block carries; none where sync header, block type or O-code are not a lantern set's. -/
def blockSet (b : BitVec 66) : Option Nat :=
  let v := b.toNat
  if v / 2 ^ 64 = 2 ∧ v / 2 ^ 56 % 256 = 0x4B ∧ v / 2 ^ 28 % 16 = 0xA then some (v / 2 ^ 32 % 2 ^ 24) else none

/-- The check bits of received sets. -/
def wordChk (sets : List Nat) : Nat := sets.foldl (fun a x => a * 8 + x / 2 ^ 16 % 8) 0

/-- The flags of received sets, set j at bit j. -/
def wordFlags (sets : List Nat) : Nat :=
  (sets.zipIdx.map (fun (x : Nat × Nat) => if x.1.testBit 19 then 2 ^ x.2 else 0)).sum

/-- Payload j of received sets. -/
def payload (sets : List Nat) (j : Nat) : Nat := sets.getD j 0 % 2 ^ 16

/-! ### The port's record -/

def State.lant (s : State) (n : Nat) : Lantern := Store.get (fun _ => {}) s.lan n
def State.setLant (s : State) (n : Nat) (l : Lantern) : State := { s with lan := Store.set (fun _ => {}) s.lan n l }

/-- PHS[n]_STATUS.STATE (R230). -/
def lsOff : Nat := 0
def lsWait : Nat := 1
def lsSeek : Nat := 2
def lsUp : Nat := 3
def lsSuspended : Nat := 4
def State.lanState (s : State) (n : Nat) : Nat := s.f (Fld.PHS_STATUS_STATE n)

/-- PHS[n]_SWAP_STATUS.STATE (R234). -/
def swBefore : Nat := 1
def swGap : Nat := 2
def swAfter : Nat := 3
def swDone : Nat := 4
def swFailed : Nat := 5
def State.swapState (s : State) (n : Nat) : Nat := s.f (Fld.PHS_SWAP_STATUS_STATE n)

/-- The linear millisecond of module time. -/
def State.nowMs (s : State) : Nat := s.now16 / (65536 * 1000000)

/-- May a port's link carry lantern sets: its type 10GBASE-R or faster, its link up (R219)? -/
def State.lanLink (s : State) (n : Nat) : Bool := decide (2 ≤ s.speed n) && s.portUp n

/-- Is lantern use of a port in SEEKING or UP, its link up and its lanes not withheld (R219, R308)? -/
def State.lanLive (s : State) (n : Nat) : Bool :=
  decide (n < 64) && s.domainOn (portDomain n) && s.lanLink n && s.flag (Fld.PHS_CFG_ENABLE n) && !s.laneWithheld n
    && (s.lanState n == lsSeek || s.lanState n == lsUp)

/-! ### Lines: ports 0..63, and MIR0 and MIR1 as 64 and 65 (R232) -/

/-- Does a line carry lantern sets: those of the Emulug lanes do while they are up. -/
def State.lineLive (s : State) (n : Nat) : Bool :=
  if n < 64 then s.lanLive n else decide (n < 66) && s.mirOn && (s.f Fld.MIR_STATUS_LANES_UP).testBit (n - 64)

/-- Is nothing else on the line: no copy, no pause frame (R223)? -/
def State.lineIdle (s : State) (n : Nat) : Bool := decide (64 ≤ n) || ((s.port n).tx.isNone && decide ((s.port n).busy ≤ s.clk))

/-- The SPEED code of a line: Emulug lanes run 25GBASE-R (R313). -/
def State.lineSpeed (s : State) (n : Nat) : Nat := if n < 64 then s.speed n else 3

/-- The delays between plane and contacts. -/
def State.lineRx (s : State) (n : Nat) : Int := if n < 64 then s.rxDelay n else signed 32 (Config.mirDelay (n - 64) 0).toNat
def State.lineTx (s : State) (n : Nat) : Int := if n < 64 then s.txDelay n else signed 32 (Config.mirDelay (n - 64) 1).toNat

/-- Count in a PHS register: the Emulug lanes have none. -/
def State.bumpLan (s : State) (n r : Nat) : State := if n < 64 then s.bump r else s

/-- A line starts to carry lantern sets: sending, SEQ and blocks start at the present. A word whose first sets came before is passed over. -/
def Lantern.anew (l : Lantern) (clk ms : Nat) : Lantern :=
  { l with
    sendAt := clk
    offers := 0
    seq := 0
    word := []
    wordMs := ms
    owed := none
    rx := []
    skip := true
    streak := 0
    peerGen := none
    next := ms
    blks := []
    old := []
    sums := []
    firstOk := none
    asyms := [] }

/-- An Emulug lane comes up. -/
def State.lanMirUp (s : State) (lane : Nat) : State := s.setLant (64 + lane) ((s.lant (64 + lane)).anew s.clk s.nowMs)

/-! ### Role swaps: failure -/

/-- A role swap fails with a cause. -/
def State.swapFail (s : State) (n cause : Nat) : State :=
  (s.setF (Fld.PHS_SWAP_STATUS_STATE n) swFailed).setF (Fld.PHS_SWAP_STATUS_FAIL n) cause

/-- Is a role swap between its first capture and its end? -/
def State.swapping (s : State) (n : Nat) : Bool :=
  s.swapState n == swBefore || s.swapState n == swGap || s.swapState n == swAfter

/-- The lantern of a port leaves UP: its own captures fail, and swaps that refer to it (R234). -/
def State.swapLeaveUp (s : State) (n : Nat) : State :=
  let s := if s.swapState n = swBefore ∨ s.swapState n = swAfter then s.swapFail n 1 else s
  (List.range 64).foldl (fun s p => if s.swapping p && (s.lant p).swap.ref == n then s.swapFail p 2 else s) s

/-- A step at either end fails a swap. -/
def State.swapStep (s : State) (n : Nat) : State := if n < 64 ∧ s.swapping n = true then s.swapFail n 6 else s

/-! ### State changes (R230, R231) -/

/-- Enter SEEKING: SEQ counts from 0, and 8 valid words and a VALID report are to be had again. `fresh` starts sending and blocks anew;
otherwise both go on, and blocks that have ended are still reported (R228). -/
def State.lanSeek (s : State) (n : Nat) (fresh : Bool) : State :=
  let l := s.lant n
  let a := if fresh then l.anew s.clk s.nowMs else { l with
    seq := 0
    streak := 0
    firstOk := none }
  (s.setLant n a).setF (Fld.PHS_STATUS_STATE n) lsSeek

/-- Leave UP for another state with event 73. -/
def State.lanLeave (s : State) (n cause : Nat) : State :=
  if s.lanState n = lsUp then
    let l := s.lant n
    let s := s.swapLeaveUp n
    s.raise 73 n [(24, 1, cause), (28, 4, min (s.msSince l.upAt) 0xFFFFFFFF), (32, 1, s.f (Fld.PHS_STATUS_BAD_1S n))]
  else s

/-- Enter a state in which nothing is sent. -/
def State.lanStop (s : State) (n state cause : Nat) : State :=
  let s := (s.lanLeave n cause).setF (Fld.PHS_STATUS_STATE n) state
  s.setLant n { s.lant n with word := [], rx := [], skip := true }

/-- ENABLE becomes 1. -/
def State.lanEnable (s : State) (n : Nat) : State :=
  if s.lanState n = lsOff then
    if s.lanLink n then s.lanSeek n true else s.setF (Fld.PHS_STATUS_STATE n) lsWait
  else s

/-- ENABLE becomes 0. -/
def State.lanDisable (s : State) (n : Nat) : State := if s.lanState n = lsOff then s else s.lanStop n lsOff 0

/-- The port's link comes up. -/
def State.lanLinkUp (s : State) (n : Nat) : State := if s.lanState n = lsWait ∧ s.lanLink n = true then s.lanSeek n true else s

/-- The port's link goes down. -/
def State.lanLinkDown (s : State) (n : Nat) : State :=
  if s.lanState n = lsSeek ∨ s.lanState n = lsUp then s.lanStop n lsWait 1 else s

/-- SUSPEND_S has elapsed. -/
def State.lanSuspendEnd (s : State) (n : Nat) : State :=
  if s.lanState n = lsSuspended ∧ s.passed (s.lant n).suspendAt (s.f (Fld.PHS_CFG_SUSPEND_S n)) Config.ticksPerS then
    if s.lanLink n then s.lanSeek n true else s.setF (Fld.PHS_STATUS_STATE n) lsWait
  else s

/-- No valid word for 10 ms. -/
def State.lanTimeout (s : State) (n : Nat) : State :=
  if s.lanState n = lsUp ∧ s.passed (s.lant n).lastGood 10 Config.ticksPerMs then (s.lanLeave n 2).lanSeek n false else s

/-- SEEKING becomes UP once 8 consecutive valid words and one VALID report have been had: event 72. -/
def State.lanMaybeUp (s : State) (n : Nat) : State :=
  let l := s.lant n
  match l.firstOk with
  | some (k, d, th) =>
    if s.lanState n = lsSeek ∧ 8 ≤ l.streak then
      let s := (s.setLant n { l with upAt := s.clk }).setF (Fld.PHS_STATUS_STATE n) lsUp
      s.raise 72 n [(24, 1, s.speed n), (25, 1, s.f (Fld.PHS_ASYM_CFG_SOURCE n)), (26, 2, k), (28, 6, unsigned 48 d),
        (34, 6, unsigned 48 th)]
    else s
  | none => s

/-- A whole second of module time has passed: every BAD_1S returns to 0. -/
def State.lanBadReset (s : State) : State :=
  let sec := s.now16 / unitsPerS
  if sec = s.lanSec then s
  else { ((List.range 64).foldl (fun s n => s.setF (Fld.PHS_STATUS_BAD_1S n) 0) s) with lanSec := sec }

/-- A bad word (R225, R231, R383): counted, event 71; the 16th of a second suspends. On an Emulug lane it is only discarded. -/
def State.lanBad (s : State) (n reason : Nat) : State :=
  if 64 ≤ n then s
  else
  let s := (s.lanBadReset).bump (Reg.PHS_BAD_WORDS n)
  let bad := min 16 (s.f (Fld.PHS_STATUS_BAD_1S n) + 1)
  let s := s.setF (Fld.PHS_STATUS_BAD_1S n) bad
  let s := s.setLant n { s.lant n with streak := if s.lanState n = lsSeek ∧ (s.lant n).streak < 8 then 0 else (s.lant n).streak }
  let s := s.raise 71 n [(28, 1, reason), (29, 1, bad), (30, 1, if bad = 16 then 1 else 0)]
  if bad = 16 then
    let s := (s.bump (Reg.PHS_SUSPEND_CNT n)).lanStop n lsSuspended 3
    s.setLant n { s.lant n with suspendAt := s.clk }
  else s

/-! ### Sending (R223) -/

/-- COUNT and M of a block's summary. -/
def LBlock.summary (b : LBlock) : Nat × Nat :=
  if b.n = 0 ∨ b.flags.testBit 2 then (0, Config.emptyMean.toNat)
  else
    let m := ratio b.sum b.n
    (min b.n 255, if m.natAbs < 2 ^ 39 then unsigned 40 m else 2 ^ 39)

/-- The sender's flags: step generation, holdover, warming, supply warning. -/
def State.lanFlags (s : State) : Nat :=
  s.f Fld.TIM_STATUS_STEP_GEN + (if s.flag Fld.TIM_STATUS_HOLDOVER then 2 else 0)
    + (if s.flag Fld.TIM_STATUS_WARMING then 4 else 0) + (if s.supplyWarn then 8 else 0)

/-- The summary that the next word to start carries, as BLOCK, COUNT and M: that of the block that has just ended when no word has started
since, or one owed from before a step. -/
def State.summaryDue (s : State) (l : Lantern) : Option (Nat × Nat × Nat) :=
  match l.owed with
  | some x => some x
  | none =>
    if l.wordMs < s.nowMs then some ((s.nowMs - 1) % 2 ^ 16, (Store.get (fun _ => ({} : LBlock)) l.blks (s.nowMs - 1)).summary)
    else none

/-- The sets of the word that starts with a set whose egress stamp is given: the summary that is due, otherwise a time word. -/
def State.newWord (s : State) (l : Lantern) (stamp : Nat) : List Nat :=
  match s.summaryDue l with
  | some (k, c, m) => wordSets 1 s.lanFlags [k, c * 256 + m / 2 ^ 32, m / 2 ^ 16 % 2 ^ 16, m % 2 ^ 16]
  | none =>
    let ns := stamp / 65536
    wordSets 0 s.lanFlags [l.seq, ns / 2 ^ 16 % 2 ^ 16, ns % 2 ^ 16, stamp % 2 ^ 16]

/-- The record after a word has started. -/
def State.wordBegun (s : State) (l : Lantern) (sets : List Nat) : Lantern :=
  match l.owed, s.summaryDue l with
  | some _, _ => { l with word := sets, owed := none }
  | none, some _ => { l with word := sets, wordMs := s.nowMs }
  | none, none => { l with word := sets, seq := (l.seq + 1) % 65536 }

/-- Ticks that 4,096 blocks take, times the rate: a block is 64 bits of data. -/
def offerTicks : Nat := 163840

/-- The offers whose set has found no idle block before the next offer are skipped: the latest offer alone still stands (R223). -/
def State.lanSkip (s : State) (n : Nat) : State :=
  let l := s.lant n
  let made := (s.clk - l.sendAt) * rateOf (s.lineSpeed n) / offerTicks
  if l.offers + 1 < made then
    let t := s.setLant n { l with offers := made - 1 }
    if n < 64 then t.bumpBy (Reg.PHS_TX_SKIPPED n) (made - 1 - l.offers) else t
  else s

/-- An offer: the set in hand replaces an idle block between its offer and the next, or with none by then is skipped. -/
def State.lanOffer (s : State) (n : Nat) (idle : Bool) (beats : List (Nat × Bool)) : State :=
  if s.lineLive n = false then s
  else
    let s := s.lanSkip n
    let l := s.lant n
    if idle = true ∧ (l.offers + 1) * offerTicks ≤ (s.clk - l.sendAt) * rateOf (s.lineSpeed n) ∧ s.lineIdle n = true then
      let stamp := stampOf s.tickTime (s.phase n beats) (s.lineSpeed n) 0 (s.lineTx n)
      let l := if l.word.isEmpty then s.wordBegun l (s.newWord l stamp) else l
      let t := s.setLant n { l with word := l.word.tail, offers := l.offers + 1 }
      (t.bumpLan n (Reg.PHS_TX_SETS n)).emit (.lantern n (setBlock (l.word.headD 0)) stamp)
    else s

/-! ### Receiving (R224, R225, R227) -/

/-- TX_NS extended to the value nearest the receive stamp, with its fraction: the sender's stamp. -/
def extendTx (rx ns frac : Nat) : Int :=
  let r := rx / 65536
  ((r : Int) + signed 32 ((ns + 2 ^ 32 - r % 2 ^ 32) % 2 ^ 32)) * 65536 + (frac : Int)

/-- Change the block of a receive stamp: one from before a step where the stamp is. -/
def Lantern.mapBlock (l : Lantern) (stamp : Nat) (g : LBlock → LBlock) : Lantern :=
  let k := stamp / (65536 * 1000000)
  if l.rxOld then { l with old := l.old.map (fun (o : OldBlock) => if o.k = k then { o with block := g o.block } else o) }
  else { l with blks := Store.set (fun _ => {}) l.blks k (g (Store.get (fun _ => {}) l.blks k)) }

/-- A sample joins a block. -/
def LBlock.sample (b : LBlock) (x : Int) (cal supply : Bool) : LBlock :=
  { n := b.n + 1, sum := b.sum + x, flags := b.flags ||| (if cal then 1 else 0) ||| (if supply then 2 else 0) }

/-- A block is discarded for a step. -/
def LBlock.stepped (b : LBlock) : LBlock := { b with flags := b.flags ||| 4 }

/-- A word from a line shows the peer's step generation: the swaps of the port, and those that take it as reference to the same peer, fail
where it is not the one that they began with (R234). -/
def State.swapPeer (s : State) (n gen : Nat) : State :=
  (List.range 64).foldl (fun (s : State) p =>
    let w := (s.lant p).swap
    if (p = n ∨ w.ref = n) ∧ w.gen.any (· != gen) = true then s.swapStep p else s) s

/-- A complete word with a good CRC. -/
def State.lanGood (s : State) (n : Nat) (sets : List Nat) : State :=
  let fl := wordFlags sets
  let s := if n < 64 then (s.setF (Fld.PHS_STATUS_PEER_HOLDOVER n) (fl / 2 % 2)).setF (Fld.PHS_STATUS_PEER_WARMING n) (fl / 4 % 2) else s
  let l := s.lant n
  let stamp := l.rxStamp
  let stepped := match l.peerGen with | some g => g != fl % 2 | none => false
  let l := { l with streak := min 8 (l.streak + 1), lastGood := s.clk, peerGen := some (fl % 2) }
  let l := if stepped then l.mapBlock stamp LBlock.stepped else l
  let l := if (sets.headD 0) / 2 ^ 20 % 4 = 0 then
      let tx := extendTx stamp (payload sets 1 * 65536 + payload sets 2) (payload sets 3)
      l.mapBlock stamp (fun b => b.sample ((stamp : Int) - tx) l.rxCal (fl.testBit 3 || l.rxSupply))
    else
      let p1 := payload sets 1
      let m := (p1 % 256) * 2 ^ 32 + payload sets 2 * 2 ^ 16 + payload sets 3
      { l with sums := l.sums.filter (fun x => x.1 != payload sets 0) ++ [(payload sets 0, p1 / 256, m, fl.testBit 3)] }
  let s := s.setLant n l
  if n < 64 then (s.swapPeer n (fl % 2)).lanMaybeUp n else s

/-- A set that ends a word: the CRC, then the type. -/
def State.lanWord (s : State) (n : Nat) (sets : List Nat) : State :=
  if wordCrc sets ≠ wordChk sets then s.lanBad n 1
  else if 2 ≤ (sets.headD 0) / 2 ^ 20 % 4 then s.lanBad n 3
  else s.lanGood n sets

/-- A set joins the word in progress. The record after it, whether a word is bad for the order of its sets, and the sets of a word that it
completes. After a broken word the rest of it is passed over, up to the next set 0. -/
def Lantern.feed (l : Lantern) (set stamp : Nat) (cal supply : Bool) : Lantern × Bool × Option (List Nat) :=
  let i := set / 2 ^ 22 % 4
  let begun : Lantern := { l with rx := [set], rxStamp := stamp, rxCal := cal, rxSupply := supply, rxOld := false, skip := false }
  if i = 0 then (begun, !l.rx.isEmpty, none)
  else if i = l.rx.length then
    if i = 3 then ({ l with rx := [] }, false, some (l.rx ++ [set])) else ({ l with rx := l.rx ++ [set] }, false, none)
  else ({ l with rx := [], skip := true }, !l.skip, none)

/-- One set crosses the timestamp plane and is replaced by an idle block. -/
def State.lanSet (s : State) (n set stamp : Nat) : State :=
  let s := s.bumpLan n (Reg.PHS_RX_SETS n)
  let st := s.lanState n
  if n < 64 ∧ (st = lsOff ∨ st = lsWait) then s.bump (Reg.PHS_RX_UNSOLICITED n)
  else if s.lineLive n then
    let r := (s.lant n).feed set stamp (decide (n < 64) && s.portCalibrating n) s.supplyWarn
    let s := s.setLant n r.1
    let s := if r.2.1 then s.lanBad n 2 else s
    match r.2.2 with
    | some w => s.lanWord n w
    | none => s
  else s

/-- Blocks that cross the plane of a line, each with the beats of the lane's phase detector; those of another kind are not lantern sets. -/
def State.lanReceive (s : State) (n : Nat) : List (BitVec 66 × List (Nat × Bool)) → State
  | [] => s
  | (block, beats) :: l =>
    match blockSet block with
    | some set =>
      if s.domainOn (if n < 64 then portDomain n else 5) then
        (s.lanSet n set (stampOf s.tickTime (s.phase n beats) (s.lineSpeed n) 0 (-(s.lineRx n)))).lanReceive n l
      else s
    | none => s.lanReceive n l

/-! ### Reports (R228, R229) -/

/-- The asymmetry that applies to a block (R233). -/
def State.asymFor (s : State) (n k : Nat) : Int :=
  match (s.lant n).asyms.find? (fun x => decide (k < x.1)) with
  | some x => x.2
  | none => if n < 64 then s.pair48 (Reg.PHS_ASYM_USED_LO n) (Reg.PHS_ASYM_USED_HI n) else s.pair48 Reg.MIR_ASYM_LO Reg.MIR_ASYM_HI

/-- Add a VALID block to a capture: its time in ms, D and θ. -/
def Capture.add (c : Capture) (t d th : Int) : Capture :=
  let c := { c with n := c.n + 1, t := c.t + t, tt := c.tt + t * t, d := c.d + d, dd := c.dd + d * d }
  { c with th := c.th + th, thth := c.thth + th * th, tth := c.tth + t * th }

/-- Add a VALID block of the reference port. -/
def Capture.addRef (c : Capture) (d : Int) : Capture := { c with rn := c.rn + 1, rd := c.rd + d, rdd := c.rdd + d * d }

/-- A swap's running capture changed. -/
def State.captureMap (s : State) (n : Nat) (g : Capture → Capture) : State :=
  let l := s.lant n
  if s.swapState n = swBefore then s.setLant n { l with swap := { l.swap with before := g l.swap.before } }
  else if s.swapState n = swAfter then s.setLant n { l with swap := { l.swap with after := g l.swap.after } }
  else s

/-- A report counts for the captures that run: those of its own port, and those that take it as reference. -/
def State.captureReport (s : State) (n k : Nat) (r : Option (Int × Int)) : State :=
  let ms0 := (s.lant n).swap.ms0
  match r with
  | none => s
  | some (d, th) =>
    let s := s.captureMap n (fun (c : Capture) => c.add ((k : Int) - (ms0 : Int)) d th)
    (List.range 64).foldl (fun s p =>
      if (s.lant p).swap.ref == n && s.swapping p then s.captureMap p (fun (c : Capture) => c.addRef d) else s) s

/-- What a block and its peer summary (COUNT, M) give: D = m_out − m_in, d, θ, and whether a direction is out of range. -/
structure BlockResult where
  enough : Bool
  oob : Bool
  big : Int
  d : Int
  theta : Int

/-- R228 for a block. -/
def blockResult (b : LBlock) (minWords count m : Nat) (a : Int) : BlockResult :=
  let mi := if b.n = 0 then 0 else ratio b.sum b.n
  let mo := signed 40 m
  { enough := decide (minWords ≤ b.n) && decide (minWords ≤ count)
    oob := decide (2 ^ 39 ≤ mi.natAbs) || m == 2 ^ 39
    big := mo - mi
    d := ratio (mo + mi) 2
    theta := ratio (mo - mi) 2 - a }

/-- Write a report's header and keep its values, which a read of RPT_SEQ shows. -/
def State.putReport (s : State) (n header : Nat) (values : Option (Int × Int)) (out own : Nat) : State :=
  let s := if s.flag (Fld.PHS_RPT_SEQ_NEW n) then s.bump (Reg.PHS_RPT_MISSED n) else s
  let l := s.lant n
  let (d, th) := values.getD (l.latest.1, l.latest.2.1)
  (s.setLant n { l with latest := (d, th, out, own) }).setReg (Reg.PHS_RPT_SEQ n) (BitVec.ofNat 32 (header + 2 ^ 24))

/-- The block that a line reports next: its number, what was gathered, its asymmetry, whether it has ended, and whether 2 ms have passed
since. -/
structure Pick where
  k : Nat
  block : LBlock
  asym : Int
  ended : Bool
  late : Bool

/-- Blocks from before a step come first. -/
def State.lanPick (s : State) (n : Nat) : Pick :=
  let l := s.lant n
  match l.old with
  | o :: _ => ⟨o.k, o.block, o.asym, true, decide (o.until_ ≤ s.clk)⟩
  | [] => ⟨l.next, Store.get (fun _ => {}) l.blks l.next, s.asymFor n l.next, decide (l.next < s.nowMs), decide (l.next + 3 ≤ s.nowMs)⟩

/-- The peer's summary of a block, if it has come: COUNT, M, supply-disturbed. -/
def State.lanSum (s : State) (n k : Nat) : Option (Nat × Nat × Bool) :=
  ((s.lant n).sums.find? (fun x => x.1 == k % 65536)).map (·.2)

/-- A block and its peer summary: what they give (R228). -/
structure Report where
  res : BlockResult
  valid : Bool
  sparse : Bool
  coarse : Bool
  supply : Bool

def Pick.report (p : Pick) (minWords : Nat) (sum : Option (Nat × Nat × Bool)) : Report :=
  let r := blockResult p.block minWords ((sum.map (·.1)).getD 0) ((sum.map (·.2.1)).getD 0) p.asym
  let step := p.block.flags.testBit 2
  let valid := !step && sum.isSome && r.enough && !r.oob
  ⟨r, valid, !step && !(sum.isSome && r.enough), !step && (r.oob || (valid && decide (100000 * 65536 ≤ r.theta.natAbs))),
    p.block.flags.testBit 1 || (sum.map (·.2.2)).getD false⟩

/-- The block has been reported: its peer summary is used, and those of blocks before it are of no use. -/
def State.lanAdvance (s : State) (n : Nat) : State :=
  let l := s.lant n
  let k := (s.lanPick n).k
  match l.old with
  | _ :: o => s.setLant n { l with
      old := o
      sums := l.sums.filter (fun x => x.1 != k % 65536) }
  | [] => s.setLant n { l with
      next := k + 1
      sums := l.sums.filter (fun x => decide (1 ≤ (x.1 + 65536 - k % 65536) % 65536) && decide ((x.1 + 65536 - k % 65536) % 65536 < 32768))
      blks := l.blks.filter (fun (e : Nat × LBlock) => decide (k ≤ e.1 + 4))
      asyms := l.asyms.filter (fun x => decide (k + 1 < x.1)) }

/-- The next block is reported, with the peer's summary if it has come. -/
def State.lanReport (s : State) (n : Nat) : State :=
  let p := s.lanPick n
  let sum := s.lanSum n p.k
  let r := p.report (s.f (Fld.PHS_CFG_MIN_WORDS n)) sum
  let bit (x : Bool) (i : Nat) : Nat := if x then 2 ^ i else 0
  let header := p.k % 2 ^ 16 + bit r.valid 16 + bit r.sparse 17 + bit (p.block.flags.testBit 0) 18 + bit r.supply 19
    + bit (p.block.flags.testBit 2) 20 + s.f (Fld.PHS_STATUS_PEER_HOLDOVER n) * 2 ^ 21 + s.f (Fld.PHS_STATUS_PEER_WARMING n) * 2 ^ 22
    + bit r.coarse 23
  let s := s.lanAdvance n
  let l := s.lant n
  let s := if r.valid && l.firstOk.isNone then s.setLant n { l with firstOk := some (p.k % 2 ^ 16, r.res.d, r.res.theta) } else s
  let s := s.putReport n header (if r.valid then some (r.res.d, r.res.theta) else none) ((sum.map (·.1)).getD 0) (min p.block.n 255)
  let s := if r.sparse then s.bump (Reg.PHS_SPARSE_CNT n) else s
  (s.captureReport n p.k (if r.valid then some (r.res.big, r.res.theta) else none)).lanMaybeUp n

/-- A block has ended and its peer summary has come: it is reported. -/
def State.lanBlock (s : State) (n : Nat) : State :=
  let p := s.lanPick n
  if s.lanLive n && p.ended && (s.lanSum n p.k).isSome then s.lanReport n else s

/-- A block's peer summary has not come 2 ms after the block's end: it is reported SPARSE. -/
def State.lanSparse (s : State) (n : Nat) : State :=
  let p := s.lanPick n
  if s.lanLive n && p.late && (s.lanSum n p.k).isNone then s.lanReport n else s

/-- A read of PHS[n]_RPT_SEQ: the header, NEW cleared, the values frozen at that report (R229). -/
def State.readReport (s : State) (n : Nat) : Word × State :=
  let w := s.reg (Reg.PHS_RPT_SEQ n)
  let (d, th, out, own) := (s.lant n).latest
  let s := s.setFlag (Fld.PHS_RPT_SEQ_NEW n) false
  let s := s.setPair48 (Reg.PHS_RPT_DELAY_LO n) (Reg.PHS_RPT_DELAY_HI n) d
  let s := s.setPair48 (Reg.PHS_RPT_OFFSET_LO n) (Reg.PHS_RPT_OFFSET_HI n) th
  (w, s.setReg (Reg.PHS_RPT_COUNT n) (BitVec.ofNat 32 (out + own * 65536)))

/-- A step of this module's time, from the millisecond `was`: the blocks begun before it keep what they gathered until they are reported, the
one in hand and the one that the new time lies in are discarded, and a summary not yet begun stays owed. -/
def State.lineStep (s : State) (n was : Nat) : Lantern :=
  let l := s.lant n
  let now := s.nowMs
  let blk (k : Nat) : LBlock := Store.get (fun _ => {}) l.blks k
  let ks := ((List.range (was + 1 - l.next)).map (l.next + ·)).filter (· != now)
  let keep (k : Nat) : OldBlock :=
    ⟨k, if k = was then (blk k).stepped else blk k, s.clk + (k + 3 - was) * Config.ticksPerMs, s.asymFor n k⟩
  { l with
    old := l.old ++ ks.map keep
    next := now
    blks := [(now, LBlock.stepped {})]
    asyms := []
    rxOld := true
    wordMs := now
    owed := if l.owed.isNone && decide (l.wordMs < was) then some ((was - 1) % 2 ^ 16, (blk (was - 1)).summary) else l.owed }

/-- A step has been applied here: blocks that live lines gather are settled, captures fail (R227, R234), and an asymmetry used before has no
block left where nothing is gathered (R233). -/
def State.lanStep (s : State) (was : Nat) : State :=
  (s.lan.map (·.1)).foldl (fun s n =>
    (s.setLant n (if s.lineLive n then s.lineStep n was else { s.lant n with asyms := [] })).swapStep n) s

/-! ### Asymmetry (R233) -/

/-- The value that SOURCE selects, in units of 2^-16 ns: (L_tx n_tx − L_rx n_rx)/(2c) for entered fibre data. -/
def State.asymValue (s : State) (n : Nat) : Int :=
  let src := s.f (Fld.PHS_ASYM_CFG_SOURCE n)
  if src = 0 then 0
  else if src = 1 then
    ratio ((((s.f (Fld.PHS_FIB_TX_LEN_METRES n) * s.f (Fld.PHS_FIB_TX_NG_NG n) : Nat) : Int)
      - ((s.f (Fld.PHS_FIB_RX_LEN_METRES n) * s.f (Fld.PHS_FIB_RX_NG_NG n) : Nat) : Int)) * 3276800) 299792458
  else if src = 2 then s.pair48 (Reg.PHS_SWAP_RESULT_LO n) (Reg.PHS_SWAP_RESULT_HI n)
  else s.pair48 (Reg.PHS_ASYM_HOST_LO n) (Reg.PHS_ASYM_HOST_HI n)

/-- The value in force may have changed: it takes effect from the next block, with event 74. -/
def State.asymChanged (s : State) (n cause : Nat) : State :=
  let new := s.asymValue n
  let old := s.pair48 (Reg.PHS_ASYM_USED_LO n) (Reg.PHS_ASYM_USED_HI n)
  if new = old then s
  else
    let l := s.lant n
    let from_ := s.nowMs + 1
    let same := match l.asyms.getLast? with | some x => x.1 == from_ | none => false
    let s := s.setLant n { l with asyms := if same then l.asyms else l.asyms ++ [(from_, old)] }
    let s := s.setPair48 (Reg.PHS_ASYM_USED_LO n) (Reg.PHS_ASYM_USED_HI n) new
    s.raise 74 n [(24, 1, s.f (Fld.PHS_ASYM_CFG_SOURCE n)), (25, 1, cause), (28, 6, unsigned 48 old), (34, 6, unsigned 48 new),
      (40, 2, if cause = 2 then s.f (Fld.PHS_SWAP_UNC_PS n) else 0)]

/-! ### Role swaps (R234) -/

/-- CAPTURE_BEFORE. -/
def State.swapBegin (s : State) (n : Nat) : State :=
  if s.swapping n then s
  else
    let ref := s.f (Fld.PHS_SWAP_CTRL_REF_PORT n)
    if s.lanState n ≠ lsUp then s.swapFail n 1
    else if ref < 64 ∧ s.lanState ref ≠ lsUp then s.swapFail n 2
    else
      let w : Swap := { since := s.clk, ms0 := s.nowMs, avg := s.f (Fld.PHS_SWAP_CTRL_AVG_S n), ref := ref, gen := (s.lant n).peerGen }
      ((s.setLant n { s.lant n with swap := w }).setF (Fld.PHS_SWAP_STATUS_STATE n) swBefore).setF (Fld.PHS_SWAP_STATUS_FAIL n) 0

/-- CAPTURE_AFTER. -/
def State.swapAgain (s : State) (n : Nat) : State :=
  if s.swapState n = swGap then
    if s.lanState n ≠ lsUp then s.swapFail n 1
    else
      let l := s.lant n
      (s.setLant n { l with swap := { l.swap with since := s.clk, gapTicks := s.clk - l.swap.gapAt, avg := s.f (Fld.PHS_SWAP_CTRL_AVG_S n) } }).setF
        (Fld.PHS_SWAP_STATUS_STATE n) swAfter
  else s

/-- ABORT. -/
def State.swapAbort (s : State) (n : Nat) : State := if s.swapping n then s.swapFail n 5 else s

/-- The bits of SWAP_CTRL act in the order of their numbers. -/
def State.swapCtrl (s : State) (n : Nat) (before after abort : Bool) : State :=
  let s := if before then s.swapBegin n else s
  let s := if after then s.swapAgain n else s
  if abort then s.swapAbort n else s

/-- The square of the standard error of a mean, in units² × 2^64, from n, the sum and the sum of squares. -/
def meanVar (n : Nat) (x xx : Int) : Nat :=
  if n < 2 then (Config.fewSamples 0).toNat else (((n : Int) * xx - x * x).toNat * 2 ^ 64) / (n * n * (n - 1))

/-- The result a of a swap, as a fraction; none when a capture it needs is empty. -/
def Swap.result (w : Swap) : Option (Int × Nat) :=
  let b := w.before
  let a := w.after
  let nn := b.n * a.n
  let x := b.d * a.n - a.d * b.n
  if nn = 0 then none
  else if w.ref < 64 then
    let mm := b.rn * a.rn
    if mm = 0 then none else some (x * mm - (b.rd * a.rn - a.rd * b.rn) * nn, 4 * nn * mm)
  else
    let c := ((b.n : Int) * b.tt - b.t * b.t).toNat
    let slope := (b.n : Int) * b.tth - b.t * b.th
    let y := a.t * b.n - b.t * a.n
    if c = 0 then some (x, 4 * nn) else some (x * c + 2 * slope * y, 4 * c * nn)

/-- The uncertainty of a swap in ps. -/
def Swap.unc (w : Swap) : Nat :=
  let b := w.before
  let a := w.after
  let v := meanVar b.n b.d b.dd + meanVar a.n a.d a.dd
    + (if w.ref < 64 then meanVar b.rn b.rd b.rdd + meanVar a.rn a.rd a.rdd else 0)
  let base := isqrt v * 1000 / (4 * 65536)
  let hold := if w.ref < 64 then 0
    else
      let c := ((b.n : Int) * b.tt - b.t * b.t).toNat
      let s1 := (b.n : Int) * b.tth - b.t * b.th
      let s2 := (b.n : Int) * b.thth - b.th * b.th
      let sse := (s2 * c - s1 * s1).toNat
      let sig := if b.n < 3 ∨ c = 0 then (Config.fewSamples 1).toNat else isqrt (sse * 2 ^ 64 / (c * c * (b.n - 2)))
      w.gapTicks * (sig * 1000000 / 65536 + 2 * 2 ^ 32) / (2 * Config.ticksPerS)
  (ratio ((base + hold : Nat) : Int) (2 ^ 32)).toNat

/-- The second capture has ended: DONE with the result and its uncertainty, or FAILED. -/
def State.swapFinish (s : State) (n : Nat) : State :=
  let w := (s.lant n).swap
  match w.result with
  | none => s.swapFail n 4
  | some (num, den) =>
    let a := ratio num den
    let u := w.unc
    if 1000 * w.avg ≤ 2 * w.after.n ∧ u ≤ s.f (Fld.PHS_SWAP_MAX_UNC_PS n) then
      if 100000 * 65536 < a.natAbs then s.swapFail n 7
      else
        let s := (s.setF (Fld.PHS_SWAP_STATUS_STATE n) swDone).setPair48 (Reg.PHS_SWAP_RESULT_LO n) (Reg.PHS_SWAP_RESULT_HI n) a
        (s.setReg (Reg.PHS_SWAP_UNC n) (BitVec.ofNat 32 u)).asymChanged n 2
    else s.swapFail n 4

/-- AVG_S of a capture has elapsed. -/
def State.swapAvgEnd (s : State) (n : Nat) : State :=
  let l := s.lant n
  if s.passed l.swap.since l.swap.avg Config.ticksPerS then
    if s.swapState n = swBefore then
      (s.setLant n { l with swap := { l.swap with gapAt := s.clk } }).setF (Fld.PHS_SWAP_STATUS_STATE n) swGap
    else if s.swapState n = swAfter then s.swapFinish n
    else s
  else s

/-- In hold mode, 10 s in GAP fail the swap. -/
def State.swapGapTimeout (s : State) (n : Nat) : State :=
  let w := (s.lant n).swap
  if s.swapState n = swGap ∧ 64 ≤ w.ref ∧ s.passed w.gapAt 10 Config.ticksPerS then s.swapFail n 3 else s

end Sys2Proof.Machine
end

