-- ==== Sys2Proof/Machine/TimeCode.lean ====
section
/-! DEFINITION. Time of day on the wire (10_references.md, R256, R257): ZDA and RMC sentences of NMEA 0183, and the IRIG-B time code,
decoded and formed. The layouts of both are those of their standards, PRESUMED (log 121). -/

namespace Sys2Proof.Machine

/-! ### The calendar -/

/-- Days from 1970 to the start of a year. -/
def daysBefore (y : Nat) : Nat := (y - 1970) * 365 + ((y - 1) / 4 - 492) - ((y - 1) / 100 - 19) + ((y - 1) / 400 - 4)

/-- The year of a day since 1970. -/
def yearOf (day : Nat) : Nat :=
  let g := 1970 + day * 400 / 146097
  if daysBefore (g + 1) ≤ day then g + 1 else if day < daysBefore g then g - 1 else g

/-- Days of a year before a month. -/
def monthStart (y m : Nat) : Nat :=
  (([0, 31, 59, 90, 120, 151, 181, 212, 243, 273, 304, 334] : List Nat).getD (m - 1) 0)
    + (if 2 < m ∧ daysBefore (y + 1) - daysBefore y = 366 then 1 else 0)

/-- Seconds since 1970 of a date and a second of its day; none for a date that no calendar has. -/
def utcSecond (y m d sec : Nat) : Option Nat :=
  if 1970 ≤ y ∧ 1 ≤ m ∧ m ≤ 12 ∧ 1 ≤ d ∧ d ≤ 31 then some ((daysBefore y + monthStart y m + d - 1) * 86400 + sec) else none

/-! ### NMEA 0183 -/

/-- The number that decimal digits spell. -/
def decimal (l : List Nat) : Option Nat :=
  if l.isEmpty || l.any (fun c => decide (c < 48) || decide (57 < c)) then none else some (l.foldl (fun n c => n * 10 + (c - 48)) 0)

/-- The value of a hexadecimal digit. -/
def hexDigit (c : Nat) : Nat := if c < 58 then c - 48 else if c < 71 then c - 55 else c - 87

/-- What stands between the dollar sign and the checksum, which must be the exclusive or of it where the sentence carries one. -/
def nmeaBody : List Nat → Option (List Nat)
  | 36 :: r =>
    let body := r.takeWhile (fun c => c != 42 && c != 13 && c != 10)
    match r.drop body.length with
    | 42 :: h :: l :: _ => if hexDigit h * 16 + hexDigit l = body.foldl (· ^^^ ·) 0 then some body else none
    | 42 :: _ => none
    | _ => some body
  | _ => none

/-- The fields of a sentence, parted by commas. -/
def nmeaFields (l : List Nat) : List (List Nat) :=
  l.foldr (fun c acc => if c = 44 then [] :: acc else match acc with | f :: r => (c :: f) :: r | [] => [[c]]) [[]]

/-- Two decimal digits of a field. -/
def twoDigits (f : List Nat) (i : Nat) : Option Nat := if i + 2 ≤ f.length then decimal ((f.drop i).take 2) else none

/-- The second of the day that a field of the form hhmmss names; a fraction is passed over. -/
def nmeaTime (f : List Nat) : Option Nat :=
  match twoDigits f 0, twoDigits f 2, twoDigits f 4 with
  | some h, some m, some s => if h ≤ 23 ∧ m ≤ 59 ∧ s ≤ 60 then some (h * 3600 + m * 60 + s) else none
  | _, _, _ => none

/-- The UTC second that a sentence names: a ZDA, or an RMC of status A, whose two-digit year is one of 2000 to 2099. None for any other
sentence. -/
def nmeaSecond (bytes : List Byte) : Option Nat :=
  match nmeaBody (bytes.map (·.toNat)) with
  | none => none
  | some body =>
    let f := nmeaFields body
    let field (i : Nat) : List Nat := f.getD i []
    let kind := (field 0).drop 2
    match nmeaTime (field 1) with
    | none => none
    | some sec =>
      if kind = [90, 68, 65] then
        match decimal (field 4), decimal (field 3), decimal (field 2) with
        | some y, some m, some d => utcSecond y m d sec
        | _, _, _ => none
      else if kind = [82, 77, 67] ∧ field 2 = [65] then
        match twoDigits (field 9) 4, twoDigits (field 9) 2, twoDigits (field 9) 0 with
        | some y, some m, some d => utcSecond (2000 + y) m d sec
        | _, _, _ => none
      else none

/-! ### IRIG-B -/

/-- Is an index of a frame's hundred a marker's: the reference marker or a position identifier? -/
def irigMarker (i : Nat) : Bool := i == 0 || i % 10 == 9

/-- Does format x of B00x and B12x carry the year, or the straight binary seconds? -/
def irigYear (x : Nat) : Bool := decide (4 ≤ x)
def irigSbs (x : Nat) : Bool := x == 0 || x == 3 || x == 4 || x == 7

/-- Fields of a frame, each its first index, its bits (least significant first) and its value, for a UTC second. -/
def irigFields (x utc : Nat) : List (Nat × Nat × Nat) :=
  let day := utc / 86400
  let y := yearOf day
  let n := day - daysBefore y + 1
  let t := utc % 86400
  [(1, 4, t % 10), (6, 3, t % 60 / 10), (10, 4, t / 60 % 10), (15, 3, t / 600 % 6), (20, 4, t / 3600 % 10), (25, 2, t / 36000),
    (30, 4, n % 10), (35, 4, n / 10 % 10), (40, 2, n / 100)]
    ++ (if irigYear x then [(50, 4, y % 10), (55, 4, y / 10 % 10)] else [])
    ++ (if irigSbs x then [(80, 9, t), (90, 8, t / 512)] else [])

/-- The hundred symbols of the frame of a UTC second in format x: 0, 1, or 2 for a marker; control functions are 0 (R257). -/
def irigFrame (x utc : Nat) : List Nat :=
  (List.range 100).map (fun i =>
    if irigMarker i then 2
    else if (irigFields x utc).any (fun (f : Nat × Nat × Nat) => decide (f.1 ≤ i) && decide (i < f.1 + f.2.1) && f.2.2.testBit (i - f.1)) then 1
    else 0)

/-- What a frame names: the UTC second, its year taken from `year` where the format carries none; none where it is undecodable. -/
def irigSecond (x year : Nat) (symbols : List Nat) : Option Nat :=
  let at_ (i : Nat) : Nat := symbols.getD i 0
  let bcd (i n : Nat) : Nat := ((List.range n).map (fun j => at_ (i + j) % 2 * 2 ^ j)).sum
  let shape := symbols.length == 100 && (List.range 100).all (fun i => if irigMarker i then at_ i == 2 else decide (at_ i < 2))
  let ones := [bcd 1 4, bcd 10 4, bcd 20 4, bcd 30 4, bcd 35 4] ++ (if irigYear x then [bcd 50 4, bcd 55 4] else [])
  let sec := bcd 1 4 + 10 * bcd 6 3
  let min := bcd 10 4 + 10 * bcd 15 3
  let hour := bcd 20 4 + 10 * bcd 25 2
  let day := bcd 30 4 + 10 * bcd 35 4 + 100 * bcd 40 2
  let y := if irigYear x then 2000 + bcd 50 4 + 10 * bcd 55 4 else year
  if shape && ones.all (fun n => decide (n ≤ 9)) && decide (sec ≤ 60) && decide (min ≤ 59) && decide (hour ≤ 23) && decide (1 ≤ day)
      && decide (day ≤ 366) then
    some ((daysBefore y + day - 1) * 86400 + hour * 3600 + min * 60 + sec)
  else none

/-- The part of a symbol's 10 ms for which a pulse-width code stands high, or the carrier of B12x at its mark amplitude, in ms. -/
def irigWidth (symbol : Nat) : Nat := if symbol = 0 then 2 else if symbol = 1 then 5 else 8

end Sys2Proof.Machine
end

