-- ==== Sys2Proof/Machine/Refs.lean ====
section
/-! DEFINITION. Reference slots and their selection, switches, the DPLL, holdover and the wick, and time alignment
(10_references.md). -/

namespace Sys2Proof.Machine

/-! ### Slots (R238..R240) -/

/-- Slot states. -/
def rsDisabled : Nat := 0
def rsFailed : Nat := 1
def rsValidating : Nat := 2
def rsWaitRestore : Nat := 3
def rsQualified : Nat := 4

/-- No slot. -/
def noSlot : Nat := 31

/-- The slot numbers of a class (0 frequency, 1 time). -/
def freqSlots : List Nat := List.range 15
def timeSlots : List Nat := (List.range 8).map (16 + ·)

/-- Is a number a slot's? -/
def isSlot (k : Nat) : Bool := decide (k < 15) || (decide (16 ≤ k) && decide (k < 24))

def State.slot (s : State) (k : Nat) : RefSlot := Store.get (fun _ => {}) s.ref.slots k
def State.setSlot (s : State) (k : Nat) (x : RefSlot) : State :=
  { s with ref := { s.ref with slots := Store.set (fun _ => {}) s.ref.slots k x } }

/-- A field of the slot's registers, by class. -/
def pick (k : Nat) (f t : Nat → FieldRef) : FieldRef := if k < 16 then f k else t (k - 16)

def State.slotState (s : State) (k : Nat) : Nat := s.f (pick k Fld.REF_SLOT_STATUS_STATE Fld.REF_TSLOT_STATUS_STATE)
def State.setSlotState (s : State) (k v : Nat) : State := s.setF (pick k Fld.REF_SLOT_STATUS_STATE Fld.REF_TSLOT_STATUS_STATE) v
def State.slotPrio (s : State) (k : Nat) : Nat := s.f (pick k Fld.REF_SLOT_CFG_PRIORITY Fld.REF_TSLOT_CFG_PRIORITY)
def State.slotValidate (s : State) (k : Nat) : Nat := s.f (pick k Fld.REF_SLOT_CFG_VALIDATE_S Fld.REF_TSLOT_CFG_VALIDATE_S)
def State.slotWtr (s : State) (k : Nat) : Nat := if k < 16 then (s.reg (Reg.REF_SLOT_WTR k)).toNat else (s.reg (Reg.REF_TSLOT_WTR (k - 16))).toNat
def State.slotEnabled (s : State) (k : Nat) : Bool := s.flag (pick k Fld.REF_SLOT_CFG_ENABLE Fld.REF_TSLOT_CFG_ENABLE)
def State.setSlotFault (s : State) (k v : Nat) : State := s.setF (pick k Fld.REF_SLOT_STATUS_FAULT Fld.REF_TSLOT_STATUS_FAULT) v
def State.setSelected (s : State) (k : Nat) (b : Bool) : State :=
  if isSlot k then s.setFlag (pick k Fld.REF_SLOT_STATUS_SELECTED Fld.REF_TSLOT_STATUS_SELECTED) b else s
def State.outvoted (s : State) (k : Nat) : Bool := decide (k < 15) && s.flag (Fld.REF_SLOT_STATUS_OUTVOTED k)

/-- The measured offset of a slot, units of 0.001 ppb; 0 for a time slot. -/
def State.slotFreq (s : State) (k : Nat) : Nat := if k < 15 then (s.reg (Reg.REF_SLOT_FREQ k)).toNat else 0
def State.setSlotFreq (s : State) (k : Nat) (off : Int) : State :=
  if k < 15 then s.setReg (Reg.REF_SLOT_FREQ k) (BitVec.ofNat 32 (unsigned 32 off)) else s

/-- Seconds left of a slot's timer (REMAIN_S). -/
def State.slotRemain (s : State) (k : Nat) : Nat :=
  let st := s.slotState k
  if st = rsValidating ∨ st = rsWaitRestore then (s.slot k).timerS - s.sSince (s.slot k).timerAt else 0

/-- Selected slots. -/
def State.fsel (s : State) : Nat := s.f Fld.REF_STATUS_FSEL
def State.tsel (s : State) : Nat := s.f Fld.REF_STATUS_TSEL
def State.isSelected (s : State) (k : Nat) : Bool := k == s.fsel || k == s.tsel

/-- Does the active image give the slot (R62, R238)? -/
def State.slotExists (s : State) (k : Nat) : Bool := match s.img.active with | some i => i.slots.contains k | none => false

/-- A slot is selectable: it exists, QUALIFIED, its PRIORITY not 0, not OUTVOTED. -/
def State.selectable (s : State) (k : Nat) : Bool :=
  isSlot k && s.slotExists k && s.slotState k == rsQualified && s.slotPrio k != 0 && !s.outvoted k

/-- The fault of R239 that the state itself shows: a lane slot whose port is not up or whose lane has no clock recovery, a virtual slot not written in time or
beyond its limit, a PTP slot without VALID, an XPPS time slot without a declared second, three lock losses in 60 s. -/
def State.shownFault (s : State) (k : Nat) : Option Nat :=
  let x := s.slot k
  if 3 ≤ (x.losses.filter (fun t => decide (s.clk < t + 60 * Config.ticksPerS))).length then some 8
  else if k < 8 then
    match s.portOfLane (s.f (Fld.REF_SLOT_CFG_LANE k)) with
    | some p => if s.portUp p && s.flag (Fld.LAN_RX_STATUS_CDR_LOCK (s.f (Fld.REF_SLOT_CFG_LANE k))) then none else some 7
    | none => some 7
  else if k = 14 then
    match s.ref.virtAt with
    | none => some 4
    | some t =>
      if s.passed t (s.f Fld.REF_VIRT_CFG_TIMEOUT_MS) Config.ticksPerMs
        ∨ s.f (Fld.REF_SLOT_LIMIT_LIMIT_PPB 14) * 2 ^ 56 < s.ref.virt.natAbs * 1000000000 then some 4 else none
  else if 16 ≤ k ∧ k ≤ 19 then (if s.flag (Fld.REF_TSLOT_CFG_VALID (k - 16)) then none else some 5)
  else if k = 22 ∨ k = 23 then (if x.nextSec.isSome then none else some 3)
  else none

/-- A slot's fault in force: one that the state shows, or the first that its input has shown. -/
def State.faultOf (s : State) (k : Nat) : Option Nat :=
  match s.shownFault k with
  | some c => some c
  | none => (s.slot k).faults.head?

/-- PPS_WIN of a pulse-type slot, or of the input that a time slot shares with one, in ps (R239). -/
def State.ppsWin (s : State) (k : Nat) : Nat :=
  s.f (Fld.REF_SLOT_LIMIT_PPS_WIN (if k = 20 then 12 else if k = 22 then 10 else if k = 23 then 11 else k)) * 10000

/-- The faults of R239 that only the input can show, by slot. -/
def inputFaults (k : Nat) : List Nat :=
  if k < 8 then [1, 7] else if k < 10 then [0, 1] else if k < 13 then [0, 1, 2] else if k = 13 then [1, 3]
  else if k = 20 then [0, 2, 3] else if k = 21 then [3] else if k = 22 ∨ k = 23 then [0, 2] else []

/-! ### Holdover (R251..R254) -/

/-- DPLL states. -/
def dpFreerun : Nat := 0
def dpSwitching : Nat := 1
def dpAcquiring : Nat := 2
def dpLocked : Nat := 3
def dpHoldover : Nat := 4
def State.dpll (s : State) : Nat := s.f Fld.REF_STATUS_DPLL_STATE

/-- TIM_STATUS.HOLDOVER (R252). -/
def State.showHoldover (s : State) : State :=
  s.setFlag Fld.TIM_STATUS_HOLDOVER (s.dpll == dpHoldover || s.ref.timeHo.isSome)

/-- Change the DPLL's state: the present second is then not one spent in LOCKED without a switch. -/
def State.setDpll (s : State) (v : Nat) : State :=
  { (s.setF Fld.REF_STATUS_DPLL_STATE v).showHoldover with ref := { s.ref with secSwitch := true } }

def State.warming (s : State) : Bool := s.flag Fld.TIM_STATUS_WARMING

/-- The limit of CV: ±150 ppm (R248). -/
def cvLimit : Int := 10808639105689
def clampCv (v : Int) : Int := max (-cvLimit) (min cvLimit v)

def State.cv (s : State) : Int := s.pair48 Reg.REF_CV_LO Reg.REF_CV_HI
def State.setCv (s : State) (v : Int) : State := s.setPair48 Reg.REF_CV_LO Reg.REF_CV_HI v

/-- The temperature at the OCXO, 1/16 °C. -/
def State.oscTemp (s : State) : Int := signed 16 (s.f (Fld.CAL_SENSOR_TEMP 7))

/-- The window of R251 in the history, with its quality (0 full, 1 short). -/
def State.hoWindow (s : State) (fault : Nat) : List (Nat × Int × Int) × Nat :=
  let avg := s.f Fld.REF_HO_CFG_AVG_S
  let old := s.ref.hist.filter (fun (h : Nat × Int × Int) => decide (h.1 + s.f Fld.REF_HO_CFG_GUARD_S * Config.ticksPerS ≤ fault))
  if avg ≤ old.length then (old.take avg, 0)
  else if 10 ≤ old.length then (old, 1)
  else (s.ref.hist, 1)

/-- The holdover that would begin for a fault detected at a tick; none when there is neither history nor a stored value. -/
def State.planHoldover (s : State) (fault : Nat) : Option Holdover :=
  let w := s.hoWindow fault
  let x0 := s.ref.err.natAbs
  let q (x : Nat) : Nat := if s.warming then 3 else x
  if w.1.isEmpty then
    s.ref.flashCv.map (fun v => ⟨s.clk, v, q 2, s.oscTemp, x0, 0, 1⟩)
  else
    let n := w.1.length
    let x := (w.1.map (fun (h : Nat × Int × Int) => h.2.1)).sum
    let xx := (w.1.map (fun (h : Nat × Int × Int) => h.2.1 * h.2.1)).sum
    let t := (w.1.map (fun (h : Nat × Int × Int) => h.2.2)).sum
    some ⟨s.clk, ratio x n, q w.2, ratio t n, x0, ((n : Int) * xx - x * x).toNat, if n < 2 then 1 else n * n * (n - 1)⟩

/-- The learned aging rate and temperature coefficient, units of 0.001 ppb a day and a kelvin. -/
def State.aging (s : State) : Int := signed 24 (s.f Fld.REF_AGING_RATE)
def State.tempco (s : State) : Int := signed 16 (s.f Fld.REF_TEMPCO_K)

/-- The wick of a holdover (R253): the time at which x0 + y_u t + ½ D_u t² reaches THR, less the time already spent. All
terms scaled by 2^110. -/
def State.wick (s : State) (h : Holdover) (spent : Nat) : Nat :=
  if s.warming then 0
  else
    let thr := (s.reg Reg.REF_WICK_CFG).toNat * 2 ^ 110 / 1000000000
    let x0 := h.x0 * 2 ^ 110 / 1000000000000
    let y := isqrt (h.varNum * 2 ^ 108 / h.varDen) + s.tempco.natAbs * (s.oscTemp - h.tw).natAbs * 2 ^ 110 / (16 * 1000000000000)
    let rate := if s.flag Fld.REF_AGING_LEARNED then s.aging.natAbs else 1000
    let d := rate * 2 ^ 110 / (86400 * 1000000000000)
    if thr ≤ x0 then 0
    else
      let t := if d = 0 then (if y = 0 then none else some (ratio ((thr - x0 : Nat) : Int) y))
        else some (ratio (((isqrt (y * y + 2 * d * (thr - x0)) : Nat) : Int) - (y : Int)) d)
      match t with
      | none => 0xFFFFFFFF
      | some t => min (t.toNat - spent) 0xFFFFFFFF

/-- The control value in holdover after `t` seconds, compensated once aging is learned (R251). -/
def State.hoCv (s : State) (h : Holdover) (t : Nat) : Int :=
  if s.flag Fld.REF_HO_CFG_COMP_EN && s.flag Fld.REF_AGING_LEARNED then
    clampCv (h.value + ratio (s.aging * t * 2 ^ 56) (86400 * 1000000000000)
      + ratio (s.tempco * (s.oscTemp - h.tw) * 2 ^ 56) (16 * 1000000000000))
  else h.value

/-- The condition of event 25 ends. -/
def State.wickEnd (s : State) (w : Nat) : State :=
  if s.ref.wickLow then
    { s with ref := { s.ref with wickLow := false } }.raiseEnd 25 moduleScope [(24, 4, w), (28, 4, (s.reg Reg.REF_WICK_CFG).toNat)]
  else s

/-- Event 25 as the wick falls below REF_WICK_LOW, and again as it rises above it. -/
def State.wickEvent (s : State) (w : Nat) : State :=
  let low := (s.reg Reg.REF_WICK_LOW).toNat
  if w < low then
    if s.ref.wickLow then s
    else { s with ref := { s.ref with wickLow := true } }.raise 25 moduleScope [(24, 4, w), (28, 4, (s.reg Reg.REF_WICK_CFG).toNat)]
  else if low < w then s.wickEnd w
  else s

/-- When the fault of a slot that is left was first detected: without one (PRIORITY 0, OUTVOTED, ENABLE 0), now. DEDUCED (log 145). -/
def State.lostAt (s : State) (k : Nat) : Nat :=
  if s.slotState k = rsQualified ∨ s.slotState k = rsDisabled then s.clk else (s.slot k).faultAt

/-- The loss of a selection leads into holdover, or to FREERUN without any value to hold (R250, R251). -/
def State.enterHoldover (s : State) : State :=
  let lost := s.lostAt s.fsel
  let s := (s.setSelected s.fsel false).setF Fld.REF_STATUS_FSEL noSlot
  match s.planHoldover lost with
  | none => s.setDpll dpFreerun
  | some h =>
    let w := s.wick h 0
    let s := { s with ref := { s.ref with ho := some h } }
    let s := ((s.setCv h.value).setPair48 Reg.REF_HO_CV_LO Reg.REF_HO_CV_HI h.value).setReg Reg.REF_HO_TIME 0
    let s := (s.bump Reg.REF_HOLDOVER_CNT).setDpll dpHoldover
    (s.setReg Reg.REF_WICK (BitVec.ofNat 32 w)).raise 23 moduleScope
      [(24, 1, 0), (25, 1, h.quality), (28, 6, unsigned 48 h.value), (36, 4, w)]

/-! ### Selection and switches (R241, R242, R244..R246) -/

/-- The first of a list that is better than all before it. -/
def bestOf (better : Nat → Nat → Bool) : List Nat → Option Nat
  | [] => none
  | x :: l => match bestOf better l with
    | none => some x
    | some y => if better y x then some y else some x

def State.bestFreq (s : State) : Option Nat :=
  bestOf (fun a b => decide (s.slotPrio a < s.slotPrio b)) (freqSlots.filter s.selectable)

/-- The rank of a time slot: class, accuracy, variance, then priority; lower is better. -/
def State.timeRank (s : State) (k : Nat) : Nat :=
  ((s.f (Fld.REF_TSLOT_QUAL_CLOCK_CLASS (k - 16)) * 256 + s.f (Fld.REF_TSLOT_QUAL_CLOCK_ACCURACY (k - 16))) * 65536
    + s.f (Fld.REF_TSLOT_QUAL_OSLV (k - 16))) * 16 + s.slotPrio k

/-- Is a time slot the better of two: by rank, then by the lower slot number (R242)? -/
def State.timeBetter (s : State) (a b : Nat) : Bool :=
  decide (s.timeRank a < s.timeRank b) || (s.timeRank a == s.timeRank b && decide (a < b))

def State.bestTime (s : State) : Option Nat := bestOf s.timeBetter (timeSlots.filter s.selectable)

/-- Event 18. -/
def State.switchEvent (s : State) (new old cls reason : Nat) : State :=
  s.raise 18 new [(24, 2, old), (26, 1, cls), (27, 1, reason)]

/-- A frequency switch begins. -/
def State.startFreq (s : State) (t reason : Nat) : State :=
  let old := s.fsel
  let ok := isSlot old && s.slotState old == rsQualified
  let sw : Switch := ⟨old, t, s.clk, s.dpll, ok, 0, []⟩
  let s := { s with ref := { s.ref with fsw := some sw, frozen := reason == 1 || reason == 2 || !ok } }
  ((s.setF Fld.REF_STATUS_FTARGET t).setDpll dpSwitching).switchEvent t old 0 reason

/-- A value held within 32 bits, signed. -/
def clip32 (v : Int) : Int := max (-(2 ^ 31)) (min (2 ^ 31 - 1) v)

/-- Event 22 with its count. -/
def State.lockLost (s : State) (cause : Nat) : State :=
  (s.bump Reg.REF_LOCK_LOST_CNT).raise 22 moduleScope
    [(24, 2, s.fsel), (26, 1, cause), (28, 4, unsigned 32 (clip32 s.ref.err))]

/-- Weigh the frequency class anew (R241, R245, R250). -/
def State.freqSelect (s : State) : State :=
  if s.ref.fsw.isSome || !s.domainOn 2 then s
  else
    let st := s.dpll
    let best := s.bestFreq
    if st = dpFreerun ∨ st = dpHoldover then
      match best with
      | none => s
      | some t => s.startFreq t (if st = dpHoldover then 3 else 5)
    else
      let sel := s.fsel
      if s.selectable sel then
        match best with
        | some t => if s.flag Fld.REF_CTRL_FREQ_REVERTIVE && decide (s.slotPrio t < s.slotPrio sel) then s.startFreq t 0 else s
        | none => s
      else
        let out := s.slotState sel == rsQualified && s.outvoted sel && s.slotPrio sel != 0
        let s := if st = dpLocked ∧ (out = false ∨ best = none) then s.lockLost 1 else s
        match best with
        | some t => s.startFreq t (if out then 4 else 1)
        | none => s.enterHoldover

/-- A time switch begins. -/
def State.startTime (s : State) (t reason : Nat) : State :=
  let old := s.tsel
  let w : Switch := ⟨old, t, s.clk, 0, isSlot old && s.slotState old == rsQualified, 0, []⟩
  let s := { s with ref := { s.ref with tsw := some w, secSwitch := true } }
  (s.setFlag Fld.REF_STATUS_TSWITCHING true).switchEvent t old 1 reason

/-- Quality, control value and wick of event 23 of the time class: those of the holdover that the DPLL is in, or would begin now.
DEDUCED (log 144). -/
def State.presentHold (s : State) : List (Nat × Nat × Nat) :=
  match if s.dpll = dpHoldover then s.ref.ho else (s.planHoldover s.clk).map (fun (x : Holdover) => { x with x0 := 0 }) with
  | some h => [(25, 1, h.quality), (28, 6, unsigned 48 h.value), (36, 4, s.wick h (if s.dpll = dpHoldover then s.sSince h.since else 0))]
  | none => []

/-- Weigh the time class anew (R242, R246, R252). -/
def State.timeSelect (s : State) : State :=
  if s.ref.tsw.isSome || !s.domainOn 2 then s
  else
    let sel := s.tsel
    match s.bestTime with
    | some t =>
      if sel = noSlot then s.startTime t (if s.ref.timeHo.isSome then 3 else 5)
      else if s.selectable sel = false then s.startTime t 1
      else if s.flag Fld.REF_CTRL_TIME_REVERTIVE && s.timeBetter t sel then s.startTime t 0
      else s
    | none =>
      if sel = noSlot then s
      else
        let s := { (s.setSelected sel false).setF Fld.REF_STATUS_TSEL noSlot with ref := { s.ref with timeHo := some (s.clk : Int) } }
        (s.bump Reg.REF_HOLDOVER_CNT).showHoldover.raise 23 moduleScope ((24, 1, 1) :: s.presentHold)

/-- Weigh both classes, once a set of registers is written whole (R241). -/
def State.reselect (s : State) : State := if s.ref.held then s else s.freqSelect.timeSelect

/-- Hold the weighing of both classes, and let it go. -/
def State.holdRefs (s : State) (on : Bool) : State := { s with ref := { s.ref with held := on } }

/-! ### Faults and timers (R240) -/

/-- Start a slot's timer in a state. -/
def State.startSlotTimer (s : State) (k state len : Nat) : State :=
  (s.setSlot k { s.slot k with timerAt := s.clk, timerS := len }).setSlotState k state

/-- A fault of a code begins on a slot. -/
def State.slotFault (s : State) (k code : Nat) : State :=
  let x := s.slot k
  let st := s.slotState k
  if st = rsDisabled then s.setSlot k { x with faults := if x.faults.contains code then x.faults else x.faults ++ [code] }
  else
    let s := s.setSlot k { x with faults := if x.faults.contains code then x.faults else x.faults ++ [code] }
    let s := s.setSlotFault k code
    if st = rsFailed then s
    else
      let s := if k < 15 then s.bump (Reg.REF_SLOT_DISQ_CNT k) else s
      let s := (s.setSlotState k rsFailed).setSlot k { s.slot k with faultAt := s.clk }
      if st = rsQualified then
        let sel := s.isSelected k
        let s := s.setSlot k { s.slot k with lost := true }
        (s.raise 17 k [(24, 1, code), (25, 1, if sel then 1 else 0), (28, 4, s.slotFreq k)]).reselect
      else s

/-- FAILED becomes VALIDATING once no fault is left. -/
def State.slotHeal (s : State) (k : Nat) : State :=
  if s.slotState k = rsFailed ∧ s.faultOf k = none then
    s.startSlotTimer k rsValidating (s.slotValidate k)
  else s

/-- A fault of a code ends on a slot. -/
def State.slotFaultEnd (s : State) (k code : Nat) : State :=
  (s.setSlot k { s.slot k with faults := (s.slot k).faults.filter (· != code) }).slotHeal k

/-- Is a code among the faults that a slot's input has shown? -/
def State.inputShows (s : State) (k c : Nat) : Bool := (s.slot k).faults.contains c

/-- A slot's faults are looked at again: one in force fails it, none heals it. -/
def State.slotCheck (s : State) (k : Nat) : State :=
  match s.faultOf k with
  | some c =>
    if s.slotState k = rsDisabled ∨ s.slotState k = rsFailed then s
    else if s.inputShows k c then s.slotFault k c
    else
      let s := s.slotFault k c
      s.setSlot k { s.slot k with faults := (s.slot k).faults.filter (· != c) }
  | none => s.slotHeal k

/-- REF_SLOT_FAULT: a condition of R239 begins, and is in force until it ends whatever else is. `off` is the measured fractional offset,
units of 0.001 ppb; for code 2 `dev` is how far the edge lies from the instant predicted, in ps. -/
def State.slotFaultBegins (s : State) (k code : Nat) (off : Int) (dev : Nat) : State :=
  if isSlot k && s.domainOn 2 then
    let s := s.setSlotFreq k off
    let beyond := if code = 1 then decide (s.f (Fld.REF_SLOT_LIMIT_LIMIT_PPB k) * 1000 < off.natAbs)
      else code != 2 || decide (s.ppsWin k < dev)
    if (inputFaults k).contains code && beyond then
      let s := if (k = 22 ∨ k = 23) then s.setSlot k { s.slot k with nextSec := none } else s
      s.slotFault k code
    else if s.shownFault k = some code then s.slotCheck k
    else s
  else s

/-- REF_SLOT_FAULT_END. -/
def State.slotFaultEnds (s : State) (k code : Nat) (off : Int) : State :=
  if isSlot k && s.domainOn 2 then
    let s := s.setSlotFreq k off
    if code = 1 ∧ s.f (Fld.REF_SLOT_LIMIT_LIMIT_PPB k) * 1000 < off.natAbs then s else s.slotFaultEnd k code
  else s

/-- A slot becomes QUALIFIED with event 16. -/
def State.qualify (s : State) (k : Nat) (restored : Bool) : State :=
  ((s.setSlotState k rsQualified).raise 16 k [(24, 1, if restored then 1 else 0), (28, 4, s.slotFreq k)]).reselect

/-- VALIDATE_S has passed without a fault. -/
def State.validated (s : State) (k : Nat) (off : Int) : State :=
  if isSlot k ∧ s.slotState k = rsValidating ∧ s.passed (s.slot k).timerAt (s.slot k).timerS Config.ticksPerS = true then
    let s := s.setSlotFreq k off
    if (s.faultOf k).isSome then s.slotCheck k
    else if (s.slot k).lost ∧ s.slotWtr k ≠ 0 then s.startSlotTimer k rsWaitRestore (s.slotWtr k) else s.qualify k false
  else s

/-- WTR_S more has passed without a fault. -/
def State.restored (s : State) (k : Nat) (off : Int) : State :=
  if isSlot k ∧ s.slotState k = rsWaitRestore ∧ s.passed (s.slot k).timerAt (s.slot k).timerS Config.ticksPerS = true then
    let s := s.setSlotFreq k off
    if (s.faultOf k).isSome then s.slotCheck k else s.qualify k true
  else s

/-- A slot's ENABLE, PRIORITY, LANE or quality has been written, or the image gives or takes it: `wasOn` says whether it was in use. A
write of LANE in use fails the slot, which heals at once where no fault is in force on the new lane. -/
def State.slotWritten (s : State) (k : Nat) (wasOn : Bool) (laneWritten : Bool) : State :=
  let on := s.slotEnabled k && s.slotExists k
  let s :=
    if on && !wasOn then (s.startSlotTimer k rsValidating (s.slotValidate k)).slotCheck k
    else if !on && wasOn then
      let st := s.slotState k
      let s := (s.setSlotState k rsDisabled).setSlotFault k 6
      let s := s.setSlot k { s.slot k with lost := false }
      if st = rsQualified then s.raise 17 k [(24, 1, 6), (25, 1, if s.isSelected k then 1 else 0), (28, 4, s.slotFreq k)] else s
    else if on && laneWritten then
      let s := (s.setSlot k { s.slot k with faults := [] }).slotFault k 7
      (s.setSlot k { s.slot k with faults := [] }).slotHeal k
    else if on then s.slotCheck k
    else s
  s.reselect

/-- The slots that a new active image gives or takes away: as ENABLE, where it is set, becomes 1 or 0. -/
def State.slotsChanged (s : State) (old : Image) : State :=
  (freqSlots ++ timeSlots).foldl (fun (s : State) k =>
    let was := old.slots.contains k
    if was == s.slotExists k || !s.slotEnabled k then s else s.slotWritten k was false) s

/-- The lane slots of a port whose link changes. -/
def State.laneSlots (s : State) (p : Nat) : List Nat :=
  (List.range 8).filter (fun k => s.portOfLane (s.f (Fld.REF_SLOT_CFG_LANE k)) == some p)
def State.refPort (s : State) (p : Nat) : State := (s.laneSlots p).foldl (fun s k => s.slotCheck k) s

/-- The slots recovered from a lane whose clock recovery locks or unlocks are looked at again (R239). -/
def State.refLane (s : State) (l : Nat) : State :=
  ((List.range 8).filter (fun k => s.f (Fld.REF_SLOT_CFG_LANE k) == l)).foldl (fun s k => s.slotCheck k) s

/-! ### Disagreements (R243) -/

/-- DETAIL of event 20. -/
def State.disagreeDetail (s : State) (x : Disagreement) : List (Nat × Nat × Nat) :=
  let da := signed 32 (s.slotFreq x.a)
  let db := signed 32 (s.slotFreq x.b)
  [(24, 2, x.b), (28, 4, unsigned 32 (da - db)), (32, 4, unsigned 32 da), (36, 4, unsigned 32 db), (40, 1, x.outcome)]

/-- Show the OUTVOTED and DISPUTED marks of a slot. -/
def State.showMarks (s : State) (k : Nat) : State :=
  let l := s.ref.disagree
  let out := l.any (fun x => (x.a == k && x.outcome == 1) || (x.b == k && x.outcome == 2))
  let dis := l.any (fun x => (x.a == k || x.b == k) && (x.outcome == 0 || x.outcome == 3))
  (s.setFlag (Fld.REF_SLOT_STATUS_OUTVOTED k) out).setFlag (Fld.REF_SLOT_STATUS_DISPUTED k) dis

/-- DISAGREE in units of 0.001 ppb. -/
def State.disagreeLimit (s : State) : Nat := s.f Fld.REF_CTRL_DISAGREE * 100

/-- Two slots of equal rank have differed beyond DISAGREE for 10 s. -/
def State.disagreeBegins (s : State) (i j : Nat) (di dj : Int) : State :=
  let a := min i j
  let b := max i j
  let s := (s.setSlotFreq i di).setSlotFreq j dj
  let da := if i ≤ j then di else dj
  let db := if i ≤ j then dj else di
  if a < b ∧ b < 15 ∧ s.slotPrio a = s.slotPrio b ∧ s.slotPrio a ≠ 0 ∧ s.slotState a = rsQualified ∧ s.slotState b = rsQualified
      ∧ s.disagreeLimit < (da - db).natAbs ∧ (s.ref.disagree.any (fun x => x.a == a && x.b == b)) = false then
    let big := max da.natAbs db.natAbs
    let outcome := if s.warming then 3 else if s.disagreeLimit < 2 * big then (if db.natAbs < da.natAbs then 1 else 2) else 0
    let x : Disagreement := ⟨a, b, outcome, s.clk⟩
    let s := { s with ref := { s.ref with disagree := s.ref.disagree ++ [x] } }
    (((s.showMarks a).showMarks b).raise 20 a (s.disagreeDetail x)).reselect
  else s

/-- The two slots agree again: an OUTVOTED one clears once they have, without a break, for its WTR_S. `agreed` are the ticks for which they
have agreed without a break. -/
def State.disagreeEnds (s : State) (i j agreed : Nat) (di dj : Int) : State :=
  let a := min i j
  let b := max i j
  match s.ref.disagree.find? (fun x => x.a == a && x.b == b) with
  | none => s
  | some x =>
    let out := if x.outcome = 1 then some x.a else if x.outcome = 2 then some x.b else none
    let s := (s.setSlotFreq i di).setSlotFreq j dj
    if (di - dj).natAbs ≤ s.disagreeLimit
        ∧ (match out with | some k => decide (s.slotWtr k * Config.ticksPerS ≤ min agreed (s.clk - x.since)) | none => true) = true then
      let s := { s with ref := { s.ref with disagree := s.ref.disagree.filter (· != x) } }
      (((s.showMarks a).showMarks b).raiseEnd 20 a (s.disagreeDetail x)).reselect
    else s

/-! ### Hand-over (R244..R246) -/

/-- Is a slot of a clock type (lane-recovered, XREF, virtual)? -/
def clockType (k : Nat) : Bool := decide (k < 10) || k == 14

/-- Has the measurement of a switch gone on long enough: 100 ms, or two edges of a target that gives edges? A target that fails is handed
over with what has been taken (R244..R246). -/
def State.measured (s : State) (w : Switch) (byEdges : Bool) : Bool :=
  s.slotState w.target != rsQualified || (if byEdges then decide (2 ≤ w.edges) else s.passed w.since 100 Config.ticksPerMs)

/-- The build-out measurement of a frequency switch ends with an absorbed phase, units of 2^-16 ns. -/
def State.freqHandover (s : State) (phase : Int) : State :=
  match s.ref.fsw with
  | none => s
  | some w =>
    if !s.measured w (!clockType w.target) then s
    else
      let s := (s.setSelected w.old false).setSelected w.target true
      let s := (s.setF Fld.REF_STATUS_FSEL w.target).setF Fld.REF_STATUS_FTARGET noSlot
      let s := s.bump Reg.REF_SWITCH_CNT
      let ho := s.ref.ho
      let locked := w.ownState == dpLocked && w.oldOk
      let s := { s with ref := { s.ref with
        fsw := none
        frozen := false
        ho := none
        handAt := s.clk
        good := 0
        bad := 0
        narrow := locked
        virtInt := 0
        integ := s.cv
        err := 0 } }
      let s := (s.setReg Reg.REF_PHASE_ERR 0).setReg Reg.REF_HO_TIME 0
      let s := s.setDpll (if locked then dpLocked else dpAcquiring)
      let s := s.raise 19 w.target [(24, 2, w.old), (26, 1, 0), (28, 6, unsigned 48 phase), (36, 4, s.msSince w.since)]
      let s := if w.ownState = dpHoldover then
          match ho with
          | some h => (s.raise 24 moduleScope [(24, 1, 0), (26, 2, w.target), (28, 4, s.sSince h.since), (32, 6, unsigned 48 phase)]).wickEnd
              (s.reg Reg.REF_WICK).toNat
          | none => s
        else s
      s.freqSelect

/-- The measurement of a time switch ends with a measured offset: for an external slot the mean of those of the first two edges. -/
def State.timeHandover (s : State) (off : Int) : State :=
  match s.ref.tsw with
  | none => s
  | some w =>
    if !s.measured w (decide (20 ≤ w.target)) then s
    else
      let off := if w.offs.isEmpty then off else ratio w.offs.sum w.offs.length
      let s := (s.setSelected w.old false).setSelected w.target true
      let s := (s.setF Fld.REF_STATUS_TSEL w.target).setFlag Fld.REF_STATUS_TSWITCHING false
      let s := s.bump Reg.REF_SWITCH_CNT
      let ho := s.ref.timeHo
      let s := { s with ref := { s.ref with tsw := none, hadTime := true, timeHo := none, secSwitch := true } }
      let s := s.showHoldover
      let s := s.raise 19 w.target [(24, 2, w.old), (26, 1, 1), (28, 6, unsigned 48 off), (36, 4, s.msSince w.since)]
      let s := match ho with
        | some t => s.raise 24 moduleScope [(24, 1, 1), (26, 2, w.target), (28, 4, (s.clk - t).toNat / Config.ticksPerS), (32, 6, unsigned 48 off)]
        | none => s
      s.timeSelect

/-! ### The DPLL (R247, R248, R250) -/

/-- The acquisition bandwidth of a slot's type in mHz; the virtual slot's is its own bandwidth (R247). -/
def State.acquireBw (s : State) (k : Nat) : Nat :=
  if k < 8 then 50000 else if k < 10 then 10000 else if k < 12 then 500 else if k < 14 then 100 else s.f (Fld.REF_SLOT_LOOP_BW_MHZ k)

/-- The bandwidth in force. -/
def State.loopBw (s : State) (k : Nat) : Nat := if s.ref.narrow then s.f (Fld.REF_SLOT_LOOP_BW_MHZ k) else s.acquireBw k

/-- Length of a comparison cycle in ms (R247). -/
def cycleMs (k : Nat) : Nat := if clockType k then 1 else 1000

/-- What a cycle of a type-2 loop of natural frequency ω (µrad/s) adds to the integrator for a phase error in ps: ω² T e, units of 2^-56. -/
def loopIntegral (omega ms : Nat) (ps : Int) : Int := ratio (ps * ((omega * omega * ms : Nat) : Int) * 2 ^ 56) (10 ^ 27)

/-- The proportional share of damping 0.707: 2 × 0.707 × ω × e, units of 2^-56. -/
def loopProportional (omega : Nat) (ps : Int) : Int := ratio (ps * ((1414 * omega : Nat) : Int) * 2 ^ 56) (10 ^ 21)

/-- Put a control value; one beyond the limit is held there, with event 22 when it reaches the limit. -/
def State.steer (s : State) (v : Int) : State :=
  let c := clampCv v
  let was := s.cv
  let s := s.setCv c
  let s := { s with ref := { s.ref with cvSum := s.ref.cvSum + c, cvN := s.ref.cvN + 1 } }
  if c ≠ v ∧ was ≠ c then s.lockLost 0 else s

/-- Count a cycle's phase error against the window. -/
def State.countCycle (s : State) (ps : Int) (win : Nat) : State :=
  let good := if ps.natAbs ≤ win * 1000 then s.ref.good + 1 else 0
  let bad := if 4 * win * 1000 < ps.natAbs then s.ref.bad + 1 else 0
  { s with ref := { s.ref with good := good, bad := bad } }

/-- Lock is lost with the slot still selectable: event 22, cause 0; the third loss in 60 s is a fault of the slot. -/
def State.loseLock (s : State) : State :=
  let k := s.fsel
  let s := s.lockLost 0
  let s := s.setSlot k { s.slot k with losses := ((s.slot k).losses.filter (fun t => decide (s.clk < t + 60 * Config.ticksPerS))) ++ [s.clk] }
  if s.shownFault k = some 8 then (s.setDpll dpAcquiring).slotCheck k
  else s.startFreq k 2

/-- A cycle of ACQUIRING: the final bandwidth, then lock. -/
def State.acquireCycle (s : State) (k : Nat) : State :=
  let n := s.f (Fld.REF_SLOT_LOCK_LOCK_N k)
  if s.ref.narrow = false then
    if n / 4 ≤ s.ref.good then { s with ref := { s.ref with narrow := true, good := 0 } } else s
  else if n ≤ s.ref.good then
    let s := { (s.setDpll dpLocked) with ref := { s.ref with bad := 0, secSwitch := true } }
    s.raise 21 moduleScope [(24, 2, k), (28, 4, s.msSince s.ref.handAt), (32, 2, s.f (Fld.REF_SLOT_LOOP_BW_MHZ k))]
  else s

/-- The phase error of a cycle in ps, as measured; the virtual slot's is the integral of its value less the control value (R247). -/
def State.cycleError (s : State) (k : Nat) (ps : Int) : Int :=
  if k = 14 then ratio ((s.ref.virtInt + (s.ref.virt - s.cv)) * 1000000000) (2 ^ 56) else ps

/-- A cycle's phase error is taken and shown. -/
def State.compare (s : State) (k : Nat) (ps : Int) : State :=
  let e := s.cycleError k ps
  let s := { s with ref := { s.ref with
    err := e
    virtInt := if k = 14 then s.ref.virtInt + (s.ref.virt - s.cv) else s.ref.virtInt } }
  s.setReg Reg.REF_PHASE_ERR (if clip32 e = e then BitVec.ofNat 32 (unsigned 32 e) else Config.phaseErrWide e)

/-- The loop filter answers the cycle's phase error with a control value (R247). -/
def State.filterCv (s : State) (k : Nat) : State :=
  let omega := (Config.loopRate (s.loopBw k)).toNat
  let s := { s with ref := { s.ref with integ := s.ref.integ + loopIntegral omega (cycleMs k) s.ref.err } }
  s.steer (s.ref.integ + loopProportional omega s.ref.err)

/-- A comparison cycle with the measured phase error in ps. In a switch the loop goes on with the old slot while that is QUALIFIED and the
control value is not frozen (R244, R250). -/
def State.dpllCycle (s : State) (ps : Int) : State :=
  let k := s.fsel
  if !s.domainOn 2 || decide (15 ≤ k) || s.dpll == dpFreerun || s.dpll == dpHoldover then s
  else if s.dpll = dpSwitching then
    if s.slotState k ≠ rsQualified then s
    else if s.ref.frozen then s.compare k ps
    else (s.compare k ps).filterCv k
  else
    let s := (s.compare k ps).filterCv k
    let s := s.countCycle s.ref.err (s.f (Fld.REF_SLOT_LOCK_WIN_NS k))
    if s.dpll = dpAcquiring then s.acquireCycle k
    else if s.dpll = dpLocked ∧ 4 ≤ s.ref.bad then
      if s.selectable k then s.loseLock else s
    else s

/-! ### Each second -/

/-- A second of history is kept. -/
def State.keepHistory (s : State) : State :=
  let m := if s.ref.cvN = 0 then s.cv else ratio s.ref.cvSum s.ref.cvN
  { s with ref := { s.ref with hist := ((s.clk, m, s.oscTemp) :: s.ref.hist).filter (fun h => decide (s.clk < h.1 + 4200 * Config.ticksPerS)), lockedS := s.ref.lockedS + 1 } }

/-- Aging and temperature coefficient are refined once 72 h have been spent in LOCKED with a warmed oscillator; the figures
are the controller's. -/
def State.refine (s : State) (rate coef : Int) : State :=
  if 72 * 3600 ≤ s.ref.lockedS then
    let s := (s.setF Fld.REF_AGING_RATE (unsigned 24 rate)).setFlag Fld.REF_AGING_LEARNED true
    s.setF Fld.REF_TEMPCO_K (unsigned 16 coef)
  else s

/-- A second has passed (R251): the history grows in LOCKED, the compensated value is recomputed in holdover, and REF_HO_CV
shows the value in force or the one that holdover would take. -/
def State.refSecond (s : State) (rate coef : Int) : State :=
  if s.domainOn 2 && s.passed s.ref.secAt 1 Config.ticksPerS then
    let keep := s.dpll == dpLocked && !s.ref.secSwitch && s.ref.tsw.isNone && !s.warming
    let s := if keep then s.keepHistory.refine rate coef else s
    let s := { s with ref := { s.ref with secAt := s.clk, cvSum := 0, cvN := 0, secSwitch := s.ref.tsw.isSome || s.warming } }
    match s.ref.ho with
    | some h =>
      let t := s.sSince h.since
      let s := s.setReg Reg.REF_HO_TIME (BitVec.ofNat 32 t)
      if s.dpll = dpHoldover then
        let v := s.hoCv h t
        (s.setCv v).setPair48 Reg.REF_HO_CV_LO Reg.REF_HO_CV_HI v
      else s
    | none =>
      match s.planHoldover s.clk with
      | some h => s.setPair48 Reg.REF_HO_CV_LO Reg.REF_HO_CV_HI h.value
      | none => s
  else s

/-- The wick is computed and event 25 raised or ended (R253). -/
def State.wickUpdate (s : State) : State :=
  if s.domainOn 2 then
    let held := s.dpll == dpHoldover
    let h := if held then s.ref.ho else (s.planHoldover s.clk).map (fun (x : Holdover) => { x with x0 := 0 })
    match h with
    | none => s
    | some h =>
      let w := s.wick h (if held then s.sSince h.since else 0)
      let s := s.setReg Reg.REF_WICK (BitVec.ofNat 32 w)
      s.wickEvent w
  else s

/-! ### Time alignment (R255, R256) -/

/-- Start a slew of the time loop; it supersedes a running one. -/
def State.loopSlew (s : State) (amt : Int) : State :=
  let s := s.endSlew 3
  let s := { s with time := { s.time with slew := some ⟨amt, Config.ticksPerS, 0⟩ } }
  s.setFlag Fld.TIM_STATUS_SLEW_ACTIVE true

/-- An offset of the selected external slot: a slew of −Δ × TLOOP_GAIN / 256, or a step advised. -/
def State.alignTime (s : State) (delta : Int) : State :=
  if delta.natAbs < s.f Fld.REF_TIME_CFG_STEP_ADV_US * 1000 * 65536 then
    let a := ratio (-delta * s.f Fld.REF_TIME_CFG_TLOOP_GAIN) 256
    let top : Int := 999000 * 65536
    (s.setFlag Fld.REF_STATUS_STEP_ADVISED false).loopSlew (max (-top) (min top a))
  else s.setFlag Fld.REF_STATUS_STEP_ADVISED true

/-- Show a measured offset, in ns, saturating. -/
def State.showOffset (s : State) (k : Nat) (delta : Int) : State :=
  let ns := max (-(2 ^ 31)) (min (2 ^ 31 - 1) (ratio delta 65536))
  s.setReg (Reg.REF_TSLOT_OFFSET (k - 16)) (BitVec.ofNat 32 (unsigned 32 ns))

/-- The TAI second that a slot names for its present edge. -/
def State.edgeSecond (s : State) (k : Nat) : Option Nat :=
  (s.slot k).nextSec.map (fun t => if k = 20 ∨ k = 21 then t + s.f Fld.REF_TIME_CFG_TAI_UTC_S else t)

/-- An edge of the target of a switch is counted, with the offset that it shows (R244, R246). -/
def State.switchEdge (s : State) (k : Nat) (delta : Option Int) : State :=
  let add (w : Switch) : Switch :=
    if w.target = k then { w with edges := w.edges + 1, offs := if w.edges < 2 then w.offs ++ delta.toList else w.offs } else w
  { s with ref := { s.ref with fsw := s.ref.fsw.map add, tsw := s.ref.tsw.map add } }

/-- An edge of a time slot, `back` units of 2^-16 ns before now; for slots 10..13 an edge of a pulse-type frequency slot. A PTP slot's
offset is measured as given. -/
def State.timeEdge (s : State) (k back : Nat) (ptp : Int) : State :=
  if 10 ≤ k ∧ k ≤ 13 ∧ s.domainOn 2 then s.switchEdge k none
  else if 16 ≤ k ∧ k ≤ 19 ∧ s.domainOn 2 then s.showOffset k ptp
  else if 20 ≤ k ∧ k ≤ 23 ∧ s.domainOn 2 then
    match s.edgeSecond k with
    | none => s
    | some sec =>
      let cable := ratio (signed 32 (s.reg (Reg.REF_TSLOT_CABLE (k - 16))).toNat * 65536) 1000
      let delta := (s.now16 : Int) - (back : Int) - cable - ((sec * unitsPerS : Nat) : Int)
      let s := s.setSlot k { s.slot k with nextSec := (s.slot k).nextSec.map (· + 1) }
      let s := (s.showOffset k delta).switchEdge k (some delta)
      if s.tsel = k ∧ s.flag Fld.REF_CTRL_TLOOP_EN = true ∧ s.holds roleTime = true then s.alignTime delta else s
  else s

/-- A slot is told the second of its next edge; a disagreement with the count of edges is fault 3, until one agrees. -/
def State.nameSecond (s : State) (k sec : Nat) : State :=
  let old := (s.slot k).nextSec
  let s := s.setSlot k { s.slot k with nextSec := some sec }
  if old.getD sec = sec then s.slotFaultEnd k 3 else s.slotFault k 3

/-- A sentence on GNSS_RXD: a ZDA, or an RMC of status A, names a UTC second (R256). -/
def State.gnssSentence (s : State) (bytes : List Byte) : State :=
  match nmeaSecond bytes with
  | some utc => if s.domainOn 2 then s.nameSecond 20 (if s.flag Fld.REF_GNSS_CFG_SENT_FOLLOWS then utc + 1 else utc) else s
  | none => s

/-- A frame of IRIG_IN in format x names the second of its reference marker, in the year of module time where the format carries none; the
second of two in a row that are undecodable is fault 3 of both slots (R239). -/
def State.irigFrame (s : State) (x : Nat) (symbols : List Nat) : State :=
  if s.domainOn 2 then
    match irigSecond x (yearOf (s.now16 / unitsPerS / 86400)) symbols with
    | some sec => ({ s with ref := { s.ref with irigBad := 0 } }.slotFaultEnd 13 3).nameSecond 21 (sec + 1)
    | none =>
      let s := { s with ref := { s.ref with irigBad := s.ref.irigBad + 1 } }
      if s.ref.irigBad < 2 then s else (s.slotFault 13 3).slotFault 21 3
  else s

/-- A write of REF_XPPS_DECL[i]_HI arms the second of the next edge. -/
def State.declareXpps (s : State) (i : Nat) : State :=
  let sec := s.pair (Reg.REF_XPPS_DECL_LO i) (Reg.REF_XPPS_DECL_HI i) % 2 ^ 48
  (s.setSlot (22 + i) { s.slot (22 + i) with nextSec := some sec }).slotCheck (22 + i)

/-- A write of REF_VIRT_FREQ_HI transfers the pair (R247). -/
def State.virtWrite (s : State) : State :=
  let v := s.pair48 Reg.REF_VIRT_FREQ_LO Reg.REF_VIRT_FREQ_HI
  ({ s with ref := { s.ref with virt := v, virtAt := some s.clk } }).slotCheck 14

end Sys2Proof.Machine
end

