-- ==== Sys2Proof/Machine/Outputs.lean ====
section
/-! DEFINITION. Timing outputs (10_references.md, R257..R261): ideal and actual edges, starting, misalignment after a step, and
realignment. -/

namespace Sys2Proof.Machine

/-- Functions of an output. -/
def ofClock : Nat := 1
def ofPps : Nat := 2
def ofIrig : Nat := 3
def ofSample : Nat := 4
def State.outFn (s : State) (k : Nat) : Nat := s.f (Fld.REF_OUT_K_CFG_FUNCTION k)
def State.out (s : State) (k : Nat) : Out := Store.get (fun _ => {}) s.ref.outs k
def State.setOut (s : State) (k : Nat) (o : Out) : State :=
  { s with ref := { s.ref with outs := Store.set (fun _ => {}) s.ref.outs k o } }
def State.outFreq (s : State) (k : Nat) : Nat := (s.reg (Reg.REF_OUT_FREQ k)).toNat
def State.outOffset (s : State) (k : Nat) : Int := signed 32 (s.reg (Reg.REF_OUT_OFFSET k)).toNat

/-- The first instant at or after `t` that lies a whole number of periods 1/`f` from a whole second plus `shift`. Instants in
units of 2^-16 ns, `shift` in thousandths of them. -/
def nextAt (f : Nat) (shift : Int) (t : Nat) : Nat :=
  let whole : Int := ((unitsPerS * 1000 : Nat) : Int)
  let x : Int := ((t * 1000 * f : Nat) : Int)
  (ratio (x + (shift * f - x) % whole) (1000 * f)).toNat

/-- The frequency of an output's ideal edges. -/
def State.edgeRate (s : State) (k : Nat) : Nat := if s.outFn k = ofClock ∨ s.outFn k = ofSample then s.outFreq k else 1

/-- The first ideal edge at or after an instant (R257). -/
def State.idealEdge (s : State) (k t : Nat) : Nat := nextAt (s.edgeRate k) (s.outOffset k * 65536) t

/-- The first ideal edge at which a realigned output resumes: a whole second, or for CLOCK a whole period. -/
def State.alignEdge (s : State) (k t : Nat) : Nat :=
  nextAt (if s.outFn k = ofClock then s.outFreq k else 1) (s.outOffset k * 65536) t

/-! ### Misalignment (R260) -/

/-- The misalignment as last stored. -/
def State.storedM (s : State) (k : Nat) : Int := s.pair48 (Reg.REF_OUT_MISALIGN_LO k) (Reg.REF_OUT_MISALIGN_HI k)

/-- The present misalignment: a CLOCK with CLK_AUTO removes it at CLK_SLEW_PPB. -/
def State.outM (s : State) (k : Nat) : Int :=
  let m := s.storedM k
  if s.outFn k = ofClock ∧ s.flag (Fld.REF_OUT_K_CFG_CLK_AUTO k) = true then
    let gone := (s.clk - (s.out k).slewAt) * 1048576 * (s.reg (Reg.REF_OUT_CLK_SLEW k)).toNat / 10000000000
    if (m.natAbs : Int) ≤ (gone : Int) then 0 else if 0 ≤ m then m - gone else m + gone
  else m

/-- Store the present misalignment. -/
def State.foldM (s : State) (k : Nat) : State :=
  (s.setPair48 (Reg.REF_OUT_MISALIGN_LO k) (Reg.REF_OUT_MISALIGN_HI k) (s.outM k)).setOut k { s.out k with slewAt := s.clk }

/-- A misalignment taken modulo a CLOCK's period, within half a period. -/
def State.foldPeriod (s : State) (k : Nat) (m : Int) : Int :=
  if s.outFn k = ofClock then
    let u : Int := (unitsPerS : Nat)
    ratio ((m * s.outFreq k + u / 2) % u - u / 2) (s.outFreq k)
  else m

/-- Is a misalignment beyond MIS_THR_PS, or below it? -/
def State.beyond (s : State) (m : Int) : Bool := decide ((s.reg Reg.REF_OUT_CFG).toNat * 65536 < m.natAbs * 1000)
def State.below (s : State) (m : Int) : Bool := decide (m.natAbs * 1000 < (s.reg Reg.REF_OUT_CFG).toNat * 65536)

/-- MISALIGNED with event 28. -/
def State.misaligned (s : State) (k : Nat) (m : Int) : State :=
  (s.setFlag (Fld.REF_OUT_STATUS_MISALIGNED k) true).raise 28 k [(24, 6, unsigned 48 m), (30, 1, s.outFn k)]

/-- Is an output a CLOCK that removes its misalignment by itself? -/
def State.autoClock (s : State) (k : Nat) : Bool := s.outFn k == ofClock && s.flag (Fld.REF_OUT_K_CFG_CLK_AUTO k)

/-- MIS_THR_PS has been written: a running output is misaligned, or no longer, by the new figure; a CLOCK that removes its own
misalignment ends with event 29 instead (R260). -/
def State.thresholdWritten (s : State) (k : Nat) : State :=
  let m := s.outM k
  let shown := s.flag (Fld.REF_OUT_STATUS_MISALIGNED k)
  if s.flag (Fld.REF_OUT_STATUS_RUNNING k) then
    if !shown && s.beyond m then s.misaligned k m
    else if shown && !s.beyond m && !s.autoClock k then s.setFlag (Fld.REF_OUT_STATUS_MISALIGNED k) false
    else s
  else s

/-- A step of `d` leaves an output's edges where they were (R260). -/
def State.outStep (s : State) (d : Int) (k : Nat) : State :=
  let o := s.out k
  let s := s.setOut k { o with
    boundary := o.boundary.map (fun (b : Nat) => ((b : Int) + d).toNat)
    newTrim := o.newTrim.map (fun (b : Nat × Int) => (((b.1 : Int) + d).toNat, b.2)) }
  if s.flag (Fld.REF_OUT_STATUS_RUNNING k) then
    let s := s.foldM k
    let m := s.foldPeriod k (s.storedM k + d)
    let s := s.setPair48 (Reg.REF_OUT_MISALIGN_LO k) (Reg.REF_OUT_MISALIGN_HI k) m
    if s.beyond m then s.misaligned k m else s.setFlag (Fld.REF_OUT_STATUS_MISALIGNED k) false
  else s

def State.outsStep (s : State) (d : Int) : State := (List.range 8).foldl (fun s k => s.outStep d k) s

/-- A CLOCK output has brought its misalignment below the threshold: event 29, method 1. -/
def State.clockAligned (s : State) (k : Nat) : State :=
  if s.autoClock k = true ∧ s.flag (Fld.REF_OUT_STATUS_MISALIGNED k) = true ∧ s.below (s.outM k) = true then
    let was := s.storedM k
    let s := (s.foldM k).setFlag (Fld.REF_OUT_STATUS_MISALIGNED k) false
    s.raise 29 k [(24, 6, unsigned 48 (was - s.storedM k)), (30, 1, 1), (32, 12, time96 (s.idealEdge k s.now16))]
  else s

/-! ### What an output sends (R257, R258) -/

/-- The trim before one that waits for its boundary: a run's, or the factory's at the present temperature (R299). -/
def State.trimOld (s : State) (k : Nat) : Int :=
  if s.calibrated (192 + k) then signed 16 (s.f (Fld.CAL_OUT_TRIM_FS k)) else s.figureNow (192 + k) (figTrim k) 0

/-- The trim in force, units of 100 fs: a new one from the boundary on (R294). -/
def State.trimNow (s : State) (k : Nat) : Int :=
  match (s.out k).newTrim with
  | some (b, v) => if reached b s.now16 then v else s.trimOld k
  | none => s.trimOld k

/-- The steps of 3.125 ps at which edges are placed, of which a tick of 1.6 ns has 512: the last instant, in thousandths of 2^-16 ns, whose
exact edges an output has sent at an instant `t` (R258). Each edge is placed from its exact instant, so that what one step leaves is
carried to the next. -/
def State.placed (s : State) (t : Nat) : Int :=
  let tick : Int := ((s.now16 * 1000 : Nat) : Int)
  let n := ((t : Int) * 1000 - tick) / 204800
  if Config.edgeLate then tick + n * 204800 else tick + (n + 1) * 204800 - 1

/-- Where an instant lies relative to an output's ideal edges as its pins give them, in thousandths of 2^-16 ns: less its misalignment,
OFFSET_PS, and what its driver path and the trim leave (R258, R294). -/
def State.outPlace (s : State) (k t : Nat) : Int :=
  s.placed t - s.outM k * 1000 - s.outOffset k * 65536
    - ratio ((s.trimNow k + signed 16 (Config.driverPath k (s.f (Fld.CAL_SENSOR_TEMP 6))).toNat) * 65536) 10

/-- The place of an instant in the second of an output's own edges. -/
def State.outPhase (s : State) (k t : Nat) : Nat := (s.outPlace k t % ((unitsPerS * 1000 : Nat) : Int)).toNat

/-- The second of UTC that the IRIG frame names in which an instant lies: module time less TAI_UTC_S. -/
def State.irigUtc (s : State) (k t : Nat) : Nat :=
  (((t : Int) * 1000 - s.outM k * 1000 - s.outOffset k * 65536) / ((unitsPerS * 1000 : Nat) : Int)).toNat - s.f Fld.REF_TIME_CFG_TAI_UTC_S

/-- The frame of an IRIG output in an instant's second. -/
def State.irigSymbols (s : State) (k t : Nat) : List Nat := Machine.irigFrame (s.f (Fld.REF_OUT_K_CFG_IRIG_FMT k)) (s.irigUtc k t)

/-- Does an output give its function at an instant? It holds low until its start, and between the boundary of a realignment and the aligned
edge (R259, R261). -/
def State.outSends (s : State) (k t : Nat) : Bool :=
  s.flag (Fld.REF_OUT_STATUS_RUNNING k) && (match (s.out k).boundary with | some b => decide (t < b) | none => true)

/-- Does an IRIG code stand high at a place in its second, of a B12x carrier: is it at its mark amplitude? -/
def State.irigHigh (s : State) (k t : Nat) : Bool :=
  let x := s.outPhase k t
  let ms := unitsPerS
  decide (x % (10 * ms) < irigWidth ((s.irigSymbols k t).getD (x / (10 * ms)) 0) * ms)

/-- The level of an output at an instant of module time, its registers, misalignment and function as they stand: a clock of 50 % duty, a
pulse of WIDTH each second, a pulse of WIDTH each sample and of MARK on the second, or the IRIG code. -/
def State.outHigh (s : State) (k t : Nat) : Bool :=
  let x := s.outPhase k t
  let f := s.outFreq k
  let whole := unitsPerS * 1000
  let within := x * f % whole
  let ns (r : Nat) : Nat := (s.reg r).toNat * 65536000
  s.outSends k t
    && (if s.outFn k = ofClock then decide (2 * within < whole)
        else if s.outFn k = ofPps then decide (x < ns (Reg.REF_OUT_WIDTH k))
        else if s.outFn k = ofSample then
          decide (within < (if x * f < whole then ns (Reg.REF_OUT_MARK k) else ns (Reg.REF_OUT_WIDTH k)) * f)
        else if s.outFn k = ofIrig then s.irigHigh k t else false)

/-- A first edge is sent, with an IRIG output's first frame. -/
def State.firstEdge (s : State) (k e : Nat) : State :=
  let s := s.emit (.outputEdge k e)
  if s.outFn k = ofIrig then s.emit (.irig k (s.irigSymbols k e) (s.flag (Fld.REF_OUT_K_CFG_IRIG_AM k))) else s

/-! ### Starting (R259) -/

/-- 2 µs and 1 µs in units of 2^-16 ns. -/
def us2 : Nat := 2000 * 65536
def us1 : Nat := 1000 * 65536

/-- End the realignments that wait for nothing more. -/
def State.finishRealigns (s : State) : State :=
  let done := s.ref.realign.filter (fun x => x.2.1 == 0)
  let s := { s with ref := { s.ref with realign := s.ref.realign.filter (fun x => x.2.1 != 0) } }
  done.foldl (fun s (x : Nat × Nat × Nat) => s.finish x.1 stOk x.2.2 0) s

/-- An output no longer needs its realignment: the realignments that wait for it count it at once (R261). -/
def State.dropRealign (s : State) (k : Nat) : State :=
  let s := (s.setOut k { s.out k with boundary := none }).setFlag (Fld.REF_OUT_STATUS_REALIGN_PENDING k) false
  { s with ref := { s.ref with realign := s.ref.realign.map (fun (x : Nat × Nat × Nat) => (x.1, setBit x.2.1 k false, x.2.2)) } }.finishRealigns

/-- START_W2 has been written: the output holds low until its start. -/
def State.outRequest (s : State) (k : Nat) : State :=
  if s.outFn k = 0 then s
  else
    let w := s.triple (Reg.REF_OUT_START_W0 k) (Reg.REF_OUT_START_W1 k) (Reg.REF_OUT_START_W2 k)
    let t := ofTime96 w
    let first := if w = 0 then nextAt 1 (s.outOffset k * 65536) (s.now16 + us2)
      else if t ≤ s.now16 then s.now16 + us2 else t
    let s := s.setOut k { s.out k with start := some first }
    ((s.setFlag (Fld.REF_OUT_STATUS_START_PENDING k) true).setFlag (Fld.REF_OUT_STATUS_RUNNING k) false).dropRealign k

/-- The first ideal edge at or after the start has come. -/
def State.outBegin (s : State) (k : Nat) : State :=
  match (s.out k).start with
  | none => s
  | some t =>
    let e := s.idealEdge k t
    if reached e s.now16 && s.domainOn 2 then
      let s := s.setOut k { s.out k with start := none, slewAt := s.clk }
      let s := s.setPair48 (Reg.REF_OUT_MISALIGN_LO k) (Reg.REF_OUT_MISALIGN_HI k) 0
      let s := (s.setFlag (Fld.REF_OUT_STATUS_START_PENDING k) false).setFlag (Fld.REF_OUT_STATUS_RUNNING k) true
      (s.setFlag (Fld.REF_OUT_STATUS_MISALIGNED k) false).firstEdge k e
    else s

/-- Are an output's pins driven: DRIVE, a function, the time domain on, and in a shared carrier the claim gate (R258)? -/
def State.driving (s : State) (k : Nat) : Bool :=
  s.flag (Fld.REF_OUT_K_CFG_DRIVE k) && s.outFn k != 0 && s.domainOn 2 && (s.pairConfig != 1 || s.mir.driving)

/-! ### The nets and their keepers (R402, R403) -/

/-- Does this unit drive LANE_SEL_OUT[g] (R307)? -/
def State.laneSelDriving (s : State) (g : Nat) : Bool :=
  s.pairConfig == 1 && s.mir.driving && (s.f Fld.MIR_CFG_LANE_SEL_GROUPS).testBit g

/-- Is the driver of a net on: 0..7 TOUT, 8..11 LANE_SEL_OUT? -/
def State.netDriven (s : State) (i : Nat) : Bool := if i < 8 then s.driving i else s.laneSelDriving (i - 8)

/-- The level that this unit's driver puts on a net now. -/
def State.netOut (s : State) (i : Nat) : Bool := if i < 8 then s.outHigh i s.now16 else s.slotA

/-- The nets that this unit drives have been driven to their present levels: their drivers are about to change. -/
def State.noteNets (s : State) : State :=
  (List.range 12).foldl (fun (t : State) i =>
    if t.netDriven i then { t with rst := { t.rst with nets := setBit t.rst.nets i (t.netOut i) } } else t) s

/-- Is the keeper of a net on? In a shared carrier with HOLD and HOLD_IN both low; elsewhere while the net's driver is off. A split pair
counts as the latter: DEDUCED (log 129). -/
def State.keeperOn (s : State) (i : Nat) : Bool :=
  if s.pairConfig = 1 then !s.mir.driving && !s.flag Fld.MIR_STATUS_HOLD_IN else !s.netDriven i

/-- The level that this unit puts on a net, by its driver or its keeper; none where both are off. -/
def State.netLevel (s : State) (i : Nat) : Option Bool :=
  if s.netDriven i then some (s.netOut i) else if s.keeperOn i then some (s.rst.nets.testBit i) else none

/-- The peak-to-peak amplitude of an amplitude-modulated IRIG output in mV: mark, or space (R402). -/
def State.irigAmplitude (s : State) (k t : Nat) : Nat := if s.irigHigh k t then 800 else 240

/-! ### Realignment (R261) -/

/-- The boundary b of an output: the end of its pulse or frame, or its next rising edge. -/
def State.boundary (s : State) (k : Nat) : Nat :=
  let base := s.outOffset k * 65536 + s.outM k * 1000
  let now := s.now16 + 1
  if s.outFn k = ofPps then nextAt 1 (base + (((s.reg (Reg.REF_OUT_WIDTH k)).toNat * 65536000 : Nat) : Int)) now
  else nextAt (if s.outFn k = ofClock then s.outFreq k else 1) base now

/-- Must a realignment wait for this output: it runs, and is misaligned? One that waits for its START counts at once. -/
def State.mustRealign (s : State) (k : Nat) : Bool :=
  s.flag (Fld.REF_OUT_STATUS_RUNNING k) && !s.flag (Fld.REF_OUT_STATUS_START_PENDING k) && decide (s.outM k ≠ 0)

/-- A set of outputs as a mask. -/
def maskOf (p : Nat → Bool) : Nat := ((List.range 8).map (fun k => if p k then 2 ^ k else 0)).sum

/-- CMD_OUT_REALIGN. -/
def State.cmdRealign (s : State) (tag : Nat) : State :=
  match s.startable tag 0x41 with
  | none => s
  | some e =>
    let mask := e.op 16 1
    let named := maskOf (fun k => mask.testBit k && s.outFn k != 0)
    let wait := maskOf (fun k => named.testBit k && s.mustRealign k)
    let s := (s.begin tag).mark tag
    let s := (List.range 8).foldl (fun s k =>
      if wait.testBit k then
        let o := s.out k
        (s.setOut k { o with boundary := some (o.boundary.getD (s.boundary k)) }).setFlag (Fld.REF_OUT_STATUS_REALIGN_PENDING k) true
      else s) s
    { s with ref := { s.ref with realign := s.ref.realign ++ [(tag, wait, named)] } }.finishRealigns

/-- A realigning output reaches its first ideal edge at or after b + 1 µs. -/
def State.realignEdge (s : State) (k : Nat) : State :=
  match (s.out k).boundary with
  | none => s
  | some b =>
    let e := s.alignEdge k (b + us1)
    if reached e s.now16 && s.domainOn 2 then
      let m := s.outM k
      let s := s.setOut k { s.out k with boundary := none, slewAt := s.clk }
      let s := s.setPair48 (Reg.REF_OUT_MISALIGN_LO k) (Reg.REF_OUT_MISALIGN_HI k) 0
      let s := s.setFlag (Fld.REF_OUT_STATUS_MISALIGNED k) false
      ((s.firstEdge k e).raise 29 k [(24, 6, unsigned 48 m), (30, 1, 0), (32, 12, time96 e)]).dropRealign k
    else s

end Sys2Proof.Machine
end

