-- ==== Sys2Proof/Machine/Tin.lean ====
section
/-! DEFINITION. Event timing inputs (11_event_timing.md): capture and stamps, dead time and holdoff, the timestamp, interval and
frequency modes, records and their destinations, arming, and what takes effect in an idle period. -/

namespace Sys2Proof.Machine

/-! ### An input and its settings -/

/-- Function of an input under the active image: 0 NONE, 1 EDGE, 2 COUNTER (R264). -/
def State.tinFn (s : State) (i : Nat) : Nat :=
  match s.img.active with
  | some im => Store.get (fun _ => 0) im.tin i
  | none => 0

def State.tic (s : State) (i : Nat) : Tin := Store.get (fun _ => {}) s.tin i
def State.setTic (s : State) (i : Nat) (x : Tin) : State := { s with tin := Store.set (fun _ => {}) s.tin i x }

/-- TIC_CFG as it is in force: a change of MODE, EDGE_SEL, STOP_EDGE, STOP_SRC, PRESCALE or TERM waits for an idle period (R265, R276). -/
def State.ticCfg (s : State) (i : Nat) : Word :=
  match (s.tic i).kept with
  | some (w, _) => w
  | none => s.reg (Reg.TIC_CFG i)
def State.ticMode (s : State) (i : Nat) : Nat := (Fld.TIC_CFG_MODE i).of (s.ticCfg i)
def State.ticEdgeSel (s : State) (i : Nat) : Nat := (Fld.TIC_CFG_EDGE_SEL i).of (s.ticCfg i)
def State.ticStopEdge (s : State) (i : Nat) : Nat := (Fld.TIC_CFG_STOP_EDGE i).of (s.ticCfg i)
def State.ticStopSrc (s : State) (i : Nat) : Nat := (Fld.TIC_CFG_STOP_SRC i).of (s.ticCfg i)
def State.ticPrescale (s : State) (i : Nat) : Nat := (Fld.TIC_CFG_PRESCALE i).of (s.ticCfg i)

/-- Is the mode an interval mode? -/
def intervalMode (m : Nat) : Bool := m == 2 || m == 3

/-- Does a polarity satisfy an edge selection (0 rising, 1 falling, 2 both)? -/
def edgeFits (sel : Nat) (rising : Bool) : Bool := sel == 2 || (sel == 0 && rising) || (sel == 1 && !rising)

/-- The centre of a bin, units of 2^-16 ns: of the table in force, or of the factory's (R299). -/
def State.binCentre (s : State) (i b : Nat) : Nat :=
  match (s.tic i).bins with
  | some l => l.getD b 0
  | none => (s.figureNow i (figCentre i b) (((2 * b + 1) * 1024 / 10 : Nat) : Int)).toNat

/-- IN_DELAY: the factory delay from the contacts to the converter, its nominal figure the 12 ns of the delay line (R266). -/
def State.factoryInDelay (s : State) (i : Nat) : Int := s.figure i (figInDelay i) 786432 (s.factoryTemp i)

/-- IN_DELAY + TRIM (R266). -/
def State.inDelay (s : State) (i : Nat) : Int := s.factoryInDelay i + signed 24 (s.f (Fld.TIC_TRIM_TRIM i))

/-- Where on the tick count an edge reaches a converter that captures it at this tick in a bin, in units of a tenth of 2^-16 ns. -/
def State.edgePlace (s : State) (i bin : Nat) : Int := ((s.clk * 1048576 : Nat) : Int) - ((s.binCentre i bin * 10 : Nat) : Int)

/-- The edge that a converter captures at this tick, in a bin (R266, R270). -/
def State.edgeAt (s : State) (i bin : Nat) (rising : Bool) : Edge :=
  ⟨roundUnits ((s.tickTime : Int) - ((s.binCentre i bin : Int) + s.inDelay i) * 2 ^ 24), s.edgePlace i bin - s.inDelay i * 10, rising, bin⟩

/-- A run with the user's reference holds the input (R284). -/
def State.calExt (s : State) (i : Nat) : Bool :=
  match Store.get (fun _ => none) s.cal.runs i with
  | some r => r.ext
  | none => false

/-- TIC[i]_STATUS.STATE: 0 idle, 1 armed, 2 open, 3 CAL_EXT. -/
def State.ticState (s : State) (i : Nat) : Nat :=
  if s.calExt i then 3
  else if (s.tic i).opened.isSome then 2
  else if s.ticMode i = 1 ∨ ((s.tic i).armed = true ∧ intervalMode (s.ticMode i) = true) then 1
  else 0

/-! ### Records (R279..R281) -/

/-- The level of an input's FIFO: its records not yet written to the event queue or to the high-rate ring. -/
def State.ticFifo (s : State) (i : Nat) : Nat := (s.evt.gen.filter (fun r => r.source == 32 + i)).length + (s.tic i).fifo.length

/-- A record before it is given its number and destination. -/
structure TinRec where
  kind : Nat
  flags : Nat
  stop : Nat
  presc : Nat
  time : Nat
  value : Int
  count : Nat
  bin : Nat

/-- COMMON_FLAGS of an input's record: bit 3 while its calibration is pending. -/
def State.ticFlags (s : State) (i : Nat) : Nat :=
  s.commonFlags + (if s.flag (Fld.TIC_STATUS_CAL_PENDING i) || s.flag (Fld.TIC_STATUS_FACTORY_TABLE i) then 8 else 0)

/-- A record lost for want of room. -/
def State.ticLost (s : State) (i : Nat) : State := s.bump (Reg.TIC_LOST i)

/-- Write a record to the event queue's logic; it is lost where the FIFO is full, or the domain of the event queue is off. -/
def State.ticEvent (s : State) (i seq missed flags : Nat) (r : TinRec) : State :=
  let d := mkDetail [(24, 1, r.kind), (25, 1, flags), (26, 1, r.stop), (27, 1, r.presc), (28, 4, seq), (32, 8, unsigned 64 r.value),
    (40, 4, r.count), (44, 4, missed), (48, 2, r.bin)]
  let e : EvtRec := ⟨32 + i, i, s.ticFlags i, r.time, d⟩
  if s.domainOn 4 = false then s.ticLost i
  else if 256 ≤ s.ticFifo i then (s.bump (Reg.EVT_SRC_CNT (32 + i))).ticLost i
  else s.raiseRec e

/-- A record for the high-rate ring goes into the input's FIFO, from which it is written at once where nothing waits before it; a full FIFO
loses it (R279, R281). -/
def State.ticRing (s : State) (i seq missed flags : Nat) (r : TinRec) : State :=
  if 256 ≤ s.ticFifo i then s.ticLost i
  else
    let w : BitVec 256 := packRecord 256 [(0, 1, i + r.kind * 16), (1, 1, flags), (2, 1, s.ticFlags i), (3, 1, s.unitLetter),
      (4, 4, seq), (8, 12, time96 r.time), (20, 8, unsigned 64 r.value),
      (28, 4, if r.kind = 2 then r.count else r.stop + min missed 0xFFFF * 65536)]
    let first := if ringWaiting s.tin = 0 then max s.hif.ringAt (2 * s.clk) else s.hif.ringAt
    let s := (s.setTic i { s.tic i with fifo := (s.tic i).fifo ++ [(s.clk, w)] })
    { s with hif := { s.hif with ringAt := first } }.drainRing (ringWaiting s.tin)

/-- An input generates a record: numbered, with the edges missed since its last, and sent where DEST says. None while a run with the
user's reference holds it (R284). -/
def State.ticRecord (s : State) (i : Nat) (r : TinRec) : State :=
  if s.calExt i then s else
  let x := s.tic i
  let flags := r.flags + (if x.missed ≠ 0 then 16 else 0) + (if s.flag (Fld.TIC_STATUS_FACTORY_TABLE i) then 64 else 0)
  let s := s.setTic i { x with seq := (x.seq + 1) % 2 ^ 32, missed := 0 }
  let s := if r.flags.testBit 2 then s.bump (Reg.TIC_TIMEOUTS i) else s
  if s.flag (Fld.TIC_CFG_DEST i) then s.ticRing i x.seq x.missed flags r else s.ticEvent i x.seq x.missed flags r

/-! ### Interval measurements (R270..R276) -/

/-- The RISING flag. -/
def risingFlag (e : Edge) : Nat := if e.rising then 1 else 0

/-- Stop edges counted early that prove not to be. -/
def State.notEarly (s : State) (i n : Nat) : State := s.setReg (Reg.TIC_STOP_EARLY i) (s.reg (Reg.TIC_STOP_EARLY i) - BitVec.ofNat 32 n)

/-- A measurement ends with a record: it re-arms for edges stamped after an instant when ARM_AUTO is 1 (R275). Stops stored that are stamped
after it stay early stops of the next measurement (R272). -/
def State.ticEnd (s : State) (i after_ : Nat) (r : TinRec) : State :=
  let x := s.tic i
  let auto := s.flag (Fld.TIC_CFG_ARM_AUTO i)
  let later := if auto then x.earlyStops.filter (fun e => decide (after_ < e.stamp)) else []
  let s := s.notEarly i (x.earlyStops.length - later.length)
  (s.setTic i { x with
    opened := none
    earlyStops := later
    armed := auto
    after_ := if auto then some after_ else none }).ticRecord i r

/-- Do two edges carry one stamp, no step of time between them? -/
def Edge.sameStamp (a b : Edge) : Bool := a.stamp == b.stamp && decide ((a.fine - b.fine).natAbs < 20)

/-- Does an edge lie before another? By their stamps as the tick count has them, so that no step of time enters (R270, R272). -/
def Edge.before (a b : Edge) : Bool := decide (a.fine < b.fine) && !a.sameStamp b

/-- Close a measurement with its start and stop. -/
def State.ticClose (s : State) (i : Nat) (start stop closing : Edge) : State :=
  let d := if s.ticMode i = 3 ∧ stop.sameStamp start = true then 0 else stop.fine - start.fine
  s.ticEnd i closing.stamp
    ⟨1, risingFlag start + (if d.natAbs < 4096 then 2 else 0), s.ticStopSrc i, 0, start.stamp, ratio d 10, 0, start.bin⟩

/-- Close a measurement without an interval: TIMEOUT (4) or ABORTED (8). -/
def State.ticCut (s : State) (i flag after_ : Nat) : State :=
  match (s.tic i).opened with
  | none => s
  | some (_, e, _) => s.ticEnd i after_ ⟨1, risingFlag e + flag, s.ticStopSrc i, 0, e.stamp, 0, 0, e.bin⟩

/-- Open a measurement: its timeout instant is stored. -/
def State.ticOpen (s : State) (i : Nat) (isStart : Bool) (e : Edge) : State :=
  s.setTic i { s.tic i with opened := some (isStart, e, e.stamp + (s.reg (Reg.TIC_TIMEOUT i)).toNat * 65536) }

/-- Is an input armed for an edge? -/
def Tin.takes (x : Tin) (e : Edge) : Bool :=
  x.armed && (match x.after_ with | some t => decide (t < e.stamp) | none => true)

/-- An edge stamped after the timeout of an open measurement ends it first (R274). -/
def State.ticLate (s : State) (i : Nat) (e : Edge) : State :=
  match (s.tic i).opened with
  | some (_, _, t) => if t < e.stamp then s.ticCut i 4 t else s
  | none => s

/-- The earliest of the edges of a list. -/
def earliest : List Edge → Option Edge
  | [] => none
  | e :: l => match earliest l with
    | none => some e
    | some f => if f.before e then some f else some e

/-- An ordered measurement's start: stops before it were early; of the others the first closes, unless it is stamped after the timeout
(R272, R274). -/
def State.orderedStart (s : State) (i : Nat) (e : Edge) : State :=
  let rest := (s.tic i).earlyStops.filter (fun (x : Edge) => !x.before e)
  let s := (s.setTic i { s.tic i with earlyStops := rest }).ticOpen i true e
  match earliest (rest.filter (fun x => decide (x.stamp ≤ e.stamp + (s.reg (Reg.TIC_TIMEOUT i)).toNat * 65536))) with
  | none => s
  | some stop => ((s.setTic i { s.tic i with earlyStops := rest.erase stop }).notEarly i 1).ticClose i e stop stop

/-- A start edge of an interval input. -/
def State.ticStart (s : State) (i : Nat) (e : Edge) : State :=
  let s := s.ticLate i e
  match (s.tic i).opened with
  | some (true, _, _) => s.bump (Reg.TIC_START_EXTRA i)
  | some (false, stop, _) => s.ticClose i e stop e
  | none =>
    if (s.tic i).takes e then (if s.ticMode i = 3 then s.orderedStart i e else s.ticOpen i true e) else s

/-- A stop edge of an interval input. -/
def State.ticStop (s : State) (i : Nat) (e : Edge) : State :=
  let s := s.ticLate i e
  match (s.tic i).opened with
  | some (true, start, _) =>
    if s.ticMode i = 3 ∧ e.before start = true then s.bump (Reg.TIC_STOP_EARLY i) else s.ticClose i start e e
  | some (false, _, _) => s.bump (Reg.TIC_START_EXTRA i)
  | none =>
    if (s.tic i).takes e then
      if s.ticMode i = 3 then
        (s.setTic i { s.tic i with earlyStops := (s.tic i).earlyStops ++ [e] }).bump (Reg.TIC_STOP_EARLY i)
      else s.ticOpen i false e
    else s

/-- How long an edge that is stamped at an instant may take from then until it has left its converter: its delay from the reference point,
and two ticks (R274). -/
def State.settleTime (s : State) (i : Nat) : Nat := (max (s.inDelay i) 0).toNat + 209716

/-- The stored timeout of an open measurement is due, and every edge stamped up to it has left the converters of start and stop. -/
def State.ticTimeout (s : State) (i : Nat) : State :=
  match (s.tic i).opened with
  | some (_, _, t) =>
    if reached (t + max (s.settleTime i) (s.settleTime (s.ticStopSrc i))) s.now16 then s.ticCut i 4 t else s
  | none => s

/-- ARM and DISARM written (R275). -/
def State.ticArm (s : State) (i : Nat) : State :=
  if intervalMode (s.ticMode i) && (s.tic i).opened.isNone then s.setTic i { s.tic i with armed := true, after_ := none, earlyStops := [] }
  else s
def State.ticDisarm (s : State) (i : Nat) : State := s.setTic i { s.tic i with armed := false, earlyStops := [] }

/-! ### Frequency (R277) -/

/-- Length of a gate, units of 2^-16 ns. -/
def State.gateLen (s : State) (i : Nat) : Nat := (s.reg (Reg.TIC_GATE i)).toNat * 1000000 * 65536

/-- FREQUENCY begins: the first gate is the one whose boundary comes next. -/
def State.freqBegin (s : State) (i : Nat) : State :=
  let x := s.tic i
  s.setTic i { x with psc := 0, gate := s.now16 / s.gateLen i + 1, e0 := none, cnt := 0, e1 := none, cnt1 := 0, overran := false, overran1 := false }

/-- The gate in hand ends with its record: TIMEOUT with fewer than two edges. `next` is the first edge after it where none fell into the gate
that follows. -/
def State.freqClose (s : State) (i : Nat) (next : Option Edge) : State :=
  let x := s.tic i
  let presc := s.ticPrescale i
  let overran := if x.overran then 32 else 0
  let r : TinRec := match x.e0, x.e1.or next with
    | some a, some b =>
      if 2 ≤ x.cnt then ⟨2, risingFlag a + overran, 0, presc, a.stamp, ratio (b.fine - a.fine) 10, x.cnt, a.bin⟩
      else ⟨2, risingFlag a + overran + 4, 0, presc, a.stamp, 0, x.cnt, a.bin⟩
    | some a, none => ⟨2, risingFlag a + overran + 4, 0, presc, a.stamp, 0, x.cnt, a.bin⟩
    | none, _ => ⟨2, overran + 4, 0, presc, x.gate * s.gateLen i, 0, x.cnt, 0⟩
  let s := s.setTic i { x with gate := x.gate + 1, e0 := x.e1, cnt := x.cnt1, e1 := none, cnt1 := 0, overran := x.overran1, overran1 := false }
  s.ticRecord i r

/-- Close gates, at most `n`, until the one in hand is the one before gate `g`, in which an edge has come. -/
def State.freqCatch (s : State) (i g : Nat) (e : Edge) : Nat → State
  | 0 => s
  | n + 1 => if (s.tic i).gate + 1 < g then (s.freqClose i (some e)).freqCatch i g e n else s

/-- A prescaled edge falls in dead time: the gate that its stamp lies in is flagged OVERRANGE (R277). -/
def State.freqBlind (s : State) (i : Nat) (e : Edge) : State :=
  let x := s.tic i
  if s.ticMode i ≠ 4 then s
  else if e.stamp / s.gateLen i ≤ x.gate then s.setTic i { x with overran := true } else s.setTic i { x with overran1 := true }

/-- A step back over boundaries: the gate in hand goes on to the next boundary that module time then comes to (log 122). -/
def State.freqStep (s : State) (before i : Nat) : State :=
  if s.ticMode i = 4 then
    let back := before / s.gateLen i - s.now16 / s.gateLen i
    s.setTic i { s.tic i with gate := (s.tic i).gate - back }
  else s
def State.freqSteps (s : State) (before : Nat) : State := (List.range 16).foldl (fun s i => s.freqStep before i) s

/-- A prescaled edge is captured. -/
def State.freqEdge (s : State) (i : Nat) (e : Edge) : State :=
  let g := e.stamp / s.gateLen i
  let s := s.freqCatch i g e (g - (s.tic i).gate)
  let x := s.tic i
  if g < x.gate then s
  else if g = x.gate then s.setTic i { x with e0 := some (x.e0.getD e), cnt := x.cnt + 1 }
  else s.setTic i { x with e1 := some (x.e1.getD e), cnt1 := x.cnt1 + 1 }

/-- A gate ends (TIN_FREQ_GATE): `extra` prescaled edges of it were captured without a command of their own. The record is
written at e_(k+1), or once the next boundary has passed with fewer than two edges. -/
def State.freqGate (s : State) (i extra : Nat) : State :=
  if s.ticMode i = 4 ∧ s.domainOn 3 = true ∧ (s.tic i).gate ≤ s.now16 / s.gateLen i then
    let x := s.tic i
    let more := if x.e0.isSome then extra else 0
    let s := s.bumpBy (Reg.TIC_EDGES i) more
    let x := { x with cnt := x.cnt + more }
    let s := s.setTic i x
    if (x.gate + 1) * s.gateLen i ≤ s.now16 ∧ (x.e1.isSome ∨ x.cnt < 2) then s.freqClose i none else s
  else s

/-! ### An edge -/

/-- The interval inputs that take this polarity of an input as their stop. -/
def State.stopUsers (s : State) (i : Nat) (rising : Bool) : List Nat :=
  (List.range 16).filter (fun j => intervalMode (s.ticMode j) && s.tinFn j == 1 && s.tinFn i == 1 && s.ticStopSrc j == i
    && edgeFits (s.ticStopEdge j) rising)

/-- A captured edge acts: as the input's own, and as others' stop. An interval input whose stop is itself takes an edge as
its stop while it is open, and as its start otherwise. -/
def State.ticCaptured (s : State) (i : Nat) (e : Edge) (own : Bool) (users : List Nat) : State :=
  let m := s.ticMode i
  let s := if intervalMode m then s.ticLate i e else s
  let wasOpen := (s.tic i).opened.isSome
  let asStop := users.contains i && (wasOpen || !own)
  let s :=
    if own && m == 1 then s.ticRecord i ⟨0, risingFlag e, 0, 0, e.stamp, 0, 0, e.bin⟩
    else if own && m == 4 then s.freqEdge i e
    else if own && intervalMode m && !asStop then s.ticStart i e
    else s
  (users.filter (fun j => j != i || asStop)).foldl (fun s j => s.ticStop j e) s

/-- Does the prescaler pass this crossing? It counts it otherwise. -/
def State.prescale (s : State) (i : Nat) : Bool × State :=
  if s.ticMode i = 4 then
    let n := (s.tic i).psc + 1
    if 2 ^ s.ticPrescale i ≤ n then (true, s.setTic i { s.tic i with psc := 0 })
    else (false, s.setTic i { s.tic i with psc := n })
  else (true, s)

/-- Is the converter blind to an edge that reaches it at a place on the tick count: within 8 ns of the last it captured (R267)? -/
def Tin.blind (x : Tin) (place : Int) : Bool := x.last.isSome && decide (place - x.lastAt < 8 * 655360)

/-! ### Settings (R265, R276, R285) -/

/-- Has the comparator seen no edge in the last 20 ns, with no open measurement? -/
def State.ticIdle (s : State) (i : Nat) : Bool :=
  (s.tic i).opened.isNone && (match (s.tic i).seenAt with | some t => decide (t + 13 ≤ s.clk) | none => true)

/-- Settings that have changed come into force: a MODE of FREQUENCY begins, and a changed prescaler begins it anew; another MODE forgets the
stops that were stored. -/
def State.ticForce (s : State) (i : Nat) : State :=
  let mode := s.ticMode i
  let presc := s.ticPrescale i
  let s := s.setTic i { s.tic i with kept := none }
  if s.ticMode i ≠ mode then
    let s := s.setTic i { s.tic i with earlyStops := [] }
    if s.ticMode i = 4 then s.freqBegin i else s
  else if s.ticPrescale i ≠ presc ∧ s.ticMode i = 4 then s.freqBegin i
  else s

/-- A new bin table comes into force; an empty one is the factory's. -/
def State.ticTable (s : State) (i : Nat) (l : List Nat) (widest : Nat) : State :=
  let s := s.setTic i { s.tic i with bins := if l.isEmpty then none else some l, nextBins := none, tableAt := s.clk }
  let s := (s.setFlag (Fld.TIC_STATUS_FACTORY_TABLE i) l.isEmpty).setFlag (Fld.TIC_STATUS_CAL_PENDING i) l.isEmpty
  s.setReg (Reg.TIC_MAX_BIN i) (BitVec.ofNat 32 widest)

/-- The first idle period: new settings and a new bin table take effect. -/
def State.ticApply (s : State) (i : Nat) : State :=
  if s.ticIdle i && s.domainOn 3 && decide (i < 16) then
    let s := if (s.tic i).kept.isSome then s.ticForce i else s
    match (s.tic i).nextBins with
    | none => s
    | some (l, widest) => s.ticTable i l widest
  else s

/-- Before TIC_CFG is written with a new word: an open measurement whose setting changes is aborted, and the old settings stay in force until
the input is idle. -/
def State.ticWriting (s : State) (i : Nat) (new : Word) : State :=
  let old := s.ticCfg i
  let diff (f : Nat → FieldRef) : Bool := (f i).of old != (f i).of new
  let changed := diff Fld.TIC_CFG_MODE || diff Fld.TIC_CFG_EDGE_SEL || diff Fld.TIC_CFG_STOP_EDGE || diff Fld.TIC_CFG_STOP_SRC
    || diff Fld.TIC_CFG_PRESCALE
  let s := if changed then s.ticCut i 8 s.now16 else s
  s.setTic i { s.tic i with kept := some (old, match (s.tic i).kept with | some k => k.2 | none => s.reg (Reg.TIC_THRESH i)) }

/-- Before TIC_THRESH is written. -/
def State.threshWriting (s : State) (i : Nat) : State :=
  s.setTic i { s.tic i with kept := some ((s.tic i).kept.getD (s.reg (Reg.TIC_CFG i), s.reg (Reg.TIC_THRESH i))) }

/-! ### Crossings (R265..R269) -/

/-- The errors of the edges that an external output run takes from this input: each stamp, less CABLE_PS, from the ideal edge that lies
nearest it, in fs (R296). -/
def State.extGather (s : State) (i : Nat) (e : Edge) : State :=
  (List.range 8).foldl (fun (s : State) k =>
    match Store.get (fun _ => none) s.cal.runs (192 + k) with
    | some (r : CalRun) =>
      if r.ext && s.f (Fld.CAL_OUT_CFG_EXT_TIN k) == i then
        let half := unitsPerS / (2 * s.edgeRate k)
        let cable : Int := ((s.f (Fld.CAL_OUT_CFG_CABLE_PS k) * 1000 : Nat) : Int)
        let place := (e.stamp : Int) - ratio (cable * 65536) 1000000
        let ideal := s.idealEdge k (place.toNat - half)
        let err := ratio ((place - (ideal : Int)) * 1000000) 65536
        { s with cal := { s.cal with extErrs := Store.set (fun _ => []) s.cal.extErrs k (Store.get (fun _ => []) s.cal.extErrs k ++ [err]) } }
      else s
    | none => s) s

/-- A crossing of an input's threshold, which the interpolator puts into a bin (R265..R269). What waited for an idle period that has passed
takes effect first. -/
def State.tinEdge (s : State) (i : Nat) (rising : Bool) (bin : Nat) : State :=
  if 16 ≤ i ∨ s.domainOn 3 = false ∨ s.tinFn i = 0 then s
  else
    let s := s.ticApply i
    let s := s.setTic i { s.tic i with seenAt := some s.clk }
    let own := decide (s.ticMode i ≠ 0) && edgeFits (s.ticEdgeSel i) rising
    let users := s.stopUsers i rising
    let place := s.edgePlace i bin
    if s.calExt i then
      let e := s.edgeAt i bin rising
      if edgeFits (s.ticEdgeSel i) rising && !(s.tic i).blind place then
        (s.setTic i { s.tic i with last := some e, lastAt := place }).bump (Reg.TIC_CAL_HITS i)
      else s
    else if !own && users.isEmpty then s
    else
      let r := s.prescale i
      let s := r.2
      if r.1 = false then s
      else
        let e := s.edgeAt i bin rising
        let hold := (s.reg (Reg.TIC_HOLDOFF i)).toNat * 1000 * 65536
        let held := match (s.tic i).last with
          | some l => decide (hold ≠ 0) && decide (l.stamp ≤ e.stamp) && decide (e.stamp < l.stamp + hold)
          | none => false
        if held then s.bump (Reg.TIC_HELDOFF i)
        else if (s.tic i).blind place then
          let s := s.freqBlind i e
          (s.setTic i { s.tic i with missed := (s.tic i).missed + 1 }).bump (Reg.TIC_MISSED i)
        else
          (((s.setTic i { s.tic i with last := some e, lastAt := place }).bump (Reg.TIC_EDGES i)).extGather i e).ticCaptured i e own users

/-- The jitter source launches a calibration edge into a quiet converter: a hit (R282). -/
def State.calLaunch (s : State) (i : Nat) : State :=
  let x := s.tic i
  let quiet := match x.seenAt with | some t => decide (t + 13 ≤ s.clk) | none => true
  let due := match x.opened with | some (_, _, t) => decide (t < s.now16 + 20 * 65536) | none => false
  let own := match Store.get (fun _ => none) s.cal.runs i with | some r => !r.ext | none => false
  if decide (i < 16) && s.domainOn 3 && own && quiet && !due
      && decide (x.launchAt + 25 ≤ s.clk) then
    (s.setTic i { x with launchAt := s.clk }).bump (Reg.TIC_CAL_HITS i)
  else s

end Sys2Proof.Machine
end

