-- ==== Sys2Proof/Machine/Calib.lean ====
section
/-! DEFINITION. Self-calibration (12_calibration.md): instances, due runs, starting and ending runs, and what each type's
result does. Planning by the lamplighter stands in Machine/Energy.lean. -/

namespace Sys2Proof.Machine

/-! ### Instances (R288, R289) -/

/-- Does the active structure have an instance? -/
def State.calExists (s : State) (j : Nat) : Bool :=
  match calType j with
  | 0 => false
  | 1 => s.tinFn j != 0
  | 3 => decide (96 ≤ j) || (s.portOfLane (j - 32)).isSome
  | 4 => s.speed (j - 128) != 0
  | _ => true

/-- Beads per run. -/
def calBeads (t : Nat) : Nat := if t = 1 ∨ t = 2 then 3 else if t = 4 then 2 else if t = 3 ∨ t = 5 then 1 else 0

def State.calDue (s : State) (j : Nat) : Option CalDue := Store.get (fun _ => none) s.cal.due j
def State.setCalDue (s : State) (j : Nat) (x : Option CalDue) : State :=
  { s with cal := { s.cal with due := Store.set (fun _ => none) s.cal.due j x } }
def State.calRun (s : State) (j : Nat) : Option CalRun := Store.get (fun _ => none) s.cal.runs j
def State.setCalRun (s : State) (j : Nat) (x : Option CalRun) : State :=
  { s with cal := { s.cal with runs := Store.set (fun _ => none) s.cal.runs j x } }

/-- CAL_INST[j]_STATUS.STATE of an instance that is neither due nor running: 0 calibrated, 3 on its factory table. -/
def State.calRest (s : State) (j : Nat) : Nat := if s.calibrated j then 0 else 3

/-- CAL_INST[j]_STATUS.STATE. -/
def State.calState (s : State) (j : Nat) : Nat :=
  if (s.calRun j).isSome then 2 else if (s.calDue j).isSome || s.cal.queue.any (fun q => q.1 == j) then 1 else s.calRest j
def State.showCal (s : State) (j : Nat) : State := s.setF (Fld.CAL_INST_STATUS_STATE j) (s.calState j)

/-! ### Due (R290) -/

/-- Do the automatic triggers of a type act? -/
def State.calAuto (s : State) (t : Nat) : Bool := s.flag Fld.CAL_CTRL_AUTO_EN && s.flag (Fld.CAL_TYPE_CFG_AUTO_EN t)

/-- A run that becomes due now. A port that is down does not count its wait (R290). -/
def State.dueNow (s : State) (j trigger : Nat) : CalDue :=
  ⟨trigger, s.clk, none, false, if calType j = 4 ∧ s.portUp (j - 128) = false then some 0 else none⟩

/-- An automatic trigger makes an instance due. An input with a user reference only shows calibration pending (R284). At link up trigger 0
replaces what a port was due for, and its deferral counts from there. -/
def State.calTrigger (s : State) (j trigger : Nat) : State :=
  let t := calType j
  if s.calExists j && s.calAuto t && s.domainOn (calDomain j) then
    if t = 1 ∧ s.flag (Fld.TIC_CFG_CAL_SRC j) = true then s
    else if (s.calRun j).isSome || s.cal.queue.any (fun q => q.1 == j) then s
    else match s.calDue j with
      | some d => if trigger = 0 ∧ t = 4 ∧ d.tag = none then (s.setCalDue j (some (s.dueNow j trigger))).showCal j else s
      | none => (s.setCalDue j (some (s.dueNow j trigger))).showCal j
  else s

/-- A port goes down with a run due: the time it is down does not count against its deferral (R290). -/
def State.calLinkDown (s : State) (n : Nat) : State :=
  match s.calDue (128 + n) with
  | some d => if d.waited.isNone then s.setCalDue (128 + n) (some { d with waited := some (s.clk - d.since) }) else s
  | none => s

/-- A port comes up: what it was due for goes on counting from where it stopped. -/
def State.calResume (s : State) (n : Nat) : State :=
  match s.calDue (128 + n) with
  | some d => s.setCalDue (128 + n) (some { d with
      since := match d.waited with | some w => s.clk - w | none => d.since
      waited := none })
  | none => s

/-- A link comes up: the port's initial run, and those of its lanes that a restructuring abandoned (R298). -/
def State.calLinkUp (s : State) (n : Nat) : State :=
  let s := s.calResume n
  let mine (j : Nat) : Bool := calType j == 3 && s.portOfLane (j - 32) == some n
  let l := s.cal.again.filter mine
  let s := { s with cal := { s.cal with again := s.cal.again.filter (fun j => !mine j) } }
  (l.foldl (fun s j => s.calTrigger j 0) s).calTrigger (128 + n) 0

/-- Event 12 (R369). -/
def State.flashError (s : State) (op area addr retries : Nat) : State :=
  s.raise 12 moduleScope [(24, 1, op), (25, 1, area), (28, 4, addr), (32, 1, retries)]

/-- An instance whose factory table fails its check: event 12, and its first run is due at once (R299). -/
def State.badTable (s : State) (j addr : Nat) : State :=
  let s := s.flashError 4 2 addr 0
  if s.calExists j && (s.calDue j).isNone && (s.calRun j).isNone then (s.setCalDue j (some (s.dueNow j 0))).showCal j else s

/-- The initial runs of a domain's instances, ports apart (trigger 0). -/
def State.calInitial (s : State) (d : Nat) : State :=
  let s := (s.cal.badTables.filter (fun x => calDomain x.1 == d && calType x.1 != 0)).foldl (fun (s : State) x => s.badTable x.1 x.2) s
  (calAll.filter (fun j => calDomain j == d && calType j != 4 && calType j != 6)).foldl (fun s j => s.calTrigger j 0) s

/-- A sensor reads a new temperature: its register, and the instances it makes due (trigger 1). -/
def State.calTempTrigger (s : State) (k temp : Nat) : State :=
  if k < 8 then
    let s := s.setF (Fld.CAL_SENSOR_TEMP k) temp
    (calAll.filter (fun j => calSensor j == some k)).foldl (fun s j =>
      let d := (signed 16 (temp % 65536) - s.lastTemp j).natAbs
      if s.f (Fld.CAL_TYPE_CFG_THRESH_QK (calType j)) * 4 < d then
        (if calType j = 1 ∧ s.calExists j = true then s.setFlag (Fld.TIC_STATUS_CAL_PENDING j) true else s).calTrigger j 1
      else s) s
  else s

/-! ### Runs -/

/-- May runs of types 1..5 start: no supply warning, no USE_FACTORY? -/
def State.calMayStart (s : State) : Bool := !s.supplyWarn && !s.flag Fld.CAL_CTRL_USE_FACTORY

/-- Is a run of the same lane group as a port instance in progress? -/
def State.groupBusy (s : State) (j : Nat) : Bool :=
  s.cal.runs.any (fun r => calType r.1 == 4 && calDomain r.1 == calDomain j)

/-- Put a run into progress. One with the user's reference takes its input out of service: an open measurement ends without a record (R284);
an external output run forgets the edges it has seen. -/
def State.putRun (s : State) (j : Nat) (r : CalRun) : State :=
  let s := (s.setCalRun j (some r)).showCal j
  let s := s.setFlag (Fld.CAL_INST_STATUS_FORCED j) r.forced
  if calType j = 1 then
    (if r.ext then s.setTic j { s.tic j with opened := none } else s).setReg (Reg.TIC_CAL_HITS j) 0
  else if calType j = 5 then { s with cal := { s.cal with extErrs := Store.set (fun _ => []) s.cal.extErrs (j - 192) [] } }
  else s

/-- Start a run, or put a port's run in line behind its lane group's (R292). Its beads are charged. -/
def State.startRun (s : State) (j trigger : Nat) (forced ext : Bool) (tag : Option Nat) : State :=
  let s := s.setCalDue j none
  let s := { s with cal := { s.cal with retry := Store.set (fun _ => none) s.cal.retry j none } }
  let s := (s.bumpBy Reg.CAL_BEADS (calBeads (calType j))).bumpBy (Reg.PWR_TASK_BEADS 3) (calBeads (calType j))
  let s := { s with pwr := { s.pwr with charged := s.pwr.charged + calBeads (calType j) } }
  let s := if forced then s.bump Reg.CAL_FORCED_CNT else s
  let gap := if calType j = 4 then Store.get (fun _ => 0) s.cal.portEnd (calDomain j) else 0
  let r : CalRun := ⟨trigger, forced, ext, max s.clk gap, s.calTemp j, tag⟩
  if calType j = 4 ∧ s.groupBusy j = true then { s with cal := { s.cal with queue := s.cal.queue ++ [(j, r)] } }.showCal j
  else s.putRun j r

/-- The next port run of a lane group begins 20 µs after the one before: `portEnd` is that instant. -/
def State.nextPortRun (s : State) (d : Nat) : State :=
  let free := s.clk + 20 * Config.ticksPerUs
  let s := { s with cal := { s.cal with portEnd := Store.set (fun _ => 0) s.cal.portEnd d free } }
  match s.cal.queue.find? (fun q => calDomain q.1 == d) with
  | none => s
  | some (j, r) =>
    let s := { s with cal := { s.cal with queue := s.cal.queue.filter (fun q => q.1 != j) } }
    s.putRun j { r with since := free, temp := s.calTemp j }

/-- A run ends with a result code (R300): counters, status, and its command, which has its mark first (R46). A port's external run measures what
lies outside the module and puts no calibration into force (R296). -/
def State.endRun (s : State) (j : Nat) (r : CalRun) (result : Nat) : State :=
  let ran := (s.calRun j).isSome
  let s := (match r.tag with | some tag => s.mark tag | none => s).setCalRun j none
  let bad := result == 1 || result == 3 || result == 4
  let s := if result = 0 then s.bump Reg.CAL_RUN_CNT else if bad then s.bump Reg.CAL_FAIL_CNT
    else if result = 2 then s.bump Reg.CAL_ABANDON_CNT else s
  let s := if result = 0 ∧ ¬(calType j = 4 ∧ r.ext = true) then
      let s := { s with cal := { s.cal with
        tookAt := Store.set (fun _ => none) s.cal.tookAt j (some s.clk)
        temps := Store.set (fun _ => none) s.cal.temps j (some r.temp) } }
      s.setF (Fld.CAL_INST_STATUS_LAST_TEMP j) r.temp
    else s
  let s := (s.setF (Fld.CAL_INST_STATUS_LAST_RESULT j) result).setFlag (Fld.CAL_INST_STATUS_LAST_FAILED j) bad
  let s := s.showCal j
  let s := if calType j = 4 ∧ ran = true then s.nextPortRun (calDomain j) else s
  match r.tag with
  | some tag => s.finish tag stOk result 0
  | none => s

/-- Event 93 with a run's end. -/
def State.runDone (s : State) (j : Nat) (r : CalRun) (figure : Int) : State :=
  let s := s.endRun j r 0
  s.raise 93 j [(24, 1, calType j), (25, 1, r.trigger), (26, 1, (if r.forced then 1 else 0) + (if r.ext then 2 else 0)),
    (28, 4, s.usSince r.since), (32, 4, unsigned 32 figure), (36, 2, r.temp)]

/-- Event 94 with a run's end: result 1, 3 or 4, the cause and its measured figure. -/
def State.runFailed (s : State) (j : Nat) (r : CalRun) (result cause : Nat) (figure : Int) : State :=
  (s.endRun j r result).raise 94 j [(24, 1, calType j), (25, 1, r.trigger), (26, 1, result), (27, 1, cause), (28, 4, unsigned 32 figure)]

/-- A run in progress, or one in line, is abandoned (result 2). -/
def State.abandon (s : State) (j : Nat) : State :=
  match s.calRun j with
  | some r => s.endRun j r 2
  | none =>
    match s.cal.queue.find? (fun q => q.1 == j) with
    | some (_, r) => { s with cal := { s.cal with queue := s.cal.queue.filter (fun q => q.1 != j) } }.endRun j r 2
    | none => s

/-- Abandon the runs that satisfy a test. -/
def State.abandonAll (s : State) (p : Nat → Bool) : State :=
  (((s.cal.queue.map (·.1)) ++ (s.cal.runs.map (·.1))).filter (fun j => calType j != 6 && p j)).foldl (fun s j => s.abandon j) s

/-- A port's runs end with its link, its FEC, its FIR or a supply warning (R293). -/
def State.abandonPort (s : State) (n : Nat) : State := s.abandon (128 + n)

/-- PORT_CAL_ABANDON: the port is not up, or a warning is in force, during its run. -/
def State.portAbandonRow (s : State) (n : Nat) : State :=
  let ext := match s.calRun (128 + n) with | some r => r.ext | none => false
  if n < 64 ∧ ((s.portUp n = false ∧ ext = false) ∨ s.supplyWarn = true) then s.abandonPort n else s

/-! ### CMD_CAL_RUN (R300) -/

/-- Has an output's EXT_TIN function EDGE and MODE 1 (R296)? -/
def State.extTin (s : State) (k : Nat) : Bool :=
  let i := s.f (Fld.CAL_OUT_CFG_EXT_TIN k)
  s.tinFn i == 1 && s.ticMode i == 1

/-- Is a run without effect on the instance as it stands (result 5)? -/
def State.calUseless (s : State) (j : Nat) (ext : Bool) : Bool :=
  !s.domainOn (calDomain j) || (s.flag Fld.CAL_CTRL_USE_FACTORY && calType j != 6)
    || (calType j == 4 && ext && s.flag (Fld.PRT_CFG_ENABLE (j - 128)))
    || (calType j == 5 && (s.outFn (j - 192) == 0 || s.flag (Fld.REF_OUT_STATUS_START_PENDING (j - 192)) || (ext && !s.extTin (j - 192))))

/-- A held host's run that comes to nothing ends abandoned (R300): another replaces it, or its instance is put on its factory table. -/
def State.dropDue (s : State) (j : Nat) : State :=
  match s.calDue j with
  | some d =>
    let s := s.setCalDue j none
    if d.tag.isSome then s.endRun j ⟨d.trigger, false, d.ext, s.clk, s.calTemp j, d.tag⟩ 2 else s
  | none => s

def State.cmdCalRun (s : State) (tag : Nat) : State :=
  match s.startable tag 0x40 with
  | none => s
  | some e =>
    let t := e.op 16 1
    let ref := e.op 17 1
    match calInst t (e.op 18 2) with
    | none => s.malformed tag 3 (if t = 0 ∨ 6 < t then 16 else 18)
    | some j =>
      if s.calExists j = false then s.malformed tag 3 18
      else if 1 < ref then s.malformed tag 3 17
      else if ref = 1 ∧ t ≠ 1 ∧ t ≠ 4 ∧ t ≠ 5 then s.malformed tag 5 0
      else if (s.calRun j).isSome || s.cal.queue.any (fun q => q.1 == j) then s.finish tag stBusy 0 0
      else
        let ext := if t = 1 then s.flag (Fld.TIC_CFG_CAL_SRC j) else ref == 1
        if s.calUseless j ext then
          ((s.setF (Fld.CAL_INST_STATUS_LAST_RESULT j) 5).setFlag (Fld.CAL_INST_STATUS_LAST_FAILED j) false).finish tag stOk 5 0
        else
          let s := (s.dropDue j).begin tag
          if t ≠ 6 ∧ s.supplyWarn = true then (s.setCalDue j (some ⟨2, s.clk, some tag, ext, none⟩)).showCal j
          else s.startRun j 2 false ext (some tag)

/-- The host's runs that a supply warning has held start. -/
def State.releaseHeldRuns (s : State) : State :=
  (s.cal.due.filter (fun d => match d.2 with | some x => x.tag.isSome | none => false)).foldl (fun s d =>
    match d.2 with
    | some x => s.startRun d.1 2 false x.ext x.tag
    | none => s) s

/-- A run that has gone on for longer than its type's limit has not finished in time (result 3). -/
def State.overdue (s : State) (j : Nat) (r : CalRun) : Bool :=
  match calType j with
  | 1 | 2 => s.passed r.since (if r.ext then 10 else 60) Config.ticksPerS
  | 3 => s.passed r.since 60 Config.ticksPerS
  | 4 => decide (r.since + (if r.ext then 20000 else 300) * Config.ticksPerUs < s.clk)
  | 5 => s.passed r.since 20 Config.ticksPerS
  | _ => false

/-- The redundant elements that a run has chosen (R288), of plane 0 or 1. -/
def State.pickCells (s : State) (j plane : Nat) (l : List Nat) : State :=
  { s with cal := { s.cal with cells := Store.set (fun _ => []) s.cal.cells (2 * j + plane) l } }

/-- Is a list a choice of `k` of `n` elements? -/
def chosen (k n : Nat) (l : List Nat) : Bool := l.length == k && l.Nodup && l.all (fun c => decide (c < n))

/-! ### Interpolators (R282..R285) -/

/-- The taps nearest the points of a grid of 3.125 ps from the tick, of which a tick has 512: the tap in hand stands after `upTo` of `n` hits,
the list gives the hits from each tap to the next. A tap that lies nearest two points serves both. -/
def nearestTaps (n : Nat) : Nat → Nat → Nat → List Nat → Nat → List Nat
  | 0, _, _, _, _ => []
  | _, _, _, _, 0 => []
  | fuel + 1, tap, upTo, [], left + 1 => tap :: nearestTaps n fuel tap upTo [] left
  | fuel + 1, tap, upTo, x :: l, left + 1 =>
    let point := (512 - (left + 1)) * n
    if (((upTo + x) * 512 : Nat) - point : Int).natAbs < ((upTo * 512 : Nat) - point : Int).natAbs then
      nearestTaps n fuel (tap + 1) (upTo + x) l (left + 1)
    else tap :: nearestTaps n fuel tap upTo (x :: l) left

/-- The selection pass: the 512 taps chosen from the hits of all 640 (R283). -/
def chooseTaps (taps : List Nat) : List Nat :=
  nearestTaps taps.sum 1152 0 0 taps.dropLast 512

/-- Bin centres from the hits of each bin: the widths before it and half its own, of a 1.6 ns tick. -/
def binCentres (n : Nat) : Nat → List Nat → List Nat
  | _, [] => []
  | before, x :: l => (ratio ((1048576 * (2 * before + x) : Nat) : Int) (20 * n)).toNat :: binCentres n (before + x) l

/-- The widest bin in fs. -/
def widestBin (hits : List Nat) : Nat := (ratio ((1600000 * hits.foldl max 0 : Nat) : Int) hits.sum).toNat

/-- Is a bin wider than 6.25 ps, the 256th part of a tick? -/
def binTooWide (hits : List Nat) : Bool := decide (hits.sum < 256 * hits.foldl max 0)

/-- HITS_LOG2 of an instance: an input's, and 20 for a reference converter, which has no field of its own. DEDUCED (log 148). -/
def State.hitsLog2 (s : State) (j : Nat) : Nat := if j < 16 then s.f (Fld.TIC_CAL_CFG_HITS_LOG2 j) else 20

/-- A reference converter takes its waiting table in an idle period of its input: no edge for 20 ns. -/
def State.refTable (s : State) (j : Nat) : State :=
  let quiet := match Store.get (fun _ => none) s.cal.refSeen j with | some (t : Nat) => decide (t + 13 ≤ s.clk) | none => true
  match Store.get (fun _ => none) s.cal.refNext j with
  | some l =>
    if quiet then { s with cal := { s.cal with
      refBins := Store.set (fun _ => none) s.cal.refBins j (some l)
      refNext := Store.set (fun _ => none) s.cal.refNext j none } }
    else s
  | none => s

/-- An edge at a reference input: a table that waits takes effect first where the input has been idle. -/
def State.refEdge (s : State) (j : Nat) : State :=
  let s := s.refTable j
  { s with cal := { s.cal with refSeen := Store.set (fun _ => none) s.cal.refSeen j (some s.clk) } }

/-- An interpolator run ends. `fault` is 0 when every hit fell within the line; otherwise the cause of event 94 that ended it: 1 outside the
line, 4 too few gaps in its time, 5 a correlated reference, 6 no reference edges. `taps` are the hits of the 640 taps in the selection pass,
`hits` those of the 512 bins in the measurement pass: 2^(HITS_LOG2 − 2) and 2^HITS_LOG2 in all. -/
def State.interpDone (s : State) (j fault : Nat) (taps hits : List Nat) : State :=
  match s.calRun j with
  | none => s
  | some r =>
    let n := 2 ^ s.hitsLog2 j
    if calType j ≠ 1 ∧ calType j ≠ 2 then s
    else if fault = 1 then s.runFailed j r (if r.ext then 4 else 1) 1 0
    else if fault = 5 ∨ fault = 6 then (if r.ext then s.runFailed j r 4 fault 0 else s)
    else if s.overdue j r then s.runFailed j r 3 4 (taps.sum + hits.sum)
    else if fault ≠ 0 ∨ taps.length ≠ 640 ∨ hits.length ≠ 512 ∨ 4 * taps.sum ≠ n ∨ hits.sum ≠ n then s
    else
      let w := widestBin hits
      if binTooWide hits then s.runFailed j r 1 2 w
      else
        let l := binCentres n 0 hits
        let s := s.pickCells j 0 (chooseTaps taps)
        let s := if j < 16 then (s.setTic j { s.tic j with nextBins := some (l, w) }).ticApply j
          else ({ s with cal := { s.cal with refNext := Store.set (fun _ => none) s.cal.refNext j (some l) } }).refTable j
        s.runDone j r w

/-! ### Phase detectors (R291) -/

/-- The entry of a linearity table that is largest without its sign. -/
def largestOf (t : List Int) : Int := t.foldl (fun a x => if a.natAbs < x.natAbs then x else a) 0

/-- How far a code-density step in fs lies from the 12.5 ps grid divided by 32, in 1/64 of a fs: the grid's points stand 390.625 fs apart. -/
def gridDistance (step : Nat) : Nat :=
  let x := step * 64 % 25000
  min x (25000 - x)

/-- Put a cell into a list that rises by distance. -/
def nearerInto (c : Nat × Nat) : List (Nat × Nat) → List (Nat × Nat)
  | [] => [c]
  | d :: l => if c.1 < d.1 then c :: d :: l else d :: nearerInto c l

/-- The 32 of 40 dither cells whose steps lie nearest the grid. -/
def chooseDither (steps : List Nat) : List Nat :=
  (((steps.mapIdx (fun i x => (gridDistance x, i))).foldl (fun a c => nearerInto c a) []).take 32).map (·.2)

/-- Blocks that a lane has had since a run began, in 1/8: 0.625 blocks a tick at 25G, 0.25 at 10G. The module dithers one idle block in 64 at
most. -/
def State.blocksSince (s : State) (j : Nat) (r : CalRun) : Nat :=
  let fast := decide (96 ≤ j) || (match s.portOfLane (j - 32) with
    | some p => s.speed p != 1 && s.speed p != 2 && s.speed p != 4
    | none => true)
  (s.clk - r.since) * (if fast then 5 else 2)

/-- A phase detector run ends: with its 2^18 samples it writes the detector's table and keeps the 32 cells chosen from the code-density steps,
in fs, of the 40; without them it fails after 60 s. -/
def State.phaseDone (s : State) (j samples : Nat) (steps : List Nat) (table : List Int) : State :=
  match s.calRun j with
  | none => s
  | some r =>
    if calType j ≠ 3 then s
    else if s.overdue j r then s.runFailed j r 3 4 samples
    else if samples < 2 ^ 18 ∨ steps.length ≠ 40 ∨ s.blocksSince j r < 8 * 64 * samples then s
    else
      let s := s.pickCells j 0 (chooseDither steps)
      { s with cal := { s.cal with linear := Store.set (fun _ => none) s.cal.linear (j - 32) (some table) } }.runDone j r (largestOf table)

/-! ### Ports (R292, R293) -/

/-- Put a port to the factory delays of its FEC (R96). -/
def State.factoryDelays (s : State) (n : Nat) : State :=
  let s := (s.setReg (Reg.PRT_TS_RX_DELAY n) 0).setReg (Reg.PRT_TS_TX_DELAY n) 0
  let s := s.setLink n { s.link n with newTx := none }
  { s with cal := { s.cal with
    tookAt := Store.set (fun _ => none) s.cal.tookAt (128 + n) none
    factoryAt := Store.set (fun _ => 0) s.cal.factoryAt (128 + n) s.clk } }.showCal (128 + n)

/-- New delays of a port: those of the receive plane at once, since the model takes each frame whole; those of the transmit plane once the
transmission in progress is over (R292). DEDUCED (log 149). -/
def State.putDelays (s : State) (n : Nat) (rx tx : Int) : State :=
  let now := s.txAdjust n
  let s := s.setReg (Reg.PRT_TS_RX_DELAY n) (BitVec.ofNat 32 (unsigned 32 rx))
  match (s.port n).tx with
  | none => (s.setReg (Reg.PRT_TS_TX_DELAY n) (BitVec.ofNat 32 (unsigned 32 tx))).setLink n { s.link n with newTx := none }
  | some t => (s.setReg (Reg.PRT_TS_TX_DELAY n) (BitVec.ofNat 32 (unsigned 32 now))).setLink n { s.link n with newTx := some (tx, t.startTick) }

/-- S_factory and k_rx of a port, the latter in units of 2^-16 (R292). -/
def State.loopFactory (s : State) (n : Nat) : Int := s.figure (128 + n) (figLoop n) 0 (s.factoryTemp (128 + n))
def State.shareRx (s : State) (n : Nat) : Int := s.figure (128 + n) (figShare n) 32768 (s.factoryTemp (128 + n))

/-- 100 ps in units of 2^-16 ns, in tenths: 65536. -/
def beyond100ps (d : Int) : Bool := decide (65536 < d.natAbs * 10)

/-- A port run ends with the loop sum S and the 64 of 96 cells chosen in each plane; one with an external loop with the round trip beside S,
which changes no delay. -/
def State.portDone (s : State) (n : Nat) (sum trip : Int) (rxCells txCells : List Nat) : State :=
  let j := 128 + n
  match s.calRun j with
  | none => s
  | some r =>
    if s.clk < r.since then s
    else if s.overdue j r then s.runFailed j r 3 4 0
    else if r.ext then
      let out := trip - (s.reg Reg.CAL_PORT_EXT_LOOP).toNat - sum
      let s := (s.setReg Reg.CAL_PORT_EXT_RESULT (BitVec.ofNat 32 (unsigned 32 out))).endRun j r 0
      s.raise 75 n [(24, 1, r.trigger), (25, 1, s.f (Fld.PRT_CFG_FEC n)), (26, 1, if r.forced then 1 else 0), (36, 2, r.temp),
        (38, 2, s.usSince r.since)]
    else if chosen 64 96 rxCells = false ∨ chosen 64 96 txCells = false then s
    else
      let ds := sum - s.loopFactory n
      let rx := ratio (ds * s.shareRx n) 65536
      let tx := ratio (ds * (65536 - s.shareRx n)) 65536
      let offRx := s.delayBase n 0 + rx - s.delayNow n 0
      let offTx := s.delayBase n 1 + tx - s.delayNow n 1
      if beyond100ps offRx || beyond100ps offTx then
        let worst := if offRx.natAbs < offTx.natAbs then offTx else offRx
        let s := s.runFailed j r 1 3 (ratio (worst * 1000000) 65536)
        { s with cal := { s.cal with retry := Store.set (fun _ => none) s.cal.retry j (some (s.clk, r.trigger)) } }
      else
        let dRx := s.delayBase n 0 + rx - s.planeDelay n 0
        let dTx := s.delayBase n 1 + tx - s.planeDelay n 1
        let s := (((s.pickCells j 0 rxCells).pickCells j 1 txCells).putDelays n rx tx).endRun j r 0
        s.raise 75 n [(24, 1, r.trigger), (25, 1, s.f (Fld.PRT_CFG_FEC n)), (26, 1, if r.forced then 1 else 0),
          (28, 4, unsigned 32 dRx), (32, 4, unsigned 32 dTx), (36, 2, r.temp), (38, 2, s.usSince r.since)]

/-- A port is enabled while an external run has it: the run ends with result 5 (R296). -/
def State.externalEnded (s : State) (n : Nat) : State :=
  match s.calRun (128 + n) with
  | some r => if r.ext then s.endRun (128 + n) r 5 else s
  | none => s

/-- 60 s after an out-of-range result the run is due again. -/
def State.portRetry (s : State) (n : Nat) : State :=
  let j := 128 + n
  match Store.get (fun _ => none) s.cal.retry j with
  | none => s
  | some (t, trig) =>
    if s.passed t 60 Config.ticksPerS then
      let s := { s with cal := { s.cal with retry := Store.set (fun _ => none) s.cal.retry j none } }
      if (s.calDue j).isSome || (s.calRun j).isSome then s else (s.setCalDue j (some (s.dueNow j trig))).showCal j
    else s

/-! ### Outputs (R294) and oscillators (R295) -/

/-- Edges that an output run averages (R294). -/
def State.trimEdges (s : State) (k : Nat) : Nat := if s.edgeRate k < 1000 then 16 else 1024

/-- The change of an output's trim that takes its mean error away, units of 100 fs. -/
def trimChange (errs : List Int) : Int := -ratio errs.sum (100 * errs.length)

/-- An output run ends: with the errors in fs of its edges from their ideal places, as its sense path shows them, and the 64 of 80 cells chosen;
an external run goes by what its input has stamped. -/
def State.outputDone (s : State) (k : Nat) (errs : List Int) (cells : List Nat) : State :=
  let j := 192 + k
  match s.calRun j with
  | none => s
  | some r =>
    let seen := if r.ext then Store.get (fun _ => []) s.cal.extErrs k else errs
    if s.calUseless j r.ext then s.endRun j r 5
    else if r.ext && seen.isEmpty && decide (3 * Config.ticksPerS ≤ (s.clk - r.since) * s.edgeRate k) then s.runFailed j r 4 6 0
    else if s.overdue j r then s.runFailed j r 3 4 seen.length
    else if seen.length < s.trimEdges k ∨ chosen 64 80 cells = false then s
    else
      let change := trimChange (seen.take (s.trimEdges k))
      let new := s.trimNow k + change
      let off := new - s.figureNow j (figTrim k) 0
      if 1000 < off.natAbs then s.runFailed j r 1 3 (off * 100)
      else
        let old := s.trimNow k
        let s := s.setReg (Reg.CAL_OUT_TRIM k) (BitVec.ofNat 32 (unsigned 16 old))
        let s := s.setOut k { s.out k with newTrim := some (s.boundary k, new) }
        (s.pickCells j 0 cells).runDone j r (change * 100)

/-- An oscillator's tuning voltage, in per cent of its range, leaves 30..70 (or the host asked for a run): one capacitor
element is swapped, `up` in the direction that recentres it. -/
def State.recentre (s : State) (i volt : Nat) : State :=
  let j := 200 + i
  if i < 3 ∧ s.domainOn 2 = true then
    let step : Int := if volt < 50 then 1 else -1
    match s.calRun j with
    | some r => s.runDone j r step
    | none =>
      if volt < 30 ∨ 70 < volt then s.runDone j ⟨4, false, false, s.clk, s.calTemp j, none⟩ step else s
  else s

/-! ### Factory tables (R299, R356) -/

/-- What a factory table replaces is forgotten: the instance runs on it from now on, an input once it is idle. `clear`: its domain is
cleared. -/
def State.calFactory (s : State) (j : Nat) (clear : Bool) : State :=
  let s := { s with cal := { s.cal with
    tookAt := Store.set (fun _ => none) s.cal.tookAt j none
    cells := Store.set (fun _ => []) (Store.set (fun _ => []) s.cal.cells (2 * j) []) (2 * j + 1) []
    refBins := Store.set (fun _ => none) s.cal.refBins j none
    refNext := Store.set (fun _ => none) s.cal.refNext j none
    temps := if clear then Store.set (fun _ => none) s.cal.temps j none else s.cal.temps
    retry := if clear then Store.set (fun _ => none) s.cal.retry j none else s.cal.retry
    linear := if calType j = 3 then Store.set (fun _ => none) s.cal.linear (j - 32) none else s.cal.linear } }
  let s := match calType j with
    | 1 =>
      let w := (s.figureNow j (figWidest j) 3125).toNat
      if clear then s.ticTable j [] w else (s.setTic j { s.tic j with nextBins := some ([], w) }).ticApply j
    | 4 => s.factoryDelays (j - 128)
    | 5 => (s.setReg (Reg.CAL_OUT_TRIM (j - 192)) 0).setOut (j - 192) { s.out (j - 192) with newTrim := none }
    | _ => s
  s.showCal j

/-- The host's run that a supply warning holds ends abandoned; a run that is due stays due, and starts when it may (R290). -/
def State.dropHostRun (s : State) (j : Nat) : State :=
  match s.calDue j with
  | some d => if d.tag.isSome then s.dropDue j else s
  | none => s

/-- USE_FACTORY has been set: runs in progress are abandoned and every instance uses its factory table. -/
def State.useFactory (s : State) : State :=
  (calAll.filter (fun j => calType j != 6)).foldl (fun (s : State) j =>
    let s := (s.dropHostRun j).calFactory j false
    { s with cal := { s.cal with factoryAt := Store.set (fun _ => 0) s.cal.factoryAt j s.clk } }) (s.abandonAll (fun _ => true))

/-- A domain is cleared: its instances run on their factory tables and their runs are abandoned. -/
def State.calCleared (s : State) (d : Nat) : State :=
  let s := (calAll.filter (fun j => calDomain j == d)).foldl (fun (s : State) j => (s.dropDue j).calFactory j true)
    (s.abandonAll (fun j => calDomain j == d))
  { s with cal := { s.cal with clearedAt := Store.set (fun _ => 0) s.cal.clearedAt d s.clk } }

end Sys2Proof.Machine
end

