-- ==== Sys2Proof/Machine/Links.lean ====
section
/-! DEFINITION. Lanes and links (04_lanes_and_ports.md): signal, adaptation, block lock, alignment markers, link up and down
with flap suppression, PRBS, and the malformed-rate second of a port (R376). -/

namespace Sys2Proof.Machine

/-! ### Running ports -/

/-- Are ports held down or squelched for a removal (R360, R362), or for want of the oscillator (R367)? -/
def State.portsHeld (s : State) : Bool := s.rst.surprise || s.rst.drained.isSome || s.pwr.oscLost

/-- Does a port run its link: in the structure, its domain on, enabled, not restructured, not held down, its lanes trained at
start-up? -/
def State.linkRuns (s : State) (n : Nat) : Bool :=
  decide (n < 64) && s.speed n != 0 && s.domainOn (portDomain n) && s.flag (Fld.PRT_CFG_ENABLE n)
    && (Store.get (fun _ => none) s.img.restr (groupOf n)).isNone && !s.portsHeld && decide (5 ≤ s.f Fld.GEN_BOOT_STATUS_STAGE)

/-- Is a port of more than one lane? -/
def State.multiLane (s : State) (n : Nat) : Bool := decide (1 < lanesOf (s.speed n))

/-- Do all of a port's lanes detect a signal? -/
def State.allSignal (s : State) (n : Nat) : Bool := (s.portLanes n).all (fun l => s.flag (Fld.LAN_RX_STATUS_SIGNAL l))

/-- Is the receive side of a port up: signal, locks, no hi_ber, no local fault? A remote fault that it receives is the peer's (Clauses 46
and 81: PRESUMED, log 12). -/
def State.receiveUp (s : State) (n : Nat) : Bool :=
  s.allSignal n && s.flag (Fld.PRT_LINK_STATUS_BLOCK_LOCK n)
    && (!s.multiLane n || s.flag (Fld.PRT_LINK_STATUS_AM_LOCK n))
    && !s.flag (Fld.PRT_LINK_STATUS_HI_BER n) && !s.flag (Fld.PRT_LINK_STATUS_LOCAL_FAULT n)

/-- Does a 1G port negotiate still (R101, R104)? -/
def State.negotiates (s : State) (n : Nat) : Bool :=
  s.speed n == 1 && s.flag (Fld.PRT_CFG_AN_EN n) && !s.flag (Fld.PRT_LINK_STATUS_AN_DONE n)

/-- The conditions of R101. -/
def State.upConditions (s : State) (n : Nat) : Bool :=
  s.linkRuns n && s.receiveUp n && !s.flag (Fld.PRT_LINK_STATUS_REMOTE_FAULT n) && !s.negotiates n

/-- Start, keep or break the wait for link up. -/
def State.waitUp (s : State) (n : Nat) : State :=
  let ok := s.upConditions n && !s.portUp n
  let l := s.link n
  let since := if ok then (if l.upSince.isSome then l.upSince else some s.clk) else none
  (s.setLink n { l with upSince := since }).setFlag (Fld.PRT_LINK_STATUS_SUPPRESSED n) ok

/-- A fault condition of R99 begins. -/
def State.faultBegins (s : State) (n cause : Nat) : State :=
  let l := s.link n
  if l.faults.any (fun f => f.1 == cause) then s
  else s.setLink n { l with faults := l.faults ++ [(cause, s.clk)] }

/-- A fault condition ends. -/
def State.faultEnds (s : State) (n cause : Nat) : State :=
  let l := s.link n
  s.setLink n { l with faults := l.faults.filter (fun f => f.1 != cause) }

/-! ### Link down (R99, R102, R103, R134) -/

/-- The up-suppression time after a flap: doubled, 0 counting as 2, capped. -/
def flapTime (old cap : Nat) : Nat := min (2 * (if old = 0 then 2 else old)) cap

/-- A flap doubles the up-suppression time up to the cap; one that raises it raises event 79. A time above the cap comes down to it,
without event (log 44). While the time is away from UP_HOLD_MS every flap counts, suppressed or not (R108). -/
def State.flap (s : State) (n : Nat) : State :=
  let old := s.f (Fld.PRT_LINK_STATUS_UP_WAIT_MS n)
  let new := if s.flag (Fld.PRT_LINK_CFG_FLAP_EN n) then flapTime old (s.f (Fld.PRT_LINK_CFG_FLAP_MAX_MS n)) else old
  let l := s.link n
  if new ≠ old then
    let s := (s.setLink n { l with flaps := l.flaps + 1, raised := l.raised || decide (old < new) }).setF (Fld.PRT_LINK_STATUS_UP_WAIT_MS n) new
    if old < new then (s.bump (Reg.PRT_FLAP_CNT n)).raise 79 n [(24, 2, new), (26, 2, l.flaps + 1)] else s
  else if l.flaps ≠ 0 then s.setLink n { l with flaps := l.flaps + 1 } else s

/-- Adaptation starts again on a lane. -/
def State.readapt (s : State) (l : Nat) : State :=
  (s.setFlag (Fld.LAN_RX_STATUS_ADAPT_DONE l) false).setF (Fld.LAN_RX_STATUS_CTLE l) 0

/-- What every link down does beside the queues: the lantern, the reference slots, a running calibration. -/
def State.afterDown (s : State) (n : Nat) : State := (((s.lanLinkDown n).refPort n).abandonPort n).calLinkDown n

/-- Declare link down with a cause: the counter, event 65, a flap, adaptation, and its users. What becomes of the queues is
`freezePort` or `flushPort`. -/
def State.declareDown (s : State) (n cause : Nat) : State :=
  let l := s.link n
  let isFlap := decide (cause ≤ 5) && (match l.upAt with | some t => decide (s.clk < t + 10 * Config.ticksPerS) | none => false)
  let upMs := match l.upAt with | some t => min (s.msSince t) 0xFFFFFFFF | none => 0
  let s := (s.setFlag (Fld.PRT_LINK_STATUS_UP n) false).bump (Reg.PRT_LINK_DOWN_CNT n)
  let s := (s.setLink n { l with upSince := none }).setPort n { s.port n with told := 0, toldLlp := false }
  let s := s.raise 65 n [(24, 1, cause), (25, 1, if isFlap then 1 else 0), (28, 4, upMs)]
  let s := if isFlap then s.flap n else s
  let s := (s.portLanes n).foldl (fun s l => s.readapt l) s
  s.afterDown n

/-- LINK_DOWN: the lowest cause that has held for DOWN_DEBOUNCE_US is declared. -/
def State.linkDown (s : State) (n : Nat) : State :=
  let us := s.f (Fld.PRT_LINK_CFG_DOWN_DEBOUNCE_US n)
  let held := ((s.link n).faults.filter (fun f => s.passed f.2 us Config.ticksPerUs)).map (·.1)
  match (List.range 6).find? (fun c => held.contains c) with
  | none => s
  | some c =>
    if s.linkRuns n && s.portUp n then ((s.declareDown n c).freezePort n).waitUp n else s

/-- The receive side of a port that is disabled or held down shows nothing. -/
def State.receiverOff (s : State) (n : Nat) : State :=
  let s := (s.portLanes n).foldl (fun s l => s.setReg (Reg.LAN_RX_STATUS l) 0) s
  let s := s.setFlag (Fld.PRT_LINK_STATUS_BLOCK_LOCK n) false
  let s := s.setFlag (Fld.PRT_LINK_STATUS_AM_LOCK n) false
  let s := s.setFlag (Fld.PRT_LINK_STATUS_LOCAL_FAULT n) false
  let s := s.setFlag (Fld.PRT_LINK_STATUS_REMOTE_FAULT n) false
  let s := s.setFlag (Fld.PRT_LINK_STATUS_HI_BER n) false
  let s := s.setFlag (Fld.PRT_LINK_STATUS_AN_DONE n) false
  let s := s.setFlag (Fld.PRT_LINK_STATUS_SUPPRESSED n) false
  let l := s.link n
  s.setLink n { l with faults := [], upSince := none, deskewRetry := none }

/-- A port goes down at once as when it is disabled (cause 6): held copies are flushed. -/
def State.portOff (s : State) (n : Nat) : State :=
  let up := s.portUp n
  let s := if up then s.declareDown n 6 else s
  let s := s.abortTx n
  let s := s.abortCuts n (s.port n).cut
  let s := if up || (s.port n).hold.isSome then s.flushPort n 1 else s
  s.receiverOff n

/-! ### Link up (R101) -/

/-- A port whose link has come up, or which regains SINGLE_HOMED while up, resumes its frozen queues before their hold
expires; a hold that has already expired has flushed them (R135). -/
def State.resumePort (s : State) (n : Nat) : State :=
  match (s.port n).hold with
  | none => s
  | some t =>
    if t < s.clk then s.flushPort n 0
    else if s.singleHomed n && !s.holds roleSingle then s
    else (s.setPort n { s.port n with hold := none, holdSingle := false }).flow

/-- The tick at which a port's wait for link up ends, while its conditions hold. -/
def State.linkUpAt (s : State) (n : Nat) : Option Nat :=
  match (s.link n).upSince with
  | none => none
  | some t =>
    if s.upConditions n && !s.portUp n then some (t + s.f (Fld.PRT_LINK_STATUS_UP_WAIT_MS n) * Config.ticksPerMs) else none

/-- LINK_UP: every condition has held for the present up-suppression time. -/
def State.linkUp (s : State) (n : Nat) : State :=
  match s.linkUpAt n with
  | none => s
  | some t =>
    if t ≤ s.clk then
      let l := s.link n
      let s := s.setLink n { l with upSince := none, upAt := some s.clk, faults := [] }
      let s := (s.setFlag (Fld.PRT_LINK_STATUS_UP n) true).setFlag (Fld.PRT_LINK_STATUS_SUPPRESSED n) false
      let s := s.raise 64 n [(24, 1, s.speed n), (25, 1, s.f (Fld.PRT_CFG_FEC n)), (26, 2, s.f (Fld.PRT_LINK_STATUS_UP_WAIT_MS n)),
        (28, 2, if s.multiLane n then s.f (Fld.PRT_LINK_STATUS_DESKEW_NS n) else 0)]
      ((((s.resumePort n).sendControl n).lanLinkUp n).refPort n).calLinkUp n
    else s

/-- FLAP_RECOVER: 60 s up without a break. A time that no flap has raised returns without event (log 44). -/
def State.flapRecover (s : State) (n : Nat) : State :=
  let l := s.link n
  match l.upAt with
  | none => s
  | some t =>
    if s.linkRuns n && s.portUp n && l.flaps != 0 && s.passed t 60 Config.ticksPerS then
      let ms := s.f (Fld.PRT_LINK_CFG_UP_HOLD_MS n)
      let s := (s.setLink n { l with flaps := 0, raised := false }).setF (Fld.PRT_LINK_STATUS_UP_WAIT_MS n) ms
      if l.raised then s.raiseEnd 79 n [(24, 2, ms), (26, 2, l.flaps)] else s
    else s

/-- UP_HOLD_MS has been written: it is the present time unless flaps have raised that (R102). -/
def State.upHoldWritten (s : State) (n : Nat) : State :=
  if (s.link n).raised then s
  else (s.setLink n { s.link n with flaps := 0 }).setF (Fld.PRT_LINK_STATUS_UP_WAIT_MS n) (s.f (Fld.PRT_LINK_CFG_UP_HOLD_MS n))

/-- PORT_HOLD_EXPIRY: the hold's time has passed. A link up that falls at that very instant comes first (R135). -/
def State.holdExpiry (s : State) (n : Nat) : State :=
  match (s.port n).hold with
  | some t =>
    if s.clk < t then s
    else if s.clk = t ∧ (match s.linkUpAt n with | some u => decide (u ≤ t) | none => false) = true then s
    else s.flushPort n 0
  | none => s

/-! ### Conditions of the receive side -/

/-- Alignment-marker lock is lost (R98): event 67 only while signal and block lock hold on every lane. -/
def State.amLost (s : State) (n pcs lane : Nat) : State :=
  if s.linkRuns n && s.multiLane n && s.flag (Fld.PRT_LINK_STATUS_AM_LOCK n) then
    let own := s.allSignal n && s.flag (Fld.PRT_LINK_STATUS_BLOCK_LOCK n)
    let s := s.setFlag (Fld.PRT_LINK_STATUS_AM_LOCK n) false
    let s := if own && s.portUp n then s.raise 67 n [(24, 1, pcs), (25, 1, lane)] else s
    (s.faultBegins n 5).waitUp n
  else s

/-- Alignment-marker lock, with the skew then measured and the deskew delay of lane n (R96, R97); beyond 200 ns the port tries again after
10 ms. What DESKEW_NS reads of a skew above 4,095 ns is not stated (log 136). -/
def State.amFound (s : State) (n skew early late own : Nat) : State :=
  let l := { s.link n with deskew := min own skew }
  if s.linkRuns n && s.multiLane n && l.deskewRetry.isNone then
    let s := (s.setLink n l).setF (Fld.PRT_LINK_STATUS_DESKEW_NS n) (if skew < 4096 then skew else (Config.deskewWide skew).toNat)
    if 200 < skew then
      let due := match l.deskewEvent with | some t => s.passed t 1 Config.ticksPerS | none => true
      let s := s.setLink n { l with deskewRetry := some s.clk, deskewEvent := if due then some s.clk else l.deskewEvent }
      let s := if due then s.raise 66 n [(24, 2, min skew 0xFFFF), (26, 1, early), (27, 1, late)] else s
      s.waitUp n
    else ((s.setFlag (Fld.PRT_LINK_STATUS_AM_LOCK n) true).faultEnds n 5).waitUp n
  else s

/-- DESKEW_RETRY: 10 ms after skew beyond the limit, lock is tried again. -/
def State.deskewAgain (s : State) (n : Nat) : State :=
  let l := s.link n
  match l.deskewRetry with
  | some t => if s.linkRuns n && s.passed t 10 Config.ticksPerMs then s.setLink n { l with deskewRetry := none } else s
  | none => s

/-- A 1G port's Clause 37 base page: full duplex and symmetric pause, and while its receive side is down the remote-fault code of a
failed link. The bit places are the family's: PRESUMED (log 95). -/
def anPage (down : Bool) : Nat := 0x20 + 0x80 + (if down then 0x1000 else 0)

/-- A 1G port advertises itself (R100, R104). -/
def State.advertise (s : State) (n : Nat) (down : Bool) : State :=
  if s.speed n = 1 ∧ s.flag (Fld.PRT_CFG_AN_EN n) = true then s.emit (.autoNeg n (anPage down)) else s

/-- Block lock is gained or lost; with it goes alignment-marker lock (R98), and the lanes that lose it adapt again (R93). -/
def State.blockLock (s : State) (n : Nat) (on : Bool) (lanes : List Nat) : State :=
  let s := (s.setFlag (Fld.PRT_LINK_STATUS_BLOCK_LOCK n) on).advertise n (!on)
  if on then (s.faultEnds n 1).waitUp n
  else (((lanes.foldl (fun s l => s.readapt l) s).faultBegins n 1).amLost n 0 0).waitUp n

/-- BLOCK_LOCK_CHANGE: a condition begins or ends. `kind`: 1 block lock, 2 hi_ber, 3 remote fault, 4 local fault, 5
alignment-marker lock, 6 auto-negotiation; for 1, `early` is the lane that lost it; for 5, the skew, the earliest and latest PCS lane
and the deskew delay of lane n, or the PCS lane and the lane that lost it. What the PCS counted is counted first. -/
def State.linkCondition (s : State) (n kind : Nat) (on : Bool) (skew early late own : Nat) (c : PcsCounts) : State :=
  let s := if s.domainOn (portDomain n) && s.speed n != 0 then s.countBlocks n c else s
  if !s.linkRuns n then s
  else match kind with
  | 1 => s.blockLock n on ((s.portLanes n).filter (· == early))
  | 2 =>
    let s := s.setFlag (Fld.PRT_LINK_STATUS_HI_BER n) on
    (if on then s.faultBegins n 2 else s.faultEnds n 2).waitUp n
  | 3 =>
    let s := s.setFlag (Fld.PRT_LINK_STATUS_REMOTE_FAULT n) on
    (if on then s.faultBegins n 3 else s.faultEnds n 3).waitUp n
  | 4 =>
    let s := s.setFlag (Fld.PRT_LINK_STATUS_LOCAL_FAULT n) on
    (if on then s.faultBegins n 4 else s.faultEnds n 4).waitUp n
  | 5 => if on then s.amFound n skew early late own else s.amLost n early late
  | 6 => if s.speed n = 1 then (s.setFlag (Fld.PRT_LINK_STATUS_AN_DONE n) on).waitUp n else s
  | _ => s

/-- AN_REFUSED: a peer without full duplex keeps a 1G port down (R104). -/
def State.anRefused (s : State) (n : Nat) : State :=
  if s.linkRuns n && s.speed n == 1 && s.flag (Fld.PRT_CFG_AN_EN n) && !s.portUp n then
    ((s.bump (Reg.PRT_AN_FAIL_CNT n)).setFlag (Fld.PRT_LINK_STATUS_AN_DONE n) false).waitUp n
  else s

/-- Is a lane's receiver powered: its port enabled, or its PRBS checker on, in a powered domain? -/
def State.receiverOn (s : State) (l : Nat) : Bool :=
  decide (l < 64) && s.domainOn (portDomain l) && !s.portsHeld
    && (s.flag (Fld.LAN_PRBS_CFG_CHECK l)
      || (match s.portOfLane l with | some p => s.flag (Fld.PRT_CFG_ENABLE p) | none => false))

/-- SIGNAL_DETECT: a lane's signal is detected or lost; adaptation starts again (R93). -/
def State.signalDetect (s : State) (l : Nat) (on : Bool) : State :=
  if s.receiverOn l then
    let s := (s.setFlag (Fld.LAN_RX_STATUS_SIGNAL l) on).readapt l
    let s := if on then s else (s.setFlag (Fld.LAN_RX_STATUS_CDR_LOCK l) false).refLane l
    match s.portOfLane l with
    | none => s
    | some p =>
      if s.linkRuns p then
        if on then (if s.allSignal p then (s.faultEnds p 0).waitUp p else s)
        else ((s.faultBegins p 0).amLost p 0 0).waitUp p
      else s
  else s

/-- ADAPT_DONE: adaptation ends and the linear equaliser is frozen at a setting (R93). CDR_LOCK is set with it and cleared at loss of
signal: of that bit the manual says only that clock recovery is locked. DESIGN CHOICE (log 93). -/
def State.adaptDone (s : State) (l ctle : Nat) : State :=
  if s.receiverOn l && s.flag (Fld.LAN_RX_STATUS_SIGNAL l) && !s.flag (Fld.LAN_RX_STATUS_ADAPT_DONE l) then
    (((s.setFlag (Fld.LAN_RX_STATUS_CDR_LOCK l) true).setFlag (Fld.LAN_RX_STATUS_ADAPT_DONE l) true).setF
      (Fld.LAN_RX_STATUS_CTLE l) ctle).refLane l
  else s

/-! ### What a lane sends (R90, R100, R103) -/

/-- The signal at a lane's transmit contacts. -/
inductive TxSignal where
  | electricalIdle | prbs | remoteFault | autoNeg | idleBlocks | frames
  deriving DecidableEq, Repr

/-- A lane of no enabled port: squelched, but for a PRBS generator that SQUELCH leaves alone, and PRBS31 in an external run of its port
(R296). -/
def State.testSignal (s : State) (l : Nat) : TxSignal :=
  let loop := match s.calRun (128 + l) with | some r => r.ext | none => false
  if loop || (s.flag (Fld.LAN_PRBS_CFG_GEN l) && !s.flag (Fld.LAN_TX_CTRL_SQUELCH l)) then .prbs else .electricalIdle

/-- What a lane's transmitter sends: nothing in a domain that is off, on lanes of no port (R90), of a disabled port (R103), of a removed
module, or of a group that a restructure has squelched (R72); frames on an up port; base pages on a 1G port that negotiates (`advertise`
gives the remote-fault code); while the receive side is down remote fault, and idle blocks while the port waits to come up (R100). -/
def State.txSignal (s : State) (l : Nat) : TxSignal :=
  if s.domainOn (portDomain l) = false ∨ s.portsHeld = true then .electricalIdle
  else match s.portOfLane l with
    | none => s.testSignal l
    | some p =>
      if s.flag (Fld.PRT_CFG_ENABLE p) = false then s.testSignal l
      else if s.portUp p then .frames
      else if s.linkRuns p = false then .electricalIdle
      else if s.negotiates p then .autoNeg
      else if s.receiveUp p then .idleBlocks
      else .remoteFault

/-- ADAPT_FREEZE of a lane has changed: the feedback taps are held as they are, or go on tracking (R93). -/
def State.freezeTaps (s : State) (l : Nat) : State :=
  s.setLane l { s.lane l with tapsHeld := if s.flag (Fld.LAN_RX_CTRL_ADAPT_FREEZE l) then some s.clk else none }

/-- The five taps of a lane's decision-feedback equaliser. -/
def State.feedbackTaps (s : State) (l : Nat) : List Int :=
  (List.range 5).map (fun i => Config.feedbackTap l i ((s.lane l).tapsHeld.getD s.clk))

/-! ### PRBS (R105..R107) -/

/-- May the generator or checker of a lane run? -/
def State.prbsAllowed (s : State) (l : Nat) : Bool :=
  match s.portOfLane l with | some p => !s.flag (Fld.PRT_CFG_ENABLE p) | none => true

/-- An injection of `bits` bits is asked for: ignored while GEN is 0, discarded while one is pending. -/
def State.askInject (s : State) (l : Nat) (single : Bool) (bits : Nat) : State :=
  if s.flag (Fld.LAN_PRBS_CFG_GEN l) && (s.lane l).inject == 0 then
    (s.setLane l { s.lane l with inject := bits }).setFlag
      (if single then Fld.LAN_PRBS_CFG_INJ_SINGLE l else Fld.LAN_PRBS_CFG_INJ_BURST l) true
  else s

/-- The set-up of a lane has changed from an old word: a stopped generator drops a pending injection, a started checker
clears its counters and begins its interval, a stopped one loses lock. -/
def State.prbsChanged (s : State) (l : Nat) (old : Word) : State :=
  let s := if s.flag (Fld.LAN_PRBS_CFG_GEN l) then s else
    ((s.setLane l { s.lane l with inject := 0 }).setFlag (Fld.LAN_PRBS_CFG_INJ_SINGLE l) false).setFlag (Fld.LAN_PRBS_CFG_INJ_BURST l) false
  let was := (Fld.LAN_PRBS_CFG_CHECK l).of old != 0
  let is_ := s.flag (Fld.LAN_PRBS_CFG_CHECK l)
  if is_ && !was then
    let s := ((s.setReg (Reg.LAN_PRBS_ERR_CNT l) 0).setPair (Reg.LAN_PRBS_BITS_LO l) (Reg.LAN_PRBS_BITS_HI l) 0).setFlag
      (Fld.LAN_PRBS_STATUS_LOCK l) false
    s.setLane l { s.lane l with prbsErr := 0, prbsBits := 0, prbsLost := false, prbsSince := s.clk }
  else if was && !is_ then
    let s := s.setFlag (Fld.LAN_PRBS_STATUS_LOCK l) false
    if s.receiverOn l then s else s.setReg (Reg.LAN_RX_STATUS l) 0
  else s

/-- Errors and bits counted while locked: the saturating counters and the interval's. -/
def State.prbsCount (s : State) (l errs bits : Nat) : State :=
  if s.flag (Fld.LAN_PRBS_STATUS_LOCK l) then
    let s := s.bumpSat (Reg.LAN_PRBS_ERR_CNT l) errs
    let n := min (s.pair (Reg.LAN_PRBS_BITS_LO l) (Reg.LAN_PRBS_BITS_HI l) + bits) (2 ^ 64 - 1)
    let s := s.setPair (Reg.LAN_PRBS_BITS_LO l) (Reg.LAN_PRBS_BITS_HI l) n
    let x := s.lane l
    s.setLane l { x with prbsErr := x.prbsErr + errs, prbsBits := x.prbsBits + bits }
  else s

/-- PRBS_LOCK_CHANGE: the checker locks, or drops lock after what it has counted since the last report. -/
def State.prbsLock (s : State) (l : Nat) (on : Bool) (errs bits : Nat) : State :=
  if decide (l < 64) && s.domainOn (portDomain l) && s.flag (Fld.LAN_PRBS_CFG_CHECK l) && s.flag (Fld.LAN_PRBS_STATUS_LOCK l) != on then
    if on then s.setFlag (Fld.LAN_PRBS_STATUS_LOCK l) true
    else
      let s := s.prbsCount l errs bits
      let s := (s.setFlag (Fld.LAN_PRBS_STATUS_LOCK l) false).setFlag (Fld.LAN_PRBS_STATUS_LOCK_LOST l) true
      s.setLane l { s.lane l with prbsLost := true }
  else s

/-- PRBS_INTERVAL_END: one second of checking has passed; event 68 if it counted an error or lost lock. -/
def State.prbsInterval (s : State) (l errs bits : Nat) : State :=
  if decide (l < 64) && s.domainOn (portDomain l) && s.flag (Fld.LAN_PRBS_CFG_CHECK l) && s.passed (s.lane l).prbsSince 1 Config.ticksPerS then
    let s := s.prbsCount l errs bits
    let x := s.lane l
    let s := s.setLane l { x with prbsErr := 0, prbsBits := 0, prbsLost := false, prbsSince := s.clk }
    if x.prbsErr ≠ 0 ∨ x.prbsLost = true then
      s.raise 68 l [(24, 4, x.prbsErr), (28, 8, x.prbsBits),
        (36, 1, (if x.prbsLost then 1 else 0) + 2 * s.f (Fld.LAN_PRBS_CFG_PATTERN l))]
    else s
  else s

/-- PRBS_INJECT_SINGLE and PRBS_INJECT_BURST: the block boundary of a pending injection of that kind; its bit clears. -/
def State.prbsInject (s : State) (l : Nat) (single : Bool) : State :=
  let f := if single then Fld.LAN_PRBS_CFG_INJ_SINGLE l else Fld.LAN_PRBS_CFG_INJ_BURST l
  if decide (l < 64) && s.flag f then
    ((s.setLane l { s.lane l with inject := 0 }).setFlag f false).emit (.prbsInject l (s.lane l).inject)
  else s

/-- A lane's PRBS stops as its port is enabled: its register returns to 0 (R105). -/
def State.prbsStop (s : State) (l : Nat) : State :=
  let old := s.reg (Reg.LAN_PRBS_CFG l)
  (s.setReg (Reg.LAN_PRBS_CFG l) 0).prbsChanged l old

/-- CMD_LANE_PRBS on one lane. -/
def State.prbsSetUp (s : State) (pattern mode inj burst l : Nat) : State :=
  let old := s.reg (Reg.LAN_PRBS_CFG l)
  let s := s.setF (Fld.LAN_PRBS_CFG_PATTERN l) pattern
  let s := s.setFlag (Fld.LAN_PRBS_CFG_GEN l) (mode.testBit 0)
  let s := s.setFlag (Fld.LAN_PRBS_CFG_CHECK l) (mode.testBit 1)
  let s := (s.setF (Fld.LAN_PRBS_CFG_BURST_LEN l) burst).prbsChanged l old
  if inj = 1 then s.askInject l true 1 else if inj = 2 then s.askInject l false burst else s

/-- CMD_LANE_PRBS (R39, R105, R107). A MODE with an undefined bit set is out of range, reason 0x03: DESIGN CHOICE (log 88). A lane in a
domain that is off is refused before one of an enabled port: DESIGN CHOICE (log 135). -/
def State.cmdPrbs (s : State) (tag : Nat) : State :=
  match s.startable tag 0x60 with
  | none => s
  | some e =>
    let lanes := (List.range 64).filter (e.op 16 8).testBit
    let pattern := e.op 24 1
    let mode := e.op 25 1
    let inj := e.op 26 1
    let burst := e.op 27 1
    if 5 < pattern then s.malformed tag 3 24
    else if 3 < mode then s.malformed tag 3 25
    else if 2 < inj then s.malformed tag 3 26
    else if burst = 0 then s.malformed tag 3 27
    else if (inj ≠ 0 ∧ mode.testBit 0 = false) ∨ lanes.any (fun l => !s.domainOn (portDomain l)) = true then s.malformed tag 5 0
    else if lanes.any (fun l => !s.prbsAllowed l) then s.finish tag stBusy 0 0
    else (lanes.foldl (fun s l => s.prbsSetUp pattern mode inj burst l) (s.mark tag)).finish tag stOk 0 0

/-! ### What a write of a port's registers does -/

/-- ENABLE has changed (R103, R105): PRBS stops, adaptation starts from the beginning. -/
def State.enableChanged (s : State) (n : Nat) : State :=
  if s.flag (Fld.PRT_CFG_ENABLE n) then ((s.portLanes n).foldl (fun s l => (s.prbsStop l).readapt l) (s.externalEnded n)).advertise n true
  else s.portOff n

/-- AN_EN has been set (R104): the port negotiates from the beginning, and sends its page. -/
def State.anEnabled (s : State) (n : Nat) : State :=
  let s := s.setFlag (Fld.PRT_LINK_STATUS_AN_DONE n) false
  if s.linkRuns n then s.advertise n (!s.receiveUp n) else s

/-- FEC has changed (R94, R96): factory delays for the setting, and a restart of an enabled port with cause 7. -/
def State.fecChanged (s : State) (n : Nat) : State :=
  let s := (s.abandonPort n).factoryDelays n
  if s.linkRuns n then
    let s := if s.portUp n then (s.declareDown n 7).freezePort n else s
    (s.blockLock n false (s.portLanes n)).waitUp n
  else s

/-- The FIR coefficients of a lane have been written (R92). -/
def State.firWritten (s : State) (l : Nat) : State :=
  match s.portOfLane l with
  | some p =>
    let s := s.abandonPort p
    if s.portUp p then s.calTrigger (128 + p) 3 else s
  | none => s

/-! ### The malformed-rate second (R376) -/

/-- MALFORMED_RATE_SECOND: a second of module time has ended on a port. -/
def State.malformedSecond (s : State) (n : Nat) : State :=
  let p := s.port n
  let sec := s.now16 / unitsPerS
  if n < 64 ∧ s.speed n ≠ 0 ∧ sec ≠ p.secMark then
    let count (off old : Nat) : Nat := ((s.reg off).toNat + 2 ^ 32 - old) % 2 ^ 32
    let frames := count (Reg.PRT_RX_FRAMES n) p.secFrames
    let parse := count (Reg.PRT_RX_PARSE_ERR n) p.secParse
    let len := count (Reg.PRT_RX_LEN_ERR n) p.secLen
    let fcs := count (Reg.PRT_RX_FCS_ERR n) p.secFcs
    let bad := parse + len + fcs
    let in_ := decide (100 ≤ bad) && decide (frames < bad * 100)
    let d := [(24, 4, parse), (28, 4, len), (32, 4, fcs), (36, 4, frames)]
    let now (off : Nat) : Nat := (s.reg off).toNat
    let p := { p with secMark := sec, malformed := in_, secFrames := now (Reg.PRT_RX_FRAMES n), secParse := now (Reg.PRT_RX_PARSE_ERR n) }
    let p := { p with secLen := now (Reg.PRT_RX_LEN_ERR n), secFcs := now (Reg.PRT_RX_FCS_ERR n) }
    let was := (s.port n).malformed
    let s := s.setPort n p
    if in_ && !was then s.raise 77 n d else if was && !in_ then s.raiseEnd 77 n d else s
  else s

end Sys2Proof.Machine
end

