-- ==== Sys2Proof/Machine/RegRules.lean ====
section
/-! DEFINITION. What a write of a register does: which registers and fields the active structure provides (R63), the ranges and
relations a written value must keep (R91 to R331, R372), how written bits combine with the present word (R9), and the
effect of the write on what the register governs. -/

namespace Sys2Proof.Machine

/-! ### What the structure provides (R63) -/

/-- Does the active structure provide the resource of a register: `n` and `k` are its instance indices? -/
def State.regProvided (s : State) (r : RegRow) (n k : Nat) : Bool :=
  let b := r.base
  if 0xA0000 ≤ b ∧ b < 0xA0800 then
    let pfc := decide (0xA0184 ≤ b ∧ b < 0xA01E0)
    if n = 64 then decide (0xA0100 ≤ b ∧ b < 0xA0200) && !pfc else s.speed n != 0
  else if b = Reg.BUF_RSV 0 ∨ b = Reg.BUF_QUEUE_OCC 0 then
    s.provided (n / 8) && (!s.fourQueues (n / 8) || n % 8 == 0 || decide (5 ≤ n % 8))
  else if b = Reg.TBL_PORT_CFG 0 ∨ b = Reg.TBL_PORT_LEARN 0 then s.provided n
  else if 0x140000 ≤ b ∧ b < 0x141000 then
    s.speed n != 0 && (!s.fourQueues n || (b == Reg.SCH_DRR_QUANTUM 0 0) == false && (b == Reg.SCH_DRR_DEFICIT 0 0) == false || k == 0
      || k == (if b = Reg.SCH_DRR_QUANTUM 0 0 then 4 else 5))
  else if 0x181000 ≤ b ∧ b < 0x182000 then s.speed n != 0
  else if 0x190000 ≤ b ∧ b < 0x190100 then s.speed n != 0
  else if 0x1A0100 ≤ b ∧ b < 0x1A0120 then (match s.img.active with | some i => i.slots.contains n | none => false)
  else if 0x1A0400 ≤ b ∧ b < 0x1A0420 then (match s.img.active with | some i => i.slots.contains (16 + n) | none => false)
  else if 0x1A0800 ≤ b ∧ b < 0x1A0840 then s.outFn n != 0
  else if 0x1B0000 ≤ b ∧ b < 0x1B0100 then s.tinFn n != 0
  else if 0x1D0000 ≤ b then b == Reg.MIR_CFG || b == Reg.MIR_STATUS || s.pairConfig != 0
  else true

/-- Bits of a register whose fields belong to another slot type, output function or calibration type: they read 0 (R263, R302). -/
def State.missingBits (s : State) (r : RegRow) (n : Nat) : Word :=
  let b := r.base
  let fn := s.outFn n
  if b = Reg.REF_SLOT_CFG 0 then (if n < 8 then 0 else (Fld.REF_SLOT_CFG_LANE 0).mask)
  else if b = Reg.REF_SLOT_LIMIT 0 then (if 10 ≤ n ∧ n ≤ 13 then 0 else (Fld.REF_SLOT_LIMIT_PPS_WIN 0).mask)
  else if b = Reg.REF_TSLOT_CFG 0 then
    (if n < 4 then 0 else (Fld.REF_TSLOT_CFG_PTP_PORT 0).mask ||| (Fld.REF_TSLOT_CFG_VALID 0).mask)
  else if b = Reg.REF_OUT_K_CFG 0 then
    (if fn = ofIrig then 0 else (Fld.REF_OUT_K_CFG_IRIG_FMT 0).mask ||| (Fld.REF_OUT_K_CFG_IRIG_AM 0).mask)
      ||| (if fn = ofClock then 0 else (Fld.REF_OUT_K_CFG_CLK_AUTO 0).mask)
  else if b = Reg.REF_OUT_FREQ 0 then (if fn = ofClock ∨ fn = ofSample then 0 else 0xFFFFFFFF)
  else if b = Reg.REF_OUT_WIDTH 0 then (if fn = ofPps ∨ fn = ofSample then 0 else 0xFFFFFFFF)
  else if b = Reg.REF_OUT_MARK 0 then (if fn = ofSample then 0 else 0xFFFFFFFF)
  else if b = Reg.REF_OUT_CLK_SLEW 0 then (if fn = ofClock then 0 else 0xFFFFFFFF)
  else if b = Reg.CAL_TYPE_CFG 0 then
    (if n = 6 then (Fld.CAL_TYPE_CFG_THRESH_QK 6).mask ||| (Fld.CAL_TYPE_CFG_MAX_DEFER_S 6).mask else 0)
  else 0

/-! ### Words -/

/-- The bits of a register's fields. -/
def RegRow.bits (r : RegRow) : Word := accMask (fun _ => true) r.fields
/-- Those that a host can write. -/
def RegRow.writable (r : RegRow) : Word := accMask (fun a => a != .ro) r.fields
/-- Its W1S bits. -/
def RegRow.w1s (r : RegRow) : Word := accMask (· == .w1s) r.fields

/-- The W1S bits that stay set once written: those whose rows do not say that they clear themselves. CORE and CONTROLLER count as
self-clearing with MODULE, whose row says it for the register. DEDUCED (log 79). -/
def RegRow.staysSet (r : RegRow) : Word :=
  if r.base = Reg.GEN_HOTPLUG then Fld.GEN_HOTPLUG_EJECT.mask
  else if r.base = Reg.GEN_DOMAIN_CTRL then Fld.GEN_DOMAIN_CTRL_RESTORE.mask
  else if r.base = Reg.TIM_SNAP_CTRL then Fld.TIM_SNAP_CTRL_CAPTURE.mask
  else 0

/-- What a write of selected bits makes of the stored word (R9). A W1S bit that clears itself has cleared again when its write ends;
an injection bit is held by its own meaning (R107). -/
def RegRow.merge (r : RegRow) (old value mask : Word) : Word :=
  let rw := accMask (fun a => a == .rw || a == .rwt) r.fields &&& mask
  let w1c := accMask (· == .w1c) r.fields &&& mask &&& value
  let w1s := r.staysSet &&& mask &&& value
  (((old &&& ~~~rw) ||| (value &&& rw)) &&& ~~~w1c) ||| w1s

/-- The values of the fields that a mask selects lie within the ranges their table states. -/
def fieldsOk (w mask : Word) : List FieldDesc → Bool
  | [] => true
  | f :: fs =>
    let m := (BitVec.ofNat 32 (2 ^ f.width - 1)) <<< f.lo
    let v := (w.toNat >>> f.lo) % 2 ^ f.width
    (match f.range with
      | none => true
      | some (lo, hi) =>
        mask &&& m == 0 || f.acc == .ro ||
          (let x : Int := if lo < 0 then signed f.width v else (v : Int)
           decide (lo ≤ x) && decide (x ≤ hi))) && fieldsOk w mask fs

/-! ### Relations -/

/-- The FEC codes that a SPEED code offers (R88). -/
def fecOffered (speed fec : Nat) : Bool :=
  fec == 0 || (fec == 1 && (speed == 2 || speed == 3)) || (fec == 2 && (speed == 3 || speed == 5 || speed == 6))

/-- The bandwidths in mHz that a frequency slot's type allows (R247). -/
def bwOk (k mhz : Nat) : Bool :=
  if k < 8 then decide (500 ≤ mhz ∧ mhz ≤ 50000)
  else if k < 10 then decide (100 ≤ mhz ∧ mhz ≤ 10000)
  else if k < 12 then decide (10 ≤ mhz ∧ mhz ≤ 100)
  else decide (1 ≤ mhz ∧ mhz ≤ 100)

/-- The ports of one word of MIR_SH_PORTS that the structure does not provide. -/
def State.absentPorts (s : State) (half : Nat) : Word :=
  BitVec.ofNat 32 (((List.range 32).filter (fun k => !s.provided (32 * half + k))).map (2 ^ ·)).sum

/-- The relations within one register, and to what the image fixes, that a candidate word must keep. `old` is the present
word, `mask` what the write selects: a field that it does not select names nothing (R63). -/
def State.ownRelation (s : State) (r : RegRow) (n : Nat) (old w mask : Word) : Bool :=
  let b := r.base
  let keeps (f : FieldRef) : Bool := mask &&& f.mask == 0
  if b = Reg.LAN_TX_FIR 0 then
    decide ((Fld.LAN_TX_FIR_PRE 0).of w + (Fld.LAN_TX_FIR_MAIN 0).of w + (Fld.LAN_TX_FIR_POST 0).of w ≤ 63)
  else if b = Reg.LAN_PRBS_CFG 0 then
    let starts (f : FieldRef) : Bool := f.of w != 0 && f.of old == 0
    s.prbsAllowed n || !(starts (Fld.LAN_PRBS_CFG_GEN 0) || starts (Fld.LAN_PRBS_CFG_CHECK 0))
  else if b = Reg.PRT_CFG 0 then keeps (Fld.PRT_CFG_FEC 0) || fecOffered (s.speed n) ((Fld.PRT_CFG_FEC 0).of w)
  else if b = Reg.PRT_PFC_THR 0 0 then decide ((Fld.PRT_PFC_THR_XON_CELLS 0 0).of w < (Fld.PRT_PFC_THR_XOFF_CELLS 0 0).of w)
  else if b = Reg.BUF_ELASTIC_CFG then decide (Fld.BUF_ELASTIC_CFG_XON_KIB.of w < Fld.BUF_ELASTIC_CFG_XOFF_KIB.of w)
  else if b = Reg.PHS_CFG 0 then keeps (Fld.PHS_CFG_ENABLE 0) || (Fld.PHS_CFG_ENABLE 0).of w == 0 || decide (2 ≤ s.speed n)
  else if b = Reg.PHS_SWAP_CTRL 0 then
    let p := (Fld.PHS_SWAP_CTRL_REF_PORT 0).of w
    keeps (Fld.PHS_SWAP_CTRL_REF_PORT 0) || (decide (p < 64) && s.provided p) || p == 127
  else if b = Reg.TBL_FLUSH_CTRL then
    let p := Fld.TBL_FLUSH_CTRL_PORT.of w
    s.provided p || (keeps Fld.TBL_FLUSH_CTRL_PORT && Fld.TBL_FLUSH_CTRL_BY_PORT.of w == 0)
  else if b = Reg.REF_TSLOT_CFG 0 then
    let p := (Fld.REF_TSLOT_CFG_PTP_PORT 0).of w
    decide (4 ≤ n) || keeps (Fld.REF_TSLOT_CFG_PTP_PORT 0) || s.provided p
  else if b = Reg.REF_SLOT_CFG 0 then
    decide (8 ≤ n) || keeps (Fld.REF_SLOT_CFG_LANE 0) || (s.portOfLane ((Fld.REF_SLOT_CFG_LANE 0).of w)).isSome
  else if b = Reg.MIR_SH_PORTS_LO then w &&& mask &&& s.absentPorts 0 == 0
  else if b = Reg.MIR_SH_PORTS_HI then w &&& mask &&& s.absentPorts 1 == 0
  else if b = Reg.REF_SLOT_LOOP 0 then bwOk n ((Fld.REF_SLOT_LOOP_BW_MHZ 0).of w)
  else if b = Reg.REF_OUT_WIDTH 0 then
    s.outFn n != ofPps || decide (100 ≤ (Fld.REF_OUT_WIDTH_NS 0).of w ∧ (Fld.REF_OUT_WIDTH_NS 0).of w ≤ 500000000)
  else if b = Reg.TIC_CFG 0 then
    let m := (Fld.TIC_CFG_MODE 0).of w
    let src := (Fld.TIC_CFG_STOP_SRC 0).of w
    (keeps (Fld.TIC_CFG_MODE 0) && keeps (Fld.TIC_CFG_STOP_SRC 0)) || (m == 0 || (s.tinFn n == 1 && decide (m ≤ 3)) || (s.tinFn n == 2 && m == 4))
      && (!intervalMode m || s.tinFn src == 1) && !(m == 2 && src == n)
  else if b = Reg.CAL_OUT_CFG 0 then keeps (Fld.CAL_OUT_CFG_EXT_TIN 0) || s.tinFn ((Fld.CAL_OUT_CFG_EXT_TIN 0).of w) == 1
  else if b = Reg.GEN_RESET_CTRL then
    let x := w.toNat % 8
    x == 0 || ((x == 1 || x == 2 || x == 4) && Fld.GEN_RESET_CTRL_KEY.of w == 0x5A)
  else if b = Reg.GEN_DOMAIN_CTRL then !w.toNat.testBit 16
  else if b = Reg.HIF_SQ_TAIL 0 then decide (w.toNat < ringSize (s.f (Fld.HIF_SQ_CFG_SIZE_LOG2 n)))
  else if b = Reg.HIF_CQ_HEAD then decide (w.toNat < ringSize (s.f Fld.HIF_CQ_CFG_SIZE_LOG2))
  else if b = Reg.HIF_CPU_TX_TAIL then decide (w.toNat < ringSize (s.f Fld.HIF_CPU_TX_CFG_SIZE_LOG2))
  else if b = Reg.HIF_CPU_RX_TAIL then decide (w.toNat < ringSize (s.f Fld.HIF_CPU_RX_CFG_SIZE_LOG2))
  else if b = Reg.HIF_SMP_CONS then decide (w.toNat < ringSize (s.f Fld.HIF_SMP_CFG_SIZE_LOG2))
  else if b = Reg.EVT_Q_CONS then decide (w.toNat < ringSize (s.f Fld.EVT_Q_CFG_SIZE_LOG2))
  else if b = Reg.TIC_RING_CONS then decide (w.toNat < ringSize (s.f Fld.TIC_RING_CFG_SIZE_LOG2))
  else true

/-- The ring that a register belongs to, as its ENABLE field and the bits that may not change while it is 1 (R61, R287). -/
def ringGuard (b n : Nat) : Option (FieldRef × Word) :=
  if b = Reg.HIF_SQ_BASE_LO 0 ∨ b = Reg.HIF_SQ_BASE_HI 0 then some (Fld.HIF_SQ_CFG_ENABLE n, 0xFFFFFFFF)
  else if b = Reg.HIF_SQ_CFG 0 then some (Fld.HIF_SQ_CFG_ENABLE n, 0xF)
  else if b = Reg.HIF_CQ_BASE_LO ∨ b = Reg.HIF_CQ_BASE_HI then some (Fld.HIF_CQ_CFG_ENABLE, 0xFFFFFFFF)
  else if b = Reg.HIF_CQ_CFG then some (Fld.HIF_CQ_CFG_ENABLE, 0xF)
  else if b = Reg.HIF_CPU_TX_BASE_LO ∨ b = Reg.HIF_CPU_TX_BASE_HI then some (Fld.HIF_CPU_TX_CFG_ENABLE, 0xFFFFFFFF)
  else if b = Reg.HIF_CPU_TX_CFG then some (Fld.HIF_CPU_TX_CFG_ENABLE, 0xF)
  else if b = Reg.HIF_CPU_RX_BASE_LO ∨ b = Reg.HIF_CPU_RX_BASE_HI then some (Fld.HIF_CPU_RX_CFG_ENABLE, 0xFFFFFFFF)
  else if b = Reg.HIF_CPU_RX_CFG then some (Fld.HIF_CPU_RX_CFG_ENABLE, 0x3F)
  else if b = Reg.HIF_SMP_BASE_LO ∨ b = Reg.HIF_SMP_BASE_HI then some (Fld.HIF_SMP_CFG_ENABLE, 0xFFFFFFFF)
  else if b = Reg.HIF_SMP_CFG then some (Fld.HIF_SMP_CFG_ENABLE, 0xF)
  else if b = Reg.EVT_Q_BASE_LO ∨ b = Reg.EVT_Q_BASE_HI then some (Fld.EVT_Q_CFG_ENABLE, 0xFFFFFFFF)
  else if b = Reg.EVT_Q_CFG then some (Fld.EVT_Q_CFG_ENABLE, 0x1F)
  else if b = Reg.TIC_RING_BASE_LO ∨ b = Reg.TIC_RING_BASE_HI then some (Fld.TIC_RING_CFG_ENABLE, 0xFFFFFFFF)
  else if b = Reg.TIC_RING_CFG then some (Fld.TIC_RING_CFG_ENABLE, 0x1F)
  else none

/-- Would a write change a ring's base or size while the ring is enabled? -/
def State.ringLocked (s : State) (r : RegRow) (n : Nat) (old new : Word) : Bool :=
  match ringGuard r.base n with
  | none => false
  | some (en, bits) => s.flag en && (old ^^^ new) &&& bits != 0

/-- The relations that join several registers, or a register and a time, as the reason of R42 they fail with. `s` holds the
candidate values; `now` is module time, or the apply instant of a commit (R75, R122, R185, R198, R202, R257, R259). -/
def State.crossFault (s : State) (now : Nat) (r : RegRow) (n : Nat) : Option Nat :=
  let b := r.base
  if b = Reg.BUF_RSV 0 ∨ b = Reg.PRT_PFC_HR 0 0 then
    if s.rsvTotal + s.headroomTotal + s.retiredCells + 65536 ≤ cellCount then none else some 3
  else if b = Reg.BUF_GLOBAL_XOFF ∨ b = Reg.BUF_GLOBAL_XON then
    if s.f Fld.BUF_GLOBAL_XOFF_FREE < s.f Fld.BUF_GLOBAL_XON_FREE then none else some 3
  else if b = Reg.TIM_INC_LO ∨ b = Reg.TIM_INC_HI then
    if incOk (s.pair Reg.TIM_INC_LO Reg.TIM_INC_HI % 2 ^ 48) then none else some 3
  else if b = Reg.SCH_ADMIN_BASE_W0 0 ∨ b = Reg.SCH_ADMIN_BASE_W1 0 ∨ b = Reg.SCH_ADMIN_BASE_W2 0 then
    if time96Ok (s.adminBase n) then none else some 3
  else if b = Reg.SCH_GATE_CTRL 0 then
    if s.flag (Fld.SCH_GATE_CTRL_CONFIG_CHANGE n) then changeReason (s.snapshot n) now else none
  else if b = Reg.SCH_GCL_ENTRY_HI 0 then
    let ns := (s.reg (Reg.SCH_GCL_ENTRY_LO n)).toNat
    if s.flag (Fld.SCH_GCL_IDX_OPER n) then none
    else if 1 ≤ ns ∧ ns ≤ 4000000000 ∧ s.f (Fld.SCH_GCL_ENTRY_HI_GATES_OP n) / 256 ≤ 2 then none else some 3
  else if b = Reg.PRT_PTP_LINK_DELAY_LO 0 ∨ b = Reg.PRT_PTP_LINK_DELAY_HI 0 then
    if s.pair (Reg.PRT_PTP_LINK_DELAY_LO n) (Reg.PRT_PTP_LINK_DELAY_HI n) ≤ 1000000 * 65536 then none else some 3
  else if b = Reg.PHS_ASYM_HOST_LO 0 ∨ b = Reg.PHS_ASYM_HOST_HI 0 then
    if (s.pair48 (Reg.PHS_ASYM_HOST_LO n) (Reg.PHS_ASYM_HOST_HI n)).natAbs ≤ 100000 * 65536 then none else some 3
  else if b = Reg.MIR_ASYM_LO ∨ b = Reg.MIR_ASYM_HI then
    if (s.pair48 Reg.MIR_ASYM_LO Reg.MIR_ASYM_HI).natAbs ≤ 100000 * 65536 then none else some 3
  else if b = Reg.REF_OUT_FREQ 0 ∨ b = Reg.REF_OUT_WIDTH 0 ∨ b = Reg.REF_OUT_MARK 0 then
    if s.outFn n = ofSample then
      let w := (s.reg (Reg.REF_OUT_WIDTH n)).toNat
      let m := (s.reg (Reg.REF_OUT_MARK n)).toNat
      let f := s.outFreq n
      if 1 ≤ w ∧ 1 ≤ m ∧ (w + 1) * f ≤ 1000000000 ∧ (m + 1) * f ≤ 1000000000 ∧ w ≠ m then none else some 3
    else none
  else if b = Reg.REF_OUT_START_W2 0 then
    let w := s.triple (Reg.REF_OUT_START_W0 n) (Reg.REF_OUT_START_W1 n) (Reg.REF_OUT_START_W2 n)
    if !time96Ok w then some 3 else if w = 0 ∨ inHorizon (ofTime96 w) now = true then none else some 6
  else none

/-! ### Effects -/

/-- MSI-X unmasking sends a pending message (R390). -/
def State.unmaskVector (s : State) (v : Nat) : State :=
  if s.pba.testBit v && !s.flag (Fld.HIF_MSIX_CTRL_MASK v) && !s.hif.msixFuncMask && s.hif.msixEnable then
    (s.setPba v false).emit (.msix v)
  else s

/-- The gate control register of a port has been written over an old word (R185, R188). -/
def State.gateWritten (s : State) (n : Nat) (old : Word) : State :=
  let was := (Fld.SCH_GATE_CTRL_ENABLE n).of old != 0
  let on := s.flag (Fld.SCH_GATE_CTRL_ENABLE n)
  let s := if was && !on then s.gateDisabled n else s
  let s := if s.flag (Fld.SCH_GATE_CTRL_CONFIG_CHANGE n) then s.gateChange n else if on && !was then s.gateEnabled n else s
  s.showGates n

/-- What must be settled before a register changes to a new word: a CLOCK output's misalignment so far (R260), the levels of the nets (R403),
an input's open measurement (R276). -/
def State.beforeWrite (s : State) (r : RegRow) (n : Nat) (new : Word) : State :=
  if r.base = Reg.REF_OUT_K_CFG 0 then s.noteNets.foldM n
  else if r.base = Reg.REF_OUT_FREQ 0 ∨ r.base = Reg.REF_OUT_CLK_SLEW 0 then s.foldM n
  else if r.base = Reg.TIC_CFG 0 then s.ticWriting n new
  else if r.base = Reg.TIC_THRESH 0 then s.threshWriting n
  else s

/-- The effect of a write on what the register governs: `old` is the word before it, `hit` the bits written, `pulse` the W1S
bits written as 1. Resets, removal, domains and the pair's registers stand in Machine/RegWrite.lean. -/
def State.regEffect (s : State) (r : RegRow) (n k : Nat) (old hit pulse : Word) : State :=
  let b := r.base
  let p (f : FieldRef) : Bool := f.of pulse != 0
  let diff (f : FieldRef) : Bool := f.of old != s.f f
  if b = Reg.HIF_MSIX_CTRL 0 then s.unmaskVector n
  else if b = Reg.LAN_TX_FIR 0 then (if old = s.reg (Reg.LAN_TX_FIR n) then s else s.firWritten n)
  else if b = Reg.LAN_RX_CTRL 0 then (if diff (Fld.LAN_RX_CTRL_ADAPT_FREEZE n) then s.freezeTaps n else s)
  else if b = Reg.LAN_PRBS_CFG 0 then
    let s := s.prbsChanged n old
    let s := if p (Fld.LAN_PRBS_CFG_INJ_SINGLE n) then s.askInject n true 1 else s
    if p (Fld.LAN_PRBS_CFG_INJ_BURST n) then s.askInject n false (s.f (Fld.LAN_PRBS_CFG_BURST_LEN n)) else s
  else if b = Reg.PRT_CFG 0 then
    let s := if diff (Fld.PRT_CFG_FEC n) then s.fecChanged n else s
    let s := if diff (Fld.PRT_CFG_AN_EN n) && s.flag (Fld.PRT_CFG_AN_EN n) then s.anEnabled n else s
    let s := if diff (Fld.PRT_CFG_ENABLE n) then s.enableChanged n else s
    s.waitUp n
  else if b = Reg.PRT_LINK_CFG 0 then s.upHoldWritten n
  else if (0xA0184 ≤ b ∧ b < 0xA01E0) ∨ (0xE0000 ≤ b ∧ b < 0xE3000) then s.flow
  else if b = Reg.PRT_SMP_CFG 0 0 then
    let f := Fld.PRT_SMP_CFG_ENABLE n k
    if (f.of old = 0 ∧ s.flag f = true) ∨ hit &&& (Fld.PRT_SMP_CFG_RATE_M1 n k).mask ≠ 0 then s.reloadSample n k else s
  else if b = Reg.TBL_FLUSH_CTRL then (if p Fld.TBL_FLUSH_CTRL_START then s.flushStart else s)
  else if b = Reg.TBL_PORT_LEARN 0 then s.learnWritten n old
  else if b = Reg.SCH_PREEMPT_CFG 0 then s.preemptConfig n old
  else if b = Reg.SCH_GATE_CTRL 0 then s.gateWritten n old
  else if b = Reg.SCH_GCL_ENTRY_HI 0 then s.gclCommit n
  else if b = Reg.TIM_INC_LO ∨ b = Reg.TIM_INC_HI then s.askInc
  else if b = Reg.TIM_SLEW_CTRL then s.slewCtrl (p Fld.TIM_SLEW_CTRL_START) (p Fld.TIM_SLEW_CTRL_CANCEL)
  else if b = Reg.TIM_SNAP_CTRL then (if p Fld.TIM_SNAP_CTRL_CAPTURE then s.askSnap else s)
  else if b = Reg.PHS_CFG 0 then
    if diff (Fld.PHS_CFG_ENABLE n) then (if s.flag (Fld.PHS_CFG_ENABLE n) then s.lanEnable n else s.lanDisable n) else s
  else if Reg.PHS_ASYM_CFG 0 ≤ b ∧ b ≤ Reg.PHS_FIB_RX_NG 0 then s.asymChanged n (if b = Reg.PHS_ASYM_CFG 0 then 0 else 1)
  else if b = Reg.PHS_SWAP_CTRL 0 then
    s.swapCtrl n (p (Fld.PHS_SWAP_CTRL_CAPTURE_BEFORE n)) (p (Fld.PHS_SWAP_CTRL_CAPTURE_AFTER n)) (p (Fld.PHS_SWAP_CTRL_ABORT n))
  else if b = Reg.REF_CTRL then s.reselect
  else if b = Reg.REF_SLOT_CFG 0 then s.slotWritten n ((Fld.REF_SLOT_CFG_ENABLE n).of old != 0) (decide (n < 8) && hit &&& (Fld.REF_SLOT_CFG_LANE n).mask != 0)
  else if b = Reg.REF_TSLOT_CFG 0 then s.slotWritten (16 + n) ((Fld.REF_TSLOT_CFG_ENABLE n).of old != 0) false
  else if b = Reg.REF_SLOT_LIMIT 0 then (s.slotCheck n).reselect
  else if b = Reg.REF_TSLOT_QUAL 0 then s.reselect
  else if b = Reg.REF_VIRT_FREQ_HI then s.virtWrite
  else if b = Reg.REF_VIRT_CFG then (s.slotCheck 14).reselect
  else if b = Reg.REF_XPPS_DECL_HI 0 then s.declareXpps n
  else if b = Reg.REF_OUT_START_W2 0 then s.outRequest n
  else if b = Reg.REF_OUT_CFG then (List.range 8).foldl (fun (s : State) k => s.thresholdWritten k) s
  else if b = Reg.TIC_CFG 0 ∨ b = Reg.TIC_THRESH 0 then s.ticApply n
  else if b = Reg.TIC_GATE 0 then (if old ≠ s.reg (Reg.TIC_GATE n) ∧ s.ticMode n = 4 then s.freqBegin n else s)
  else if b = Reg.TIC_CTRL 0 then
    let s := if p (Fld.TIC_CTRL_ARM n) then s.ticArm n else s
    if p (Fld.TIC_CTRL_DISARM n) then s.ticDisarm n else s
  else if b = Reg.CAL_CTRL then (if diff Fld.CAL_CTRL_USE_FACTORY && s.flag Fld.CAL_CTRL_USE_FACTORY then s.useFactory else s)
  else if b = Reg.PWR_CTRL then s.railHeld (decide (2 ≤ s.f Fld.PWR_STATUS_GOV_STEP))
  else s

/-- Put selected bits of a value into a register and let the write take effect; nothing where the offset is unmapped. -/
def State.applyWrite (s : State) (off : Nat) (value mask : Word) : State :=
  match findReg off with
  | none => s
  | some (r, n, k) =>
    let old := s.reg off
    let s := (s.beforeWrite r n (r.merge old value mask)).setReg off (r.merge old value mask)
    s.regEffect r n k old mask (value &&& mask &&& r.w1s)

end Sys2Proof.Machine
end

