-- ==== Sys2Proof/Machine/Commit.lean ====
section
/-! DEFINITION. Commits (03_structure_and_transactions.md, R79..R85): validation, drain, the pair's prepare, waiting, the apply
instant, and what of a transaction the pair carries (R321, R323). -/

namespace Sys2Proof.Machine

/-! ### What is mirrored (R321) -/

/-- Is a register's block unit-local? -/
def unitLocal (b : Nat) : Bool :=
  decide (b < 0x90000) || decide (0x180000 ≤ b ∧ b < 0x1A0000) || decide (0x1C0000 ≤ b)
    || (b ∈ [Reg.PRT_PTP_LINK_DELAY_LO 0, Reg.PRT_PTP_LINK_DELAY_HI 0, Reg.PRT_PTP_ASYM 0, Reg.REF_TSLOT_QUAL 0, Reg.REF_TSLOT_CABLE 0])

/-- The mirrored bits of a register. -/
def mirroredMask (off : Nat) : Word :=
  match findReg off with
  | none => 0
  | some (r, _, _) => if unitLocal r.base then 0 else accMask (· == .rwt) r.fields

/-- An item as the numbers of a message body. -/
def MirItem.words : MirItem → List Nat
  | .field off m v => [0, off, m.toNat, v.toNat]
  | .entry c h d => [1, c, h] ++ d.map (·.toNat)
  | .gone c h => [2, c, h]

/-- Items behind each other, each with its length. -/
def itemWords (l : List MirItem) : List Nat := l.flatMap (fun (i : MirItem) => i.words.length :: i.words)

/-- Content without the bits that hardware sets (R146). -/
def Payload.plain : Payload → Payload
  | .mac m f t k st _ _ => .mac m f t k st false false
  | p => p

/-- The data of an insert that would write an entry's content. -/
def insertData (code handle : Nat) (p : Payload) : List Byte := (entryData handle p.plain).take (insertLen code)

/-! ### Staged registers -/

/-- The staged registers in ascending order. -/
def Staging.regList (t : Staging) : List (Nat × StagedReg) := t.regs.filterMap (fun (p : Nat × Option StagedReg) => p.2.map (fun r => (p.1, r)))

/-- Write the words of several registers, effects left aside. -/
def State.putWords (s : State) : List (Nat × StagedReg) → State
  | [] => s
  | (off, x) :: l =>
    match findReg off with
    | none => s.putWords l
    | some (r, n, _) => ((s.beforeWrite r n (r.merge (s.reg off) x.value x.mask)).setReg off (r.merge (s.reg off) x.value x.mask)).putWords l

/-- The effects of words that have been written over those of an old state. -/
def State.putEffects (s old : State) : List (Nat × StagedReg) → State
  | [] => s
  | (off, x) :: l =>
    match findReg off with
    | none => s.putEffects old l
    | some (r, n, k) => (s.regEffect r n k (old.reg off) x.mask (x.value &&& x.mask &&& r.w1s)).putEffects old l

/-- Write several registers at one instant; the references are weighed once all are written (R241). -/
def State.applyRegs (s : State) (l : List (Nat × StagedReg)) : State :=
  if 1 < l.length then ((((s.putWords l).holdRefs true).putEffects s l).holdRefs false).reselect
  else (s.putWords l).putEffects s l

/-- Keep what registers hold before an epoch's changes: frames of the epoch before go on using it (R79). -/
def State.keepOld (s : State) (l : List (Nat × StagedReg)) : State :=
  { s with txn := { s.txn with oldRegs := l.map (fun x => (x.1, ⟨x.2.mask, s.reg x.1⟩)) } }

/-- A direct write of registers is seen by frames of both epochs. -/
def State.dropOld (s : State) (l : List (Nat × StagedReg)) : State :=
  { s with txn := { s.txn with oldRegs := s.txn.oldRegs.map (fun x =>
      match l.find? (fun y => y.1 == x.1) with
      | some y => (x.1, ⟨x.2.mask &&& ~~~y.2.mask, x.2.value⟩)
      | none => x) } }

/-- The first staged register that fails a check made at commit, with its reason (R75). -/
def State.regsFault (cand : State) (now : Nat) : List (Nat × StagedReg) → Option (Nat × Nat)
  | [] => none
  | (off, _) :: l =>
    match findReg off with
    | none => cand.regsFault now l
    | some (r, n, _) =>
      match cand.crossFault now r n with
      | some why => some (why, off)
      | none => cand.regsFault now l

/-- The first check of the staged set that fails: reason, and register offset (R83). -/
def State.commitFault (s : State) (t : Staging) (now : Nat) : Option (Nat × Nat) :=
  match (s.putWords t.regList).regsFault now t.regList with
  | some x => some x
  | none => if s.stagedRefsOk then none else some (3, 0)

/-! ### Items of the pair -/

/-- The mirrored changes that a transaction stages. -/
def stagedItems (t : Staging) : List MirItem :=
  (t.regList.filterMap (fun (x : Nat × StagedReg) =>
    let m := x.2.mask &&& mirroredMask x.1
    if m = 0 then none else some (MirItem.field x.1 m (x.2.value &&& m))))
  ++ t.ops.map (fun (o : StagedOp) =>
    let h := o.code * 2 ^ 24 + o.gen % 16 * 2 ^ 20 + o.index % 2 ^ 20
    if o.insert then MirItem.entry o.code h (insertData o.code h o.payload) else MirItem.gone o.code h)

/-- The register items as staged registers. -/
def fieldsOf (l : List MirItem) : List (Nat × StagedReg) :=
  l.filterMap (fun (i : MirItem) => match i with
    | .field off m v => some (off, (⟨m, v⟩ : StagedReg))
    | _ => none)

/-- Place content at a handle: visible to both parities, or from the epoch of one parity on. None: no place. -/
def State.putEntry (s : State) (vis code handle : Nat) (p : Payload) : Option State :=
  let i := handle % 2 ^ 20
  let g := handle / 2 ^ 20 % 16
  let ts := copiesOf code
  let same (e : Entry) : Bool :=
    !(e.vis.testBit 2) && ((e.index == i && e.payload.isStatic == p.isStatic) || sameKey e.payload p)
  let held (t : Nat) : Bool := (s.entries t).any (fun q => q.entry.index == i && q.entry.gen == g && sameKey q.entry.payload p == !keyless code
    && q.entry.payload.isStatic == p.isStatic && q.entry.vis == visBoth)
  if vis = visBoth ∧ ts.all held = true then
    some (ts.foldl (fun s t => s.mapEntries t same (fun e => { e with payload := e.payload.replacedBy p, host := true, bad := false, copyBad := false })) s)
  else
    let s := ts.foldl (fun s t => if vis = visBoth then s.removeEntries t same
      else s.mapEntries t same (fun e => { e with vis := e.vis &&& (3 - vis) })) s
    ts.foldl (fun (o : Option State) t => o.bind (fun s => s.place t i g vis p)) (some s)

/-- Take an entry away by its handle. -/
def State.takeEntry (s : State) (vis code handle : Nat) : State :=
  let named (e : Entry) : Bool := !(e.vis.testBit 2) && e.index == handle % 2 ^ 20 && e.gen == handle / 2 ^ 20 % 16
    && e.payload.isStatic == (code == 0x10)
  (copiesOf code).foldl (fun s t => if vis = visBoth then s.removeEntries t named
    else s.mapEntries t named (fun e => { e with vis := e.vis &&& (3 - vis) })) s

/-- Apply the table items of a message; whether every placement succeeded. -/
def State.applyItems (vis : Nat) : State × Bool → List MirItem → State × Bool
  | r, [] => r
  | (s, ok), .field _ _ _ :: l => State.applyItems vis (s, ok) l
  | (s, ok), .gone c h :: l => State.applyItems vis (s.takeEntry vis c h, ok) l
  | (s, ok), .entry c h d :: l =>
    match parseInsert s.now16 c d with
    | .error _ => State.applyItems vis (s, false) l
    | .ok p => match s.putEntry vis c h p with
      | some s' => State.applyItems vis (s', ok) l
      | none => State.applyItems vis (s, false) l

/-! ### Towards the apply instant -/

/-- 250 µs and 20 µs in units of 2^-16 ns. -/
def us250 : Nat := 250000 * 65536
def us20 : Nat := 20000 * 65536

/-- The AT of a timed commit. -/
def Commit.at16 (c : Commit) : Nat := ofTime96 c.at96

/-- Is the deadline of R81 passed for a timed commit that it judges? -/
def State.tooLate (s : State) (c : Commit) : Bool :=
  c.at96 != 0 && !c.heldSupply && !c.recovered && decide (c.at16 < s.now16 + s.lead)

/-- Keep the commit mark of a commit that the partner may be in doubt about (R84). -/
def State.keepMark (s : State) (c : Commit) (tag : Nat) : State :=
  match s.jget tag with
  | some e => if c.paired then { s with txn := { s.txn with lastMark := some (tag, e.ring, e.opcode, e.cookie) } } else s
  | none => s

/-- Enter WAIT_TIME: the commit mark (R85). -/
def State.toWait (s : State) (c : Commit) : State :=
  let s := (s.setCommit (some c)).setTxnState tsWait
  match c.tag with
  | some tag => (s.keepMark c tag).mark tag
  | none => s

/-- The apply instant of a commit that becomes ready now (R81, R83). -/
def State.planned (s : State) (c : Commit) : Nat :=
  let first := if s.inService then s.now16 + us250 else s.now16
  if c.at96 = 0 then first else if c.heldSupply then max c.at16 first else c.at16

/-- Ready and drained: prepare across the pair, or wait for the apply instant. -/
def State.prepareOrWait (s : State) (t : Staging) (c : Commit) : State :=
  let own := (s.reg Reg.TXN_EPOCH).toNat
  if s.inService then
    let c := { c with paired := true, epoch := max own s.txn.partnerEpoch + 1, instant := s.planned c }
    let s := (s.setCommit (some c)).setTxnState tsPrepare
    let s := { s with txn := { s.txn with lastMark := none } }
    s.sendMir msgPrepare ([t.id, c.tag.getD 0, c.epoch, c.instant, c.at96] ++ itemWords (stagedItems t))
  else
    s.toWait { c with epoch := own + 1, instant := s.planned c }

/-- Validation (R83); it waits while the pair synchronises (R323). -/
def State.validate (s : State) : State :=
  match s.txn.open_, s.txn.commit with
  | some t, some c =>
    if s.txnState ≠ tsValidating ∨ s.pairState = psSyncing then s
    else if t.conflict then s.rollback 1 stConflict 1
    else match s.commitFault t (s.planned c) with
      | some (why, off) =>
        let s := ((s.setCommit none).setTxnState tsOpen).showAt 0
        (match c.tag with | some tag => s.malformed tag why off | none => s)
      | none =>
        if s.tooLate c then s.missed (if s.olderFrames = 0 then 0 else 1)
        else if s.olderFrames ≠ 0 then
          (s.setCommit (some { c with drainSince := s.clk })).setTxnState tsDrain
        else s.prepareOrWait t c
  | _, _ => s

/-- May a held commit proceed: those that a supply warning held do so in fetch order (R49)? -/
def State.heldTurn (s : State) (tag : Nat) : Bool :=
  !s.supplyWarn && (!s.hif.supplyHeld.contains tag || s.hif.supplyHeld.head? == some tag)

/-- A held command has begun or ended. -/
def State.unhold (s : State) (tag : Nat) : State :=
  { s with hif := { s.hif with supplyHeld := s.hif.supplyHeld.filter (· != tag) } }

/-- A supply warning begins: a commit not yet marked goes back to RECEIVED, held, and begins anew once the warning is past (R49); a
partner that has its prepare gets the decision ABORT. DEDUCED (log 86). -/
def State.holdCommit (s : State) : State :=
  match s.txn.open_, s.txn.commit with
  | some t, some c =>
    let st := s.txnState
    if st = tsValidating ∨ st = tsDrain ∨ st = tsPrepare then
      let s := if st = tsPrepare then s.sendMir msgDecision [t.id, 0] else s
      let s := ((s.noteDrain.setCommit none).setTxnState tsOpen).showAt 0
      match c.tag with
      | some tag => s.jmap tag (fun e => { e with started := false })
      | none => s
    else s
  | _, _ => s

/-- CMD_TXN_COMMIT (R81, R83). A TXN_ID of 0 names no open transaction: DESIGN CHOICE (log 87). -/
def State.cmdCommit (s : State) (tag : Nat) : State :=
  match s.startable tag 0x21 with
  | none => s
  | some e =>
    if s.heldTurn tag = false then s
    else
      let held := s.hif.supplyHeld.contains tag
      let s := s.unhold tag
      let at96 := e.op 16 12
      if s.canStage e.txn = false then s.finish tag stBusy 0 0
      else if at96 ≠ 0 ∧ time96Ok at96 = false then s.malformed tag 3 16
      else if at96 ≠ 0 ∧ inHorizon (ofTime96 at96) s.now16 = false then s.malformed tag 6 0
      else
        let c : Commit := ⟨some tag, at96, s.clk, s.clk, held, false, 0, 0, false, false, false⟩
        ((((s.begin tag).setCommit (some c)).setTxnState tsValidating).showAt at96).validate

/-- The last frame of the older epoch has left (R80, R143). -/
def State.drainDone (s : State) : State :=
  if s.olderFrames ≠ 0 then s
  else
    let s := s.settle
    match s.txn.open_, s.txn.commit with
    | some t, some c =>
      if s.txnState ≠ tsDrain then s
      else
        let s := s.noteDrain
        if s.tooLate c then s.missed 1 else s.prepareOrWait t c
    | _, _ => s

/-- The drain limit has passed for an immediate commit. -/
def State.drainLimit (s : State) : State :=
  match s.txn.commit with
  | some c =>
    let lim := s.f Fld.TXN_CTRL_DRAIN_LIMIT_MS
    if s.txnState = tsDrain ∧ c.at96 = 0 ∧ lim ≠ 0 ∧ lim ≤ s.msSince c.drainSince then s.rollback 2 stDrain 0 else s
  | none => s

/-- The lead before AT has come and the commit is not ready (R81); or an immediate paired commit's vote is not in 20 µs before
its instant while the partner is heard (R323). -/
def State.deadline (s : State) : State :=
  match s.txn.open_, s.txn.commit with
  | some t, some c =>
    let st := s.txnState
    if s.tooLate c ∧ (st = tsValidating ∨ st = tsDrain) then s.missed (if st = tsDrain then 1 else 0)
    else if st = tsPrepare ∧ (s.tooLate c = true ∨ (c.at96 = 0 ∧ s.heard = true ∧ c.instant ≤ s.now16 + us20)) then
      (s.sendMir msgDecision [t.id, 0]).missed 2
    else s
  | _, _ => s

/-- The partner has fallen silent before its vote: the commit goes on alone at the planned instant (R323), unless its deadline has passed
(R83). -/
def State.commitAlone (s : State) : State :=
  match s.txn.commit with
  | some c => if s.txnState ≠ tsPrepare then s else if s.tooLate c then s.missed 2 else s.toWait c
  | none => s

/-- The partner's vote (R84). -/
def State.vote (s : State) (id : Nat) (yes : Bool) : State :=
  match s.txn.open_, s.txn.commit with
  | some t, some c =>
    if s.txnState ≠ tsPrepare ∨ t.id ≠ id then s
    else if yes then
      if s.tooLate c = true ∨ (c.at96 = 0 ∧ c.instant ≤ s.now16 + us20) then (s.sendMir msgDecision [t.id, 0]).missed 2
      else (s.sendMir msgDecision [t.id, 1]).toWait { c with decided := true }
    else (s.sendMir msgDecision [t.id, 0]).rollback 4 stConflict 4
  | _, _ => s

/-! ### The apply instant (R79) -/

/-- Does a recovered immediate commit have nothing to wait for: module time no longer lies near its instant? -/
def Commit.atOnce (c : Commit) (now : Nat) : Bool := c.at96 == 0 && (!c.paired || decide (now + us250 < c.instant))

/-- Has the apply instant of a commit come? A recovered one is compared with the full time and within the horizon (R85). -/
def Commit.due (c : Commit) (now : Nat) : Bool :=
  c.atOnce now || (if c.recovered then inHorizon c.instant now && decide (c.instant ≤ now) else reached c.instant now)

/-- A recovered timed commit whose AT lies within the horizon and has passed applies at once, late (R85). -/
def State.recheckRecovered (s : State) : State :=
  match s.txn.commit with
  | some c =>
    if c.recovered ∧ c.at96 ≠ 0 ∧ s.txnState = tsWait ∧ inHorizon c.at16 s.now16 = true ∧ c.at16 < s.now16 ∧ c.instant ≤ c.at16 then
      s.setCommit (some { c with instant := s.now16 })
    else s
  | none => s

/-- Module time of the first tick at or after an instant that has come, by the increment in force (R79, R81): of this very tick when the
command comes at it (log 90). -/
def State.firstTick (s : State) (t : Nat) : Nat :=
  let now := s.time.now
  if t * 2 ^ 24 ≤ now then (now - (now - t * 2 ^ 24) / s.time.inc * s.time.inc) / 2 ^ 24 else s.now16

/-- Event 88 (R86). -/
def State.committed (s : State) (id epoch instant regs ops flags : Nat) : State :=
  (s.bump Reg.TXN_COMMIT_CNT).raise 88 moduleScope
    [(24, 4, id), (28, 4, epoch), (32, 12, time96 instant), (44, 2, regs), (46, 2, ops), (48, 1, flags)]

/-- The epoch advances at an instant. -/
def State.setEpoch (s : State) (epoch instant : Nat) : State :=
  let s := s.setReg Reg.TXN_EPOCH (BitVec.ofNat 32 epoch)
  { s with txn := { s.txn with appliedAt := instant } }

/-- Apply this unit's commit: every change comes into force and the commit completes. A paired commit takes the epoch of its decision
(R85). -/
def State.applyOwn (s : State) (t : Staging) (c : Commit) (pick : Nat) : State :=
  let instant := if c.atOnce s.now16 then s.now16 else s.firstTick c.instant
  let epoch := (if c.paired then c.epoch else (s.reg Reg.TXN_EPOCH).toNat + 1) % 2 ^ 32
  let late := decide (c.at96 ≠ 0 ∧ c.at16 < c.instant)
  let s := s.setTxnState tsApplying
  let s := s.setEpoch epoch instant
  let s := if c.placeAfresh then s.placeAfresh pick t.ops else s.applyOps (epoch % 2) t.ops
  let s := ((s.setOpen none).setCommit none).showAt 0
  let s := (s.keepOld t.regList).applyRegs t.regList
  let s := (s.setTxnState tsIdle).settle
  let s := s.committed t.id epoch instant t.regs.length t.ops.length
    ((if c.at96 = 0 then 0 else 1) + (if c.paired then 2 else 0) + (if late then 4 else 0) + (if c.placeAfresh then 8 else 0))
  match c.tag with
  | some tag => s.finish tag (if late then stLate else stOk) epoch 0
  | none => s

/-- Apply the partner's commit. -/
def State.applyRemote (s : State) (r : Remote) : State :=
  let epoch := r.epoch % 2 ^ 32
  let s := { s with txn := { s.txn with remote := none } }
  let after := if s.txn.open_.isNone then tsIdle else s.txnState
  let s := s.setTxnState tsApplying
  let instant := s.firstTick r.instant
  let s := s.setEpoch epoch instant
  let s := (State.applyItems (2 ^ (epoch % 2)) (s, true) r.items).1
  let s := (((s.keepOld (fieldsOf r.items)).applyRegs (fieldsOf r.items)).setTxnState after).settle
  s.committed r.id epoch instant (fieldsOf r.items).length (r.items.length - (fieldsOf r.items).length)
    (2 + (if r.at96 = 0 then 0 else 1) + (if r.at96 ≠ 0 ∧ (r.doubt = true ∨ ofTime96 r.at96 < r.instant) then 4 else 0))

/-- Event 87 for a transaction in doubt, and TXN_STATUS.IN_DOUBT (R84, R323). -/
def State.inDoubt (s : State) (id : Nat) (on : Bool) : State :=
  let s := s.setFlag Fld.TXN_STATUS_IN_DOUBT on
  let d := [(24, 1, 1), (28, 4, (s.reg Reg.MIR_PARTNER_IMG).toNat), (32, 4, id)]
  if on then s.raise 87 moduleScope d else s.raiseEnd 87 moduleScope d

/-- The unit hears its partner again, or still, and its journal shows the command of the transaction in doubt MARKED: it applies (R84). -/
def State.settleDoubt (s : State) : State :=
  match s.txn.remote with
  | some r => if r.doubt && r.marked && s.heard then (s.applyRemote r).inDoubt r.id false else s
  | none => s

/-- The partner's transaction reaches its instant: it applies, or with no decision heard it is in doubt (R84). -/
def State.remoteDue (s : State) : State :=
  match s.txn.remote with
  | none => s
  | some r =>
    if reached r.instant s.now16 = false ∨ r.doubt = true then s
    else if r.decided then s.applyRemote r
    else (({ s with txn := { s.txn with remote := some { r with doubt := true } } }).inDoubt r.id true).settleDoubt

/-- TXN_APPLY: what has reached its apply instant takes effect. -/
def State.txnApply (s : State) (pick : Nat) : State :=
  let s := s.remoteDue
  match s.txn.open_, s.txn.commit with
  | some t, some c => if s.txnState = tsWait ∧ c.due s.now16 = true then s.applyOwn t c pick else s
  | _, _ => s

/-- A commit whose instant has come takes effect before a host's write received from then on (R78, R389). -/
def State.dueFirst (s : State) : State := if s.instantPast then s.txnApply 0 else s

end Sys2Proof.Machine
end

