-- ==== Sys2Proof/Machine/Steps.lean ====
section
/-! DEFINITION. Steps of module time (R201, R208): the command, its wait for frames of the generation before, and the tick at
which every user of time takes the step. -/

namespace Sys2Proof.Machine

/-- The amount S of a step command in units of 2^-16 ns. -/
def JEntry.stepAmount (e : JEntry) : Int := signed 64 (e.op 16 8) * 65536 + (e.op 24 2 : Int)

/-- Module time after a step of S, units of 2^-40 ns. -/
def State.stepped (s : State) (d : Int) : Int := (s.time.now : Int) + d * 2 ^ 24

/-- Would an instant that lies within the horizon lie 2^45 ns or more ahead after a step? -/
def State.thrownOut (s : State) (after t : Nat) : Bool := inHorizon t s.now16 && decide (after + 2 ^ 61 ≤ t)

/-- The AT of a commit in WAIT_TIME, the partner's decided one among them, the starts of pending gate lists, and the STARTs of outputs that
wait. -/
def State.storedInstants (s : State) : List Nat :=
  (match s.txn.commit with
    | some c => if s.txnState = tsWait ∧ c.at96 ≠ 0 then [c.at16] else []
    | none => [])
  ++ (match s.txn.remote with
    | some r => if r.decided = true ∧ r.at96 ≠ 0 then [ofTime96 r.at96] else []
    | none => [])
  ++ (List.range 64).filterMap (fun n => (s.gate n).pend.map (fun (p : PendingList) => p.start))
  ++ (List.range 8).filterMap (fun k =>
    if s.triple (Reg.REF_OUT_START_W0 k) (Reg.REF_OUT_START_W1 k) (Reg.REF_OUT_START_W2 k) = 0 then none else (s.out k).start)

/-- Why a step is refused: the reason of R42 and the operand byte. -/
def State.stepFault (s : State) (d : Int) : Option (Nat × Nat) :=
  let t := s.stepped d
  if s.flag Fld.TIM_CFG_STEP_EN = false then some (5, 0)
  else if t < 0 ∨ ((2 ^ 48 * unitsPerS * 2 ^ 24 : Nat) : Int) ≤ t then some (3, 16)
  else if s.storedInstants.any (s.thrownOut (t.toNat / 2 ^ 24)) then some (6, 0)
  else none

/-- Put back the step that waits. -/
def State.setStep (s : State) (p : Option PendingStep) : State := { s with time := { s.time with step := p } }

/-- CMD_TIME_STEP. A second step waits in RECEIVED until the first has applied. -/
def State.cmdStep (s : State) (tag : Nat) : State :=
  match s.startable tag 0x42 with
  | none => s
  | some e =>
    if s.time.step.isSome then s
    else match s.stepFault e.stepAmount with
      | some (why, place) => s.malformed tag why place
      | none =>
        let s := s.begin tag
        if s.olderGenFrames = 0 then (s.mark tag).setStep (some ⟨tag, true, false⟩)
        else (s.setFlag Fld.TIM_STATUS_STEP_PENDING true).setStep (some ⟨tag, false, true⟩)

/-- A pending start of an output that the step passes begins from now + 2 µs (R259). -/
def State.outPassed (s : State) (k : Nat) : State :=
  let o := s.out k
  match o.start with
  | some t => if t ≤ s.now16 then s.setOut k { o with start := some (s.now16 + us2) } else s
  | none => s

/-- Gate lists at the step's tick: the entry in force, and a pending list whose start the step passes (R187). -/
def State.gatesStep (s : State) (d : Int) : State :=
  (List.range 64).foldl (fun (s : State) n =>
    if s.gateState n = gsDisabled then s
    else ((s.setGate n { s.gate n with since := (((s.gate n).since : Int) + d).toNat }).showGates n).gateStart n true) s

/-- Does the step's tick take a timed commit or a gate list? -/
def State.takenByStep (s : State) : Bool :=
  (match s.txn.commit with
    | some c => s.txnState == tsWait && c.at96 != 0 && c.due s.now16
    | none => false)
  || (match s.txn.remote with
    | some r => r.decided && r.at96 != 0 && !r.doubt && reached r.instant s.now16
    | none => false)
  || (List.range 64).any (fun n => match (s.gate n).pend with | some p => reached p.start s.now16 | none => false)

/-- The step is added at one tick for every user (R15, R201). -/
def State.makeStep (s : State) (d : Int) (waited : Bool) (pick : Nat) : State :=
  let before := s.now16
  let gen := 1 - s.f Fld.TIM_STATUS_STEP_GEN
  let s := { s with time := { s.time with now := (s.stepped d).toNat, lastStep := d, step := none } }
  let s := { s with txn := { s.txn with appliedAt := ((s.txn.appliedAt : Int) + d).toNat } }
  let s := (s.setFlag Fld.TIM_STATUS_STEP_PENDING false).setF Fld.TIM_STATUS_STEP_GEN gen
  let s := (s.bump Reg.TIM_STEP_CNT).recheckRecovered
  let s := s.raise 26 moduleScope [(24, 8, unsigned 64 (d / 65536)), (32, 2, (d % 65536).toNat), (36, 12, time96 before),
    (48, 1, (if s.takenByStep then 1 else 0) + (if waited then 2 else 0)), (49, 1, gen)]
  let s := ((s.lanStep (before / (65536 * 1000000))).outsStep d).freqSteps before
  let s := (List.range 8).foldl (fun (s : State) k => s.outPassed k) s
  (s.gatesStep d).txnApply pick

/-- TIME_STEP_APPLY: no frame of the generation before remains, or the step has its mark. -/
def State.stepApply (s : State) (pick : Nat) : State :=
  match s.time.step with
  | none => s
  | some p =>
    match s.jget p.tag with
    | none => s.setStep none
    | some e =>
      if p.marked then (s.makeStep e.stepAmount p.waited pick).finish p.tag stOk 0 0
      else if s.olderGenFrames ≠ 0 then s
      else match s.stepFault e.stepAmount with
        | some (why, place) => ((s.setStep none).setFlag Fld.TIM_STATUS_STEP_PENDING false).malformed p.tag why place
        | none => ((s.mark p.tag).makeStep e.stepAmount p.waited pick).finish p.tag stOk 0 0

end Sys2Proof.Machine
end

