-- ==== Sys2Proof/Machine/Energy.lean ====
section
/-! DEFINITION. Energy, thermal and supply (14_energy_and_thermal.md): tallies and the lamplighter, the core rail, the thermal
governor, and the supply warning. -/

namespace Sys2Proof.Machine

/-! ### Background units (R336) -/

/-- Beads of a unit of a task. -/
def taskCost (t : Nat) : Nat := if t = 1 then 2 else if t = 4 then 20 else 1

/-- The maximum deferral of a task, ticks. -/
def State.deferTicks (s : State) (t : Nat) : Nat := s.f (Fld.PWR_TASK_CFG_MAX_DEFER_S t) * Config.ticksPerS

/-- The units of one period of tasks 0..2, in order: the pipeline, bank or table of each. -/
def State.taskUnits (s : State) (t : Nat) : List Nat :=
  if t = 0 then (List.range 64).filterMap (fun k => if k / 4 < s.unitsOf (k % 4) 8192 then some (k % 4) else none)
  else if t = 1 then List.range 64
  else allTables.flatMap (fun tb => List.replicate (s.unitsOf tb 16384) tb)

/-- Does a task's schedule run? -/
def State.taskOn (s : State) (t : Nat) : Bool :=
  !s.rst.controller &&
    (if t = 0 then s.flag Fld.TBL_AGE_CFG_ENABLE && s.domainOn 8
     else if t = 1 then s.flag Fld.BUF_SCRUB_CFG_ENABLE && s.domainOn 7
     else s.flag Fld.TBL_SCRUB_CFG_ENABLE && s.domainOn 8)

/-- The period of a task's schedule at unit `i` of a cycle, seconds: that of the aging sweeps is taken anew where they begin (R155). -/
def State.taskPeriod (s : State) (t i : Nat) : Nat :=
  if t = 0 then (if i = 0 ∨ s.pwr.agePeriod = 0 then s.f Fld.TBL_AGE_CFG_PERIOD_S else s.pwr.agePeriod)
  else if t = 1 then s.f Fld.BUF_SCRUB_CFG_PERIOD_S else s.f Fld.TBL_SCRUB_CFG_PERIOD_S

/-- Put the units of a task that have fallen due on the list; at most `fuel` at one boundary. -/
def State.scheduleTask (s : State) (t : Nat) : Nat → State
  | 0 => s
  | fuel + 1 =>
    let us := s.taskUnits t
    let p := s.pwr
    if s.taskOn t = false ∨ us.isEmpty = true then
      { s with pwr := { p with nextDue := Store.set (fun _ => 0) p.nextDue t 0 } }
    else
      let i := Store.get (fun _ => 0) p.nextUnit t % us.length
      let gap := s.taskPeriod t i * Config.ticksPerS / us.length
      let at_ := Store.get (fun _ => 0) p.nextDue t
      if at_ = 0 then { s with pwr := { p with nextDue := Store.set (fun _ => 0) p.nextDue t (s.clk + gap) } }
      else if at_ ≤ s.clk then
        let q := { p with due := p.due ++ [(⟨t, us.getD i 0, at_⟩ : BgUnit)], nextDue := Store.set (fun _ => 0) p.nextDue t (at_ + gap)
                          agePeriod := if t = 0 then s.taskPeriod 0 i else p.agePeriod }
        ({ s with pwr := { q with nextUnit := Store.set (fun _ => 0) q.nextUnit t ((i + 1) % us.length) } }).scheduleTask t fuel
      else s

/-- Does a minute lie between now and the last record of a kind (R336)? An erase knows no such limit. The store's keys 10 and up hold the
tick of each kind's last. -/
def State.recordFree (s : State) (k : Nat) : Bool :=
  let last := Store.get (fun _ => 0) s.pwr.nextDue (10 + k)
  k == 0 || last == 0 || s.passed last 60 Config.ticksPerS

/-- Is a record of a kind due already? It will write what there is when it is carried out. -/
def State.recordDue (s : State) (k : Nat) : Bool := k != 0 && s.pwr.due.any (fun u => u.task == 4 && u.unit == k)

/-- Flash records and erases that have become due: a record that changes within a minute of the last waits for the minute to end. -/
def State.scheduleFlash (s : State) : List Nat → State
  | [] => s
  | k :: l =>
    let p := s.pwr
    (if 4 < k ∨ s.recordDue k = true then s
     else if s.recordFree k then
       { s with pwr := { p with due := p.due ++ [(⟨4, k, s.clk⟩ : BgUnit)], nextDue := Store.set (fun _ => 0) p.nextDue (10 + k) s.clk } }
     else { s with pwr := { p with wanted := p.wanted ++ [k] } }).scheduleFlash l

/-- The flash work of a tally: what waited, what the command names, and the boot configuration where the register differs from flash. -/
def State.flashDue (s : State) (l : List Nat) : State :=
  if s.rst.controller = true ∨ s.domainOn 4 = false then s
  else
    let boot := if (s.reg Reg.TXN_BOOT_CFG).toNat = s.img.bootCfg then [] else [4]
    { s with pwr := { s.pwr with wanted := [] } }.scheduleFlash (distinct (s.pwr.wanted ++ l.filter (· != 0) ++ boot) ++ l.filter (· == 0))

/-! ### Starting (R297, R335..R338) -/

/-- Something due that a tally may start: a calibration instance, or a unit of background work. -/
structure Cand where
  cal : Option Nat
  bg : BgUnit
  cost : Nat
  limit : Nat
  deriving DecidableEq, Repr

/-- Longest wait first. -/
def oldestInto (c : Cand) : List Cand → List Cand
  | [] => [c]
  | d :: l => if c.bg.since < d.bg.since then c :: d :: l else d :: oldestInto c l
def oldestFirst (l : List Cand) : List Cand := l.foldl (fun a c => oldestInto c a) []

/-- Due calibration runs of a type that may start now. -/
def State.calCands (s : State) (t : Nat) : List Cand :=
  if s.calMayStart = false ∨ s.rst.controller = true then []
  else oldestFirst (s.cal.due.filterMap (fun (e : Nat × Option CalDue) => match e.2 with
    | some d =>
      if calType e.1 = t ∧ d.tag = none ∧ s.domainOn (calDomain e.1) = true ∧ (t ≠ 4 ∨ s.portUp (e.1 - 128) = true) then
        some (⟨some e.1, ⟨3, e.1, d.since⟩, calBeads t, s.f (Fld.CAL_TYPE_CFG_MAX_DEFER_S t) * Config.ticksPerS⟩ : Cand)
      else none
    | none => none))

/-- Due units of a task that may start now. No flash write starts in a removal (R360). -/
def State.bgCands (s : State) (t : Nat) : List Cand :=
  if s.rst.controller || (t == 4 && (s.supplyWarn || s.rst.ejectAt.isSome)) then []
  else (s.pwr.due.filter (fun u => u.task == t)).map (fun u => (⟨none, u, taskCost t, s.deferTicks t⟩ : Cand))

/-- All that is due, in the order of R337 behind the forced. -/
def State.cands (s : State) : List Cand :=
  s.calCands 4 ++ s.calCands 5 ++ s.calCands 3 ++ s.calCands 1 ++ s.calCands 2
    ++ s.bgCands 2 ++ s.bgCands 1 ++ s.bgCands 0 ++ s.bgCands 4

/-- Is a candidate at its maximum deferral? -/
def State.atLimit (s : State) (c : Cand) : Bool := decide (c.bg.since + c.limit ≤ s.clk)

/-- Event 6 (R349). -/
def deferDetail (s : State) (c : Cand) : List (Nat × Nat × Nat) :=
  [(24, 1, c.bg.task), (25, 1, match c.cal with | some j => calType j | none => 0), (26, 2, c.bg.unit),
    (28, 4, s.sSince c.bg.since), (32, 1, if s.f Fld.PWR_STATUS_GOV_STEP = 0 then 0 else 1)]

/-- Start a candidate. -/
def State.startCand (s : State) (forced : Bool) (c : Cand) : State :=
  let t := c.bg.task
  let s := if c.cal.isSome then s else s.bumpBy (Reg.PWR_TASK_BEADS t) c.cost
  let s := if forced then s.bump (Reg.PWR_TASK_FORCED t) else s
  match c.cal with
  | some j =>
    let s := if forced then s.raise 6 moduleScope (deferDetail s c) else s
    s.startRun j (match s.calDue j with | some d => d.trigger | none => 0) forced false none
  | none =>
    { s with pwr := { s.pwr with due := s.pwr.due.erase c.bg, started := s.pwr.started ++ [c.bg], charged := s.pwr.charged + c.cost } }

/-- Go through what is not forced: the state, the beads charged so far, and what stays unstarted for want of spare. -/
def startFits (spare : Nat) : State × Nat × List Cand → List Cand → State × Nat × List Cand
  | r, [] => r
  | (s, sum, short), c :: l =>
    if sum + c.cost ≤ spare then startFits spare (s.startCand false c, sum + c.cost, short) l
    else startFits spare (s, sum, short ++ [c]) l

/-- Event 6 of a task, at its oldest due unit's limit, be it held or not, and when none is at its limit any more. -/
def State.limitTask (s : State) (t : Nat) : State :=
  let overran := ((s.pwr.due.filter (fun u => u.task == t)).map (fun u => (⟨none, u, taskCost t, s.deferTicks t⟩ : Cand))).filter s.atLimit
  let was := s.flag (Fld.PWR_TASK_STATUS_AT_LIMIT t)
  match overran with
  | c :: _ => if was then s else (s.setFlag (Fld.PWR_TASK_STATUS_AT_LIMIT t) true).raise 6 moduleScope (deferDetail s c)
  | [] =>
    if was then (s.setFlag (Fld.PWR_TASK_STATUS_AT_LIMIT t) false).raiseEnd 6 moduleScope
      [(24, 1, t), (32, 1, if s.f Fld.PWR_STATUS_GOV_STEP = 0 then 0 else 1)] else s

/-- WAIT_S of a task: the wait of its oldest due unit. -/
def State.showWait (s : State) (t : Nat) : State :=
  let since := if t = 3 then (s.cal.due.filterMap (fun (e : Nat × Option CalDue) => e.2.map (fun d => match d.waited with | some w => s.clk - w | none => d.since)))
    else (s.pwr.due.filter (fun u => u.task == t)).map (·.since)
  s.setF (Fld.PWR_TASK_STATUS_WAIT_S t) (min 65535 ((since.map s.sSince).foldl max 0))

/-- Beads of the due units that are not started, those that a warning or a removal holds among them. -/
def State.dueBeads (s : State) : Nat :=
  (s.pwr.due.map (fun u => taskCost u.task)).sum
    + (s.cal.due.map (fun (e : Nat × Option CalDue) => if e.2.isSome then calBeads (calType e.1) else 0)).sum

/-- The lamplighter's work of one tally, with its spare. -/
def State.lamplighter (s : State) (spare : Nat) : State :=
  let s := [0, 1, 2, 4].foldl (fun (s : State) t => s.limitTask t) s
  let all := s.cands
  let forced := oldestFirst (all.filter s.atLimit)
  let rest := all.filter (fun c => !s.atLimit c)
  let s := forced.foldl (fun (s : State) c => s.startCand true c) s
  let sum := (forced.map (·.cost)).sum
  let held := s.f Fld.PWR_STATUS_GOV_STEP != 0
  let r := if held then (s, sum, []) else startFits spare (s, sum, []) rest
  let s := r.1
  let short := r.2.2
  let beads (l : List Cand) : Nat := (l.map (·.cost)).sum
  let s := { s with pwr := { s.pwr with spare := spare, deferred := s.dueBeads } }
  let s := [0, 1, 2, 3, 4].foldl (fun (s : State) t => s.showWait t) s
  let mask := maskOf (fun t => short.any (fun c => c.bg.task == t))
  let d := [(24, 2, s.f Fld.PWR_ENVELOPE_BEADS), (26, 2, spare), (28, 2, beads short), (30, 1, mask), (32, 4, s.pwr.shortOver)]
  let was := s.flag Fld.PWR_STATUS_SHORT
  let s := if short.isEmpty then s else s.bump Reg.PWR_SHORT_CNT
  if !short.isEmpty && !was then (s.setFlag Fld.PWR_STATUS_SHORT true).raise 5 moduleScope d
  else if short.isEmpty && was then (s.setFlag Fld.PWR_STATUS_SHORT false).raiseEnd 5 moduleScope d
  else s

/-! ### Meters (R334) -/

/-- What a domain draws at most in a tally, tenths of a bead (R332). -/
def tableMax (d : Nat) : Nat :=
  10 * ([6, 50, 45, 25, 40, 12, 260, 105, 90, 65, 65, 65, 65].getD d 0)

/-- What a domain is charged: its meter's report, or the table maximum when the meter has failed (R333). -/
def State.drawn (s : State) (meters : List Nat) (d : Nat) : Nat :=
  if s.pwr.meterFail.testBit d then tableMax d else meters.getD d 0

/-- Store a domain's report, and its whole joules. -/
def State.meter (s : State) (meters : List Nat) (d : Nat) : State :=
  let x := s.drawn meters d
  let t := Store.get (fun _ => 0) s.pwr.rest d + x
  let s := s.setF (Fld.PWR_DOMAIN_BEADS_LAST d) (min 65535 (meters.getD d 0))
  let s := s.bumpBy (Reg.PWR_DOMAIN_JOULES d) (t / 10000)
  { s with pwr := { s.pwr with rest := Store.set (fun _ => 0) s.pwr.rest d (t % 10000) } }

/-! ### The core rail (R17, R339) -/

/-- Ticks of a tally. -/
def tallyTicks : Nat := 6250000

/-- The configured port load of a pipeline plus 5 %, in thousands of frames per second at minimum size, 84 bytes on the wire (R17). The manual
states no rounding to whole thousands: `ratio` (log 22). -/
def State.floorLoad (s : State) (p : Nat) : Nat :=
  let rates := (List.range 16).map (fun i => match s.img.active with
    | some x => let speed := Store.get (fun _ => 0) x.speeds (16 * p + i); if speed = 0 then 0 else rateOf speed
    | none => 0)
  (ratio ((rates.sum * 105000000 : Nat) : Int) 67200).toNat

/-- The rail at which pipeline `p`, by its ring's reading, has just the capacity of its floor. -/
def State.floorMv (s : State) (rings : List Nat) (p : Nat) : Nat :=
  if s.floorLoad p = 0 then 0 else (Config.railFor p (s.floorLoad p) (rings.getD p 0)).toNat

/-- The floors of the four pipelines are recomputed from their rings' readings, and the rail follows. -/
def State.railTally (s : State) (rings : List Nat) : State :=
  let fl := max 720 (min 800 (([0, 1, 2, 3].map (s.floorMv rings)).foldl max 0))
  let s := s.setF Fld.PWR_CORE_RAIL_FLOOR_MV fl
  let mv := s.f Fld.PWR_CORE_RAIL_MV
  let down := s.flag Fld.PWR_CTRL_RAIL_SAVE || decide (2 ≤ s.f Fld.PWR_STATUS_GOV_STEP)
  s.setF Fld.PWR_CORE_RAIL_MV (if down && s.pwr.slow.isEmpty then max fl (mv - 5) else 800)

/-- A pipeline's measured capacity has fallen below its floor: event 63, and the rail returns to nominal (R18). Capacity and
floor in thousands of frames per second, fill in bytes. -/
def State.pipelineSlow (s : State) (p cap fill : Nat) : State :=
  let floor := s.floorLoad p
  if 3 < p ∨ floor ≤ cap ∨ s.domainOn 6 = false then s
  else
    let s := s.noteFill p fill
    match Store.get (fun _ => none) s.pwr.slow p with
    | some _ => s.flow
    | none =>
      let mv := s.f Fld.PWR_CORE_RAIL_MV
      let hot := ((List.range 4).map (fun c => s.f (Fld.PWR_CORE_TEMP_TEMP c))).foldl
        (fun a b => if signed 16 a < signed 16 b then b else a) (s.f (Fld.PWR_CORE_TEMP_TEMP 0))
      let x : Slow := ⟨s.clk, floor, mv, hot, kib fill, (s.reg (Reg.BUF_ELASTIC_OVF_CNT p)).toNat⟩
      let s := { s with pwr := { s.pwr with slow := Store.set (fun _ => none) s.pwr.slow p (some x) } }
      s.flow.raise 63 p [(24, 4, cap), (28, 4, floor), (32, 2, mv), (34, 2, kib fill), (44, 2, hot)]

/-- The rail has reached nominal: event 63 again for every pipeline of the episode, with its figures. `fills` are the stores' fills. -/
def State.railNominal (s : State) (caps fills : List Nat) : State :=
  if s.pwr.slow.isEmpty then s
  else
    let s := (fills.zipIdx.foldl (fun (s : State) (x : Nat × Nat) => if x.2 < 4 then s.noteFill x.2 x.1 else s) s).flow
    let l := s.pwr.slow
    let s := s.setF Fld.PWR_CORE_RAIL_MV 800
    let s := l.foldl (fun (s : State) (e : Nat × Option Slow) => match e.2 with
      | some x => s.raiseEnd 63 e.1 [(24, 4, caps.getD e.1 0), (28, 4, x.floor), (32, 2, x.mv), (34, 2, x.peak), (36, 4, s.usSince x.since),
          (40, 4, ((s.reg (Reg.BUF_ELASTIC_OVF_CNT e.1)).toNat + 2 ^ 32 - x.ovf) % 2 ^ 32), (44, 2, x.temp)]
      | none => s) s
    { s with pwr := { s.pwr with slow := [] } }

/-! ### Temperatures (R340) -/

/-- 16 bits of a sensor as the governor numbers it: 0..6 on the timing die, 8..11 on the core die. -/
def State.sensor (s : State) (k : Nat) : Int :=
  if k < 8 then signed 16 (s.f (Fld.CAL_SENSOR_TEMP k)) else signed 16 (s.f (Fld.PWR_CORE_TEMP_TEMP (k - 8)))

/-- The sensors that count for T_j. -/
def govSensors : List Nat := [0, 1, 2, 3, 4, 5, 6, 8, 9, 10, 11]

/-- The hottest sensor. -/
def State.hottest (s : State) : Nat := govSensors.foldl (fun a k => if s.sensor a < s.sensor k then k else a) 0

/-- T_j, 1/16 °C. -/
def State.tj (s : State) : Int := signed 16 (s.f Fld.PWR_THERM_STATUS_TJ)
def State.hot (s : State) : Bool := decide (110 * 16 ≤ s.tj)
def State.cool (s : State) : Bool := decide (s.tj < 110 * 16 - ((s.f Fld.PWR_THERM_CFG_HYST_K * 16 : Nat) : Int))

/-- T_j is formed again from the sensors' readings, and what has held since when. -/
def State.readTj (s : State) : State :=
  let k := s.hottest
  let s := (s.setF Fld.PWR_THERM_STATUS_TJ (unsigned 16 (s.sensor k))).setF Fld.PWR_THERM_STATUS_SENSOR k
  let keep (b : Bool) (o : Option Nat) : Option Nat := if b then some (o.getD s.clk) else none
  let p := s.pwr
  let p := { p with hotSince := keep s.hot p.hotSince, coolSince := keep s.cool p.coolSince, tripSince := keep (decide (120 * 16 ≤ s.tj)) p.tripSince }
  { s with pwr := { p with topTemp := if s.f Fld.PWR_STATUS_GOV_STEP = 0 then s.tj else max p.topTemp s.tj } }

/-- A sensor's reading: its register, the calibrations it makes due, T_j. -/
def State.readSensor (s : State) (k temp : Nat) : State :=
  (if k < 8 then s.calTempTrigger k temp else if k < 12 then s.setF (Fld.PWR_CORE_TEMP_TEMP (k - 8)) temp else s).readTj

/-- Is T_j at or above WARN_C (PWR_STATUS.THERM_WARN, R350)? -/
def State.atWarn (s : State) : Bool := decide (((s.f Fld.PWR_THERM_CFG_WARN_C * 16 : Nat) : Int) ≤ s.tj)

/-- THERM_WARN: T_j has reached WARN_C, or fallen below it less the hysteresis. -/
def State.thermWarn (s : State) : State :=
  let warn : Int := ((s.f Fld.PWR_THERM_CFG_WARN_C * 16 : Nat) : Int)
  let d := [(24, 1, s.f Fld.PWR_THERM_STATUS_SENSOR), (26, 2, s.f Fld.PWR_THERM_STATUS_TJ), (28, 2, s.f Fld.PWR_TALLY_LAST_TOTAL)]
  let on := s.flag Fld.PWR_STATUS_THERM_WARN
  if !on && s.atWarn then (s.setFlag Fld.PWR_STATUS_THERM_WARN true).raise 2 moduleScope d
  else if on && decide (s.tj < warn - ((s.f Fld.PWR_THERM_CFG_HYST_K * 16 : Nat) : Int)) then
    (s.setFlag Fld.PWR_STATUS_THERM_WARN false).raiseEnd 2 moduleScope d
  else s

/-! ### The governor (R341) -/

/-- Has a condition held for so many seconds since it began and since the last change of step or THROTTLE? -/
def State.heldFor (s : State) (since : Option Nat) (sec : Nat) : Bool :=
  match since with
  | some t => s.passed (max t s.pwr.stepAt) sec Config.ticksPerS
  | none => false

/-- Event 3 with its counter. -/
def State.limitEvent (s : State) : State :=
  let s := s.bump Reg.PWR_GOV_STEP_CNT
  let s := { s with pwr := { s.pwr with govTop := max s.pwr.govTop (s.f Fld.PWR_STATUS_GOV_STEP) } }
  s.raise 3 moduleScope [(24, 1, s.f Fld.PWR_STATUS_GOV_STEP), (25, 1, s.f Fld.PWR_STATUS_THROTTLE), (26, 2, s.f Fld.PWR_THERM_STATUS_TJ),
    (28, 1, s.f Fld.PWR_THERM_STATUS_SENSOR), (30, 2, s.f Fld.PWR_TALLY_LAST_TOTAL)]

/-- Milliseconds at step 3 so far. -/
def State.step3Ms (s : State) : Nat :=
  (s.reg Reg.PWR_GOV_STEP3_MS).toNat + (match s.pwr.step3At with | some t => s.msSince t | none => 0)

/-- Take a step and a THROTTLE. -/
def State.setGov (s : State) (step throttle : Nat) : State :=
  let was := s.f Fld.PWR_STATUS_GOV_STEP
  let s := if was = 3 ∧ step ≠ 3 then
      let s := s.setReg Reg.PWR_GOV_STEP3_MS (BitVec.ofNat 32 s.step3Ms)
      { s with pwr := { s.pwr with step3At := none } }
    else if was ≠ 3 ∧ step = 3 then { s with pwr := { s.pwr with step3At := some s.clk } }
    else s
  let s := if was = 0 ∧ step ≠ 0 then { s with pwr := { s.pwr with govAt := s.clk, govTop := 0, topTemp := s.tj } } else s
  let s := s.railHeld (decide (2 ≤ step))
  let s := (s.setF Fld.PWR_STATUS_GOV_STEP step).setF Fld.PWR_STATUS_THROTTLE throttle
  { s with pwr := { s.pwr with stepAt := s.clk } }

/-- THERM_HOT. -/
def State.thermHot (s : State) : State :=
  let st := s.f Fld.PWR_STATUS_GOV_STEP
  let th := s.f Fld.PWR_STATUS_THROTTLE
  if st = 0 then (if s.hot then (s.setGov 1 0).limitEvent else s)
  else if s.heldFor s.pwr.hotSince 1 = false then s
  else if st = 1 then (s.setGov 2 0).limitEvent
  else if st = 2 then (s.setGov 3 1).limitEvent
  else if th < 8 then (s.setGov 3 (th + 1)).limitEvent
  else s

/-- THERM_COOL. -/
def State.thermCool (s : State) : State :=
  let st := s.f Fld.PWR_STATUS_GOV_STEP
  let th := s.f Fld.PWR_STATUS_THROTTLE
  if st = 3 then
    if s.heldFor s.pwr.coolSince 1 then (if th ≤ 1 then s.setGov 2 0 else s.setGov 3 (th - 1)) else s
  else if st = 2 then (if s.heldFor s.pwr.coolSince 10 then s.setGov 1 0 else s)
  else if st = 1 then
    if s.heldFor s.pwr.coolSince 10 then
      let d := [(24, 1, s.pwr.govTop), (26, 2, unsigned 16 s.pwr.topTemp), (28, 4, s.msSince s.pwr.govAt)]
      (s.setGov 0 0).raise 4 moduleScope d
    else s
  else s

/-- The governor's hold at the start of a period, and its end: a PFC frame goes out at both, whatever the peer was told last (R342). -/
def State.throttleSet (s : State) (n m : Nat) : State :=
  let p := s.port n
  let held := (s.setPort n { p with throttle := m }).heldXoff n % 16
  (s.setPort n { p with told := p.told - (p.told &&& held) }).setThrottle n m

/-- THROTTLE_PERIOD: the start of a 1 ms period, or m/8 of it. -/
def State.throttlePeriod (s : State) : State :=
  let m := s.f Fld.PWR_STATUS_THROTTLE
  let ports := (List.range 64).filter (fun n => s.flag (Fld.PRT_CFG_ENABLE n) && s.portUp n)
  let release (s : State) : State := (List.range 64).foldl (fun (s : State) n => if (s.port n).throttle = 0 then s else s.throttleSet n 0) s
  if m = 0 then release s
  else if s.passed s.pwr.periodAt 1 Config.ticksPerMs then
    ports.foldl (fun (s : State) n => s.throttleSet n 15) { s with pwr := { s.pwr with periodAt := s.clk } }
  else if m < 8 ∧ s.passed s.pwr.periodAt m (Config.ticksPerMs / 8) = true then release s
  else s

/-! ### The tally -/

/-- ENERGY_TALLY: meters in tenths of a bead by domain, core-die temperatures, the readings of the pipelines' rings, the oven's draw in
mW, and the flash records and erases that have come due. -/
def State.tally (s : State) (meters core rings : List Nat) (oven : Nat) (flash : List Nat) : State :=
  if s.clk < s.pwr.tallyAt + tallyTicks then s
  else
    let charged := s.pwr.charged
    let total := min 65535 (ratio (((List.range 13).map (s.drawn meters)).sum : Nat) 10).toNat
    let s := (List.range 13).foldl (fun (s : State) d => s.meter meters d) s
    let s := s.bump Reg.PWR_TALLY_SEQ
    let s := (s.setF Fld.PWR_TALLY_LAST_TOTAL total).setF Fld.PWR_TALLY_LAST_SPARE s.pwr.spare
    let s := (s.setF Fld.PWR_TALLY_BG_CHARGED charged).setF Fld.PWR_TALLY_BG_DEFERRED s.pwr.deferred
    let env := s.f Fld.PWR_ENVELOPE_BEADS
    let overran := decide (env < total)
    let s := if overran then s.bump Reg.PWR_OVER_CNT else s
    let short := if !s.flag Fld.PWR_STATUS_SHORT then 0 else if overran then s.pwr.shortOver + 1 else s.pwr.shortOver
    let s := { s with pwr := { s.pwr with tallyAt := s.pwr.tallyAt + tallyTicks, charged := 0, shortOver := short } }
    let s := (List.range 4).foldl (fun (s : State) c => s.setF (Fld.PWR_CORE_TEMP_TEMP c) (core.getD c 0)) s
    let s := (s.readTj.setF Fld.PWR_OSC_OVEN_MW (min 5000 oven)).railTally rings
    let s := [0, 1, 2].foldl (fun (s : State) t => s.scheduleTask t 64) s
    (s.flashDue flash).lamplighter ((env : Int) - ((total : Int) - (charged : Int))).toNat

/-- Carry out a started unit: it leaves the list. None: it has not been started. -/
def State.takeUnit (s : State) (t u : Nat) : Option State :=
  match s.pwr.started.find? (fun x => x.task == t && x.unit == u) with
  | some x => some { s with pwr := { s.pwr with started := s.pwr.started.erase x } }
  | none => none

/-- AGE_SWEEP_UNIT, BUF_SCRUB_UNIT and TBL_SCRUB_UNIT: a started unit is carried out. -/
def State.ageUnit (s : State) (p : Nat) : State :=
  match s.takeUnit 0 p with
  | some s => s.sweepUnit p
  | none => s
def State.bufUnit (s : State) (b : Nat) (hard : List Nat) : State :=
  match s.takeUnit 1 b with
  | some s => s.scrubBank b hard
  | none => s
def State.tblUnit (s : State) (t : Nat) : State :=
  match s.takeUnit 2 t with
  | some s => s.scrubTable t
  | none => s

/-- FLASH_HOUSEKEEPING_UNIT: kind 0 is a sector erase, 1..4 the records of R336. A record of the control value history keeps the
present one for a later start (R251), one of the boot configuration TXN_BOOT_CFG (R87). DEDUCED (log 153). -/
def State.flashUnit (s : State) (kind : Nat) (ok : Bool) (addr retries : Nat) : State :=
  match s.takeUnit 4 kind with
  | none => s
  | some s =>
    if ok = false then s.flashError (if kind = 0 then 2 else 1) (if kind = 4 then 4 else 3) addr retries
    else if kind = 3 then
      match s.ref.hist with
      | h :: _ => { s with ref := { s.ref with flashCv := some h.2.1 } }
      | [] => s
    else if kind = 4 then { s with img := { s.img with bootCfg := (s.reg Reg.TXN_BOOT_CFG).toNat } }
    else s

/-! ### Supply (R345..R347) -/

/-- Is a flash write running? -/
def State.flashRunning (s : State) : Bool := s.img.write.isSome || s.pwr.started.any (fun u => u.task == 4)

/-- New readings of the rails: the present values, the minima, and when each last lay at or below its recovery level. -/
def State.readRails (s : State) (main aux : Nat) : State :=
  let s := (s.setF Fld.PWR_SUPPLY_MAIN12_MV main).setF Fld.PWR_SUPPLY_AUX3_MV aux
  let s := s.setF Fld.PWR_SUPPLY_MIN_MAIN12_MV (min main (s.f Fld.PWR_SUPPLY_MIN_MAIN12_MV))
  let s := s.setF Fld.PWR_SUPPLY_MIN_AUX3_MV (min aux (s.f Fld.PWR_SUPPLY_MIN_AUX3_MV))
  let p := s.pwr
  { s with pwr := { p with mainLow := if main ≤ 11300 then s.clk else p.mainLow, auxLow := if aux ≤ 3150 then s.clk else p.auxLow } }

/-- Tags in a state other than DONE. -/
def State.tagsOpen (s : State) : Nat :=
  (s.hif.journal.filter (fun p => match p.2 with | some e => e.st != .done | none => false)).length

/-- SUPPLY_WARN: the rails' voltages in mV; a rail below its warning level puts the warning in force. -/
def State.supplyLow (s : State) (main aux : Nat) : State :=
  let s := s.readRails main aux
  let m := decide (main < 11000)
  let a := decide (aux < 3100)
  let rail := if m then 0 else 1
  let mv := if m then main else aux
  if !m && !a then s
  else if s.supplyWarn then
    let s := if m then s.setFlag Fld.PWR_STATUS_MAIN_WARN true else s
    let s := if a then s.setFlag Fld.PWR_STATUS_AUX_WARN true else s
    let now := if s.pwr.warnRail = 0 then main else aux
    { s with pwr := { s.pwr with warnLow := min s.pwr.warnLow now } }
  else
    let d := [(24, 1, rail), (26, 2, mv), (28, 1, if s.flashRunning then 1 else 0), (30, 2, s.tagsOpen)]
    let s := if m then s.setFlag Fld.PWR_STATUS_MAIN_WARN true else s
    let s := if a then s.setFlag Fld.PWR_STATUS_AUX_WARN true else s
    let s := { s with pwr := { s.pwr with warnAt := some s.clk, warnRail := rail, warnLow := mv } }
    (((s.bump Reg.PWR_WARN_CNT).raise 0 moduleScope d).abandonAll (fun _ => true)).holdCommit

/-- The commands that the warning holds in RECEIVED: commits and image loads, in fetch order (R49). -/
def State.heldCommands (s : State) : List (Nat × JEntry) :=
  let l := s.hif.journal.filterMap (fun (p : Nat × Option JEntry) => match p.2 with
    | some e => if e.st = .received ∧ e.started = false ∧ (e.opcode = 0x21 ∨ e.opcode = 0x30) then some (p.1, e) else none
    | none => none)
  l.foldl (fun (a : List (Nat × JEntry)) x => (a.filter (fun y => decide (y.2.seq < x.2.seq))) ++ [x] ++ a.filter (fun y => decide (x.2.seq ≤ y.2.seq))) []

/-- Of the held commits those that will be late: the one that applies the open transaction, with an AT before the instant that it can have
(R81). DEDUCED (log 154). -/
def State.lateHeld (s : State) (held : List (Nat × JEntry)) : Nat :=
  let first := if s.inService then s.now16 + us250 else s.now16
  min 1 ((held.filter (fun x => x.2.opcode == 0x21 && s.canStage x.2.txn && x.2.op 16 12 != 0 && decide (ofTime96 (x.2.op 16 12) < first))).length)

/-- SUPPLY_RECOVERED: a rail that has stayed above its recovery level for 100 µs leaves its warning, and the warning ends once both have
(R345, R347). -/
def State.supplyBack (s : State) (main aux : Nat) : State :=
  let s := s.readRails main aux
  match s.pwr.warnAt with
  | none => s
  | some t =>
    let mOk := decide (11300 < main) && s.passed s.pwr.mainLow 100 Config.ticksPerUs
    let aOk := decide (3150 < aux) && s.passed s.pwr.auxLow 100 Config.ticksPerUs
    if (mOk && aOk) = false then
      let mW := s.flag Fld.PWR_STATUS_MAIN_WARN
      let aW := s.flag Fld.PWR_STATUS_AUX_WARN
      (s.setFlag Fld.PWR_STATUS_MAIN_WARN (mW && !(mOk && aW))).setFlag Fld.PWR_STATUS_AUX_WARN (aW && !(aOk && mW))
    else
      let held := s.heldCommands
      let runs := (s.cal.due.filter (fun d => match d.2 with | some x => x.tag.isSome | none => false)).length
      let late := s.lateHeld held
      let us := min (s.usSince t) 0xFFFFFFFF
      let s := s.setReg Reg.PWR_WARN_MAX_US (BitVec.ofNat 32 (max us (s.reg Reg.PWR_WARN_MAX_US).toNat))
      let s := (s.setFlag Fld.PWR_STATUS_MAIN_WARN false).setFlag Fld.PWR_STATUS_AUX_WARN false
      let d := [(24, 1, s.pwr.warnRail), (26, 2, s.pwr.warnLow), (28, 4, us), (32, 2, held.length + runs), (34, 2, late)]
      let s := { s with pwr := { s.pwr with warnAt := none }, hif := { s.hif with supplyHeld := held.map (fun (x : Nat × JEntry) => x.1) } }
      (s.raise 1 moduleScope d).releaseHeldRuns

end Sys2Proof.Machine
end

