-- ==== Sys2Proof/Machine/Ecdsa.lean ====
section
/-! DEFINITION. The signatures of images (R64, R65): ECDSA over NIST P-384, verified with a public key. The curve and the method are those
of FIPS 186, PRESUMED (log 12). -/

namespace Sys2Proof.Machine

/-- The field's prime, the order of the base point, and the base point. -/
def p384 : Nat := 2 ^ 384 - 2 ^ 128 - 2 ^ 96 + 2 ^ 32 - 1
def n384 : Nat := 0xFFFFFFFFFFFFFFFFFFFFFFFFFFFFFFFFFFFFFFFFFFFFFFFFC7634D81F4372DDF581A0DB248B0A77AECEC196ACCC52973
def b384 : Nat := 0xB3312FA7E23EE7E4988E056BE3F82D19181D9C6EFE8141120314088F5013875AC656398D8A2ED19D2A85C8EDD3EC2AEF
def g384 : Nat × Nat := (0xAA87CA22BE8B05378EB1C71EF320AD746E1D3B628BA79B9859F741E082542A385502F25DBF55296C3A545E3872760AB7,
  0x3617DE4A96262C6F5D9E98BF9292DC29F8F41DBD289A147CE9DA3113B5F0B8C00A60B1CE1D7E819D7A431D7C90EA0E5F)

/-- Product and difference in the field. -/
def mulP (a b : Nat) : Nat := a * b % p384
def subP (a b : Nat) : Nat := (a + (p384 - b)) % p384

/-- A point in Jacobian coordinates; Z = 0 is the point at infinity. -/
abbrev JPoint : Type := Nat × Nat × Nat

/-- Twice a point. -/
def dblP : JPoint → JPoint
  | (x, y, z) =>
    let d := mulP z z
    let g := mulP y y
    let b := mulP x g
    let a := 3 * mulP (subP x d) (x + d) % p384
    let x3 := subP (mulP a a) (8 * b % p384)
    (x3, subP (mulP a (subP (4 * b % p384) x3)) (8 * mulP g g % p384), subP (mulP (y + z) (y + z)) ((g + d) % p384))

/-- The sum of two points. -/
def addP : JPoint → JPoint → JPoint
  | (x1, y1, z1), (x2, y2, z2) =>
    if z1 = 0 then (x2, y2, z2)
    else if z2 = 0 then (x1, y1, z1)
    else
      let u1 := mulP x1 (mulP z2 z2)
      let h := subP (mulP x2 (mulP z1 z1)) u1
      let s1 := mulP y1 (mulP z2 (mulP z2 z2))
      let r := subP (mulP y2 (mulP z1 (mulP z1 z1))) s1
      if h = 0 then (if r = 0 then dblP (x1, y1, z1) else (1, 1, 0))
      else
        let hh := mulP h h
        let h3 := mulP h hh
        let v := mulP u1 hh
        let x3 := subP (mulP r r) ((h3 + 2 * v) % p384)
        (x3, subP (mulP r (subP v x3)) (mulP s1 h3), mulP h (mulP z1 z2))

/-- u·G + v·Q over `n` bits from the highest on, added to twice the point so far each time. -/
def twinMul (q gq : JPoint) (u v : Nat) : Nat → JPoint → JPoint
  | 0, a => a
  | n + 1, a =>
    let d := dblP a
    twinMul q gq u v n
      (if u.testBit n then (if v.testBit n then addP d gq else addP d (g384.1, g384.2, 1)) else if v.testBit n then addP d q else d)

/-- The power b^e modulo the order, over `n` bits of e from the highest on. -/
def powN (b e : Nat) : Nat → Nat → Nat
  | 0, a => a
  | n + 1, a => powN b e n (if e.testBit n then a * a % n384 * b % n384 else a * a % n384)

/-- Does a signature (r, s) of a digest verify with the public key (x, y)? -/
def ecdsaOk (x y digest r s : Nat) : Bool :=
  decide (0 < r) && decide (r < n384) && decide (0 < s) && decide (s < n384) && decide (x < p384) && decide (y < p384)
    && mulP y y == (mulP x (mulP x x) + (p384 - 3) * x + b384) % p384
    && (let w := powN s (n384 - 2) 384 1
      let q : JPoint := (x, y, 1)
      match twinMul q (addP (g384.1, g384.2, 1) q) (digest * w % n384) (r * w % n384) 384 (1, 1, 0) with
      | (px, _, pz) => pz != 0 && (let z2 := mulP pz pz
        mulP (r % p384) z2 == px || (decide (r + n384 < p384) && mulP (r + n384) z2 == px)))

end Sys2Proof.Machine
end

