-- ==== Sys2Proof/Machine/ImgData.lean ====
section
/-! DEFINITION. A Slopol image as bytes (R64, R65): its header, section directory, identity, and the checks of steps 1 and 6. -/

namespace Sys2Proof.Machine

/-! ### The header (R64) -/


def Image.magic (i : Image) : Nat := leAt i.bytes 0 4
def Image.format (i : Image) : Nat := leAt i.bytes 4 2
def Image.stepping (i : Image) : Nat := leAt i.bytes 6 1
def Image.keySlot (i : Image) : Nat := leAt i.bytes 7 1
def Image.version (i : Image) : Nat := leAt i.bytes 8 4
def Image.rollback (i : Image) : Nat := leAt i.bytes 12 1
def Image.flags (i : Image) : Nat := leAt i.bytes 13 1
def Image.sectionCount (i : Image) : Nat := leAt i.bytes 14 2
def Image.totalLength (i : Image) : Nat := leAt i.bytes 16 4
def Image.plan (i : Image) : Nat := leAt i.bytes 20 2

/-- The SHA-384 digest of every byte that precedes the signature. -/
def Image.digest (i : Image) : List Byte := sha384 (i.bytes.take (i.bytes.length - 96))

/-- The image identity: the first four bytes of the digest. -/
def Image.identity (i : Image) : Nat := leAt i.digest 0 4

/-- Step 4 of R65: the signature, r and then s in 48 bytes each, verifies over the digest with a key. -/
def Image.signedBy (i : Image) (x y : Nat) : Bool :=
  ecdsaOk x y (beAt i.digest 0 48) (beAt i.bytes (i.bytes.length - 96) 48) (beAt i.bytes (i.bytes.length - 48) 48)

/-- A directory entry (R64), with its reserved word. -/
structure Section where
  type : Nat
  reserved : Nat
  offset : Nat
  length : Nat
  crc : Nat
  deriving DecidableEq, Repr

/-- The section directory. -/
def Image.sections (i : Image) : List Section :=
  (List.range i.sectionCount).map (fun k =>
    let b := 256 + 16 * k
    ⟨leAt i.bytes b 2, leAt i.bytes (b + 2) 2, leAt i.bytes (b + 4) 4, leAt i.bytes (b + 8) 4, leAt i.bytes (b + 12) 4⟩)

/-- The reserved fields of header and directory are 0. -/
def Image.reservedZero (i : Image) : Bool :=
  decide (i.flags < 4) && decide (i.plan < 8192) && leAt i.bytes 22 2 == 0 && leAt i.bytes 64 192 == 0
    && i.sections.all (fun x => x.reserved == 0)

/-- Step 1: the header is right, and the image as long as it says. A SECTION_COUNT or a DOMAIN_PLAN outside what R64 allows fails here:
DESIGN CHOICE (log 84). -/
def Image.formOk (i : Image) : Bool :=
  i.readable && i.magic == 0x4C504C53 && i.format == 1 && decide (i.totalLength ≤ 16777216) && i.bytes.length == i.totalLength
    && decide (9 ≤ i.sectionCount) && decide (i.sectionCount ≤ 64) && decide (352 + 16 * i.sectionCount ≤ i.bytes.length)
    && i.plan.testBit 0 && i.reservedZero

/-- Does a section lie between the directory and the signature, and does its CRC-32C match? -/
def Image.sectionOk (i : Image) (x : Section) : Bool :=
  decide (256 + 16 * i.sectionCount ≤ x.offset) && decide (x.offset + x.length + 96 ≤ i.bytes.length)
    && crc32c 0xFFFFFFFF ((i.bytes.drop x.offset).take x.length) == x.crc

/-- Step 6: every required section once, no overlap, every CRC right. A section that does not lie where R64 has the sections fails here:
DESIGN CHOICE (log 84). -/
def Image.sectionsOk (i : Image) : Bool :=
  let l := i.sections
  let times (t : Nat) : Nat := (l.filter (fun x => x.type == t)).length
  ((List.range 9).all (fun t => times (t + 1) == 1)) && times 10 == (if i.flags.testBit 1 then 1 else 0)
    && l.all i.sectionOk
    && l.zipIdx.all (fun (x : Section × Nat) => l.zipIdx.all (fun (y : Section × Nat) =>
      x.2 == y.2 || decide (x.1.offset + x.1.length ≤ y.1.offset) || decide (y.1.offset + y.1.length ≤ x.1.offset)))

end Sys2Proof.Machine
end

