-- ==== Sys2Proof/Machine/Pair.lean ====
section
/-! DEFINITION. Mirrored pairs (13_mirrored_pair.md): the claim, the roles, the pair state, synchronisation, what crosses the
link, the pair's time, and the planned exchange. -/

namespace Sys2Proof.Machine

/-! ### Health and the claim (R304..R306) -/

/-- A domain of the plan that a regulator fault has switched off. -/
def State.faultedOff (s : State) (d : Nat) : Bool :=
  (s.f Fld.PWR_DOMAIN_PLAN_PLAN).testBit d && (s.f Fld.PWR_DOMAIN_FAULT_FAULT).testBit d && !s.domainOn d

/-- A condition that sets the score to 0. -/
def State.scoreZero (s : State) : Bool :=
  s.img.active.isNone || s.rst.ejectAt.isSome || s.flag Fld.GEN_HOTPLUG_READY || s.rst.surprise
    || [2, 6, 7, 8, 9, 10, 11, 12].any s.faultedOff || s.pwr.oscFault || s.pwr.oscLost

/-- Enabled ports that are down. -/
def State.downPorts (s : State) : Nat :=
  ((List.range 64).filter (fun n => s.provided n && s.flag (Fld.PRT_CFG_ENABLE n) && !s.portUp n)).length

/-- The penalties of R305: DPLL, warming, time class, ports, buffer, supply, thermal. -/
def State.penalties (s : State) : List Nat :=
  [if s.dpll = dpFreerun then 96 else if s.dpll = dpHoldover then 48 else if s.dpll = dpSwitching ∨ s.dpll = dpAcquiring then 16 else 0,
   if s.warming then 64 else 0,
   if s.ref.hadTime && s.tsel == noSlot then 32 else 0,
   min 64 (2 * s.downPorts),
   if 4096 < s.retiredCells then 32 else 0,
   if s.supplyWarn then 128 else 0,
   if s.f Fld.PWR_STATUS_GOV_STEP = 3 then 32 else 0]

/-- The raw score. -/
def State.rawScore (s : State) : Nat := if s.scoreZero then 0 else 255 - s.penalties.sum

/-- MIR_HEALTH.CAUSES. -/
def State.healthCauses (s : State) : Nat :=
  ((List.range 7).map (fun i => if s.penalties.getD i 0 = 0 then 0 else 2 ^ i)).sum + (if s.scoreZero then 128 else 0)

/-- The slot field. -/
def State.slotField (s : State) : Nat := if s.slotA then 1 else 0

/-- The claim of a published score. -/
def State.claimOf (s : State) (score : Nat) : Nat :=
  if score = 0 then s.slotField else s.f Fld.MIR_CFG_PREFERENCE * 4096 + score * 16 + s.slotField

def State.ownClaim (s : State) : Nat := s.f Fld.MIR_CLAIM_OWN
def State.partnerClaim (s : State) : Nat := s.f Fld.MIR_CLAIM_PARTNER

/-- CRC-4 of R310 over a claim. -/
def crc4 (claim : Nat) : Nat :=
  (bitsOf 16 claim).foldl (fun c b => let t := (c * 2) % 16; if (8 ≤ c) != b then t ^^^ 3 else t) 0

/-- The claim word that goes out for a claim. -/
def claimWordOf (claim : Nat) : Nat := 0xE * 2 ^ 20 + claim * 16 + crc4 claim

/-- The claim that a received word carries, if it is valid. -/
def claimIn (w : Nat) : Option Nat := if w < 2 ^ 24 ∧ claimWordOf (w / 16 % 65536) = w then some (w / 16 % 65536) else none

/-- A partner's claim as it is taken: one with this unit's own slot field reads 0xFFFF (R379). -/
def State.takenClaim (s : State) (claim : Nat) : Nat := if claim % 16 = s.slotField then 0xFFFF else claim

/-! ### Roles (R307, R308, R325, R326) -/

/-- The ports of a role change: single-homed ones. -/
def State.shPorts (s : State) : List Nat := (List.range 64).filter s.singleHomed

/-- Freeze the queues of the single-homed ports (R308). -/
def State.freezeSingle (s : State) : State :=
  s.shPorts.foldl (fun (s : State) p =>
    if s.portUp p then let s := s.freezePort p; s.setPort p { s.port p with holdSingle := true } else s) s

/-- Resume them. -/
def State.resumeSingle (s : State) : State := s.shPorts.foldl (fun (s : State) p => if s.portUp p then s.resumePort p else s) s

/-- Merge a shadow window into an instance's own (R326): the later RECOV_SEQ, the histories together. -/
def mergeWindow (h : Nat) (st : FrerState) (recov hist : Nat) : FrerState :=
  if st.takeAny then { st with takeAny := false, recovSeq := recov, history := hist % 2 ^ h }
  else
    let d := (recov + 65536 - st.recovSeq) % 65536
    if d < 32768 then { st with recovSeq := recov, history := (hist ||| st.history <<< d) % 2 ^ h }
    else { st with history := (st.history ||| hist <<< (65536 - d)) % 2 ^ h }

/-- Every recovery instance continues from the later of its own window and the shadow. -/
def State.mergeShadows (s : State) : State :=
  s.mir.shadow.foldl (fun (s : State) (e : Nat × Option (Nat × Nat)) =>
    match e.2, s.frerOf e.1 with
    | some (r, h), some (len, _, _, _, _) => s.frerMap e.1 (fun st => mergeWindow len st r h)
    | _, _ => s) s

/-- What taking roles brings with it. -/
def State.roleGains (s : State) (g : Nat) : State :=
  let s := if g &&& roleSingle = 0 then s else s.mergeShadows.resumeSingle
  let s := if g &&& roleLanes = 0 then s
    else (List.range 64).foldl (fun (s : State) p =>
      if (s.f Fld.MIR_CFG_LANE_SEL_GROUPS).testBit (groupOf p) && s.flag (Fld.PHS_CFG_ENABLE p) && s.portUp p then
        (if s.lanState p = lsUp then s.swapLeaveUp p else s).lanSeek p true else s) s
  if g &&& roleTime = 0 then s
  else match s.ref.timeHo, s.mir.partnerHoldover with
    | some _, some t =>
      let ticks := (s.now16 - t) * 10 / (16 * 65536)
      { s with ref := { s.ref with timeHo := some ((s.clk : Int) - ticks) } }
    | _, _ => s

/-- The partner was last heard so many µs ago; 0 when never. -/
def State.heardUs (s : State) : Nat := match s.mir.heardAt with | some t => min (s.usSince t) 0xFFFFFFFF | none => 0

/-- Event 84: roles are taken. -/
def State.takeRoles (s : State) (want cause : Nat) : State :=
  let g := want - (want &&& s.roles)
  if g = 0 then s
  else
    let s := s.setF Fld.MIR_STATUS_ROLES (s.roles ||| g)
    let s := { s with mir := { s.mir with takeTime := s.now16 } }
    let s := (s.bump Reg.MIR_TAKEOVER_CNT).raise 84 moduleScope
      [(24, 1, g), (25, 1, cause), (28, 4, s.heardUs), (32, 4, (s.reg Reg.TXN_EPOCH).toNat)]
    s.roleGains g

/-- Event 82: this unit's claim has become the higher. -/
def State.claimWon (s : State) (cause : Nat) : State :=
  let all := rolesOf s.pairConfig
  s.raise 82 moduleScope [(24, 2, s.ownClaim), (26, 2, s.partnerClaim), (28, 1, cause), (29, 1, all - (all &&& s.roles))]

/-- Event 83: roles among a mask are given up. -/
def State.giveRoles (s : State) (mask cause : Nat) : State :=
  let r := s.roles &&& mask
  if r = 0 then s
  else
    let s := s.setF Fld.MIR_STATUS_ROLES (s.roles - r)
    let s := s.raise 83 moduleScope [(24, 2, s.ownClaim), (26, 2, s.partnerClaim), (28, 1, cause), (29, 1, r)]
    if r &&& roleSingle = 0 then s else s.freezeSingle

/-- Does this unit's claim exceed the partner's? -/
def State.wins (s : State) : Bool := decide (s.partnerClaim < s.ownClaim)

/-- A wire of the claim logic changes level: 11 HOLD, 12 READY, 13 IN_SERVICE (R309). -/
def State.wire (s : State) (name : Nat) (old new : Bool) : State := if old = new then s else s.emit (.pin name (if new then 1 else 0))

/-- READY follows the comparison of the claims; its rise is event 82. -/
def State.readyStep (s : State) (cause : Nat) : State :=
  let r := s.wins
  let was := s.mir.ready
  let s := ({ s with mir := { s.mir with ready := r } }).wire 12 was r
  if r && !was then s.claimWon cause else s

/-- The drivers of a shared carrier (R311): those of LANE_SEL_OUT show the slot of the unit that drives them (R307). -/
def State.drive (s : State) (on : Bool) : State :=
  let was := s.mir.driving
  let s := ({ s.noteNets with mir := { s.mir with driving := on } }).wire 11 was on
  if on && !was then
    (([0, 1, 2, 3] : List Nat).filter s.laneSelDriving).foldl (fun (t : State) g => t.emit (.pin (16 + g) (if t.slotA then 1 else 0))) s
  else s

/-- Drivers and roles go with the claim wires of a shared carrier (R311, R379). -/
def State.wiredStep (s : State) (cause : Nat) : State :=
  let s := s.readyStep cause
  let readyIn := s.flag Fld.MIR_STATUS_READY_IN
  let holdIn := s.flag Fld.MIR_STATUS_HOLD_IN
  if s.mir.driving then
    if s.partnerClaim = 0xFFFF ∨ (s.wins = false ∧ readyIn = true) then (s.drive false).giveRoles 31 cause else s
  else if s.wins && !readyIn && !holdIn then (s.drive true).takeRoles 31 cause
  else s

/-- Roles of a split pair while the partner is heard (R317, R379): the lower claim releases, the higher takes what it sees
released. -/
def State.splitStep (s : State) (cause : Nat) : State :=
  if s.flag Fld.MIR_CFG_ENABLE = false then (s.readyStep cause).takeRoles 7 cause
  else if s.heard = false then s
  else
    let s := s.readyStep cause
    if s.wins then s.takeRoles (7 - (7 &&& s.f Fld.MIR_STATUS_PARTNER_ROLES)) cause else s.giveRoles 31 cause

/-- A module of CONFIG 0 holds the three roles that exist and reports no partner; its claim wires are low but for the claim (R303). -/
def State.unpaired (s : State) : State :=
  let was := s.mir.ready
  let s := ({ s with mir := { s.mir with ready := false } }).wire 12 was false
  let s := if s.mir.driving then s.drive false else s
  let s := (s.setF Fld.MIR_CLAIM_PARTNER 0).setF Fld.MIR_STATUS_PARTNER_ROLES 0
  let s := (s.setF Fld.MIR_STATUS_LANES_UP 0).setFlag Fld.MIR_STATUS_DUAL_ACTIVE false
  let s := (s.setFlag Fld.MIR_STATUS_READY_IN false).setFlag Fld.MIR_STATUS_HOLD_IN false
  s.setF Fld.MIR_STATUS_ROLES 7

/-- Do the claim wires decide the roles: in a shared carrier, and before an image has fixed the configuration (R354)? DEDUCED (log 155). -/
def State.wired (s : State) : Bool := s.img.active.isNone || s.pairConfig == 1

/-- The roles follow what decides them in the unit's configuration (R303). -/
def State.arbitrate (s : State) (cause : Nat) : State :=
  if s.wired then s.wiredStep cause
  else if s.pairConfig = 2 then s.splitStep cause
  else s.unpaired

/-- The cause of a role change that has no other: an exchange, an eject, or the claims. -/
def State.roleCause (s : State) : Nat :=
  if s.flag Fld.MIR_STATUS_EXCHANGING then 2 else if s.rst.ejectAt.isSome then 3 else 0

/-- The tick at which the claim word that is going out now began: one each 240 ns, 150 ticks (R310). -/
def State.wordStart (s : State) : Nat := s.clk - s.clk % 150

/-- The claim that the word in progress carries. -/
def State.claimSent (s : State) : Nat := if s.wordStart < s.mir.claimWas.2 then s.mir.claimWas.1 else s.ownClaim

/-- The level of CLAIM_OUT[0] (R310): word after word at 100 Mb/s, most significant bit first; words are counted from the cold start.
DEDUCED (log 152). -/
def State.claimBit (s : State) : Bool := (claimWordOf s.claimSent).testBit (23 - (s.clk % 150) * 16 / 100)

/-- The published claim is formed again; a new one is sent from the next word on. -/
def State.setClaim (s : State) : State :=
  let c := s.claimOf (s.f Fld.MIR_HEALTH_SCORE)
  let s := if c = s.ownClaim then s
    else
      let was := (s.claimSent, s.clk)
      (({ s with mir := { s.mir with claimWas := was } }).setF Fld.MIR_CLAIM_OWN c).emit (.claimWord (claimWordOf c))
  s.arbitrate s.roleCause

/-- Has the raw score held for HEALTH_HOLD_MS (R306)? One that has changed since it was last watched begins to hold now. -/
def State.rawHolds (s : State) : Bool :=
  let hold := s.f Fld.MIR_TIMER_HEALTH_HOLD_MS
  if s.rawScore = s.rawHeld.1 then s.passed s.rawHeld.2 hold Config.ticksPerMs else hold == 0

/-- The raw score is formed; it is published when it is 0 or has held for HEALTH_HOLD_MS (R306). -/
def State.healthCheck (s : State) : State :=
  let raw := s.rawScore
  let held := s.rawHolds
  let s := (s.setF Fld.MIR_HEALTH_RAW raw).setF Fld.MIR_HEALTH_CAUSES s.healthCauses
  if raw = s.f Fld.MIR_HEALTH_SCORE then s
  else if raw = 0 ∨ held = true then (s.setF Fld.MIR_HEALTH_SCORE raw).setClaim
  else s

/-! ### The pair state (R316) -/

/-- The identity of the active image, 0 for none. -/
def State.imageId (s : State) : Nat := match s.img.active with | some i => i.identity | none => 0

/-- The bits of an exchange that end with it. -/
def State.endExchange (s : State) (status : Nat) : State :=
  match s.mir.exch with
  | none => s
  | some x =>
    let s := ({ s with mir := { s.mir with exch := none } }).setFlag Fld.MIR_STATUS_EXCHANGING false
    match x.tag with
    | some tag => s.finish tag status 0 0
    | none => s

/-- Inserts that waited for the owner are placed by this unit alone once the pair is not in service (R322). -/
def State.ownRequests (s : State) : State :=
  let l := s.mir.requests
  l.foldl (fun (s : State) (q : Nat × Nat × List Byte) =>
    match parseInsert s.now16 q.2.1 q.2.2 with
    | .error r => s.malformed q.1 r 32
    | .ok p =>
      let r := s.insertEntry q.2.1 0 visBoth (replacedHandle q.2.1 q.2.2) p
      if r.status = stOk then (r.s.mark q.1).settle.finish q.1 stOk r.handle (if r.replaced then 1 else 0)
      else r.s.finish q.1 r.status 0 0) { s with mir := { s.mir with requests := [] } }

/-- Take a pair state. Leaving service ends what rests on it. -/
def State.setPairState (s : State) (st : Nat) : State :=
  let was := s.pairState
  let s := { s with mir := { s.mir with await := s.mir.await && (st == psSyncing || st == psInService) } }
  let s := (s.setF Fld.MIR_STATUS_PAIR_STATE st).wire 13 (was == psInService) (st == psInService)
  if was = psInService ∧ st ≠ psInService then
    let s := s.commitAlone.ownRequests
    if s.mir.exch.any (fun x => !x.moved) then s.endExchange stBusy else s
  else s

/-- An attempt at synchronisation begins. -/
def MirState.attempt (m : MirState) (fails clk : Nat) : MirState :=
  { m with
    syncFails := fails
    syncAt := clk
    items := []
    syncApply := none
    await := false }

/-- Enter SYNCING afresh: the partner is told the journal and, window by window, the recovery state. -/
def State.enterSync (s : State) : State :=
  let s := { s with mir := { s.mir.attempt 0 s.clk with frerShown := [] } }
  (s.setPairState psSyncing).tellJournal

/-- Event 80 and event 81 (R330). -/
def State.mirUp (s : State) (returned : Bool) : State :=
  s.raise 80 moduleScope [(24, 1, s.f Fld.MIR_STATUS_LANES_UP), (25, 1, if s.slotA then 0x42 else 0x41), (26, 2, s.partnerClaim),
    (28, 4, (s.reg Reg.MIR_PARTNER_IMG).toNat), (32, 1, if returned then 1 else 0)]
def State.mirDown (s : State) (cause : Nat) : State :=
  s.raise 81 moduleScope [(24, 1, cause), (25, 1, s.f Fld.MIR_STATUS_LANES_UP), (26, 2, s.partnerClaim),
    (28, 4, if s.mir.heardAt.isNone && s.mir.silentFrom != 0 then min (s.usSince s.mir.silentFrom) 0xFFFFFFFF else s.heardAge)]

/-- Event 87 of a cause other than doubt. -/
def State.diverge (s : State) (cause : Nat) : State :=
  (s.setPairState psDiverged).raise 87 moduleScope [(24, 1, cause), (28, 4, (s.reg Reg.MIR_PARTNER_IMG).toNat)]

/-! ### Synchronisation (R320) -/

/-- Every provided register with mirrored bits, as items. -/
def State.mirroredFields (s : State) : List MirItem :=
  (mapPRT ++ mapBUF ++ mapTBL ++ mapSCH ++ mapREF ++ mapTIC).flatMap (fun (r : RegRow) =>
    (List.range r.countN).flatMap (fun i => (List.range r.countK).filterMap (fun k =>
      let n := r.firstN + i
      let off := r.base + n * r.strideN + k * r.strideK
      let m := mirroredMask off
      if m = 0 ∨ s.regProvided r n k = false then none else some (MirItem.field off m (s.reg off &&& m)))))

/-- Every host table entry, as items. -/
def State.hostEntries (s : State) : List MirItem :=
  ([0, 4, 5, 6, 7, 8, 9, 10, 11] : List Nat).flatMap (fun t =>
    ((s.entries t).filter (fun q => q.entry.host && q.entry.vis.testBit s.parity && (t != 0 || q.entry.payload.isStatic))).map (fun q =>
      let h := q.entry.handle t
      let code := if t = 0 then 0x10 else codeOf t
      MirItem.entry code h (insertData code h q.entry.payload)))

/-- Must the owner send the state: while it is itself in SYNCING, or in service beside a partner that reports SYNCING 100 µs after it last
came into service (log 125)? -/
def State.syncWanted (s : State) : Bool :=
  s.holds roleOwner && s.mir.syncApply.isNone && !s.mir.await
    && (s.pairState == psSyncing || (s.inService && s.passed s.mir.syncedAt 100 Config.ticksPerUs))

/-- The owner sends the state, and SYNC_DONE with the apply instant and epoch. -/
def State.syncSend (s : State) : State :=
  if s.syncWanted then
    let epoch := max (s.reg Reg.TXN_EPOCH).toNat s.txn.partnerEpoch + 1
    let instant := s.now16 + us250
    let s := s.sendMir msgSyncData (itemWords (s.mirroredFields ++ s.hostEntries))
    let s := s.sendMir msgSyncDone [instant, epoch]
    { s with mir := { s.mir with syncApply := some (instant, epoch) } }
  else s

/-- Does the partner hold MGMT_OWNER, by its last CLAIM? -/
def State.partnerOwns (s : State) : Bool := s.f Fld.MIR_STATUS_PARTNER_ROLES &&& roleOwner != 0

/-- A message is a protocol break: discarded and counted (R380). -/
def State.badMessage (s : State) : State := s.bump Reg.MIR_MSG_BAD

/-- Does a unit take the state that its partner sends: in SYNCING, or in service beside an owner that synchronises again? -/
def State.takesState (s : State) : Bool := s.pairState == psSyncing || s.inService

/-- SYNC_DATA. -/
def State.syncData (s : State) (items : List MirItem) : State :=
  if s.partnerOwns = false then s.badMessage
  else if s.takesState then { s with mir := { s.mir with items := s.mir.items ++ items } }
  else s

/-- SYNC_DONE. -/
def State.syncDone (s : State) (instant epoch : Nat) : State :=
  if s.partnerOwns = false then s.badMessage
  else if s.takesState then
    { s with mir := { s.mir with syncApply := some (instant, epoch) }, txn := { s.txn with partnerEpoch := epoch - 1 } }
  else s

/-- A synchronisation attempt has failed: it is repeated, and after the third the pair is DIVERGED. -/
def State.syncFail (s : State) : State :=
  let n := s.mir.syncFails + 1
  let s := { s with mir := s.mir.attempt n s.clk }
  if n < 3 then s else (s.diverge 2).validate

/-- SYNC_TIMEOUT: 2 s without SYNC_DONE. -/
def State.syncTimeout (s : State) : State :=
  if s.pairState = psSyncing ∧ s.mir.syncApply.isNone = true ∧ s.passed s.mir.syncAt 2 Config.ticksPerS = true then s.syncFail else s

/-- The receiving unit takes the whole state: none when a placement finds no place. -/
def State.takeState (s : State) (epoch instant : Nat) : Option State :=
  let learned := [0, 1, 2, 3].foldl (fun (s : State) t => s.removeEntries t (fun e => e.payload.isLearned)) s
  let kept := match s.txn.commit with | some c => c.decided || c.recovered | none => false
  let s := if s.txn.open_.isSome && !kept then learned.rollback 1 stConflict 1 else learned
  let s := allTables.foldl (fun (s : State) t => s.removeEntries t (fun e => e.host && !(e.vis.testBit 2))) s
  let r := State.applyItems visBoth (s, true) s.mir.items
  if r.2 then some (((r.1.keepOld (fieldsOf s.mir.items)).applyRegs (fieldsOf s.mir.items)).setEpoch epoch instant) else none

/-- A recovered commit that the partner had applied completes from the synchronised state (R85). -/
def State.syncedCommit (s : State) (partnerEpoch : Nat) : State :=
  match s.txn.commit with
  | some c =>
    if c.recovered ∧ c.paired ∧ s.txnState = tsWait ∧ c.epoch ≤ partnerEpoch then
      let s := (((s.dropStaged allTables).setOpen none).setCommit none).setTxnState tsIdle |>.showAt 0
      (match c.tag with | some tag => s.finish tag stOk (s.reg Reg.TXN_EPOCH).toNat 0 | none => s)
    else s
  | none => s

/-- The doubt about a transaction is resolved. -/
def State.resolveDoubt (s : State) : State :=
  match s.txn.remote with
  | some r =>
    let s := { s with txn := { s.txn with remote := none } }
    if r.doubt then s.inDoubt r.id false else s
  | none => s

/-- The pair is in service. -/
def State.enterService (s : State) : State :=
  let s := { s with mir := { s.mir.attempt 0 s.mir.syncAt with syncedAt := s.clk } }
  ((s.bump Reg.MIR_SYNC_CNT).setPairState psInService).validate

/-- The owner has sent the state and takes its epoch; whether the partner could place it all, its next CLAIM tells (R320). -/
def State.ownerApplied (s : State) (instant epoch : Nat) : State :=
  let s := (if s.txn.remote.any (fun r => r.doubt) then s.resolveDoubt else s).setEpoch epoch instant
  { s with mir := { s.mir with syncApply := none, await := true, syncedAt := s.clk } }

/-- The partner's pair state as an owner that awaits it hears it: in service, or still SYNCING 100 µs after the apply instant, which is a
failed attempt. DEDUCED (log 125). -/
def State.awaited (s : State) (state : Nat) : State :=
  if s.mir.await = false then s
  else if state = psInService then s.enterService
  else if state = psSyncing ∧ s.passed s.mir.syncedAt 100 Config.ticksPerUs = true then s.syncFail
  else s

/-- SYNC_APPLY. -/
def State.syncApplyRow (s : State) : State :=
  match s.mir.syncApply with
  | none => s
  | some (instant, epoch) =>
    if s.takesState = false ∨ reached instant s.now16 = false then s
    else if s.holds roleOwner then s.ownerApplied instant epoch
    else match s.takeState epoch instant with
      | none => s.syncFail
      | some t => ((t.syncedCommit (epoch - 1)).resolveDoubt.settle).enterService

/-! ### CLAIM messages (R315..R319) -/

/-- Copies sent on single-homed ports with a stamp at or after a time. -/
def State.sentSingle (s : State) (since : Nat) : Nat :=
  (s.outbox.filter (fun o => match o with | .frame p _ stamp whole => s.singleHomed p && whole && decide (since ≤ stamp) | _ => false)).length

/-- A dual-active window opens (R318): event 85, and DUAL_ACTIVE until event 86. -/
def State.openDual (s : State) (both age take : Nat) : State :=
  let s := (s.bump Reg.MIR_DUAL_CNT).raise 85 moduleScope [(24, 1, both), (28, 4, age), (32, 12, time96 take)]
  ({ s with mir := { s.mir with dual := some (both, take) } }).setFlag Fld.MIR_STATUS_DUAL_ACTIVE true

/-- The yield of R318: events 83 and 86. It comes with this unit's next CLAIM, or the partner's. DESIGN CHOICE (log 54). -/
def State.yieldDual (s : State) : State :=
  match s.mir.dual with
  | none => s
  | some (both, take) =>
    let us := (s.now16 - take) / (65536 * 1000)
    let s := ({ s with mir := { s.mir with dual := none } }).setFlag Fld.MIR_STATUS_DUAL_ACTIVE false
    let sent := s.sentSingle take
    let s := s.giveRoles both 4
    let s := s.setReg Reg.MIR_DUAL_MAX_US (BitVec.ofNat 32 (max us (s.reg Reg.MIR_DUAL_MAX_US).toNat))
    s.raise 86 moduleScope [(24, 1, both), (28, 4, us), (32, 4, sent)]

/-- CLAIM_SEND. -/
def State.claimSend (s : State) : State :=
  let s := s.yieldDual
  if s.mirOn && s.passed s.mir.claimSent 20 Config.ticksPerUs then
    let s := { s with mir := { s.mir with claimSent := s.clk } }
    s.sendMir msgClaim [s.ownClaim, s.roles, s.pairState, min s.heardAge 65535, time96 s.mir.takeTime, s.imageId, (s.reg Reg.TXN_EPOCH).toNat]
  else s

/-- The pair state after a CLAIM, given the partner's HEARD_AGE and whether its identity differed at the one before. -/
def State.claimState (s : State) (age : Nat) (differed : Bool) : State :=
  let same := (s.reg Reg.MIR_PARTNER_IMG).toNat == s.imageId
  let s := { s with mir := { s.mir with imgDiffered := !same } }
  let st := s.pairState
  let s := if st = psAlone ∨ st = psLost then s.enterSync.mirUp false
    else if st = psInService ∧ 100 ≤ age then s.enterSync
    else if st = psDiverged ∧ same = true ∧ differed = true then s.enterSync
    else s
  if s.pairState = psSyncing ∧ same = false then (s.diverge 0).validate else s

/-- Is an exchange complete: the new holder's claim shows every role? -/
def State.exchangeCheck (s : State) : State :=
  match s.mir.exch with
  | some x =>
    let all := rolesOf s.pairConfig
    let shown := if x.holder then s.f Fld.MIR_STATUS_PARTNER_ROLES else s.roles
    if x.moved ∧ shown = all then (s.bump Reg.MIR_EXCH_CNT).endExchange stOk else s
  | none => s

/-- A CLAIM message that may be taken: claim, roles, pair state, HEARD_AGE, time of the last role taken, image identity and
epoch. -/
def State.claimMsg (s : State) (claim roles state age take image epoch : Nat) : State :=
  let s := s.yieldDual
  let wasHeard := s.heard
  let differed := s.mir.imgDiffered
  let s := { s with mir := { s.mir with heardAt := some s.clk, silentFrom := s.clk }, txn := { s.txn with partnerEpoch := epoch } }
  let s := (s.setReg Reg.MIR_PARTNER_IMG (BitVec.ofNat 32 image)).setF Fld.MIR_STATUS_PARTNER_ROLES roles
  let s := if s.pairConfig = 2 then s.setF Fld.MIR_CLAIM_PARTNER (s.takenClaim claim) else s
  let both := s.roles &&& roles
  let s := if s.pairConfig = 2 ∧ wasHeard = true ∧ 100 ≤ age ∧ both ≠ 0 then (s.openDual both age take).claimState age differed
    else (s.claimState age differed).arbitrate s.roleCause
  let s := s.awaited state
  let s := if state = psSyncing ∨ (state = psInService ∧ s.pairState = psSyncing) then s.syncSend else s
  s.exchangeCheck.settleDoubt

/-- PARTNER_SILENT: no valid CLAIM for 100 µs (R316, R317), with the link off as well. -/
def State.partnerSilent (s : State) : State :=
  if s.heard ∨ s.flag Fld.MIR_CFG_ENABLE = false ∨ s.pairConfig = 0 ∨ s.passed s.mir.silentFrom 100 Config.ticksPerUs = false then s
  else
    let s := s.yieldDual
    let st := s.pairState
    let had := st = psSyncing ∨ st = psInService ∨ st = psDiverged
    let s := if had then s.mirDown 0 else s
    let s := if s.pairConfig = 2 then s.setF Fld.MIR_CLAIM_PARTNER 0 else s
    let s := if had then (s.setPairState psLost).validate else s
    if s.pairConfig = 2 ∧ s.img.active.isSome = true then (({ s with mir := { s.mir with ready := true } }).takeRoles 7 1).exchangeCheck else s

/-- MIR_CFG.ENABLE becomes 1 (R314); lanes that are up begin to carry lantern sets (R232). -/
def State.mirEnable (s : State) : State :=
  let s := [0, 1].foldl (fun (s : State) i => if (s.f Fld.MIR_STATUS_LANES_UP).testBit i then s.lanMirUp i else s) s
  if s.domainOn 5 then s.startSession else { s with mir := { s.mir with silentFrom := s.clk } }

/-- MIR_CFG.ENABLE becomes 0 (R316, R303). -/
def State.mirDisable (s : State) : State :=
  let s := s.yieldDual
  let s := if s.pairState = psAlone then s else s.mirDown 2
  let s := { s with mir := { s.mir with heardAt := none, taken := none } }
  let s := if s.pairConfig = 2 then s.setF Fld.MIR_CLAIM_PARTNER 0 else s
  ((s.setPairState psAlone).validate).arbitrate 1

/-- MIR_LANE_CHANGE: an Emulug lane is lost or returns. -/
def State.laneChange (s : State) (lane : Nat) (up : Bool) : State :=
  let old := s.f Fld.MIR_STATUS_LANES_UP
  if 1 < lane ∨ s.mirOn = false ∨ old.testBit lane = up then s
  else
    let s := s.setF Fld.MIR_STATUS_LANES_UP (setBit old lane up)
    if up then (s.lanMirUp lane).mirUp (old != 0) else s.mirDown 1

/-! ### Claim wires (R310, R311) -/

/-- CLAIM_WORD_RECEIVE. -/
def State.claimWordIn (s : State) (w : Nat) : State :=
  if s.wired = false then s
  else match claimIn w with
    | none => s
    | some c =>
      let two := s.mir.word == some c && decide (s.clk < s.mir.wordAt + 300)
      let s := { s with mir := { s.mir with word := some c, wordAt := s.clk } }
      if two then (s.setF Fld.MIR_CLAIM_PARTNER (s.takenClaim c)).arbitrate s.roleCause else s

/-- CLAIM_WIRE_SILENCE: 480 ns, 300 ticks, without a valid word. -/
def State.wireSilence (s : State) : State :=
  if s.wired = true ∧ s.mir.wordAt + 300 ≤ s.clk then
    (({ s with mir := { s.mir with word := none } }).setF Fld.MIR_CLAIM_PARTNER 0).arbitrate 1
  else s

/-- CLAIM_WIRE_CHANGE: the levels of READY_IN and HOLD_IN, and where HOLD_IN has fallen those of the nets as the partner's drivers left
them. -/
def State.wireChange (s : State) (ready hold : Bool) (nets : Nat) : State :=
  let fell := s.rst.wires.testBit 1 && !hold
  let pins := (if ready then 1 else 0) + (if hold then 2 else 0)
  let s := { s with rst := { s.rst with wires := pins, nets := if fell then nets % 4096 else s.rst.nets } }
  if s.wired then
    ((s.setFlag Fld.MIR_STATUS_READY_IN ready).setFlag Fld.MIR_STATUS_HOLD_IN hold).arbitrate s.roleCause |>.exchangeCheck
  else s

/-- A unit whose health falls to 0 through a fault of PD2, or that loses power, releases its drivers at once (R311). -/
def State.dropDrivers (s : State) : State := if s.mir.driving then (s.drive false).giveRoles 31 0 else s

/-! ### Transactions of the partner (R84, R323) -/

/-- TXN_PREPARE: the vote; none in DIVERGED, where each unit commits alone (R316). -/
def State.prepareIn (s : State) (id tag epoch instant at96 : Nat) (items : List MirItem) : State :=
  let st := s.txnState
  if s.mirrors = false then s
  else if (st = tsPrepare ∨ st = tsWait ∨ st = tsApplying) ∧ s.partnerClaim < s.ownClaim then s.sendMir msgVote [id, 0]
  else
    let s := { s with txn := { s.txn with remote := some ⟨id, tag, epoch, instant, items, at96, false, false, false⟩ } }
    s.sendMir msgVote [id, 1]

/-- TXN_VOTE. -/
def State.voteIn (s : State) (id : Nat) (yes : Bool) : State :=
  if s.txnState = tsPrepare ∧ (s.txn.open_.map (·.id)) = some id then s.vote id yes else s.badMessage

/-- TXN_DECISION: COMMIT waits for the instant, or applies at once where it resolves a doubt; ABORT ends the transaction. -/
def State.decisionIn (s : State) (id : Nat) (yes : Bool) : State :=
  match s.txn.remote with
  | some r =>
    if r.id ≠ id then s.badMessage
    else if yes = false then s.resolveDoubt
    else if r.doubt then (s.applyRemote r).inDoubt r.id false
    else
      let s := { s with txn := { s.txn with remote := some { r with decided := true } } }
      if s.txnState = tsIdle then s.setTxnState tsWait else s
  | none => s.badMessage

/-- The state of a tag as the partner tells it. -/
def State.partnerTag (s : State) (tag : Nat) (x : Nat × Nat × Nat × Nat) : State :=
  { s with mir := { s.mir with partnerJournal := Store.set (fun _ => (0, 0, 0, 0)) s.mir.partnerJournal tag x } }

/-- JOURNAL_MARK: the partner's state of a tag. A mark of the tag of a transaction is its outcome where it is in doubt; its end without a
mark is one too (R84). -/
def State.journalIn (s : State) (tag st ring opcode cookie : Nat) : State :=
  let s := if s.mirrors then s.partnerTag tag (st, ring, opcode, cookie) else s
  match s.txn.remote with
  | some r =>
    if s.mirrors = false ∨ r.tag ≠ tag ∨ opcode ≠ 0x21 then s
    else if st = 2 then ({ s with txn := { s.txn with remote := some { r with marked := true } } }).settleDoubt
    else if st = 3 ∧ r.doubt = true ∧ r.marked = false then s.resolveDoubt
    else s
  | none => s

/-! ### CHANGE and HANDLE_REQ (R322, R380) -/

/-- May an item of a CHANGE be applied? -/
def State.itemOk (s : State) : MirItem → Bool
  | .field off m _ =>
    (match findReg off with
      | some (r, n, k) => s.regProvided r n k && (m &&& ~~~mirroredMask off == 0) && m &&& s.missingBits r n == 0
      | none => false)
  | .entry c _ _ => s.partnerOwns && (tableOf c).isSome
  | .gone c _ => s.partnerOwns && (tableOf c).isSome

/-- The insert that waits for an entry: the same table and key. -/
def State.waitingFor (s : State) (code : Nat) (d : List Byte) : Option (Nat × Nat × List Byte) :=
  match s.mir.requests.find? (fun q => q.2.1 == code && q.2.2 == d) with
  | some q => some q
  | none => none

/-- Does an entry replace one that stands already (RESULT_B bit 0, R39)? -/
def State.replaces (s : State) : MirItem → Bool
  | .entry c h d =>
    (match parseInsert s.now16 c d with
      | .ok p =>
        if c = 0x10 then [0, 1, 2, 3].any (fun t => (s.byKey t p).isSome)
        else if keyless c then (s.byHandle c h).isSome
        else (match tableOf c with | some t => (s.byKey t p).isSome | none => false)
      | .error _ => false)
  | _ => false

/-- An answer has come to an insert of this unit; `had`: it replaced an entry. -/
def State.answerRequest (s : State) (had : Bool) : MirItem → State
  | .entry c h d =>
    (match s.waitingFor c d with
      | some q => ({ s with mir := { s.mir with requests := s.mir.requests.erase q } }).finish q.1 stOk h (if had then 1 else 0)
      | none => s)
  | .gone c h =>
    if h = noHandle then
      match s.mir.requests.find? (fun q => q.2.1 == c) with
      | some q => ({ s with mir := { s.mir with requests := s.mir.requests.erase q } }).finish q.1 stFull 0 0
      | none => s
    else s
  | .field _ _ _ => s

/-- The marks of the inserts that a CHANGE answers. -/
def State.markRequest (s : State) : MirItem → State
  | .entry c _ d => (match s.waitingFor c d with | some q => s.mark q.1 | none => s)
  | _ => s

/-- CHANGE. -/
def State.changeIn (s : State) (item : MirItem) : State :=
  if s.itemOk item = false then s.badMessage
  else if s.mirroring = false then s
  else
    let had := s.replaces item
    let s := s.markRequest item
    let s := (State.applyItems visBoth (s, true) [item]).1
    (((s.dropOld (fieldsOf [item])).applyRegs (fieldsOf [item])).settle).answerRequest had item

/-- HANDLE_REQ: the owner places the entry and answers with CHANGE; one that finds no place is answered with a removal that
names no handle. One of four bytes names an entry that the partner's host has deleted: the owner takes it away and says so. DEDUCED
(log 52). -/
def State.handleReq (s : State) (code pick : Nat) (d : List Byte) : State :=
  if s.holds roleOwner = false ∨ s.mirroring = false then s
  else if d.length = 4 then
    if (tableOf code).isNone then s.badMessage else ((s.takeEntry visBoth code (leAt d 0 4)).settle).changeEntry 2 code (leAt d 0 4) []
  else match parseInsert s.now16 code d with
    | .error _ => s.badMessage
    | .ok p =>
      let r := s.insertEntry code pick visBoth (replacedHandle code d) p
      if r.status = stOk then (r.s.settle).changeEntry 1 code r.handle d else r.s.changeEntry 2 code noHandle []

/-! ### Time state, shadows and offset (R324..R326) -/

/-- The tick at which the present holdover began: that of the time class, else that of the frequency class. -/
def State.holdoverFrom (s : State) : Option Int :=
  match s.ref.timeHo with
  | some t => some t
  | none => if s.dpll = dpHoldover then s.ref.ho.map (fun h => (h.since : Int)) else none

/-- TIME_STATE as it is sent: DPLL, selections, holdover, warming, wick, holdover entry, host state block. -/
def State.timeStateBody (s : State) : List Nat :=
  [s.dpll, s.f Fld.REF_STATUS_FSEL, s.tsel, if s.holdoverFrom.isSome then 1 else 0, if s.warming then 1 else 0,
    (s.reg Reg.REF_WICK).toNat, match s.holdoverFrom with | some t => s.now16 - (s.clk - t).toNat * 16 * 65536 / 10 | none => 0]
  ++ (List.range 64).map (fun i => (s.reg (Reg.MIR_HOST_STATE i)).toNat)

/-- TIME_STATE_SEND. -/
def State.timeStateSend (s : State) : State :=
  if s.mirrors && s.passed s.mir.stateSent 10 Config.ticksPerMs then
    ({ s with mir := { s.mir with stateSent := s.clk } }).sendMir msgTimeState s.timeStateBody
  else s

/-- TIME_STATE: shown in MIR_PTIME, the host state in MIR_PARTNER_HOST_STATE. -/
def State.timeStateIn (s : State) (dpll fsel tsel ho warm wick entry : Nat) (host : List Nat) : State :=
  if s.mirrors = false then s
  else
  let s := (s.setF Fld.MIR_PTIME_STATE_DPLL_STATE dpll).setF Fld.MIR_PTIME_STATE_FSEL fsel
  let s := (s.setF Fld.MIR_PTIME_STATE_TSEL tsel).setF Fld.MIR_PTIME_STATE_HOLDOVER ho
  let s := (s.setF Fld.MIR_PTIME_STATE_WARMING warm).setReg Reg.MIR_PTIME_WICK (BitVec.ofNat 32 wick)
  let s := s.setReg Reg.MIR_PTIME_HO (BitVec.ofNat 32 (if ho = 0 then 0 else (s.now16 - entry) / unitsPerS))
  let s := { s with mir := { s.mir with partnerHoldover := if ho = 0 then none else some entry } }
  (List.range 64).foldl (fun (s : State) i => s.setReg (Reg.MIR_PARTNER_HOST_STATE i) (BitVec.ofNat 32 (host.getD i 0))) s

/-- The recovery windows that have changed since they were last sent: instance, RECOV_SEQ, history. -/
def State.changedWindows (s : State) : List (Nat × Nat × Nat) :=
  (s.entries 5).filterMap (fun q => match q.entry.payload with
    | .frer _ _ _ _ st =>
      if st.takeAny = false ∧ Store.get (fun _ => none) s.mir.frerShown q.entry.index ≠ some (st.recovSeq, st.history) then
        some (q.entry.index, st.recovSeq, st.history)
      else none
    | _ => none)

/-- FRER_WINDOW_SEND. -/
def State.frerSend (s : State) : State :=
  if s.mirrors && s.passed s.mir.frerSent 10 Config.ticksPerUs then
    s.changedWindows.foldl (fun (s : State) (w : Nat × Nat × Nat) =>
      let s := s.sendMir msgFrer [w.1, w.2.1, w.2.2]
      { s with mir := { s.mir with frerShown := Store.set (fun _ => none) s.mir.frerShown w.1 (some w.2) } })
      { s with mir := { s.mir with frerSent := s.clk } }
  else s

/-- FRER_WINDOW: the shadow of an instance. -/
def State.frerIn (s : State) (i recov hist : Nat) : State :=
  if s.mirrors then { s with mir := { s.mir with shadow := Store.set (fun _ => none) s.mir.shadow i (some (recov % 65536, hist)) } } else s

/-- A following unit answers a VALID report with a slew, or with STEP_ADVISED (R324). -/
def State.follow (s : State) (theta : Int) : State :=
  if s.flag Fld.MIR_CFG_FOLLOW && !s.holds roleTime then
    if theta.natAbs < s.f Fld.MIR_TIME_CFG_STEP_ADV_US * 1000 * 65536 then
      let top : Int := 999 * 65536
      let a := max (-top) (min top (ratio (theta * s.f Fld.MIR_TIME_CFG_GAIN) 256))
      let s := (s.setFlag Fld.MIR_STATUS_STEP_ADVISED false).endSlew 3
      ({ s with time := { s.time with slew := some ⟨a, 625000, 0⟩ } }).setFlag Fld.TIM_STATUS_SLEW_ACTIVE true
    else s.setFlag Fld.MIR_STATUS_STEP_ADVISED true
  else s

/-- The Emulug lanes that report next, by the block that they report: blocks from before a step first, then the earliest. -/
def State.mirLanes (s : State) : List Nat :=
  let live := ([64, 65] : List Nat).filter (fun n => s.lineLive n)
  let old := live.filter (fun n => !(s.lant n).old.isEmpty)
  let l := if old.isEmpty then live else old
  l.filter (fun n => l.all (fun m => decide ((s.lanPick n).k ≤ (s.lanPick m).k)))

/-- Has every block of a report ended, with its peer summary come or 2 ms gone by? -/
def State.mirReady (s : State) (lanes : List Nat) : Bool :=
  !lanes.isEmpty && lanes.all (fun n =>
    let p := s.lanPick n
    p.ended && (p.late || (s.lanSum n p.k).isSome))

/-- MIR_OFFSET_REPORT (R228, R324): the reports of both lanes are averaged. -/
def State.offsetReport (s : State) : State :=
  let lanes := s.mirLanes
  if s.mirReady lanes = false then s
  else
    let k := (s.lanPick (lanes.headD 64)).k
    let rs := lanes.map (fun n => (s.lanPick n).report 4 (s.lanSum n k))
    let good := rs.filter (fun r => r.valid)
    let valid := !good.isEmpty
    let th := ratio (good.map (·.res.theta)).sum good.length
    let d := ratio (good.map (·.res.d)).sum good.length
    let s := lanes.foldl (fun (s : State) n => s.lanAdvance n) s
    let s := (s.setF Fld.MIR_OFFSET_SEQ_BLOCK (k % 2 ^ 16)).setFlag Fld.MIR_OFFSET_SEQ_VALID valid
    let s := s.setFlag Fld.MIR_OFFSET_SEQ_NEW true
    if valid then
      let s := (s.setPair48 Reg.MIR_OFFSET_LO Reg.MIR_OFFSET_HI th).setPair48 Reg.MIR_DELAY_LO Reg.MIR_DELAY_HI d
      s.follow th
    else s

/-! ### The planned exchange (R328) -/

/-- Does this unit hold every shared role? -/
def State.holdsAll (s : State) : Bool := s.roles == rolesOf s.pairConfig

/-- The preference that the new holder takes (R328). -/
def State.newPref (s : State) : Nat := max 1 (max (s.f Fld.MIR_CFG_PREFERENCE) (s.partnerClaim / 4096))

/-- An exchange runs on this unit. -/
def State.setExchange (s : State) (x : Exchange) : State :=
  ({ s with mir := { s.mir with exch := some x } }).setFlag Fld.MIR_STATUS_EXCHANGING true

/-- Begin an exchange on this unit: an EXCHANGE without an instant asks the holder for it, and from the holder tells the other unit of it
with the new preference. DESIGN CHOICE (log 150). -/
def State.beginExchange (s : State) (tag : Option Nat) : State :=
  let h := s.holdsAll
  (s.setExchange ⟨tag, h, s.clk, none, false, false⟩).sendMir msgExchange [0, if h then s.newPref else 0]

/-- CMD_PAIR_EXCHANGE. -/
def State.cmdExchange (s : State) (tag : Nat) : State :=
  match s.startable tag 0x50 with
  | none => s
  | some _ =>
    if s.inService = false ∨ s.partnerClaim / 16 % 256 = 0 ∨ s.mir.exch.isSome then s.finish tag stBusy 0 0
    else (s.begin tag).beginExchange (some tag)

/-- Are the queues of the single-homed ports empty? -/
def State.singleEmpty (s : State) : Bool := s.shPorts.all (fun p => (s.portQueued p).isEmpty && (s.port p).tx.isNone)

/-- EXCHANGE_DRAIN_DONE: the queues are empty, and EXCHANGE goes out with an instant 250 µs ahead. -/
def State.exchDrained (s : State) : State :=
  match s.mir.exch with
  | some x =>
    if x.holder ∧ x.apply = none ∧ s.singleEmpty = true then
      let top := s.newPref
      let instant := s.now16 + us250
      let s := { s with mir := { s.mir with exch := some { x with apply := some (instant, top - 1) } } }
      s.sendMir msgExchange [instant, top]
    else s
  | none => s

/-- EXCHANGE_DRAIN_TIMEOUT: the queues are not empty within EXCH_DRAIN_US; nothing changes. -/
def State.exchTimeout (s : State) : State :=
  match s.mir.exch with
  | some x =>
    if x.holder ∧ x.apply = none ∧ s.passed x.since (s.f Fld.MIR_TIMER_EXCH_DRAIN_US) Config.ticksPerUs = true then
      (s.tellEnd x).endExchange stBusy
    else s
  | none => s

/-- EXCHANGE from the partner. One without an instant asks the holder to begin, or tells of the exchange that the holder has begun, or ends
one that was told (log 150); another names the instant and this unit's preference. -/
def State.exchangeIn (s : State) (instant pref : Nat) : State :=
  let told (x : Exchange) : Bool := !x.holder && x.tag.isNone
  if s.inService = false ∨ s.mir.exch.any (·.holder) = true then s.sendMir msgExchangeAck [1]
  else if instant = 0 ∧ pref = 0 then
    if s.mir.exch.any told = true then s.endExchange stBusy
    else if s.holdsAll = true ∧ s.mir.exch.isNone = true then s.beginExchange none
    else s.sendMir msgExchangeAck [1]
  else
    let x : Exchange := s.mir.exch.getD ⟨none, false, s.clk, none, false, false⟩
    if instant = 0 then s.setExchange x
    else (s.setExchange { x with apply := some (instant, pref), acked := true }).sendMir msgExchangeAck [0]

/-- Has this unit an EXCHANGE outstanding that an acknowledgement of a kind answers (R380): acceptance, of the holder's instant; refusal, of
what the holder or the asking unit has sent? -/
def Exchange.outstanding (x : Exchange) (cause : Nat) : Bool :=
  if cause = 0 then x.holder && x.apply.isSome && !x.acked else x.holder || x.tag.isSome

/-- EXCHANGE_ACK: accepted (0), or the cause of refusal. -/
def State.exchangeAckIn (s : State) (cause : Nat) : State :=
  match s.mir.exch with
  | none => s.badMessage
  | some x =>
    if x.outstanding cause = false then s.badMessage
    else if cause = 0 then { s with mir := { s.mir with exch := some { x with acked := true } } }
    else s.endExchange stBusy

/-- EXCHANGE_APPLY: at the instant the preferences change and the claims move the roles. An exchange that the partner has not
accepted by then changes nothing. -/
def State.exchApply (s : State) : State :=
  match s.mir.exch with
  | some x =>
    match x.apply with
    | some (instant, pref) =>
      if x.moved ∨ reached instant s.now16 = false then s
      else if x.acked = false then s.endExchange stBusy
      else
        let s := match x.tag with | some tag => s.mark tag | none => s
        let s := { s with mir := { s.mir with exch := some { x with moved := true } } }
        ((s.setF Fld.MIR_CFG_PREFERENCE pref).setClaim).exchangeCheck
    | none => s
  | none => s

/-- A host write of PREFERENCE: before the apply instant it ends a running exchange, whose own change is not made (R328). -/
def State.prefWritten (s : State) : State :=
  let s := match s.mir.exch with
    | some x => if x.moved then s else (s.tellEnd x).endExchange stBusy
    | none => s
  s.setClaim

end Sys2Proof.Machine
end

