-- ==== Sys2Proof/Machine/ImgBase.lean ====
section
/-! DEFINITION. What images give the module (03_structure_and_transactions.md, R62..R66): verification, what flash holds,
register defaults, and the fields that the active image fixes. -/

namespace Sys2Proof.Machine

/-! ### What a write of the pair's and the supply's registers does beside changing them -/

/-- Ports become or cease to be single-homed: frozen while the role is not held, resumed otherwise (R307, R308). -/
def State.singleWritten (s : State) : State :=
  (List.range 64).foldl (fun (s : State) p =>
    if s.singleHomed p && !s.holds roleSingle && s.portUp p && !(s.port p).holdSingle then
      let s := s.freezePort p
      s.setPort p { s.port p with holdSingle := true }
    else if !s.singleHomed p && (s.port p).holdSingle then
      let s := s.setPort p { s.port p with holdSingle := false }
      if s.portUp p then s.resumePort p else s
    else s) s

/-- The effect of a write of the bits `hit` over an old word, on registers of the MIR and PWR blocks. -/
def State.pairEffect (s : State) (r : RegRow) (n : Nat) (old hit pulse : Word) : State :=
  let b := r.base
  if b = Reg.MIR_CFG then
    let was := Fld.MIR_CFG_ENABLE.of old != 0
    let on := s.flag Fld.MIR_CFG_ENABLE
    let s := if hit &&& Fld.MIR_CFG_PREFERENCE.mask = 0 then s else s.prefWritten
    if on && !was then s.mirEnable else if was && !on then s.mirDisable else s
  else if b = Reg.MIR_SH_PORTS_LO ∨ b = Reg.MIR_SH_PORTS_HI then s.singleWritten
  else if b = Reg.MIR_HOST_STATE 0 then (if n = 63 then s.sendMir msgTimeState s.timeStateBody else s)
  else if b = Reg.PWR_SUPPLY_CTRL then (if Fld.PWR_SUPPLY_CTRL_MIN_RESET.of pulse = 0 then s else s.setReg Reg.PWR_SUPPLY_MIN 0xFFFFFFFF)
  else s

/-! ### Verification (R65) -/

/-- The key of a slot. -/
def keyDefault (k : Nat) : KeySlot := if k = 0 then .active Config.vendorKey.1 Config.vendorKey.2 else .empty
def State.key (s : State) (k : Nat) : KeySlot := Store.get keyDefault s.img.keys k

/-- The SPEED code that an image gives a port. -/
def Image.speed (i : Image) (n : Nat) : Nat := Store.get (fun _ => 0) i.speeds n

/-- Is a domain on under the image's plan? A lane group without ports has its domain off, whatever its bit (R90). -/
def Image.planOn (i : Image) (d : Nat) : Bool :=
  i.plan.testBit d && (decide (d < 9) || (List.range 16).any (fun k => i.speed (16 * (d - 9) + k) != 0))

/-- The bonding rules of R89 for a port: its first lane, and the lanes it covers belong to no other port. -/
def Image.bonded (i : Image) (n : Nat) : Bool :=
  let w := lanesOf (i.speed n)
  decide (i.speed n ≤ 6) && (w == 0 || (n % w == 0 && (List.range (w - 1)).all (fun k => i.speed (n + 1 + k) == 0)))

/-- A partition fits the table memories (R139, R162, R171). -/
def Partition.fits (p : Partition) : Bool :=
  decide (10 ≤ p.macLog2) && decide (p.macLog2 ≤ 15) && decide (8 ≤ p.streamLog2) && decide (p.streamLog2 ≤ 12) && p.caps.length == 12 && p.stages.length == 6
    && (List.range 12).all (fun t => decide (p.caps.getD t 0 ≤
      ([131072, 131072, 131072, 131072, 16384, 8192, 131072, 32768, 8192, 4096, 16384, 4094] : List Nat).getD t 0))
    && p.stages.all (fun b => decide (b ≤ 8192))

/-- Step 7: the structure can be realised. -/
def Image.realisable (i : Image) : Bool :=
  i.speeds.all (fun e => decide (e.1 < 64)) && (List.range 64).all i.bonded
    && (List.range 64).all (fun n => i.speed n == 0 || i.plan.testBit (9 + groupOf n)) && i.partition.fits

/-- The first step of R65 that fails, as its reason code; `flashOk` is false when flash could not be read. A ROLLBACK_INDEX above 63
fails the step that reads it. DESIGN CHOICE (log 84). -/
def State.verify (s : State) (i : Image) (flashOk : Bool) : Option Nat :=
  if !flashOk then some 7
  else if !i.formOk then some 1
  else if i.stepping ≠ 0x42 then some 2
  else match (if i.keySlot ≤ 3 then s.key i.keySlot else .empty) with
    | .active x y =>
      if !i.signedBy x y then some 4
      else if i.rollback < s.img.rollback ∨ 63 < i.rollback then some 5
      else if !i.sectionsOk then some 6
      else if !i.realisable then some 8
      else none
    | _ => some 3

/-- Event 13: the identity is known once the signature has been computed, the version once the header has been read. -/
def State.rejected (s : State) (src reason : Nat) (i : Image) : State :=
  s.raise 13 moduleScope [(24, 1, src), (25, 1, reason), (28, 4, if reason ∈ [1, 7, 2, 3] then 0 else i.identity),
    (32, 4, if reason ∈ [1, 7] then 0 else i.version)]

/-! ### What flash holds, as the registers show it -/

/-- Show the state of the key slots, the rollback counter and the boot configuration. -/
def State.showFlash (s : State) : State :=
  let s := (s.setReg Reg.TXN_BOOT_CFG (BitVec.ofNat 32 s.img.bootCfg)).setF Fld.TXN_ANTIROLL_COUNTER s.img.rollback
  ([0, 1, 2, 3] : List Nat).foldl (fun (s : State) k => match s.key k with
    | .empty => s.setReg (Reg.TXN_KEY_STATE k) 0
    | .active x y => (s.setF (Fld.TXN_KEY_STATE_STATE k) 1).setF (Fld.TXN_KEY_STATE_FINGERPRINT k) (Config.fingerprint x y).toNat
    | .revoked => (s.setReg (Reg.TXN_KEY_STATE k) 0).setF (Fld.TXN_KEY_STATE_STATE k) 2) s

/-- Show a flash slot: state 0 invalid, 1 valid, 2 rejected, 3 writing. -/
def State.showSlot (s : State) (k st reason : Nat) (i : Image) : State :=
  let s := (s.setReg (Reg.TXN_IMG_SLOT_ID k) (BitVec.ofNat 32 i.identity)).setReg (Reg.TXN_IMG_SLOT_VER k) (BitVec.ofNat 32 i.version)
  let s := s.setF (Fld.TXN_IMG_SLOT_STATE_STATE k) st
  if st = 2 then s.setF (Fld.TXN_IMG_SLOT_STATE_REASON k) reason else s

/-! ### Register defaults (R62, R71) -/

/-- The default of a register under a list of defaults: its silicon value with the bits that the list gives. -/
def defaultWord : List (Nat × Word × Word) → Nat → Word
  | [], off => regReset off
  | (o, m, v) :: l, off => if o = off then (defaultWord l off &&& ~~~m) ||| (v &&& m) else defaultWord l off

/-- The fields that a default can set: those of RW and RWT take effect as if written, those of W1C are set. -/
def RegRow.defaultable (r : RegRow) : Word := accMask (fun a => a == .rw || a == .rwt || a == .w1c) r.fields

/-- Registers whose default has changed, with the fields concerned: from `old` to `new`. -/
def changedDefaults (old : Nat → Word) (new : List (Nat × Word × Word)) (offs : List Nat) : List (Nat × StagedReg) :=
  offs.filterMap (fun off => match findReg off with
    | none => none
    | some (r, _, _) =>
      let w := defaultWord new off
      let m := fieldCover ((old off ^^^ w) &&& r.defaultable) r.fields &&& r.defaultable
      if m = 0 then none else some (off, ⟨m, w⟩))

/-- Put words in force with the effects of a write, W1C fields included. -/
def State.applyDefaults (s : State) (l : List (Nat × StagedReg)) : State :=
  let old := s
  let s := s.applyRegs l
  l.foldl (fun (s : State) (x : Nat × StagedReg) => match findReg x.1 with
    | none => s
    | some (r, n, _) =>
      let c := accMask (· == .w1c) r.fields &&& x.2.mask
      let s := if c = 0 then s else s.setReg x.1 ((s.reg x.1 &&& ~~~c) ||| (x.2.value &&& c))
      s.pairEffect r n (old.reg x.1) x.2.mask 0) s

/-- The offsets that a list of defaults names, each once. -/
def offsetsOf (l : List (Nat × Word × Word)) : List Nat := distinct (l.map (·.1))

/-- The defaults of a domain that comes up cleared. -/
def State.domainDefaults (s : State) (d : Nat) : State :=
  let l := s.img.defaults
  s.applyDefaults (changedDefaults regReset l ((offsetsOf l).filter (fun o => regDomain o == d)))

/-! ### What the image fixes -/

/-- SPEED of the ports of a group, and which of them have 4 queues. -/
def State.fixGroup (s : State) (i : Image) (g : Nat) : State :=
  let ps := (List.range 16).map (16 * g + ·)
  let s := ps.foldl (fun (s : State) n => s.setF (Fld.PRT_CFG_SPEED n) (i.speed n)) s
  { s with img := { s.img with four := s.img.four.filter (fun n => groupOf n != g || n == 64) ++ ps.filter i.fourQueue.contains } }

/-- Fields outside the lane groups. Port 64's queues are pipeline 0's. -/
def State.fixModule (s : State) (i : Image) : State :=
  let s := (s.setF Fld.PWR_DOMAIN_PLAN_PLAN i.plan).setF Fld.MIR_CFG_CONFIG i.pairConfig
  let s := s.setF Fld.MIR_CFG_LANE_SEL_GROUPS i.laneSel
  let s := (List.range 8).foldl (fun (s : State) k => s.setF (Fld.REF_OUT_K_CFG_FUNCTION k) (Store.get (fun _ => 0) i.tout k)) s
  let s := (s.setF Fld.TBL_GEOM_MAC_BKT_LOG2 i.partition.macLog2).setF Fld.TBL_GEOM_STREAM_BKT_LOG2 i.partition.streamLog2
  (List.range 12).foldl (fun (s : State) t => s.setF (Fld.TBL_STAT_CAP_SLOTS t) (i.partition.caps.getD t 0)) s

/-- Port 64's queue count. -/
def State.fixCpu (s : State) (i : Image) : State :=
  { s with img := { s.img with four := s.img.four.filter (· != 64) ++ (if i.fourQueue.contains 64 then [64] else []) } }

end Sys2Proof.Machine
end

