-- ==== Sys2Proof/Machine/Domain.lean ====
section
/-! DEFINITION. Domains that are cleared and come up (R355, R356), and what a reset makes of the command journal (R46, R85,
R411). -/

namespace Sys2Proof.Machine

/-! ### Clearing -/

/-- Registers that a clearing leaves: PD0's until a cold start, and those that reload from flash. -/
def keptReg (off : Nat) : Bool := off == Reg.REF_AGING || off == Reg.REF_TEMPCO

/-- Counters of the HIF and EVT blocks that a function reset leaves (R30). -/
def keptByFunction (off : Nat) : Bool :=
  off == Reg.HIF_DMA_ERR_CNT || off == Reg.HIF_MALFORMED_CNT || off == Reg.HIF_SMP_LOST || off == Reg.EVT_SEQ || off == Reg.EVT_LOST
    || (decide (Reg.EVT_SRC_CNT 0 ≤ off) && decide (off < Reg.EVT_SRC_CNT 96))

/-- Registers that satisfy a test return to their silicon values, with what is held and latched of them. -/
def State.clearRegs (s : State) (p : Nat → Bool) : State :=
  { s with regs := Store.clear s.regs p, held := Store.clear s.held p, latched := Store.clear s.latched p }

/-- A transmission is lost with the buffer: nothing counts it. -/
def State.loseTx (s : State) (p : Nat) : State :=
  let pt := s.port p
  let s := match pt.tx with
    | some t => s.emit (.frame p ((t.data.drop t.sentBefore).take (s.sentNow p t)) t.stamp false)
    | none => s
  s.setPort p { pt with tx := none, cut := [] }

/-- The copies that were never launched and asked for a timestamp have their entries, DISCARDED, while the FIFOs stay (R214). -/
def State.discardStamps (s : State) : State :=
  if s.domainOn 2 = false then s
  else s.buf.frames.foldl (fun (s : State) f => f.copies.foldl (fun (s : State) c =>
    if (s.port c.port).tx.any (fun t => t.frame == f.id) then s else s.discardStamp f c.port) s) s

/-- Every frame in the buffer is lost (R111, R358); no per-port counter records it. -/
def State.dropFrames (s : State) : State :=
  let s := s.discardStamps
  let s := (s.ports.map (·.1)).foldl (fun (s : State) p => s.loseTx p) s
  { s with buf := { s.buf with frames := [], queues := [] } }

/-- The same while the buffer's memory stays: their cells are released, marked ones retired (R119). -/
def State.loseFrames (s : State) : State :=
  let s := s.dropFrames
  s.releaseCells ((s.buf.cells.map (·.1)).filter (fun c => !(s.cell c).retired))

/-- Drop what a store holds for the ports or lanes of a group. -/
def dropGroup {α : Type} (m : Store α) (g : Nat) : Store α := Store.clear m (fun n => groupOf n == g && decide (n < 64))

/-- What a lane domain holds: a port keeps the hold of its copies, which lie in the buffer. -/
def State.clearGroup (s : State) (g : Nat) : State :=
  let holds := s.ports.filterMap (fun (e : Nat × PortState) =>
    if groupOf e.1 = g ∧ e.1 < 64 ∧ e.2.hold.isSome then some (e.1, ({ hold := e.2.hold, holdSingle := e.2.holdSingle, holdMs := e.2.holdMs } : PortState)) else none)
  let s := { s with lanes := dropGroup s.lanes g, links := dropGroup s.links g, gates := dropGroup s.gates g }
  let s := { s with tbl := { s.tbl with tokens := s.tbl.tokens.filter (fun e => decide (64 ≤ e.1) || groupOf e.1 != g) } }
  { s with lan := dropGroup s.lan g, ports := Store.setAll (fun _ => {}) (dropGroup s.ports g) holds }

/-- Tasks of background work that live in a domain. -/
def taskDomain (t : Nat) : Nat := if t = 1 then 7 else if t = 4 ∨ t = 3 then 4 else 8

/-- What a domain holds beside its registers is lost (R356). With PD7 go the retirements too, as BUF_RETIRED clears: DESIGN CHOICE
(log 137). Module time that restarts at the epoch is a step to the lines that carry lantern sets: DEDUCED (log 141). -/
def State.clearUnit (s : State) (d : Nat) : State :=
  let live (u : BgUnit) : Bool := taskDomain u.task != d
  let s := { s with pwr := { s.pwr with due := s.pwr.due.filter live, started := s.pwr.started.filter live } }
  match d with
  | 2 =>
    let was := s.nowMs
    { s with time := {}, ref := { flashCv := s.ref.flashCv }, lanSec := 0, txn := { s.txn with appliedAt := 0 } }.lanStep was
  | 3 => { s with tin := [] }
  | 4 =>
    let h : HifState := { journal := s.hif.journal, doneQ := s.hif.doneQ, fetchSeq := s.hif.fetchSeq }
    let t : TxnState := { lastId := s.txn.lastId, open_ := s.txn.open_, commit := s.txn.commit, lastMark := s.txn.lastMark }
    { s with hif := h, evt := {}, img := { s.img with write := none }, txn := t }
  | 5 =>
    let m := s.mir
    let n : MirState := { session := m.session, word := m.word, wordAt := m.wordAt, claimWas := m.claimWas, driving := m.driving }
    let n := { n with silentFrom := m.silentFrom, imgDiffered := m.imgDiffered, exch := m.exch, requests := m.requests, dual := m.dual }
    { s with mir := { n with ready := m.ready, takeTime := m.takeTime }, lan := Store.clear s.lan (fun n => decide (64 ≤ n)) }
  | 6 => s.loseFrames
  | 7 => { s.dropFrames with buf := { elastic := s.buf.elastic } }
  | 8 => s.clearTables
  | 9 => s.clearGroup 0
  | 10 => s.clearGroup 1
  | 11 => s.clearGroup 2
  | 12 => s.clearGroup 3
  | _ => s

/-- The Emulug link goes with PD5: its lanes are down, and the partner is missed 100 µs after it was last heard (PARTNER_SILENT). -/
def State.linkGone (s : State) : State := s.setF Fld.MIR_STATUS_LANES_UP 0

/-- A domain is cleared: registers, what it holds, its calibration. A cleared PD4 leaves the running calibration to end without a
host's command. -/
def State.clearDomain (s : State) (d : Nat) : State :=
  let s := (if d = 2 then s.noteNets else s).calCleared d
  let s := if d = 5 then s.linkGone else s
  let s := (s.clearRegs (fun off => regDomain off == d && !keptReg off)).clearUnit d
  let s := if d = 4 then (s.showFlash.setReg Reg.TXN_RESTRUCT_DISCARD 0).showStaged else s
  { s with img := { s.img with fresh := s.img.fresh ||| 2 ^ d } }

/-- A domain switches on or off. -/
def State.setDomain (s : State) (d : Nat) (on : Bool) : State := s.setF Fld.PWR_DOMAIN_ON_ON (setBit (s.f Fld.PWR_DOMAIN_ON_ON) d on)

/-- A cleared domain goes off. -/
def State.domainOff (s : State) (d : Nat) : State := (s.clearDomain d).setDomain d false

/-- What the active image fixes is put into the registers again; a group that has not loaded its pipeline keeps what it has. -/
def State.fixAll (s : State) : State :=
  match s.img.active with
  | none => s
  | some i =>
    ([0, 1, 2, 3] : List Nat).foldl (fun (s : State) g =>
      match Store.get (fun _ => none) s.img.restr g with
      | some x => if x.loaded then s.fixGroup i g else s
      | none => s.fixGroup i g) ((s.fixModule i).fixCpu i)

/-- An output with a function starts it at the next second boundary of module time (R71). -/
def State.startOut (s : State) (k : Nat) : State :=
  if s.outFn k = 0 then s
  else (s.setOut k { start := some (nextAt 1 0 s.now16) }).setFlag (Fld.REF_OUT_STATUS_START_PENDING k) true

/-- The outputs of an image that comes to run, or of a time domain that comes up with one. DEDUCED (log 120). -/
def State.startOuts (s : State) : State := (List.range 8).foldl (fun (s : State) k => s.startOut k) s

/-- A domain that has been cleared comes up: fixed fields, the image's defaults, initial calibrations (R356). -/
def State.bringUp (s : State) (d : Nat) : State :=
  let s := s.setDomain d true
  let s := if d = 1 then
      let s := { s with pwr := { s.pwr with oscAt := s.clk, oscFault := false, heaterFault := false, oscLost := false } }
      s.setFlag Fld.PWR_OSC_WARM false
    else s
  let s := if d = 1 ∨ d = 2 then s.setFlag Fld.TIM_STATUS_WARMING (!s.flag Fld.PWR_OSC_WARM || s.pwr.oscFault) else s
  let s := if s.img.active.isSome then
      let s := s.fixAll.domainDefaults d
      let s := if d = 2 then s.startOuts else s
      { s with img := { s.img with fresh := s.img.fresh - (s.img.fresh &&& 2 ^ d) } }
    else s
  let s := (s.calCleared d).calInitial d
  let s := if d = 4 then ({ s with rst := { s.rst with upAt := s.clk } }).showFlash else s
  if d = 5 ∧ s.flag Fld.MIR_CFG_ENABLE = true then s.startSession else s

/-! ### The journal at a reset -/

/-- Journal entries in fetch order. -/
def State.byFetch (s : State) : List (Nat × JEntry) :=
  (s.hif.journal.filterMap (fun (p : Nat × Option JEntry) => p.2.map (fun e => (p.1, e)))).foldl
    (fun (a : List (Nat × JEntry)) x => a.filter (fun y => decide (y.2.seq < x.2.seq)) ++ [x] ++ a.filter (fun y => decide (x.2.seq ≤ y.2.seq))) []

/-- A commit that had not reached its mark leaves its transaction open with its staging. -/
def State.reopen (s : State) : State := ((s.noteDrain.setCommit none).setTxnState tsOpen).showAt 0

/-- What a command that is abandoned had begun ends without it. -/
def State.withdraw (s : State) (tag : Nat) (e : JEntry) : State :=
  let s := s.unhold tag
  match e.opcode with
  | 0x21 => (match s.txn.commit with
    | some c => if c.tag = some tag then s.reopen else s
    | none => s)
  | 0x30 => (match s.img.write with
    | some w => if w.tag ≠ tag then s else ({ s with img := { s.img with write := none, flash := Store.set (fun _ => none) s.img.flash w.slot none } }).setReg
        (Reg.TXN_IMG_SLOT_STATE w.slot) 0
    | none => s)
  | 0x40 =>
    let due := s.cal.due.filter (fun (x : Nat × Option CalDue) => match x.2 with | some d => d.tag != some tag | none => false)
    let mine := s.cal.runs.filterMap (fun (x : Nat × Option CalRun) => match x.2 with | some r => if r.tag = some tag then some (x.1, r) else none | none => none)
    let queue := s.cal.queue.map (fun (q : Nat × CalRun) => if q.2.tag = some tag then (q.1, { q.2 with tag := none }) else q)
    let lined := (s.cal.queue.filter (fun q => q.2.tag == some tag)).map (·.1)
    let s := mine.foldl (fun (s : State) (x : Nat × CalRun) => s.setCalRun x.1 (some { x.2 with tag := none })) { s with cal := { s.cal with due := due, queue := queue } }
    (mine.map (·.1) ++ lined).foldl (fun (s : State) j => s.abandon j) s
  | 0x42 => if s.time.step.any (fun p => p.tag == tag) then (s.setStep none).setFlag Fld.TIM_STATUS_STEP_PENDING false else s
  | 0x50 => (match s.mir.exch with
    | some x => if x.tag = some tag then ({ s.tellEnd x with mir := { s.mir with exch := none } }).setFlag Fld.MIR_STATUS_EXCHANGING false else s
    | none => s)
  | _ => { s with mir := { s.mir with requests := s.mir.requests.filter (fun q => q.1 != tag) } }

/-- Must a marked command go on after a reset: a commit that waits for its instant, a realignment, or a step, while the time domain
keeps what it acts on? -/
def goesOn (cleared : List Nat) (e : JEntry) : Bool :=
  e.opcode == 0x21 || ((e.opcode == 0x41 || e.opcode == 0x42) && !cleared.contains 2)

/-- One entry at a reset that clears some domains (R46, R411). -/
def State.journalEntry (cleared : List Nat) (s : State) (x : Nat × JEntry) : State :=
  let s := s.jmap x.1 (fun e => { e with recovered := true })
  match x.2.st with
  | .done => s
  | .received => (s.withdraw x.1 x.2).finish x.1 stAbandoned 0 0
  | .marked => if goesOn cleared x.2 then s else s.finish x.1 stOk 0 0

/-- The transaction at a reset: a marked commit waits on, recovered; with PD4 cleared anything else staged is discarded, to be
reported by event 89 (R85). -/
def State.txnReset (s : State) (cleared : List Nat) : State :=
  let afresh := cleared.contains 8
  match s.txn.open_, s.txn.commit with
  | some t, some c =>
    if s.txnState = tsWait then s.setCommit (some { c with recovered := true, placeAfresh := c.placeAfresh || afresh })
    else if cleared.contains 4 then
      let r : EvtRec := ⟨89, moduleScope, 0, 0, mkDetail [(24, 4, t.id), (28, 1, 5)]⟩
      { s.dropTxn with rst := { s.rst with kept := s.rst.kept ++ [r] } }
    else (if s.txnState = tsPrepare then s.sendMir msgDecision [t.id, 0] else s).reopen
  | some t, none =>
    if cleared.contains 4 then
      let r : EvtRec := ⟨89, moduleScope, 0, 0, mkDetail [(24, 4, t.id), (28, 1, 5)]⟩
      { s.dropTxn with rst := { s.rst with kept := s.rst.kept ++ [r] } }
    else s
  | none, _ => s

/-- The registers that show a commit which has survived a clearing of PD4, whose AT may have passed meanwhile (R85). -/
def State.showCommit (s : State) : State :=
  match s.txn.commit with
  | some c => ((s.showStaged.setTxnState tsWait).showAt c.at96).recheckRecovered
  | none => s

/-- The journal and the transaction at a reset. -/
def State.journalReset (s : State) (cleared : List Nat) : State :=
  let s := if cleared.contains 2 then { s with time := {} } else s
  let s := s.byFetch.foldl (State.journalEntry cleared) (s.txnReset cleared)
  let s := { s with hif := { s.hif with supplyHeld := [] } }
  if cleared.contains 2 then { s with ref := { s.ref with realign := [] }, time := { s.time with step := none } } else s

end Sys2Proof.Machine
end

