-- ==== Sys2Proof/Machine/Image.lean ====
section
/-! DEFINITION. Activating images (03_structure_and_transactions.md, R67..R73): key records and the rollback counter, the
effects on a running module, restructuring, loads by command and at start-up. -/

namespace Sys2Proof.Machine

/-! ### Keys and the rollback counter (R67, R68) -/

/-- Does a key record hold: no slot below or at the image's own, none twice, none revoked that it installs into? -/
def State.recordOk (s : State) (i : Image) : Bool :=
  let slots := i.keyRecord.map (·.1)
  i.keyRecord.all (fun r => decide (i.keySlot < r.1) && decide (r.1 ≤ 3) && !(r.2.isSome && s.key r.1 == .revoked))
    && (distinct slots).length == slots.length

/-- Carry out a record as a whole. -/
def State.runRecord (s : State) (i : Image) : State :=
  let put (m : Store KeySlot) (r : Nat × Option (Nat × Nat)) : Store KeySlot :=
    Store.set keyDefault m r.1 (match r.2 with | some k => .active k.1 k.2 | none => .revoked)
  { s with img := { s.img with keys := i.keyRecord.foldl put s.img.keys } }

/-- An image taken from flash: its record, with whether it was carried out and refused, and the counter. -/
def State.fromFlash (s : State) (i : Image) : State × Bool × Bool :=
  let has := i.flags.testBit 1
  let ok := has && s.recordOk i
  let s := if ok then s.runRecord i else s
  let s := if i.flags.testBit 0 && decide (s.img.rollback < i.rollback) then { s with img := { s.img with rollback := i.rollback } } else s
  (s.showFlash, ok, has && !ok)

/-! ### Restructuring (R71, R72) -/

/-- Does a group differ between two images in its ports, speeds, graph or queue counts? Port 64 is pipeline 0's. -/
def groupDiffers (a b : Image) (g : Nat) : Bool :=
  let ps := (List.range 16).map (16 * g + ·) ++ (if g = 0 then [64] else [])
  ps.any (fun n => a.speed n != b.speed n || a.fourQueue.contains n != b.fourQueue.contains n) || a.graphs.getD g 0 != b.graphs.getD g 0

def State.restr (s : State) (g : Nat) : Option Restructure := Store.get (fun _ => none) s.img.restr g
def State.setRestr (s : State) (g : Nat) (x : Option Restructure) : State :=
  { s with img := { s.img with restr := Store.set (fun _ => none) s.img.restr g x } }

/-- A group begins to be restructured; its pipeline loses the senders it has learned (R73). -/
def State.beginRestr (s : State) (g : Nat) : State :=
  let s := s.setRestr g (some ⟨s.clk, false, false⟩)
  let mine (j : Nat) : Bool := (calType j == 3 || calType j == 4) && calDomain j == 9 + g
  let again := ((s.cal.runs.map (·.1)) ++ (s.cal.due.map (·.1))).filter (fun j => mine j && calType j == 3)
  let s := s.abandonAll mine
  let s := { s with cal := { s.cal with again := s.cal.again ++ again.filter (fun j => !s.cal.again.contains j) } }
  let s := s.removeEntries g (fun e => e.payload.isLearned)
  s.setTable g { s.table g with learnQ := [] }

/-- RESTRUCTURE_QUEUE_DISCARD: 10 ms after activation, what is left is discarded and the transmitters squelched. -/
def State.restrDiscard (s : State) (g : Nat) : State :=
  match s.restr g with
  | some x =>
    if x.discarded = false ∧ s.passed x.since 10 Config.ticksPerMs = true then
      let ps := (List.range 16).map (16 * g + ·)
      let s := ps.foldl (fun (s : State) p =>
        let s := if s.portUp p then s.declareDown p 8 else s
        let s := (s.abortTx p).abortCuts p (s.port p).cut
        let s := s.exitAll p Reg.TXN_RESTRUCT_DISCARD (s.portQueued p)
        (s.setPort p { s.port p with hold := none, holdSingle := false, cut := [] }).receiverOff p) s
      (s.setRestr g (some { x with discarded := true })).flow
    else s
  | none => s

/-- RESTRUCTURE_PIPELINE_LOADED: graph and queue counts are loaded, and the lane domain follows the plan. What an ENABLE does to the lanes
it does to those that the ports now have: PRBS stops, and adaptation begins (R105). -/
def State.restrLoaded (s : State) (g : Nat) : State :=
  match s.restr g, s.img.active with
  | some x, some i =>
    if x.discarded = true ∧ x.loaded = false then
      let s := s.setRestr g (some { x with loaded := true })
      let d := 9 + g
      let plan := i.planOn d
      if s.domainOn d && !plan then s.domainOff d
      else if !s.domainOn d && plan && !(s.f Fld.GEN_DOMAIN_GIVEN_UP_DOMAINS).testBit d && !s.pwr.oscLost then (s.clearDomain d).bringUp d
      else
        let s := s.fixGroup i g
        let s := if g = 0 then s.fixCpu i else s
        ((List.range 16).map (16 * g + ·)).foldl (fun (s : State) n =>
          if s.speed n = 0 then s else if s.flag (Fld.PRT_CFG_ENABLE n) then (s.factoryDelays n).enableChanged n else s.factoryDelays n) s
    else s
  | _, _ => s

/-- RESTRUCTURE_LANES_READY: ports come up as soon as their peers are ready. -/
def State.restrReady (s : State) (g : Nat) : State :=
  match s.restr g with
  | some x =>
    if x.loaded then
      ((List.range 16).map (16 * g + ·)).foldl (fun (s : State) n => s.waitUp n) (s.setRestr g none)
    else s
  | none => s

/-! ### Functions of inputs and outputs (R71) -/

/-- An input whose function changes stops: an open measurement is cut, its MODE set to 0 and every setting in force as its registers say. Its
records stay numbered on and its bin table stays; a calibration run of an input that is powered down is abandoned. DESIGN CHOICE (log 85). -/
def State.tinChanged (s : State) (i fn : Nat) : State :=
  let s := s.ticCut i 8 s.now16
  let x := s.tic i
  let s := s.setTic i {
    missed := x.missed
    seq := x.seq
    bins := x.bins
    nextBins := x.nextBins
    tableAt := x.tableAt
    fifo := x.fifo }
  let s := s.setF (Fld.TIC_CFG_MODE i) 0
  if fn = 0 then s.abandon i else s

/-- An output whose function changes stops, and starts the new one aligned at the next second boundary. -/
def State.toutChanged (s : State) (k fn : Nat) : State :=
  let s := (s.setF (Fld.REF_OUT_K_CFG_FUNCTION k) fn).setOut k { newTrim := (s.out k).newTrim }
  let s := s.setPair48 (Reg.REF_OUT_MISALIGN_LO k) (Reg.REF_OUT_MISALIGN_HI k) 0
  ((s.setReg (Reg.REF_OUT_STATUS k) 0).dropRealign k).startOut k

/-- The functions that two images give differently. -/
def State.functions (s : State) (a b : Image) : State :=
  let fn (m : Store Nat) (k : Nat) : Nat := Store.get (fun _ => 0) m k
  let s := (List.range 16).foldl (fun (s : State) k => if fn a.tin k = fn b.tin k then s else s.tinChanged k (fn b.tin k)) s
  (List.range 8).foldl (fun (s : State) k => if fn a.tout k = fn b.tout k then s else s.toutChanged k (fn b.tout k)) s

/-! ### Activation -/

/-- An image that activation replaces the pair configuration of: the pair starts over. With the first image the configuration that it fixes
decides the roles from then on. -/
def State.configChanged (s : State) (was : Nat) (first : Bool) : State :=
  if s.pairConfig = was ∧ (first = false ∨ s.pairConfig = 1) then (if first then s.arbitrate 0 else s)
  else
    let s := ({ s with mir := { s.mir with heardAt := none, ready := false, dual := none } }).setPairState psAlone
    let s := (s.drive false).setF Fld.MIR_STATUS_ROLES 0
    let pin (i : Nat) : Bool := s.pairConfig == 1 && s.rst.wires.testBit i
    let s := (s.setFlag Fld.MIR_STATUS_READY_IN (pin 0)).setFlag Fld.MIR_STATUS_HOLD_IN (pin 1)
    let s := (s.setF Fld.MIR_CLAIM_PARTNER 0).setF Fld.MIR_STATUS_PARTNER_ROLES 0
    s.arbitrate 0

/-- New defaults: a register of a domain that has been cleared since takes them over its silicon value, any other where they differ
from those before. Domains that are off take theirs as they come up. -/
def State.newDefaults (s : State) (l : List (Nat × Word × Word)) : State :=
  let was := s.img.defaults
  let fresh := s.img.fresh
  let old (off : Nat) : Word := if fresh.testBit (regDomain off) then regReset off else defaultWord was off
  let offs := (offsetsOf (was ++ l)).filter (fun o => s.domainOn (regDomain o))
  let on := s.f Fld.PWR_DOMAIN_ON_ON
  let s := { s with img := { s.img with defaults := l, fresh := fresh - (fresh &&& on) } }
  let d := changedDefaults old l offs
  (s.keepOld d).applyDefaults d

/-- Events 14 and what shows the active image. `src` is 0 or 1 for a flash slot, 2 for the host. -/
def State.imageShown (s : State) (i : Image) (src groups epoch : Nat) (cleared key refused : Bool) : State :=
  let s := (s.setReg Reg.TXN_IMG_ACTIVE_ID (BitVec.ofNat 32 i.identity)).setReg Reg.TXN_IMG_ACTIVE_VER (BitVec.ofNat 32 i.version)
  let s := s.setF Fld.TXN_IMG_SRC_SRC (src + 1)
  s.raise 14 moduleScope [(24, 1, src), (25, 1, groups + (if cleared then 16 else 0) + (if key then 32 else 0) + (if refused then 64 else 0)),
    (28, 4, i.identity), (32, 4, i.version), (36, 4, epoch)]

/-- Does an activation leave the open transaction alone: a recovered commit, at start-up (R85)? R71 speaks of a running module. -/
def State.keepsTxn (s : State) (boot : Bool) : Bool :=
  (boot || s.img.active.isNone) && (match s.txn.commit with | some c => c.recovered | none => false)

/-- An image becomes active (R71); `boot`: it was read from flash at start-up. -/
def State.activate (s : State) (i : Image) (src : Nat) (boot : Bool) : State :=
  let s := if s.keepsTxn boot then s else match s.txn.open_ with
    | some t => (if s.txnState = tsPrepare then s.sendMir msgDecision [t.id, 0] else s).rollback 3 stConflict 3
    | none => s
  let s := s.noteNets
  let before := s.img.active
  let config := s.pairConfig
  let parts := match before with | some a => a.partition != i.partition | none => false
  let groups := match before with
    | some a => ([0, 1, 2, 3] : List Nat).filter (fun g => parts || groupDiffers a i g)
    | none => []
  let s := { s with img := { s.img with active := some i }, rst := { s.rst with controller := s.rst.controller || before.isSome } }
  let s := groups.foldl (fun (s : State) g => s.beginRestr g) s
  let s := if parts then s.emptyTables else s
  let s := match before with | some a => (s.functions a i).slotsChanged a | none => s
  let s := (s.fixAll.newDefaults i.defaults).configChanged config before.isNone
  let s := if before.isNone && s.domainOn 2 then s.startOuts else s
  let s := if src = 2 then (s, false, false) else s.fromFlash i
  let key := s.2.1
  let refused := s.2.2
  let s := s.1
  let epoch := ((s.reg Reg.TXN_EPOCH).toNat + 1) % 2 ^ 32
  let s := (s.setEpoch epoch s.now16).settle
  (s.imageShown i src (groups.map (2 ^ ·)).sum epoch parts key refused).healthCheck

/-- The first image after power-good: the domains of its plan follow (R352). STAGE names the work in hand (log 27). -/
def State.firstImage (s : State) (i : Image) (src : Nat) (boot : Bool) : State :=
  (s.activate i src boot).setF Fld.GEN_BOOT_STATUS_STAGE 3

/-- Activate, on a running module or for the first time. -/
def State.takeImage (s : State) (i : Image) (src : Nat) (boot : Bool) : State :=
  if s.img.active.isSome then s.activate i src boot else s.firstImage i src boot

/-! ### Loads (R70) -/

/-- CMD_IMAGE_LOAD: the image read from host memory. -/
def State.cmdImage (s : State) (tag : Nat) (i : Image) : State :=
  match s.startable tag 0x30 with
  | none => s
  | some e =>
    let len := e.op 16 4
    let target := e.op 20 1
    if s.heldTurn tag = false ∨ s.rst.controller = true then s
    else
      let s := s.unhold tag
      if len = 0 ∨ 16777216 < len then s.malformed tag 3 16
      else if 3 < target then s.malformed tag 3 20
      else if s.img.write.isSome then s.finish tag stBusy 0 0
      else match (if i.totalLength = len then s.verify i true else some 1) with
        | some why => (s.rejected 2 why i).malformed tag 7 0
        | none =>
          if target = 0 then s.finish tag stOk i.identity 0
          else if target = 3 then ((s.mark tag).takeImage i 2 false).finish tag stOk i.identity 0
          else if s.rst.ejectAt.isSome then s
          else
            let s := (s.begin tag).showSlot (target - 1) 3 0 i
            { s with img := { s.img with write := some ⟨tag, target - 1, i⟩ } }

/-- IMAGE_FLASH_WRITE_DONE: the slot holds the image, or a write, erase or read-back failed (operation of R369). -/
def State.flashWriteDone (s : State) (ok : Bool) (op addr retries : Nat) : State :=
  match s.img.write with
  | none => s
  | some w =>
    let put (x : Option Image) : State :=
      { s with img := { s.img with write := none, flash := Store.set (fun _ => none) s.img.flash w.slot x } }
    if ok then ((put (some w.image)).showSlot w.slot 1 0 w.image |>.mark w.tag).finish w.tag stOk w.image.identity 0
    else
      let s := (put none).setReg (Reg.TXN_IMG_SLOT_STATE w.slot) 0
      ((s.setReg (Reg.TXN_IMG_SLOT_ID w.slot) 0).setReg (Reg.TXN_IMG_SLOT_VER w.slot) 0 |>.flashError op w.slot addr retries).malformed w.tag 9 0

/-! ### Start-up (R69, R352) -/

/-- What a flash slot yields: its image, or the reason that it cannot be had. A failed read, at an address and after so many retries, is
event 12 as well (R369). -/
def State.readSlot (s : State) (k : Nat) (readOk : Bool) (at_ : Nat × Nat) : State × Option Image :=
  let s := if readOk then s else s.flashError 0 k at_.1 at_.2
  match Store.get (fun _ => none) s.img.flash k with
  | none => if readOk then (s.raise 13 moduleScope [(24, 1, k), (25, 1, 1)], none) else (s.raise 13 moduleScope [(24, 1, k), (25, 1, 7)], none)
  | some i =>
    match s.verify i readOk with
    | none => (s.showSlot k 1 0 i, some i)
    | some why => ((s.showSlot k 2 why i).rejected k why i, none)

/-- BOOT_IMAGE_LOAD: the preferred slot, then the other; whether each could be read, and where a read failed. It waits out a supply warning,
in which an image's key record and rollback index could not be written (R346). DEDUCED (log 156). -/
def State.bootLoad (s : State) (ok0 ok1 : Bool) (bad0 bad1 : Nat × Nat) : State :=
  let stage := s.f Fld.GEN_BOOT_STATUS_STAGE
  if s.domainOn 4 = false ∨ s.supplyWarn = true ∨ !((stage = 1 ∧ s.img.active.isNone = true) ∨ s.rst.reload = true) then s
  else
    let s := { s with rst := { s.rst with reload := false } }
    let p := s.img.bootCfg % 2
    let read (k : Nat) : Bool := if k = 0 then ok0 else ok1
    let place (k : Nat) : Nat × Nat := if k = 0 then bad0 else bad1
    match s.readSlot p (read p) (place p) with
    | (s, some i) => (s.takeImage i p true).setFlag Fld.GEN_BOOT_STATUS_FALLBACK_USED false
    | (s, none) =>
      if s.img.bootCfg.testBit 1 then
        match s.readSlot (1 - p) (read (1 - p)) (place (1 - p)) with
        | (s, some i) => (s.takeImage i (1 - p) true).setFlag Fld.GEN_BOOT_STATUS_FALLBACK_USED true
        | (s, none) => if s.img.active.isNone then s.setF Fld.GEN_BOOT_STATUS_STAGE 6 else s
      else if s.img.active.isNone then s.setF Fld.GEN_BOOT_STATUS_STAGE 6 else s

/-- START_UP_DOMAINS_ON: the other domains of the plan, with their defaults and empty tables. -/
def State.domainsOn (s : State) : State :=
  if s.f Fld.GEN_BOOT_STATUS_STAGE ≠ 3 ∨ s.pwr.oscLost = true then s
  else match s.img.active with
    | none => s
    | some i =>
      let s := ((List.range 13).filter (fun d => i.planOn d && !s.domainOn d && !(s.f Fld.GEN_DOMAIN_GIVEN_UP_DOMAINS).testBit d)).foldl
        (fun (s : State) d => (s.clearDomain d).bringUp d) s
      (s.setF Fld.GEN_BOOT_STATUS_STAGE 4).healthCheck

/-- START_UP_LANES_TRAINED. -/
def State.lanesTrained (s : State) : State :=
  if s.f Fld.GEN_BOOT_STATUS_STAGE = 4 then
    (List.range 64).foldl (fun (s : State) n => s.waitUp n) (s.setF Fld.GEN_BOOT_STATUS_STAGE 5)
  else s

end Sys2Proof.Machine
end

