-- ==== Sys2Proof/Machine/Reset.lean ====
section
/-! DEFINITION. Start-up, resets, removal and recovery (15_bring_up_and_hot_plug.md): power-good and its timeline, the reset
kinds of R355, thermal trips, domain faults and their restoration, the oscillator, hot plug, and the lamps. -/

namespace Sys2Proof.Machine

/-! ### Reports of a reset -/

/-- Records that PD0 has kept are generated once the event logic is up. -/
def State.giveKept (s : State) : State :=
  let l := s.rst.kept
  l.foldl (fun (s : State) (r : EvtRec) =>
    let s := if r.source = 89 then s.bump Reg.TXN_ROLLBACK_CNT else s
    s.raiseRec (if r.time = 0 then { r with flags := s.commonFlags, time := s.now16 } else r)) { s with rst := { s.rst with kept := [] } }

/-- The domains of a list as a mask. -/
def domainMask (l : List Nat) : Nat := (l.map (2 ^ ·)).sum

/-- GEN_RESET_CAUSE and GEN_RESET_CNT, and what event 15 is to carry: cause, domains, uptime, hottest sensor. -/
def State.noteReset (s : State) (cause : Nat) (cleared : List Nat) : State :=
  let up := if cause = 0 then 0 else min (s.sSince s.rst.upAt) 0xFFFFFFFF
  let r := (cause, domainMask cleared, up, if cause = 2 then s.hottest else 0, s.hif.doneQ.length)
  let s := (s.setF Fld.GEN_RESET_CAUSE_CAUSE cause).setF Fld.GEN_RESET_CAUSE_CLEARED (domainMask cleared)
  { (s.bump Reg.GEN_RESET_CNT) with rst := { s.rst with report := some r } }

/-- Event 15, if one is due. -/
def State.giveReport (s : State) : State :=
  match s.rst.report with
  | none => s
  | some (cause, cleared, up, hot, done) =>
    let s := { s with rst := { s.rst with report := none } }
    s.raise 15 moduleScope [(24, 1, cause), (26, 2, cleared), (28, 4, up), (32, 1, hot), (34, 2, done)]

/-! ### The timeline (R352) -/

/-- No removal, core reset or controller restart is in progress any longer. -/
def State.endRemoval (s : State) : State :=
  { s with rst := { s.rst with ejectAt := none, surprise := false, drained := none, closed := false, core := none, controller := false } }

/-- A domain that start-up turns on: not one that has been given up (R365). -/
def State.bringBack (s : State) (d : Nat) : State := if (s.f Fld.GEN_DOMAIN_GIVEN_UP_DOMAINS).testBit d then s else s.bringUp d

/-- t = 0 of the timeline: PD1, PD2 and PD4 come up, and event 15 is generated. A PD1 that is still on stays warm, and event 10
is raised again at once if it had been raised before (R355). -/
def State.startUp (s : State) : State :=
  let was1 := s.domainOn 1
  let warm := s.flag Fld.PWR_OSC_WARM
  let s := s.setF Fld.GEN_BOOT_STATUS_STAGE 1
  let s := s.setFlag Fld.GEN_BOOT_STATUS_FALLBACK_USED false
  let s := s.endRemoval
  let s := (s.setFlag Fld.GEN_HOTPLUG_EJECTING false).setFlag Fld.GEN_HOTPLUG_READY false
  let s := if was1 then s else s.bringBack 1
  let s := (s.bringBack 2).bringBack 4
  let s := if s.domainOn 4 then s.showCommit.giveReport.giveKept else s
  let s := if was1 && warm then
      s.raise 10 moduleScope [(28, 4, (s.reg Reg.PWR_OSC_WARM_S).toNat), (32, 2, s.f Fld.PWR_OSC_OVEN_MW), (34, 2, s.pwr.oscTemp)]
    else s
  (s.arbitrate 0).healthCheck


/-! ### Reset kinds (R355) -/

/-- Domains that are on among a list are cleared and go off; their power stays off. -/
def State.clearAll (s : State) (l : List Nat) (off : Bool) : State :=
  l.foldl (fun (s : State) d => if off then s.domainOff d else s.clearDomain d) s

/-- A reset that clears everything but PD0, or but PD0 and PD1, up to the point from which the timeline runs: drivers are released,
the journal settled, the domains switched off. -/
def State.fullReset (s : State) (cause : Nat) (cleared : List Nat) : State :=
  let temp := s.f (Fld.CAL_SENSOR_TEMP 7)
  let s := { s with pwr := { s.pwr with oscTemp := temp } }
  let s := s.dropDrivers.journalReset cleared
  let s := s.noteReset cause cleared
  let s := s.clearAll cleared true
  let s := { s with ports := [], img := { s.img with active := none, restr := [], four := [] } }
  let s := { s with evt := {}, pwr := { s.pwr with slow := [], restoreAt := [] } }
  let s := (s.setF Fld.GEN_BOOT_STATUS_STAGE 0).setFlag Fld.GEN_HOTPLUG_READY false
  let s := s.endRemoval
  let s := { s with rst := { s.rst with reload := false } }
  s.healthCheck

/-- SUPPLY_RESET: MAIN12 below 10.0 V; the timeline runs from the next power-good. -/
def State.supplyReset (s : State) (main : Nat) : State :=
  if 10000 ≤ main ∨ s.f Fld.GEN_BOOT_STATUS_STAGE = 0 then s
  else
    let s := s.readRails main (s.f Fld.PWR_SUPPLY_AUX3_MV)
    (s.fullReset 1 [1, 2, 3, 4, 5, 6, 7, 8, 9, 10, 11, 12])

/-- Every domain but PD0. -/
def allButAon : List Nat := [1, 2, 3, 4, 5, 6, 7, 8, 9, 10, 11, 12]

/-- POWER_GOOD: PD0 is up, both presence contacts low, MAIN12 above 11.3 V (R351). Nothing where the module already runs, but that one whose
contacts had gone high while its power stayed starts again, as after an eject cancelled. DESIGN CHOICE (log 157). `bad` are the instances
whose factory tables fail their check, as read from flash (R299). -/
def State.powerGood (s : State) (bad : List (Nat × Nat)) : State :=
  let pulled := s.f Fld.GEN_BOOT_STATUS_STAGE = 7 ∧ s.f Fld.GEN_HOTPLUG_PRES ≠ 3
  if (s.f Fld.GEN_BOOT_STATUS_STAGE ≠ 0 ∧ ¬pulled) ∨ s.pwr.tripped = true then s
  else
    let s := if pulled then s.fullReset 8 allButAon else s
    ({ s with cal := { s.cal with badTables := bad } }.setF Fld.GEN_HOTPLUG_PRES 3).startUp

/-- A module reset (R355, R357). -/
def State.moduleReset (s : State) : State := (s.fullReset 3 [2, 3, 4, 5, 6, 7, 8, 9, 10, 11, 12]).startUp

/-- The reset that a latch closed after event 9 causes (R363). -/
def State.cancelReset (s : State) : State := (s.fullReset 8 [1, 2, 3, 4, 5, 6, 7, 8, 9, 10, 11, 12]).startUp

/-- EJECT_CANCEL: the latch closes. After event 9 the module restarts; a latch closed in a removal before it takes effect at event 9
(R363). DEDUCED (log 128). -/
def State.ejectCancel (s : State) : State :=
  let s := s.setFlag Fld.GEN_HOTPLUG_EJECT_REQ false
  if s.flag Fld.GEN_HOTPLUG_READY then s.cancelReset
  else if s.rst.ejectAt.isSome then { s with rst := { s.rst with closed := true } }
  else s

/-- A domain that is on is cleared and stays on; one that is off stays off (R332, R365). -/
def State.restart (s : State) (d : Nat) : State := if s.domainOn d then (s.clearDomain d).bringUp d else s

/-- A core reset begins: every frame is lost, ports stay up (R358). -/
def State.coreReset (s : State) : State :=
  let s := s.journalReset [6, 7]
  let s := s.noteReset 4 [6, 7]
  let s := (s.restart 6).restart 7
  let s := { s with rst := { s.rst with core := some s.clk } }
  s.flow.giveReport

/-- CORE_RESET_END. -/
def State.coreResetEnd (s : State) : State :=
  match s.rst.core with
  | some _ => { s with rst := { s.rst with core := none } }
  | none => s

/-- The management controller alone restarts: cause 5 for the watchdog, 6 for the host (R27). -/
def State.controllerRestart (s : State) (cause : Nat) : State :=
  let s := (s.journalReset []).noteReset cause []
  ({ s with rst := { s.rst with controller := true } }).giveReport

/-- CONTROLLER_RESTART_END: background work resumes at the next tally. -/
def State.controllerBack (s : State) : State := { s with rst := { s.rst with controller := false } }

/-- COLD_START: AUX3 has been lost. Only what flash holds and the straps outlive it. -/
def State.coldStart (s : State) : State :=
  let img : ImgState := { flash := s.img.flash, keys := s.img.keys, rollback := s.img.rollback, bootCfg := s.img.bootCfg }
  let t := { State.reset with pending := s.pending, slotA := s.slotA, gradeEx := s.gradeEx, img := img, outbox := s.outbox }
  let t := { t with ref := { t.ref with flashCv := s.ref.flashCv }, rst := { t.rst with wires := s.rst.wires } }
  let t := (t.setReg Reg.REF_AGING (s.reg Reg.REF_AGING)).setReg Reg.REF_TEMPCO (s.reg Reg.REF_TEMPCO)
  (t.setF Fld.MIR_CLAIM_OWN t.slotField).emit (.claimWord (claimWordOf t.slotField))

/-! ### Thermal trip (R343) -/

/-- THERMAL_TRIP: a sensor has read 120 °C or more for 10 ms. -/
def State.thermalTrip (s : State) : State :=
  match s.pwr.tripSince with
  | some t =>
    if s.pwr.tripped = false ∧ s.passed t 10 Config.ticksPerMs = true ∧ s.f Fld.GEN_BOOT_STATUS_STAGE ≠ 0 then
      let s := (s.setFlag Fld.PWR_STATUS_TRIP_LAST true).fullReset 2 [1, 2, 3, 4, 5, 6, 7, 8, 9, 10, 11, 12]
      { s with pwr := { s.pwr with tripped := true } }
    else s
  | none => s

/-- THERMAL_TRIP_RESTART: every sensor reads below 95 °C; eleven readings in 1/16 °C (R340). -/
def State.tripRestart (s : State) (temps : List Nat) : State :=
  if s.pwr.tripped && temps.length == 11 && temps.all (fun t => decide (signed 16 (t % 65536) < 95 * 16)) then
    ({ s with pwr := { s.pwr with tripped := false, tripSince := none } }).startUp
  else s

/-! ### Domain faults (R333, R365, R366) -/

/-- Event 7 (R349). -/
def faultDetail (cause off mv ma : Nat) : List (Nat × Nat × Nat) := [(24, 1, cause), (25, 1, off), (28, 2, mv), (30, 2, ma)]

/-- A regulator fault switches a domain off. Faults within 600 s are counted; the third leaves the domain off. -/
def State.switchOff (s : State) (d cause mv ma : Nat) : State :=
  let s := s.setF Fld.PWR_DOMAIN_FAULT_FAULT (setBit (s.f Fld.PWR_DOMAIN_FAULT_FAULT) d true)
  let detail := faultDetail cause 1 mv ma
  let s := if d = 4 then
      let r : EvtRec := ⟨7, 4, s.commonFlags, s.now16, mkDetail detail⟩
      { s with rst := { s.rst with kept := s.rst.kept ++ [r] } }
    else s.raise 7 d detail
  let old := (Store.get (fun _ => []) s.pwr.faultsAt d).filter (fun t => !s.passed t 600 Config.ticksPerS)
  let s := { s with pwr := { s.pwr with faultsAt := Store.set (fun _ => []) s.pwr.faultsAt d (old ++ [s.clk]) } }
  let s := if 2 ≤ old.length then s.setF Fld.GEN_DOMAIN_GIVEN_UP_DOMAINS (setBit (s.f Fld.GEN_DOMAIN_GIVEN_UP_DOMAINS) d true)
    else
      { s with pwr := { s.pwr with restoreAt := Store.set (fun _ => none) s.pwr.restoreAt d (some (s.clk + Config.ticksPerS)) } }
  let s := if 9 ≤ d then ((List.range 16).map (16 * (d - 9) + ·)).foldl (fun (s : State) p =>
      if s.portUp p then (s.declareDown p 0).freezePort p else s) s else s
  let s := if d = 2 then s.dropDrivers else s
  let s := if d = 4 then s.journalReset [4] else s
  (if d = 7 then (s.domainOff d).flow else s.domainOff d).healthCheck

/-- DOMAIN_FAULT: causes 0 undervoltage, 1 overcurrent, 4 regulator overtemperature switch the domain off; 2 is a failed meter. A
fault of PD0 is a cold start (R365). -/
def State.domainFault (s : State) (d cause mv ma : Nat) : State :=
  if 12 < d ∨ s.domainOn d = false ∨ !(cause ∈ [0, 1, 2, 4]) then s
  else if cause = 2 then
    ({ s with pwr := { s.pwr with meterFail := setBit s.pwr.meterFail d true } }).raise 7 d (faultDetail 2 0 mv ma)
  else if d = 0 then s.coldStart
  else s.switchOff d cause mv ma

/-- A domain that a fault has switched off is restored: one of the plan, or without an image one that start-up turns on before it. -/
def State.restoreDomain (s : State) (d : Nat) : State :=
  let s := { s with pwr := { s.pwr with restoreAt := Store.set (fun _ => none) s.pwr.restoreAt d none } }
  let planned := match s.img.active with | some i => i.planOn d | none => [1, 2, 4].contains d
  if s.domainOn d || !planned || s.pwr.oscLost || s.f Fld.GEN_BOOT_STATUS_STAGE == 0 then s
  else
    let s := (s.clearDomain d).bringUp d
    let s := if d = 4 then
        let s := { s with rst := { s.rst with reload := true } }
        s.showCommit.giveReport.giveKept
      else s
    let st := s.pairState
    let s := if d = 8 ∧ (st = psSyncing ∨ st = psInService) then s.enterSync else s
    let s := if 9 ≤ d then ((List.range 16).map (16 * (d - 9) + ·)).foldl (fun (s : State) n => s.waitUp n) s else s
    s.healthCheck

/-- DOMAIN_RESTORE: 1 s after its fault, while AUTO_RESTORE is 1. -/
def State.domainRestore (s : State) (d : Nat) : State :=
  match Store.get (fun _ => none) s.pwr.restoreAt d with
  | some t => if t ≤ s.clk ∧ s.flag Fld.GEN_DOMAIN_CTRL_AUTO_RESTORE = true then s.restoreDomain d else s
  | none => s

/-- RESTORE written for a domain: it is given up no longer, and restored once more. -/
def State.restoreWritten (s : State) (d : Nat) : State :=
  let s := s.setF Fld.GEN_DOMAIN_GIVEN_UP_DOMAINS (setBit (s.f Fld.GEN_DOMAIN_GIVEN_UP_DOMAINS) d false)
  s.restoreDomain d

/-! ### The oscillator (R348, R367) -/

/-- OSC_WARM: the oven has held its set point for 30 s. -/
def State.oscWarm (s : State) (oven temp : Nat) : State :=
  if s.domainOn 1 && !s.flag Fld.PWR_OSC_WARM && !s.pwr.oscFault && !s.pwr.oscLost && s.passed s.pwr.oscAt 30 Config.ticksPerS then
    let sec := s.sSince s.pwr.oscAt
    let s := (s.setFlag Fld.PWR_OSC_WARM true).setReg Reg.PWR_OSC_WARM_S (BitVec.ofNat 32 sec)
    let s := (s.setF Fld.PWR_OSC_OVEN_MW (min 5000 oven)).setFlag Fld.TIM_STATUS_WARMING false
    s.raise 10 moduleScope [(28, 4, sec), (32, 2, min 5000 oven), (34, 2, temp)]
  else s

/-- The third case of R367: every clocked part stops, and every port goes down. -/
def State.oscGone (s : State) : State :=
  let s := { s with pwr := { s.pwr with oscLost := true } }
  let s := (List.range 64).foldl (fun (s : State) n => if s.speed n = 0 then s else s.portOff n) s
  (([1, 2, 3, 5, 6, 7, 8, 9, 10, 11, 12] : List Nat).filter s.domainOn).foldl (fun (s : State) d => s.domainOff d) s.dropDrivers

/-- OSC_FAULT: 0 set point not reached in 10 minutes, 1 heater fault, 2 output lost. -/
def State.oscFaulted (s : State) (cause oven temp : Nat) : State :=
  let late := s.passed s.pwr.oscAt 600 Config.ticksPerS && !s.flag Fld.PWR_OSC_WARM
  if s.domainOn 1 = false ∨ 2 < cause ∨ s.pwr.oscLost = true ∨ (cause = 1 ∧ s.pwr.heaterFault = true)
      ∨ (cause = 0 ∧ (late = false ∨ s.pwr.oscFault = true)) then s
  else
    let s := s.setF Fld.PWR_OSC_OVEN_MW (min 5000 oven)
    let s := s.raise 11 moduleScope [(24, 1, cause), (26, 2, min 5000 oven), (28, 2, temp)]
    (if cause = 2 then s.oscGone
      else ({ s with pwr := { s.pwr with oscFault := true, heaterFault := s.pwr.heaterFault || cause == 1 } }).setFlag Fld.TIM_STATUS_WARMING true).healthCheck

/-! ### Removal (R359..R363) -/

/-- Has a removal begun? -/
def State.removing (s : State) : Bool := s.rst.ejectAt.isSome

/-- DETAIL of event 8. -/
def State.ejectDetail (s : State) (src : Nat) : List (Nat × Nat × Nat) :=
  [(24, 1, src), (25, 1, s.pairState), (26, 1, s.roles), (27, 1, if s.inService && s.partnerClaim / 16 % 256 != 0 then 1 else 0)]

/-- Event 8 from the latch (0) or the host (2): health falls to 0 and the removal runs. -/
def State.ejectBegin (s : State) (src : Nat) : State :=
  if s.removing || s.f Fld.GEN_BOOT_STATUS_STAGE == 0 then s
  else
    let s := s.raise 8 moduleScope (s.ejectDetail src)
    let s := (s.setFlag Fld.GEN_HOTPLUG_EJECTING true).setF Fld.GEN_BOOT_STATUS_STAGE 7
    ({ s with rst := { s.rst with ejectAt := some s.clk } }).healthCheck

/-- EJECT_LATCH: EJECT_REQ asserted for 5 ms. -/
def State.ejectLatch (s : State) : State :=
  let s := s.setFlag Fld.GEN_HOTPLUG_EJECT_REQ true
  ({ s with rst := { s.rst with closed := false } }).ejectBegin 0

/-- Copies that wait on a port. -/
def State.waiting (s : State) (p : Nat) : Nat := (s.portQueued p).length

/-- Has every egress queue sent its last? -/
def State.allSent (s : State) : Bool :=
  (List.range 65).all (fun p => s.waiting p == 0 && (s.port p).tx.isNone && (s.port p).cut.isEmpty)

/-- The end of the drain, when the queues are empty or EJECT_DRAIN_MS has passed: copies still held are flushed, and every port is held
down as if disabled. -/
def State.drainEnd (s : State) (t : Nat) : State :=
  let empty := s.allSent
  let limit := s.passed t (s.f Fld.GEN_HOTPLUG_EJECT_DRAIN_MS) Config.ticksPerMs
  if s.rst.drained.isSome || !(empty || limit) then s
  else
    let left := ((List.range 65).map s.waiting).sum
    let s := (List.range 64).foldl (fun (s : State) p => if s.speed p = 0 then s else s.portOff p) s
    let s := if s.waiting 64 = 0 then s else s.flushPort 64 1
    { s with rst := { s.rst with drained := some (left, limit && !empty) } }

/-- Event 9, once the drain is over and no flash write runs. -/
def State.readyReport (s : State) (t : Nat) : State :=
  match s.rst.drained with
  | none => s
  | some (left, limit) =>
    if s.flag Fld.GEN_HOTPLUG_READY = true ∨ s.flashRunning = true then s
    else
      let s := s.raise 9 moduleScope [(24, 4, s.usSince t), (28, 4, left), (32, 2, s.tagsInFlight), (34, 1, if limit then 1 else 0)]
      let s := ((s.setFlag Fld.GEN_HOTPLUG_EJECTING false).setFlag Fld.GEN_HOTPLUG_READY true).healthCheck
      if s.rst.closed then s.cancelReset else s

/-- HOTPLUG_READY: the drain ends, and event 9 comes as soon as a flash write in progress has ended too: given again, where one was in
progress. -/
def State.hotplugReady (s : State) : State :=
  match s.rst.ejectAt with
  | none => s
  | some t => if s.rst.surprise = true then s else (s.drainEnd t).readyReport t

/-- SURPRISE_REMOVAL: a presence contact goes high without an earlier event 8; `pres` are the contacts still low. Event 8 is
recorded in PD0, for delivery if the module is reseated. PRES follows the contacts in any case (R370). -/
def State.surpriseRemoval (s : State) (pres : Nat) : State :=
  let s := s.setF Fld.GEN_HOTPLUG_PRES pres
  if s.removing || pres == 3 || s.f Fld.GEN_BOOT_STATUS_STAGE == 0 then s
  else
    let r : EvtRec := ⟨8, moduleScope, s.commonFlags, s.now16, mkDetail (s.ejectDetail 1)⟩
    let s := s.setF Fld.GEN_BOOT_STATUS_STAGE 7
    let s := { s with rst := { s.rst with surprise := true, ejectAt := some s.clk, kept := s.rst.kept ++ [r] } }
    let s := (List.range 64).foldl (fun (s : State) p =>
      if s.speed p = 0 then s else (((s.loseTx p).setFlag (Fld.PRT_LINK_STATUS_UP p) false).receiverOff p).lanLinkDown p) s
    s.dropDrivers.healthCheck

/-! ### Lamps (R364) -/

/-- Is the first half of a blink of `hz` in progress? -/
def State.blink (s : State) (hz : Nat) : Bool := s.clk % (Config.ticksPerS / hz) < Config.ticksPerS / hz / 2

/-- The level of a lamp. -/
def State.lamp (s : State) (k : Nat) : Bool :=
  match k with
  | 0 => s.flag Fld.GEN_HOTPLUG_READY || (s.removing && s.blink 2)
  | 1 =>
    let fault := s.f Fld.GEN_DOMAIN_GIVEN_UP_DOMAINS != 0 || s.pwr.oscFault || s.pwr.oscLost || (List.range 13).any s.faultedOff
    fault || (s.img.active.isNone && s.blink 2)
  | 2 =>
    if s.dpll = dpHoldover then s.blink 4 else if s.warming && s.domainOn 2 then s.blink 1 else s.dpll == dpLocked
  | 3 => if s.pairState = psSyncing then s.blink 1 else s.roles != 0
  | _ => false

/-- GEN_LAMP as it reads. -/
def State.lamps (s : State) : Nat := ((List.range 4).map (fun k => if s.lamp k then 2 ^ k else 0)).sum

end Sys2Proof.Machine
end

