-- ==== Sys2Proof/Machine/RegRead.lean ====
section
/-! DEFINITION. What a read of a register returns, and what it changes (17_register_map.md, R384..R388): registers whose
value follows from other state, the reads that latch, and the three reads with effects of their own. -/

namespace Sys2Proof.Machine

/-- A number as a word. -/
def w32 (v : Nat) : Word := BitVec.ofNat 32 v

/-- Low and high word of a signed 48-bit value. -/
def lo48 (v : Int) : Word := w32 (unsigned 48 v)
def hi48 (v : Int) : Word := w32 (unsigned 48 v / 2 ^ 32)

/-- Instances that are due (R302). -/
def State.dueCount (s : State) : Nat :=
  (calAll.filter (fun j => (s.calRun j).isNone && ((s.calDue j).isSome || s.cal.queue.any (fun q => q.1 == j)))).length

/-- Runs in progress. -/
def State.runCount (s : State) : Nat := (calAll.filter (fun j => (s.calRun j).isSome)).length

/-- GEN_ID (R4). -/
def State.idWord (s : State) : Word := w32 (0x6440 + (if s.gradeEx then 1 else 2) * 2 ^ 16 + 0x42 * 2 ^ 20)

/-- GEN_BOOT_STATUS.STAGE as it reads: 30 ms after power-good the clocks are up and the image is in hand (R352). DEDUCED (log 27). -/
def State.stageNow (s : State) : Nat :=
  let st := s.f Fld.GEN_BOOT_STATUS_STAGE
  if st = 1 ∧ s.passed s.rst.upAt 30 Config.ticksPerMs = true then 2 else st

/-- The registers of the blocks from GEN to TXN and of the frame path whose value follows from other state. -/
def State.derivedLow (s : State) (b n k off : Nat) : Word :=
  if b = Reg.GEN_ID then s.idWord
  else if b = Reg.GEN_UPTIME_S then w32 (min (s.sSince s.rst.upAt) 0xFFFFFFFF)
  else if b = Reg.GEN_LAMP then w32 s.lamps
  else if b = Reg.GEN_BOOT_STATUS then Fld.GEN_BOOT_STATUS_STAGE.into (s.reg off) s.stageNow
  else if b = Reg.PWR_STATUS then Fld.PWR_STATUS_THERM_WARN.into (s.reg off) (if s.atWarn then 1 else 0)
  else if b = Reg.PWR_TASK_CFG 0 then (if n = 3 then 0 else s.reg off)
  else if b = Reg.PWR_GOV_STEP3_MS then w32 s.step3Ms
  else if b = Reg.HIF_STATUS then
    w32 (s.tagsInFlight + (if s.cqHeld then 2 ^ 10 else 0) + (if s.replayPending then 2 ^ 11 else 0))
  else if b = Reg.TXN_OLDER_FRAMES then w32 s.olderFrames
  else if b = Reg.PRT_PFC_STATUS 0 then
    (Fld.PRT_PFC_STATUS_RX_PAUSED n).into (s.reg off) (prioSet (s.paused n))
  else if b = Reg.PRT_TS_RX_DELAY 0 then w32 (unsigned 32 (s.planeDelay n 0 + signed 24 (s.f (Fld.PRT_TS_TRIM_RX_TRIM n))))
  else if b = Reg.PRT_TS_TX_DELAY 0 then w32 (unsigned 32 (s.txDelay n))
  else if b = Reg.BUF_STATUS then Fld.BUF_STATUS_FREE_CELLS.into (s.reg off) s.freeCells
  else if b = Reg.BUF_SHARED then w32 s.sharedSize
  else if b = Reg.BUF_SHARED_USED then w32 s.sharedUsed
  else if b = Reg.BUF_RSV_TOTAL then w32 s.rsvTotal
  else if b = Reg.BUF_HEADROOM_TOTAL then w32 s.headroomTotal
  else if b = Reg.BUF_BANK_FREE 0 then w32 (s.bankFree n)
  else if b = Reg.BUF_QUEUE_OCC 0 then w32 (s.queueOcc n)
  else if b = Reg.TBL_STAT_OCC 0 then w32 (s.entries n).length
  else if b = Reg.TBL_STAT_STASH 0 then (Fld.TBL_STAT_STASH_USED n).into (s.reg off) (s.stashUsed n)
  else if b = Reg.TBL_LPM_STAGE 0 then w32 (s.stageUsed (n + 1) + (s.stageBlocks (n + 1) - s.stageUsed (n + 1)) * 2 ^ 16)
  else if b = Reg.SCH_DRR_DEFICIT 0 0 then w32 (deficitOf (s.port n).deficit k)
  else if b = Reg.SCH_GATE_STATUS 0 then
    (Fld.SCH_GATE_STATUS_OPER_IDX n).into ((Fld.SCH_GATE_STATUS_OPER_GATES n).into (s.reg off) (s.gatesNow n)) (s.gateIdx n)
  else if b = Reg.SCH_WIN 0 0 then w32 (s.window n k)
  else if b = Reg.SCH_GCL_ENTRY_LO 0 then w32 (s.gclEntry n).1
  else if b = Reg.SCH_GCL_ENTRY_HI 0 then w32 ((s.gclEntry n).2.1 + (s.gclEntry n).2.2 * 2 ^ 8)
  else if b = Reg.SCH_Q_FRAMES 0 0 then (if (s.queueNums n).contains k then w32 (s.queueLen (8 * n + k)) else 0)
  else s.reg off

/-- The same of the blocks TIM to MIR. -/
def State.derivedHigh (s : State) (b n off : Nat) : Word :=
  if b = Reg.TIM_SLEW_REMAIN_LO then (match s.time.slew with | some w => lo48 w.remain | none => 0)
  else if b = Reg.TIM_SLEW_REMAIN_HI then (match s.time.slew with | some w => hi48 w.remain | none => 0)
  else if b = Reg.TIM_STEP_OLDER_FRAMES then w32 s.olderGenFrames
  else if b = Reg.REF_SLOT_STATUS 0 then (Fld.REF_SLOT_STATUS_REMAIN_S n).into (s.reg off) (s.slotRemain n)
  else if b = Reg.REF_TSLOT_STATUS 0 then (Fld.REF_TSLOT_STATUS_REMAIN_S n).into (s.reg off) (s.slotRemain (16 + n))
  else if b = Reg.REF_OUT_STATUS 0 then (Fld.REF_OUT_STATUS_DRIVING n).into (s.reg off) (if s.driving n then 1 else 0)
  else if b = Reg.REF_OUT_MISALIGN_LO 0 then lo48 (s.outM n)
  else if b = Reg.REF_OUT_MISALIGN_HI 0 then hi48 (s.outM n)
  else if b = Reg.CAL_OUT_TRIM 0 then w32 (unsigned 16 (s.trimNow n))
  else if b = Reg.TIC_STATUS 0 then
    (Fld.TIC_STATUS_FIFO_LEVEL n).into ((Fld.TIC_STATUS_STATE n).into (s.reg off) (s.ticState n)) (s.ticFifo n)
  else if b = Reg.TIC_CAL_AGE 0 then w32 (s.sSince (if (s.tic n).bins.isSome then (s.tic n).tableAt else s.factorySince n))
  else if b = Reg.TIC_CAL_DATA 0 then w32 (s.binCentre n (s.f (Fld.TIC_CAL_IDX_BIN n)))
  else if b = Reg.TIC_MAX_BIN 0 then (if (s.tic n).bins.isSome then s.reg off else w32 (s.figureNow n (figWidest n) 3125).toNat)
  else if b = Reg.TIC_IN_DELAY 0 then w32 (s.factoryInDelay n).toNat
  else if b = Reg.CAL_STATUS then
    w32 (s.dueCount + s.runCount % 16 * 2 ^ 8 + (if s.supplyWarn && s.dueCount != 0 then 2 ^ 12 else 0))
  else if b = Reg.CAL_TYPE_CFG 0 then (if n = 6 then 0x100 else s.reg off)
  else if b = Reg.CAL_INST_STATUS 0 then
    (if s.calExists n then (Fld.CAL_INST_STATUS_STATE n).into ((Fld.CAL_INST_STATUS_LAST_TEMP n).into (s.reg off) (unsigned 16 (s.lastTemp n)))
      (s.calState n) else 0)
  else if b = Reg.CAL_INST_AGE 0 then
    (if s.calExists n then w32 (s.sSince (s.calSince n)) else 0)
  else if b = Reg.MIR_STATUS then Fld.MIR_STATUS_SLOT_A.into (s.reg off) (if s.slotA then 1 else 0)
  else if b = Reg.MIR_HEARD_AGE then w32 s.heardAge
  else if b = Reg.MIR_HEALTH then
    (if s.pairConfig = 0 then s.reg off else Fld.MIR_HEALTH_CAUSES.into (Fld.MIR_HEALTH_RAW.into (s.reg off) s.rawScore) s.healthCauses)
  else if b = Reg.MIR_PJ_STATE then
    let (st, ring, opcode, _) := Store.get (fun _ => (0, 0, 0, 0)) s.mir.partnerJournal (s.f Fld.MIR_PJ_IDX_TAG)
    w32 (st + ring * 4 + opcode * 2 ^ 16)
  else if b = Reg.MIR_PJ_COOKIE_LO then w32 (Store.get (fun _ => (0, 0, 0, 0)) s.mir.partnerJournal (s.f Fld.MIR_PJ_IDX_TAG)).2.2.2
  else if b = Reg.MIR_PJ_COOKIE_HI then w32 ((Store.get (fun _ => (0, 0, 0, 0)) s.mir.partnerJournal (s.f Fld.MIR_PJ_IDX_TAG)).2.2.2 / 2 ^ 32)
  else s.reg off

/-- What a register shows now (R63, R384, R385): 0 where its domain is off or its resource is not provided, and in fields of
another slot type or output function. -/
def State.shown (s : State) (r : RegRow) (n k off : Nat) : Word :=
  if s.domainOn (regDomain off) = false ∨ s.regProvided r n k = false then 0
  else (if r.base < 0x180000 then s.derivedLow r.base n k off else s.derivedHigh r.base n off) &&& ~~~s.missingBits r n

/-- Does the module update a register's value by itself, as one of several words (R387)? -/
def RegRow.latches (r : RegRow) : Bool := decide (1 < r.words) && r.fields.all (fun f => f.acc == .ro)

/-- Latch the words above a lowest word. -/
def State.latchWords (s : State) (r : RegRow) (off : Nat) : State :=
  (List.range (r.words - 1)).foldl (fun (t : State) i =>
    let o := off + 4 * (i + 1)
    match findReg o with
    | some (q, n, k) => { t with latched := Store.set (fun _ => none) t.latched o (some (s.shown q n k o)) }
    | none => t) s

/-- The report of the mirror offset is frozen as it stands (R229, R324). -/
def State.latchOffset (s : State) : State :=
  [Reg.MIR_OFFSET_LO, Reg.MIR_OFFSET_HI, Reg.MIR_DELAY_LO, Reg.MIR_DELAY_HI].foldl (fun (t : State) o =>
    { t with latched := Store.set (fun _ => none) t.latched o (some (s.reg o)) }) s

/-- A read of MIR_OFFSET_SEQ: the header, NEW cleared, the report frozen. -/
def State.readOffset (s : State) : Word × State :=
  (s.reg Reg.MIR_OFFSET_SEQ, (s.latchOffset).setFlag Fld.MIR_OFFSET_SEQ_NEW false)

/-- A read of a register: the word it returns and what it changes (R388). An unmapped offset reads 0. -/
def State.hostRead (s : State) (off : Nat) : Word × State :=
  match findReg off with
  | none => (0, s)
  | some (r, n, k) =>
    if s.domainOn (regDomain off) = false ∨ s.regProvided r n k = false then (0, s)
    else if r.base = Reg.TIM_TSF_W0 0 then s.readTsf n
    else if r.base = Reg.PHS_RPT_SEQ 0 then s.readReport n
    else if r.base = Reg.MIR_OFFSET_SEQ then s.readOffset
    else if r.base = Reg.MIR_PJ_COOKIE_LO ∨ r.base = Reg.MIR_PJ_COOKIE_HI then ((Store.get (fun _ => none) s.latched off).getD 0, s)
    else if r.latches = true ∧ r.word = 0 then (s.shown r n k off, s.latchWords r off)
    else ((Store.get (fun _ => none) s.latched off).getD (s.shown r n k off), s)

/-- A read made by MMIO, whose value goes to the host; none while the endpoint's domain is off. -/
def State.mmioRead (s : State) (off : Nat) : State :=
  if s.domainOn 4 = false then s else (s.hostRead off).2.emit (.read off (s.hostRead off).1)

/-- CMD_REG_READ (R39, R77): the committed value, or with STAGED_READ the staged value of staged fields. -/
def State.cmdRegRead (s : State) (tag : Nat) : State :=
  match s.startable tag 0x02 with
  | none => s
  | some e =>
    let off := e.op 16 4
    match findReg off with
    | none =>
      if e.stagedRead = true ∧ (match s.txn.open_ with | some t => t.id != e.txn | none => true) = true then s.finish tag stBusy 0 0
      else s.malformed tag 4 off
    | some _ =>
      let (w, r) := s.hostRead off
      if e.stagedRead then
        match s.txn.open_ with
        | none => s.finish tag stBusy 0 0
        | some t =>
          if t.id ≠ e.txn then s.finish tag stBusy 0 0
          else match Store.get (fun _ => none) t.regs off with
            | some x => r.finish tag stOk ((w &&& ~~~x.mask) ||| (x.value &&& x.mask)).toNat 0
            | none => r.finish tag stOk w.toNat 0
      else r.finish tag stOk w.toNat 0

end Sys2Proof.Machine
end

