-- ==== Sys2Proof/Machine/RegWrite.lean ====
section
/-! DEFINITION. A write of a register by the host (17_register_map.md, R372, R384..R389, R412): its checks, words held until their
highest word, the write with its effects, staging into a transaction, and CMD_REG_WRITE. -/

namespace Sys2Proof.Machine

/-- The bits that four byte enables select (R386). -/
def byteMask (be : Nat) : Word :=
  BitVec.ofNat 32 ((if be.testBit 0 then 0xFF else 0) + (if be.testBit 1 then 0xFF00 else 0)
    + (if be.testBit 2 then 0xFF0000 else 0) + (if be.testBit 3 then 0xFF000000 else 0))

/-- The first fault of a write's target: unmapped, nothing selected, a reserved bit set by a command (R10), its domain off, its
resource not provided, a bit of an absent field set, or nothing but absent fields selected (R42, R63, R385). Zeros for absent fields
beside others pass: DEDUCED (log 42). -/
def State.targetFault (s : State) (cmd : Bool) (off : Nat) (value mask : Word) : Option (Nat × Nat) :=
  match findReg off with
  | none => some (4, off)
  | some (r, n, k) =>
    if mask = 0 then some (3, 24)
    else if cmd = true ∧ value &&& mask &&& ~~~r.bits ≠ 0 then some (2, 0)
    else if s.domainOn (regDomain off) = false ∨ s.regProvided r n k = false then some (3, off)
    else if value &&& mask &&& s.missingBits r n ≠ 0 ∨ (mask &&& r.writable ≠ 0 ∧ mask &&& r.writable &&& ~~~s.missingBits r n = 0) then
      some (3, off)
    else none

/-- Bits that hardware fixes: AUTO_EN of calibration type 6 (R302). -/
def fixedBits (r : RegRow) (n : Nat) : Word :=
  if r.base = Reg.CAL_TYPE_CFG 0 ∧ n = 6 then (Fld.CAL_TYPE_CFG_AUTO_EN 6).mask else 0

/-- Is a write of a register ignored: one of the gate list window while it shows the operational list (R195)? -/
def State.ignored (s : State) (r : RegRow) (n : Nat) : Bool :=
  (r.base == Reg.SCH_GCL_ENTRY_LO 0 || r.base == Reg.SCH_GCL_ENTRY_HI 0) && s.flag (Fld.SCH_GCL_IDX_OPER n)

/-- The bits that a write of a register can act on. -/
def State.reach (s : State) (r : RegRow) (n : Nat) (mask : Word) : Word :=
  if s.ignored r n then 0 else mask &&& r.bits &&& ~~~s.missingBits r n &&& ~~~fixedBits r n

/-! ### Values of several words (R387) -/

/-- Is a write of this word held until the highest word is written? -/
def RegRow.waits (r : RegRow) : Bool := decide (r.word + 1 < r.words) && !r.fields.all (fun f => f.acc == .ro)

/-- The word held at an offset. -/
def State.heldWord (s : State) (off : Nat) : Option Word := Store.get (fun _ => none) s.held off
def State.setHeld (s : State) (off : Nat) (w : Option Word) : State :=
  { s with held := Store.set (fun _ => none) s.held off w }

/-- What a write puts in force: the register's bits and the words held below it. -/
def State.writeSet (s : State) (r : RegRow) (off : Nat) (value mask : Word) : List (Nat × StagedReg) :=
  (List.range r.word).filterMap (fun i =>
    (s.heldWord (off - 4 * (r.word - i))).map (fun w => (off - 4 * (r.word - i), (⟨0xFFFFFFFF, w⟩ : StagedReg)))) ++ [(off, ⟨mask, value⟩)]

/-! ### Checks of the values -/

/-- The word that a write proposes: W1S bits written count as set. -/
def RegRow.candidate (r : RegRow) (old value mask : Word) : Word := r.merge old value mask ||| (value &&& mask &&& r.w1s)

/-- Every word proposed keeps its ranges and its own relations. -/
def State.wordsOk (s : State) : List (Nat × StagedReg) → Bool
  | [] => true
  | (off, x) :: l =>
    (match findReg off with
    | none => true
    | some (r, n, _) =>
      let old := s.reg off
      let w := r.candidate old x.value x.mask
      fieldsOk w x.mask r.fields && s.ownRelation r n old w x.mask && !s.ringLocked r n old w) && s.wordsOk l

/-- The reason for which a set of words is refused. -/
def State.setFault (s : State) (l : List (Nat × StagedReg)) : Option Nat :=
  if s.wordsOk l = false then some 3
  else match (s.putWords l).regsFault s.now16 l with
    | some (why, _) => some why
    | none => none

/-- The fault of a host write outside a transaction, as reason and place; none: it is carried out. -/
def State.writeFault (s : State) (cmd : Bool) (off : Nat) (value mask : Word) : Option (Nat × Nat) :=
  match s.targetFault cmd off value mask with
  | some f => some f
  | none => match findReg off with
    | none => some (4, off)
    | some (r, n, _) =>
      if r.waits then (if s.ringLocked r n (s.reg off) (r.candidate (s.reg off) value (s.reach r n mask)) then some (3, off) else none)
      else match s.setFault (s.writeSet r off value (s.reach r n mask)) with
        | some why => some (why, off)
        | none => none

/-- A gate configuration change that is refused leaves event 31 behind (R185). -/
def State.refusedWrite (s : State) (off : Nat) (value mask : Word) (why : Nat) : State :=
  match findReg off with
  | some (r, n, k) =>
    if r.base = Reg.SCH_GATE_CTRL 0 ∧ (why = 3 ∨ why = 6) ∧ s.domainOn (regDomain off) = true ∧ s.regProvided r n k = true
        ∧ (Fld.SCH_GATE_CTRL_CONFIG_CHANGE n).of (value &&& mask) = 1 ∧ s.wordsOk [(off, ⟨s.reach r n mask, value⟩)] = true then
      s.lateEvent n 0 (s.snapshot n).base 0 (if why = 6 then 2 else 3)
    else s
  | none => s

/-! ### The write -/

/-- Effects that reach beyond the register's own unit: the pair and the supply, a reset request, a removal, a domain's
restoration (R357, R359, R365). -/
def State.farEffect (s : State) (r : RegRow) (n : Nat) (old hit pulse : Word) : State :=
  if r.base = Reg.GEN_RESET_CTRL then
    let s := s.setReg Reg.GEN_RESET_CTRL 0
    if pulse.getLsbD 0 then s.moduleReset
    else if pulse.getLsbD 1 then s.coreReset
    else if pulse.getLsbD 2 then s.controllerRestart 6
    else s
  else if r.base = Reg.GEN_HOTPLUG then (if Fld.GEN_HOTPLUG_EJECT.of pulse = 1 then s.ejectBegin 2 else s)
  else if r.base = Reg.GEN_DOMAIN_CTRL then
    (List.range 12).foldl (fun (t : State) i => if pulse.getLsbD (17 + i) then t.restoreWritten (i + 1) else t) s
  else s.pairEffect r n old hit pulse

/-- The far effects of words that have been written over those of an old state. -/
def State.farEffects (s old : State) : List (Nat × StagedReg) → State
  | [] => s
  | (off, x) :: l =>
    match findReg off with
    | none => s.farEffects old l
    | some (r, n, _) => (s.farEffect r n (old.reg off) x.mask (x.value &&& x.mask &&& r.w1s)).farEffects old l

/-- Carry the mirrored bits of a write to the partner (R322). -/
def State.carry (s : State) : List (Nat × StagedReg) → State
  | [] => s
  | (off, x) :: l =>
    let m := x.mask &&& mirroredMask off
    (if s.mirroring = true ∧ m ≠ 0 then s.sendMir msgChange (MirItem.field off m (x.value &&& m)).words else s).carry l

/-- Forget the held words of a set. -/
def State.dropHeld (s : State) (l : List (Nat × StagedReg)) : State :=
  l.foldl (fun (t : State) x => t.setHeld x.1 none) s

/-- A set of words is written by the host at one instant. -/
def State.writeWords (s : State) (l : List (Nat × StagedReg)) : State :=
  let s := ((s.dropHeld l).dropOld l).carry l
  ((s.applyRegs l).farEffects s l).rewrite

/-- A write that has passed its checks: held, or carried out. A conflict with the open transaction is found first (R78). -/
def State.writeDone (s : State) (off : Nat) (value mask : Word) : State :=
  match findReg off with
  | none => s
  | some (r, n, _) =>
    let m := s.reach r n mask
    let s := s.noteHostReg off mask
    if r.waits then
      let base := (s.heldWord off).getD (s.reg off)
      s.setHeld off (some ((base &&& ~~~m) ||| (value &&& m)))
    else s.writeWords (s.writeSet r off value m)

/-- A write by MMIO: one that fails leaves the register unchanged and is not otherwise reported (R372). The endpoint lies in PD4, so
none arrives while that is off. -/
def State.mmioWrite (s : State) (off : Nat) (value mask : Word) : State :=
  if s.domainOn 4 = false then s
  else
  let s := s.dueFirst
  match s.writeFault false off value mask with
  | some (why, _) => s.refusedWrite off value mask why
  | none => s.writeDone off value mask

/-- A write of selected bytes of a register that gives one of its fields a value. -/
def State.writeField (s : State) (f : FieldRef) (v : Nat) (value : Word) (be : Nat) : State :=
  s.mmioWrite f.off (f.into value v) (byteMask be ||| byteMask (2 ^ (f.lo / 8)))

/-! ### Staging (R75) -/

/-- What the open transaction holds of a register. -/
def State.stagedReg (s : State) (off : Nat) : StagedReg :=
  match s.txn.open_ with
  | none => ⟨0, 0⟩
  | some t => (Store.get (fun _ => none) t.regs off).getD ⟨0, 0⟩

/-- A staged word with a further write merged in. -/
def StagedReg.join (x : StagedReg) (value mask : Word) : StagedReg :=
  ⟨x.mask ||| mask, (x.value &&& ~~~mask) ||| (value &&& mask)⟩

/-- The fault of a staged write, as reason and place. -/
def State.stageFault (s : State) (off : Nat) (value mask : Word) : Option (Nat × Nat) :=
  match s.targetFault true off value mask, findReg off with
  | some f, _ => some f
  | none, none => some (4, off)
  | none, some (r, n, _) =>
    let x := (s.stagedReg off).join value (s.reach r n mask)
    let full := match s.txn.open_ with
      | some t => decide (4096 ≤ t.regs.length) && (Store.get (fun _ => none) t.regs off).isNone
      | none => true
    let w := r.candidate (s.reg off) x.value x.mask
    if mask &&& accMask (fun a => a != .rwt) r.fields ≠ 0 then some (3, off)
    else if fieldsOk w x.mask r.fields = false ∨ s.ownRelation r n (s.reg off) w x.mask = false then some (3, off)
    else if full then some (3, off)
    else none

/-- Stage a write into the open transaction. -/
def State.stageReg (s : State) (off : Nat) (value mask : Word) : State :=
  match s.txn.open_, findReg off with
  | some t, some (r, n, _) =>
    let x := (s.stagedReg off).join value (s.reach r n mask)
    s.setOpen (some { t with regs := Store.set (fun _ => none) t.regs off (some x) })
  | _, _ => s

/-- The end of a register write by command: a reset that it has asked for has completed it already (R411). -/
def State.finishMarked (s : State) (tag : Nat) : State :=
  match s.jget tag with
  | some e => if e.st = .marked then s.finish tag stOk 0 0 else s
  | none => s

/-- CMD_REG_WRITE (R39, R75, R412). -/
def State.cmdRegWrite (s : State) (tag : Nat) : State :=
  match s.startable tag 0x01 with
  | none => s
  | some e =>
    let off := e.op 16 4
    let value : Word := BitVec.ofNat 32 (e.op 20 4)
    let mask : Word := BitVec.ofNat 32 (e.op 24 4)
    if e.txn ≠ 0 then
      if s.canStage e.txn = false then s.finish tag stBusy 0 0
      else match s.stageFault off value mask with
        | some (why, place) => s.malformed tag why place
        | none => ((s.mark tag).stageReg off value mask).finish tag stOk 0 0
    else
      let s := s.dueFirst
      match s.writeFault true off value mask with
      | some (why, place) => (s.refusedWrite off value mask why).malformed tag why place
      | none => ((s.mark tag).writeDone off value mask).finishMarked tag

end Sys2Proof.Machine
end

