-- ==== Sys2Proof/Machine/Pcie.lean ====
section
/-! DEFINITION. The host's side of the module (02_host_interface.md, R30..R34, R50..R52; 18_physical.md, R406): the CPU port's
rings, DMA errors, the function reset, the PCI configuration bits, MSI-X unmasking and the identity record. -/

namespace Sys2Proof.Machine

/-! ### CPU-port transmit ring (R50) -/

/-- Bytes of a transmit descriptor. -/
def descField (d : BitVec 256) (b n : Nat) : Nat := (d.toNat >>> (8 * b)) % 2 ^ (8 * n)

/-- Is a descriptor one that R50 lays out: LENGTH in range, reserved bits 0? -/
def txDescOk (d : BitVec 256) : Bool :=
  decide (1 ≤ descField d 8 2) && decide (descField d 8 2 ≤ 10240) && decide (descField d 10 1 < 16) && descField d 13 1 == 0
    && descField d 24 8 == 0 && decide (descField d 11 1 < 8)

/-- MORE is set in all but the last descriptor. -/
def moreOk : List (BitVec 256) → Bool
  | [] => false
  | [d] => !(descField d 10 1).testBit 0
  | d :: l => (descField d 10 1).testBit 0 && moreOk l

/-- What becomes of a frame from the host: its STATUS. `access` is the pending accesses of the buffer's banks. -/
def State.cpuFrame (s : State) (d : BitVec 256) (data : List Byte) (access : List Nat) : Nat × State :=
  let flags := descField d 10 1
  let port := descField d 12 1
  if data.length < 64 ∨ 9216 < data.length ∨ (flags.testBit 1 = true ∧ 63 < port) then (2, s)
  else
    let s := s.bump (Reg.PRT_RX_FRAMES 64)
    if (Store.get (fun _ => none) s.img.restr 0).isSome then
      (1, (s.bump (Reg.PRT_RX_RESTRUCT_DROP 64)).bump Reg.TXN_RESTRUCT_RX_DROP)
    else
      let stamp := s.now16
      let tag := if flags.testBit 2 then some (descField d 16 2) else none
      let fl := (s.commonFlags % 8) * 2
      let s := s.sampleFrame 64 0 stamp data
      let r := if flags.testBit 1 then
          s.underEpoch stamp (State.admitFrame ⟨64, descField d 11 1, data, crc32c 0xFFFFFFFF data, stamp, s.epochOf stamp, false, tag, fl,
            [⟨port, {}, false, 0, 0, data.length⟩], access⟩)
        else s.forwardFrame 64 data stamp fl tag access
      (if r.1 then 0 else 1, r.2)

/-- CPU_TX_FRAME: a frame is read from the next descriptors, with the bytes found in their buffers, and the last descriptor is
written back. Vector 4 counts the write-back, one for the frame: DEDUCED (log 131). -/
def State.cpuTxFrame (s : State) (descs : List (BitVec 256)) (data : List Byte) (access : List Nat) : State :=
  let size := ringSize (s.f Fld.HIF_CPU_TX_CFG_SIZE_LOG2)
  let head := s.f Fld.HIF_CPU_TX_HEAD_HEAD
  let posted := (s.f Fld.HIF_CPU_TX_TAIL_TAIL + size - head) % size
  match descs with
  | [] => s
  | d :: _ =>
    if s.dmaOk && s.flag Fld.HIF_CPU_TX_CFG_ENABLE && !s.noDelivery && moreOk descs && decide (descs.length ≤ posted)
        && data.length == (descs.map (fun x => descField x 8 2)).sum then
      let r := if descs.all txDescOk then s.cpuFrame d data access else (2, s)
      let s := r.2.setF Fld.HIF_CPU_TX_HEAD_HEAD ((head + descs.length) % size)
      (s.emit (.txDone ((head + descs.length - 1) % size) r.1)).signal 4
    else s

/-! ### CPU-port receive ring (R51, R52) -/

/-- Bytes of a receive buffer. -/
def State.rxBuf (s : State) : Nat :=
  if s.f Fld.HIF_CPU_RX_CFG_BUF_SIZE = 0 then 2048 else if s.f Fld.HIF_CPU_RX_CFG_BUF_SIZE = 1 then 4096 else 10240

/-- Fill consecutive descriptors with the parts of a frame. `addrs` are the buffers posted. Vector 3 counts the frame once, at its last
descriptor: DEDUCED (log 131). -/
def State.fillRx (s : State) (f : Frame) (c : Copy) (size : Nat) (first_ : Bool) : List Nat → List Byte → State
  | [], _ => s
  | a :: addrs, l =>
    let part := l.take s.rxBuf
    let more := decide (s.rxBuf < l.length)
    let head := s.f Fld.HIF_CPU_RX_HEAD_HEAD
    let d := packRecord 256 [(0, 8, a), (8, 2, part.length), (10, 1, (if more then 1 else 0) + (if first_ then 2 else 0) + 8), (11, 1, f.cls),
      (12, 2, f.inPort), (14, 1, c.reason), (16, 12, time96 f.stamp)]
    let s := (s.emit (.rxDescriptor head d part)).setF Fld.HIF_CPU_RX_HEAD_HEAD ((head + 1) % size)
    if more then s.fillRx f c size false addrs (l.drop s.rxBuf) else s.signal 3

/-- Descriptors that a frame of a length fills. -/
def State.rxNeed (s : State) (len : Nat) : Nat := (len + s.rxBuf - 1) / s.rxBuf

/-- CPU_RX_DELIVER: the copy that port 64's scheduler chooses is read, checked and edited, and put into posted descriptors; it waits
until enough are posted. `addrs` are the host addresses in the next descriptors. -/
def State.cpuRxDeliver (s : State) (addrs : List Nat) : State :=
  let size := ringSize (s.f Fld.HIF_CPU_RX_CFG_SIZE_LOG2)
  let posted := (s.f Fld.HIF_CPU_RX_TAIL_TAIL + size - s.f Fld.HIF_CPU_RX_HEAD_HEAD) % size
  if s.dmaOk = false ∨ s.canSend 64 = false then s
  else match s.choose 64 with
    | none => s
    | some (j, d) =>
      match s.head 64 j with
      | none => s
      | some h => match s.frame h.id with
        | none => s
        | some f => match f.copy 64 with
          | none => s
          | some c =>
            if posted < s.rxNeed c.editLen ∨ addrs.length < s.rxNeed c.editLen then s
            else
              let s := s.unlink f.id 64
              match s.readCopy f 64 with
              | (none, s) => s.afterSend 64 j d 0
              | (some data, s) =>
                let l := withFcs (c.edited f data)
                let s := (s.fillRx f c size true addrs l).bump (Reg.PRT_TX_FRAMES 64)
                let s := (s.sampleFrame 64 1 s.now16 l).dropCopy f.id 64
                s.flow.afterSend 64 j d h.wire

/-! ### Errors and resets of the PCI Express function -/

/-- DMA_ERROR (R32): counted, reported, the ring disabled. A failed read of an operand buffer or image ends its command, which has not
begun; so does a failed write of returned data into an operand buffer, of which R32 says nothing: DESIGN CHOICE (log 133). A write that
fails leaves its entry held; of a completion or an event record, whose writing is a command of its own, this
command comes in that one's place. DESIGN CHOICE (log 82). -/
def State.dmaError (s : State) (ring kind dir access index addr tag : Nat) : State :=
  if s.domainOn 4 = false then s
  else
    let s := s.bump Reg.HIF_DMA_ERR_CNT
    let s := s.raise 95 ring [(24, 1, kind), (25, 1, dir), (26, 1, access), (28, 4, index), (32, 8, addr)]
    let s := s.setFlag (ringEnable ring) false
    if access = 1 then
      match s.jget tag with
      | some e =>
        if e.st = .received ∧ e.started = false ∧ e.ring = ring ∧ (e.indirect = true ∨ e.opcode = 0x30) then s.finish tag stAbandoned 0 0 else s
      | none => s
    else if dir = 1 then s.holdEntry ring index
    else s

/-- FUNCTION_RESET (R30): the HIF and EVT registers but their counters, the function's configuration and the message state. The journal
and the records held are untouched. -/
def State.functionReset (s : State) : State :=
  if s.domainOn 4 = false then s
  else
    let s := s.noteReset 7 []
    let s := s.clearRegs (fun off => decide (0x20000 ≤ off) && decide (off < 0x40000) && !keptByFunction off)
    let s := { s with hif := { s.hif with busMaster := false, msixEnable := false, msixFuncMask := false, vecs := [], rrRing := 0, rrTaken := 0 } }
    (s.setBatch []).giveReport

/-- Vectors whose pending message may go are sent. -/
def State.unmaskAll (s : State) : State := (List.range 7).foldl State.unmaskVector s

/-- The PCI Express function as its configuration space shows it (R29). -/
structure PciFunction where
  vendor : BitVec 16
  device : Nat := 0x6440
  subsystem : Nat
  classCode : Nat := 0x028000
  lanes : Nat := 4
  gtPerS : Nat := 16
  /-- BAR0 as size in bytes, 64-bit, prefetchable; no other BAR. -/
  bar0 : Nat := 2 ^ 21
  bar0Wide : Bool := true
  bar0Prefetch : Bool := false
  msixVectors : Nat := 8
  msixTable : Nat := 0x2F000
  msixPba : Nat := 0x2F800
  intx : Bool := false
  msi : Bool := false
  maxPayload : Nat := 512
  maxRead : Nat := 512
  aer : Bool := true
  flr : Bool := true
  sriov : Bool := false
  deriving DecidableEq, Repr

/-- The identity and capabilities of R29: the subsystem is the grade; the vendor identifier, of which the manual gives no value, is free
(log 83). -/
def State.pciFunction (s : State) : PciFunction :=
  { vendor := Config.vendorId, subsystem := if s.gradeEx then 1 else 2 }

/-- BUS_MASTER_ENABLE: the host writes the function's PCI configuration, Bus Master Enable with MSI-X Enable and Function Mask
(R31, R390). -/
def State.pciConfig (s : State) (master msix mask : Bool) : State :=
  if s.domainOn 4 = false then s
  else
    let s := ({ s with hif := { s.hif with busMaster := master, msixEnable := msix, msixFuncMask := mask } }).unmaskAll
    ((List.range 7).foldl State.signalDue s).rewrite

/-! ### The identity record (R406) -/

/-- ASCII codes of the ordering code. -/
def State.orderingCode (s : State) : List Nat :=
  [0x48, 0x47, 0x4E, 0x2D, 0x36, 0x34, 0x34, 0x30, 0x2D] ++ (if s.gradeEx then [0x45, 0x58] else [0x43, 0x4D]) ++ [0x2D, 0x42, 0, 0, 0]

/-- Byte `i` of the record. -/
def State.identityByte (s : State) (i : Nat) : Byte :=
  let le (v k : Nat) : Byte := BitVec.ofNat 8 (v / 256 ^ k)
  let tj := if s.domainOn 2 then s.f Fld.PWR_THERM_STATUS_TJ else 0x8000
  if i < 4 then le s.idWord.toNat i
  else if i < 20 then BitVec.ofNat 8 (s.orderingCode.getD (i - 4) 0)
  else if i < 38 then Config.identity (i - 20)
  else if i < 40 then le (s.f Fld.PWR_SUPPLY_MAIN12_MV) (i - 38)
  else if i < 42 then le (s.f Fld.PWR_SUPPLY_AUX3_MV) (i - 40)
  else if i < 44 then le tj (i - 42)
  else if i = 44 then le (Fld.GEN_BOOT_STATUS_STAGE.into (s.reg Reg.GEN_BOOT_STATUS) s.stageNow).toNat 0
  else if i = 45 then BitVec.ofNat 8 (s.f Fld.MIR_STATUS_PAIR_STATE + (if s.slotA then 8 else 0))
  else 0

/-- I2C_TRANSACTION at a 7-bit address: a write sets the pointer, a read returns bytes from it. Other addresses are not the module's. -/
def State.i2c (s : State) (addr : Nat) (write : Bool) (byte count : Nat) : State :=
  if addr ≠ (if s.slotA then 0x4A else 0x4B) then s
  else if write then { s with rst := { s.rst with i2cPtr := byte % 256 } }
  else s.emit (.i2c ((List.range count).map (fun i => s.identityByte (s.rst.i2cPtr + i))))

end Sys2Proof.Machine
end

