-- ==== Sys2Proof/Machine/Answer.lean ====
section
/-! DEFINITION. How a command answers: time passes, then the command has its effect. -/

namespace Sys2Proof.Machine

/-- What a command answers. -/
abbrev Answer := Host.Outcome State Fault Refusal

/-- The raw health score and the tick since when it has held (R306): a command that changes it begins the hold anew. -/
def State.rawNow (t : State) : Nat × Nat := if t.rawScore = t.rawHeld.1 then t.rawHeld else (t.rawScore, t.clk)

/-- A state with the waiting commands, the slot strap and the grade of another: what no command changes (R2, R6). The raw health score is
watched across it. -/
def State.keeping (t s : State) : State :=
  { t with
    pending := s.pending
    slotA := s.slotA
    gradeEx := s.gradeEx
    rawHeld := t.rawNow }

/-- `dt` ticks pass (log 1); then the effect happens where the operands are in range. A condition that an effect needs and that does not
hold leaves the state as time has left it: the module then does nothing of the kind. -/
def after (s : State) (dt : Nat) (ok : Bool) (f : State → State) : Answer :=
  .next ((if ok then f (s.advance dt) else s.advance dt).keeping s)

end Sys2Proof.Machine
end

