-- ==== Sys2Proof/Machine/CalRows.lean ====
section
/-! DEFINITION. Self-calibration (12_calibration.md). One meaning per row of the command table. -/

namespace Sys2Proof.Machine

/-- INTERP_CAL_DONE (R283). -/
def execInterpCalDone (dt j fault : Nat) (taps hits : List Nat) (s : State) : Answer :=
  after s dt (decide (j < 203)) (fun t => t.interpDone j fault taps hits)

/-- PHASE_DET_CAL_DONE (R291). -/
def execPhaseDetCalDone (dt j samples : Nat) (steps : List Nat) (table : List Int) (s : State) : Answer :=
  after s dt (decide (j < 203)) (fun t => t.phaseDone j samples steps table)

/-- PORT_CAL_DONE (R292). -/
def execPortCalDone (dt n : Nat) (sum trip : Int) (rxCells txCells : List Nat) (s : State) : Answer :=
  after s dt (decide (n < 64)) (fun t => t.portDone n sum trip rxCells txCells)

/-- PORT_CAL_ABANDON (R293). -/
def execPortCalAbandon (dt n : Nat) (s : State) : Answer :=
  after s dt (decide (n < 64)) (fun t => t.portAbandonRow n)

/-- PORT_CAL_RETRY (R293). -/
def execPortCalRetry (dt n : Nat) (s : State) : Answer :=
  after s dt (decide (n < 64)) (fun t => t.portRetry n)

/-- OUTPUT_CAL_DONE (R294). -/
def execOutputCalDone (dt k : Nat) (errs : List Int) (cells : List Nat) (s : State) : Answer :=
  after s dt (decide (k < 8)) (fun t => t.outputDone k errs cells)

/-- CAL_TEMP_TRIGGER (R290). -/
def execCalTempTrigger (dt k temp : Nat) (s : State) : Answer :=
  after s dt (decide (k < 12)) (fun t => t.readSensor k temp)

/-- OSC_RECENTRE (R295). -/
def execOscRecentre (dt i volt : Nat) (s : State) : Answer :=
  after s dt (decide (i < 3)) (fun t => t.recentre i volt)

end Sys2Proof.Machine
end

