-- ==== Sys2Proof/Machine/CmdRows.lean ====
section
/-! DEFINITION. Commands from the submission rings (02_host_interface.md, R36..R45). One meaning per row of the command table. -/

namespace Sys2Proof.Machine

/-- SQ_DOORBELL (R35). -/
def execSqDoorbell (dt n tail : Nat) (s : State) : Answer :=
  after s dt (decide (n < 4)) (fun t => t.mmioWrite (Reg.HIF_SQ_TAIL n) (w32 tail) 0xFFFFFFFF)

/-- COMMAND_FETCH (R36). -/
def execCommandFetch (dt : Nat) (cmd : BitVec 512) (pick : Nat) (buffer : List Byte) (s : State) : Answer :=
  after s dt true (fun t => t.fetch cmd pick buffer)

/-- CMD_REG_WRITE (R412). -/
def execCmdRegWrite (dt tag : Nat) (s : State) : Answer :=
  after s dt (decide (tag < 512)) (fun t => t.cmdRegWrite tag)

/-- CMD_REG_READ (R77). -/
def execCmdRegRead (dt tag : Nat) (s : State) : Answer :=
  after s dt (decide (tag < 512)) (fun t => t.cmdRegRead tag)

/-- CMD_TBL_INSERT (R148). -/
def execCmdTblInsert (dt tag pick : Nat) (s : State) : Answer :=
  after s dt (decide (tag < 512)) (fun t => t.dueFirst.cmdInsert tag pick)

/-- CMD_TBL_DELETE (R141). -/
def execCmdTblDelete (dt tag : Nat) (s : State) : Answer :=
  after s dt (decide (tag < 512)) (fun t => t.dueFirst.cmdDelete tag)

/-- CMD_TBL_LOOKUP (R141). -/
def execCmdTblLookup (dt tag : Nat) (s : State) : Answer :=
  after s dt (decide (tag < 512)) (fun t => t.cmdLookup tag)

/-- CMD_TBL_READ (R141). -/
def execCmdTblRead (dt tag : Nat) (s : State) : Answer :=
  after s dt (decide (tag < 512)) (fun t => t.cmdRead tag)

/-- CMD_TXN_BEGIN (R74). -/
def execCmdTxnBegin (dt tag : Nat) (s : State) : Answer :=
  after s dt (decide (tag < 512)) (fun t => t.txnBegin tag)

/-- CMD_TXN_COMMIT (R83). -/
def execCmdTxnCommit (dt tag : Nat) (s : State) : Answer :=
  after s dt (decide (tag < 512)) (fun t => t.cmdCommit tag)

/-- CMD_TXN_ROLLBACK (R82). -/
def execCmdTxnRollback (dt tag : Nat) (s : State) : Answer :=
  after s dt (decide (tag < 512)) (fun t => t.txnRollback tag)

/-- CMD_IMAGE_LOAD (R70). -/
def execCmdImageLoad (dt tag : Nat) (image : Image) (s : State) : Answer :=
  after s dt (decide (tag < 512)) (fun t => t.dueFirst.cmdImage tag image)

/-- CMD_CAL_RUN (R300). -/
def execCmdCalRun (dt tag : Nat) (s : State) : Answer :=
  after s dt (decide (tag < 512)) (fun t => t.cmdCalRun tag)

/-- CMD_OUT_REALIGN (R261). -/
def execCmdOutRealign (dt tag : Nat) (s : State) : Answer :=
  after s dt (decide (tag < 512)) (fun t => t.cmdRealign tag)

/-- CMD_TIME_STEP (R201). -/
def execCmdTimeStep (dt tag : Nat) (s : State) : Answer :=
  after s dt (decide (tag < 512)) (fun t => t.cmdStep tag)

/-- CMD_PAIR_EXCHANGE (R328). -/
def execCmdPairExchange (dt tag : Nat) (s : State) : Answer :=
  after s dt (decide (tag < 512)) (fun t => t.cmdExchange tag)

/-- CMD_LANE_PRBS (R105). -/
def execCmdLanePrbs (dt tag : Nat) (s : State) : Answer :=
  after s dt (decide (tag < 512)) (fun t => t.cmdPrbs tag)

/-- CMD_FENCE (R45). -/
def execCmdFence (dt tag : Nat) (s : State) : Answer :=
  after s dt (decide (tag < 512)) (fun t => t.fence tag)

end Sys2Proof.Machine
end

