-- ==== Sys2Proof/Machine/EnergyRows.lean ====
section
/-! DEFINITION. Energy, thermal and supply (14_energy_and_thermal.md). One meaning per row of the command table. -/

namespace Sys2Proof.Machine

/-- ENERGY_TALLY (R335). -/
def execEnergyTally (dt : Nat) (meters core rings : List Nat) (oven : Nat) (flash : List Nat) (s : State) : Answer :=
  after s dt true (fun t => t.tally meters core rings oven flash)

/-- FLASH_HOUSEKEEPING_UNIT (R336). -/
def execFlashHousekeepingUnit (dt kind : Nat) (ok : Bool) (addr retries : Nat) (s : State) : Answer :=
  after s dt (decide (kind < 5)) (fun t => t.flashUnit kind ok addr retries)

/-- PIPELINE_SLOW (R18). -/
def execPipelineSlow (dt p cap fill : Nat) (s : State) : Answer :=
  after s dt (decide (p < 4)) (fun t => t.pipelineSlow p cap fill)

/-- CORE_RAIL_NOMINAL (R18). -/
def execCoreRailNominal (dt : Nat) (caps fills : List Nat) (s : State) : Answer :=
  after s dt true (fun t => t.railNominal caps fills)

/-- DOMAIN_FAULT (R333). -/
def execDomainFault (dt d cause mv ma : Nat) (s : State) : Answer :=
  after s dt (decide (d < 13)) (fun t => t.domainFault d cause mv ma)

/-- DOMAIN_RESTORE (R365). -/
def execDomainRestore (dt d : Nat) (s : State) : Answer :=
  after s dt (decide (d < 13)) (fun t => t.domainRestore d)

/-- THERM_WARN (R340). -/
def execThermWarn (dt : Nat) (s : State) : Answer :=
  after s dt true (fun t => t.thermWarn)

/-- THERM_HOT (R341). -/
def execThermHot (dt : Nat) (s : State) : Answer :=
  after s dt true (fun t => t.thermHot)

/-- THERM_COOL (R341). -/
def execThermCool (dt : Nat) (s : State) : Answer :=
  after s dt true (fun t => t.thermCool)

/-- THROTTLE_PERIOD (R342). -/
def execThrottlePeriod (dt : Nat) (s : State) : Answer :=
  after s dt true (fun t => t.throttlePeriod)

/-- THERMAL_TRIP (R343). -/
def execThermalTrip (dt : Nat) (s : State) : Answer :=
  after s dt true (fun t => t.thermalTrip)

/-- THERMAL_TRIP_RESTART (R343). -/
def execThermalTripRestart (dt : Nat) (temps : List Nat) (s : State) : Answer :=
  after s dt true (fun t => t.tripRestart temps)

/-- SUPPLY_WARN (R346). -/
def execSupplyWarn (dt main aux : Nat) (s : State) : Answer :=
  after s dt true (fun t => t.supplyLow main aux)

/-- SUPPLY_RECOVERED (R347). -/
def execSupplyRecovered (dt main aux : Nat) (s : State) : Answer :=
  after s dt true (fun t => t.supplyBack main aux)

end Sys2Proof.Machine
end

