-- ==== Sys2Proof/Machine/FrameRows.lean ====
section
/-! DEFINITION. Frames from ingress to egress, pause and the buffer (05_frame_path.md). One meaning per row of the command table. -/

namespace Sys2Proof.Machine

/-- FRAME_RECEIVE (R112). -/
def execFrameReceive (dt n : Nat) (data : List Byte) (a : Arrival) (bad : List (TblPlace × Bool)) (s : State) : Answer :=
  after s dt (decide (n < 64)) (fun t =>
    if (t.upsetTables bad).portUp n then (t.upsetTables bad).receive n data a else t.upsetTables bad)

/-- LEARN_INSERT (R152). -/
def execLearnInsert (dt p pick : Nat) (behind : Bool) (s : State) : Answer :=
  after s dt (decide (p < 4)) (fun t => t.learnNext p pick behind)

/-- FRAME_TRANSMIT (R130). -/
def execFrameTransmit (dt n : Nat) (beats : List (Nat × Bool)) (start33 : Bool) (flips : List (Nat × BitVec 288)) (s : State) : Answer :=
  after s dt (decide (n < 64)) (fun t => (t.upset flips).transmit n beats (startUi start33))

/-- FRAME_PREEMPT (R182). -/
def execFramePreempt (dt n : Nat) (s : State) : Answer :=
  after s dt (decide (n < 64)) (fun t => t.preempt n)

/-- PORT_HOLD_EXPIRY (R135). -/
def execPortHoldExpiry (dt n : Nat) (s : State) : Answer :=
  after s dt (decide (n < 64)) (fun t => t.holdExpiry n)

/-- PFC_XOFF_REFRESH (R123). -/
def execPfcXoffRefresh (dt n fill : Nat) (s : State) : Answer :=
  after s dt (decide (n < 64)) (fun t => t.refreshXoff n fill)

/-- PFC_FRAME_RECEIVE (R128). -/
def execPfcFrameReceive (dt n : Nat) (named : List (Nat × Nat)) (s : State) : Answer :=
  after s dt (decide (n < 64)) (fun t => t.pauseIn n named false)

/-- LLP_FRAME_RECEIVE (R128). -/
def execLlpFrameReceive (dt n time : Nat) (s : State) : Answer :=
  after s dt (decide (n < 64)) (fun t => t.pauseIn n ((List.range 6).map (fun k => (k, time))) true)

/-- PAUSE_EXPIRY (R128). -/
def execPauseExpiry (dt n k : Nat) (s : State) : Answer :=
  after s dt (decide (n < 64) && decide (k < 6)) (fun t => t.pauseExpired n k)

/-- PAUSE_STORM_START (R377). -/
def execPauseStormStart (dt n k : Nat) (s : State) : Answer :=
  after s dt (decide (n < 64) && decide (k < 6)) (fun t => t.stormStart n k)

/-- PAUSE_STORM_END (R377). -/
def execPauseStormEnd (dt n k : Nat) (s : State) : Answer :=
  after s dt (decide (n < 64) && decide (k < 6)) (fun t => t.stormEnd n k)

/-- BUF_SCRUB_UNIT (R119). -/
def execBufScrubUnit (dt b : Nat) (hard : List Nat) (flips : List (Nat × BitVec 288)) (s : State) : Answer :=
  after s dt (decide (b < 64)) (fun t => (t.upset flips).bufUnit b hard)

/-- MALFORMED_RATE_SECOND (R376). -/
def execMalformedRateSecond (dt n : Nat) (s : State) : Answer :=
  after s dt (decide (n < 64)) (fun t => t.malformedSecond n)

end Sys2Proof.Machine
end

