-- ==== Sys2Proof/Machine/GateRows.lean ====
section
/-! DEFINITION. Preemption and time gates (07_classes_and_gates.md). One meaning per row of the command table. -/

namespace Sys2Proof.Machine

/-- PREEMPT_VERIFY_TIMER (R181). -/
def execPreemptVerifyTimer (dt n : Nat) (s : State) : Answer :=
  after s dt (decide (n < 64)) (fun t => t.verifyTimer n)

/-- PREEMPT_VERIFY_RESPONSE (R181). -/
def execPreemptVerifyResponse (dt n : Nat) (bad : Bool) (s : State) : Answer :=
  after s dt (decide (n < 64)) (fun t => t.verifyResponse n bad)

/-- GCL_ENTRY_WRITE (R195). -/
def execGclEntryWrite (dt n : Nat) (value : Word) (be : Nat) (s : State) : Answer :=
  after s dt (decide (n < 64)) (fun t => t.mmioWrite (Reg.SCH_GCL_ENTRY_HI n) value (byteMask be))

/-- GATE_CONFIG_CHANGE (R185). -/
def execGateConfigChange (dt n : Nat) (value : Word) (be : Nat) (s : State) : Answer :=
  after s dt (decide (n < 64)) (fun t => t.writeField (Fld.SCH_GATE_CTRL_CONFIG_CHANGE n) 1 value be)

/-- GATE_ENABLE (R188). -/
def execGateEnable (dt n : Nat) (value : Word) (be : Nat) (s : State) : Answer :=
  after s dt (decide (n < 64)) (fun t => t.writeField (Fld.SCH_GATE_CTRL_ENABLE n) 1 value be)

/-- GATE_DISABLE (R188). -/
def execGateDisable (dt n : Nat) (value : Word) (be : Nat) (s : State) : Answer :=
  after s dt (decide (n < 64)) (fun t => t.writeField (Fld.SCH_GATE_CTRL_ENABLE n) 0 value be)

/-- GATE_LIST_START (R186). -/
def execGateListStart (dt n : Nat) (s : State) : Answer :=
  after s dt (decide (n < 64)) (fun t => t.gateStart n false)

/-- GATE_ENTRY_CHANGE (R183). -/
def execGateEntryChange (dt n : Nat) (s : State) : Answer :=
  after s dt (decide (n < 64)) (fun t => t.showGates n)

end Sys2Proof.Machine
end

