-- ==== Sys2Proof/Machine/LaneRows.lean ====
section
/-! DEFINITION. Lanes, PCS and links (04_lanes_and_ports.md). One meaning per row of the command table. -/

namespace Sys2Proof.Machine

/-- LAN_TX_FIR_WRITE (R91). -/
def execLanTxFirWrite (dt l : Nat) (value : Word) (be : Nat) (s : State) : Answer :=
  after s dt (decide (l < 64)) (fun t => t.mmioWrite (Reg.LAN_TX_FIR l) value (byteMask be))

/-- ADAPT_DONE (R93). -/
def execAdaptDone (dt l ctle : Nat) (s : State) : Answer :=
  after s dt (decide (l < 64)) (fun t => t.adaptDone l ctle)

/-- LINK_DOWN (R99). -/
def execLinkDown (dt n : Nat) (s : State) : Answer :=
  after s dt (decide (n < 64)) (fun t => t.linkDown n)

/-- LINK_UP (R101). -/
def execLinkUp (dt n : Nat) (s : State) : Answer :=
  after s dt (decide (n < 64)) (fun t => t.linkUp n)

/-- FLAP_RECOVER (R102). -/
def execFlapRecover (dt n : Nat) (s : State) : Answer :=
  after s dt (decide (n < 64)) (fun t => t.flapRecover n)

/-- AM_LOCK_LOST (R98). -/
def execAmLockLost (dt n pcs lane : Nat) (s : State) : Answer :=
  after s dt (decide (n < 64)) (fun t => t.amLost n pcs lane)

/-- DESKEW_RETRY (R97). -/
def execDeskewRetry (dt n : Nat) (s : State) : Answer :=
  after s dt (decide (n < 64)) (fun t => t.deskewAgain n)

/-- AN_REFUSED (R104). -/
def execAnRefused (dt n : Nat) (s : State) : Answer :=
  after s dt (decide (n < 64)) (fun t => t.anRefused n)

/-- PORT_ENABLE (R103). -/
def execPortEnable (dt n : Nat) (value : Word) (be : Nat) (s : State) : Answer :=
  after s dt (decide (n < 64)) (fun t => t.writeField (Fld.PRT_CFG_ENABLE n) 1 value be)

/-- PORT_DISABLE (R103). -/
def execPortDisable (dt n : Nat) (value : Word) (be : Nat) (s : State) : Answer :=
  after s dt (decide (n < 64)) (fun t => t.writeField (Fld.PRT_CFG_ENABLE n) 0 value be)

/-- PORT_FEC_CHANGE (R94). -/
def execPortFecChange (dt n fec : Nat) (value : Word) (be : Nat) (s : State) : Answer :=
  after s dt (decide (n < 64) && decide (fec < 4)) (fun t => t.writeField (Fld.PRT_CFG_FEC n) fec value be)

/-- LAN_PRBS_CFG_WRITE (R105). -/
def execLanPrbsCfgWrite (dt l : Nat) (value : Word) (be : Nat) (s : State) : Answer :=
  after s dt (decide (l < 64)) (fun t => t.mmioWrite (Reg.LAN_PRBS_CFG l) value (byteMask be))

/-- PRBS_INJECT_SINGLE (R107). -/
def execPrbsInjectSingle (dt l : Nat) (s : State) : Answer :=
  after s dt (decide (l < 64)) (fun t => t.prbsInject l true)

/-- PRBS_INJECT_BURST (R107). -/
def execPrbsInjectBurst (dt l : Nat) (s : State) : Answer :=
  after s dt (decide (l < 64)) (fun t => t.prbsInject l false)

/-- PRBS_LOCK_CHANGE (R106). -/
def execPrbsLockChange (dt l : Nat) (on : Bool) (errs bits : Nat) (s : State) : Answer :=
  after s dt (decide (l < 64)) (fun t => t.prbsLock l on errs bits)

/-- PRBS_INTERVAL_END (R106). -/
def execPrbsIntervalEnd (dt l errs bits : Nat) (s : State) : Answer :=
  after s dt (decide (l < 64)) (fun t => t.prbsInterval l errs bits)

/-- SIGNAL_DETECT (R93). -/
def execSignalDetect (dt l : Nat) (on : Bool) (s : State) : Answer :=
  after s dt (decide (l < 64)) (fun t => t.signalDetect l on)

/-- BLOCK_LOCK_CHANGE (R101). -/
def execBlockLockChange (dt n kind : Nat) (on : Bool) (skew early late own : Nat) (counts : PcsCounts) (s : State) : Answer :=
  after s dt (decide (n < 64)) (fun t => t.linkCondition n kind on skew early late own counts)

end Sys2Proof.Machine
end

