-- ==== Sys2Proof/Machine/LanternRows.lean ====
section
/-! DEFINITION. Lantern sets and role swaps (09_lantern_phase.md). One meaning per row of the command table. -/

namespace Sys2Proof.Machine

/-- LANTERN_ENABLE (R230). -/
def execLanternEnable (dt n : Nat) (value : Word) (be : Nat) (s : State) : Answer :=
  after s dt (decide (n < 64)) (fun t => t.writeField (Fld.PHS_CFG_ENABLE n) 1 value be)

/-- LANTERN_DISABLE (R230). -/
def execLanternDisable (dt n : Nat) (value : Word) (be : Nat) (s : State) : Answer :=
  after s dt (decide (n < 64)) (fun t => t.writeField (Fld.PHS_CFG_ENABLE n) 0 value be)

/-- LANTERN_SET_OFFER (R223). -/
def execLanternSetOffer (dt n : Nat) (idle : Bool) (beats : List (Nat × Bool)) (s : State) : Answer :=
  after s dt (decide (n < 66)) (fun t => t.lanOffer n idle beats)

/-- LANTERN_WORD_RECEIVE (R225). -/
def execLanternWordReceive (dt n : Nat) (blocks : List (BitVec 66 × List (Nat × Bool))) (s : State) : Answer :=
  after s dt (decide (n < 66)) (fun t => t.lanReceive n blocks)

/-- LANTERN_BLOCK_REPORT (R228). -/
def execLanternBlockReport (dt n : Nat) (s : State) : Answer :=
  after s dt (decide (n < 64)) (fun t => t.lanBlock n)

/-- LANTERN_REPORT_SPARSE (R228). -/
def execLanternReportSparse (dt n : Nat) (s : State) : Answer :=
  after s dt (decide (n < 64)) (fun t => t.lanSparse n)

/-- LANTERN_REPORT_READ (R229). -/
def execLanternReportRead (dt n : Nat) (s : State) : Answer :=
  after s dt (decide (n < 64)) (fun t => t.mmioRead (Reg.PHS_RPT_SEQ n))

/-- LANTERN_WORD_TIMEOUT (R230). -/
def execLanternWordTimeout (dt n : Nat) (s : State) : Answer :=
  after s dt (decide (n < 64)) (fun t => t.lanTimeout n)

/-- LANTERN_SUSPEND_END (R230). -/
def execLanternSuspendEnd (dt n : Nat) (s : State) : Answer :=
  after s dt (decide (n < 64)) (fun t => t.lanSuspendEnd n)

/-- LANTERN_BAD_COUNT_RESET (R231). -/
def execLanternBadCountReset (dt : Nat) (s : State) : Answer :=
  after s dt true (fun t => t.lanBadReset)

/-- PHS_ASYM_WRITE (R233). -/
def execPhsAsymWrite (dt n k : Nat) (value : Word) (be : Nat) (s : State) : Answer :=
  after s dt (decide (n < 64) && decide (k < 7)) (fun t => t.mmioWrite (Reg.PHS_ASYM_CFG n + 4 * k) value (byteMask be))

/-- SWAP_CAPTURE_BEFORE (R234). -/
def execSwapCaptureBefore (dt n : Nat) (value : Word) (be : Nat) (s : State) : Answer :=
  after s dt (decide (n < 64)) (fun t => t.writeField (Fld.PHS_SWAP_CTRL_CAPTURE_BEFORE n) 1 value be)

/-- SWAP_CAPTURE_AFTER (R234). -/
def execSwapCaptureAfter (dt n : Nat) (value : Word) (be : Nat) (s : State) : Answer :=
  after s dt (decide (n < 64)) (fun t => t.writeField (Fld.PHS_SWAP_CTRL_CAPTURE_AFTER n) 1 value be)

/-- SWAP_ABORT (R234). -/
def execSwapAbort (dt n : Nat) (value : Word) (be : Nat) (s : State) : Answer :=
  after s dt (decide (n < 64)) (fun t => t.writeField (Fld.PHS_SWAP_CTRL_ABORT n) 1 value be)

/-- SWAP_AVG_END (R234). -/
def execSwapAvgEnd (dt n : Nat) (s : State) : Answer :=
  after s dt (decide (n < 64)) (fun t => t.swapAvgEnd n)

/-- SWAP_GAP_TIMEOUT (R234). -/
def execSwapGapTimeout (dt n : Nat) (s : State) : Answer :=
  after s dt (decide (n < 64)) (fun t => t.swapGapTimeout n)

end Sys2Proof.Machine
end

