-- ==== Sys2Proof/Machine/PairRows.lean ====
section
/-! DEFINITION. The mirrored pair (13_mirrored_pair.md). One meaning per row of the command table. -/

namespace Sys2Proof.Machine

/-- A message from the partner: taken, or discarded and counted (R313, R314). -/
def State.message (s : State) (session seq : Nat) (good : Bool) (f : State → State) : State :=
  match s.takeMir session seq good with
  | (some t, _) => f t
  | (none, t) => t

/-- CLAIM_WORD_RECEIVE (R310). -/
def execClaimWordReceive (dt word : Nat) (s : State) : Answer :=
  after s dt true (fun t => t.claimWordIn word)

/-- CLAIM_WIRE_SILENCE (R310). -/
def execClaimWireSilence (dt : Nat) (s : State) : Answer :=
  after s dt true (fun t => t.wireSilence)

/-- CLAIM_WIRE_CHANGE (R311). -/
def execClaimWireChange (dt : Nat) (ready hold : Bool) (nets : Nat) (s : State) : Answer :=
  after s dt true (fun t => t.wireChange ready hold nets)

/-- HEALTH_PUBLISH (R306). -/
def execHealthPublish (dt : Nat) (s : State) : Answer :=
  after s dt true (fun t => t.healthCheck)

/-- MIR_ENABLE (R314). -/
def execMirEnable (dt : Nat) (value : Word) (be : Nat) (s : State) : Answer :=
  after s dt true (fun t => t.writeField Fld.MIR_CFG_ENABLE 1 value be)

/-- MIR_DISABLE (R316). -/
def execMirDisable (dt : Nat) (value : Word) (be : Nat) (s : State) : Answer :=
  after s dt true (fun t => t.writeField Fld.MIR_CFG_ENABLE 0 value be)

/-- MIR_LANE_CHANGE (R316). -/
def execMirLaneChange (dt lane : Nat) (up : Bool) (s : State) : Answer :=
  after s dt (decide (lane < 2)) (fun t => t.laneChange lane up)

/-- CLAIM_SEND (R315). -/
def execClaimSend (dt : Nat) (s : State) : Answer :=
  after s dt true (fun t => t.claimSend)

/-- CLAIM_MSG (R317). -/
def execClaimMsg (dt session seq : Nat) (good : Bool) (claim roles state age take image epoch : Nat) (s : State) : Answer :=
  after s dt true (fun t => t.message session seq good (fun u => u.claimMsg claim roles state age take image epoch))

/-- PARTNER_SILENT (R316). -/
def execPartnerSilent (dt : Nat) (s : State) : Answer :=
  after s dt true (fun t => t.partnerSilent)

/-- SYNC_DATA (R320). -/
def execSyncData (dt session seq : Nat) (good : Bool) (items : List MirItem) (s : State) : Answer :=
  after s dt true (fun t => t.message session seq good (fun u => u.syncData items))

/-- SYNC_DONE (R320). -/
def execSyncDone (dt session seq : Nat) (good : Bool) (instant epoch : Nat) (s : State) : Answer :=
  after s dt true (fun t => t.message session seq good (fun u => u.syncDone instant epoch))

/-- SYNC_APPLY (R320). -/
def execSyncApply (dt : Nat) (s : State) : Answer :=
  after s dt true (fun t => t.syncApplyRow)

/-- SYNC_TIMEOUT (R320). -/
def execSyncTimeout (dt : Nat) (s : State) : Answer :=
  after s dt true (fun t => t.syncTimeout)

/-- TXN_PREPARE (R84). -/
def execTxnPrepare (dt session seq : Nat) (good : Bool) (id tag epoch instant at96 : Nat) (items : List MirItem) (s : State) : Answer :=
  after s dt true (fun t => t.message session seq good (fun u => u.prepareIn id tag epoch instant at96 items))

/-- TXN_VOTE (R84). -/
def execTxnVote (dt session seq : Nat) (good : Bool) (id : Nat) (yes : Bool) (s : State) : Answer :=
  after s dt true (fun t => t.message session seq good (fun u => u.voteIn id yes))

/-- TXN_DECISION (R84). -/
def execTxnDecision (dt session seq : Nat) (good : Bool) (id : Nat) (yes : Bool) (s : State) : Answer :=
  after s dt true (fun t => t.message session seq good (fun u => u.decisionIn id yes))

/-- CHANGE (R322). -/
def execChangeMsg (dt session seq : Nat) (good : Bool) (item : MirItem) (s : State) : Answer :=
  after s dt true (fun t => t.message session seq good (fun u => u.changeIn item))

/-- HANDLE_REQ (R322). -/
def execHandleReq (dt session seq : Nat) (good : Bool) (code pick : Nat) (data : List Byte) (s : State) : Answer :=
  after s dt true (fun t => t.message session seq good (fun u => u.handleReq code pick data))

/-- TIME_STATE_SEND (R315). -/
def execTimeStateSend (dt : Nat) (s : State) : Answer :=
  after s dt true (fun t => t.timeStateSend)

/-- TIME_STATE (R325). -/
def execTimeState (dt session seq : Nat) (good : Bool) (dpll fsel tsel ho warm wick entry : Nat) (host : List Nat) (s : State) : Answer :=
  after s dt true (fun t => t.message session seq good (fun u => u.timeStateIn dpll fsel tsel ho warm wick entry host))

/-- FRER_WINDOW_SEND (R326). -/
def execFrerWindowSend (dt : Nat) (s : State) : Answer :=
  after s dt true (fun t => t.frerSend)

/-- FRER_WINDOW (R326). -/
def execFrerWindow (dt session seq : Nat) (good : Bool) (i recov hist : Nat) (s : State) : Answer :=
  after s dt true (fun t => t.message session seq good (fun u => u.frerIn i recov hist))

/-- JOURNAL_MARK (R327). -/
def execJournalMark (dt session seq : Nat) (good : Bool) (tag state ring opcode cookie : Nat) (s : State) : Answer :=
  after s dt true (fun t => t.message session seq good (fun u => u.journalIn tag state ring opcode cookie))

/-- EXCHANGE (R328). -/
def execExchange (dt session seq : Nat) (good : Bool) (instant pref : Nat) (s : State) : Answer :=
  after s dt true (fun t => t.message session seq good (fun u => u.exchangeIn instant pref))

/-- EXCHANGE_ACK (R328). -/
def execExchangeAck (dt session seq : Nat) (good : Bool) (cause : Nat) (s : State) : Answer :=
  after s dt true (fun t => t.message session seq good (fun u => u.exchangeAckIn cause))

/-- EXCHANGE_DRAIN_DONE (R328). -/
def execExchangeDrainDone (dt : Nat) (s : State) : Answer :=
  after s dt true (fun t => t.exchDrained)

/-- EXCHANGE_DRAIN_TIMEOUT (R328). -/
def execExchangeDrainTimeout (dt : Nat) (s : State) : Answer :=
  after s dt true (fun t => t.exchTimeout)

/-- EXCHANGE_APPLY (R328). -/
def execExchangeApply (dt : Nat) (s : State) : Answer :=
  after s dt true (fun t => t.exchApply)

/-- MIR_OFFSET_REPORT (R324). -/
def execMirOffsetReport (dt : Nat) (s : State) : Answer :=
  after s dt true (fun t => t.offsetReport)

/-- MIR_OFFSET_READ (R324). -/
def execMirOffsetRead (dt : Nat) (s : State) : Answer :=
  after s dt true (fun t => t.mmioRead Reg.MIR_OFFSET_SEQ)

/-- MIR_HOST_STATE_SEND (R325). -/
def execMirHostStateSend (dt : Nat) (value : Word) (be : Nat) (s : State) : Answer :=
  after s dt true (fun t => t.mmioWrite (Reg.MIR_HOST_STATE 63) value (byteMask be))

end Sys2Proof.Machine
end

