-- ==== Sys2Proof/Machine/RefRows.lean ====
section
/-! DEFINITION. References, holdover and outputs (10_references.md). One meaning per row of the command table. -/

namespace Sys2Proof.Machine

/-- The register of a slot that a row writes: CFG, or QUAL of a time slot. -/
def slotCfg (k : Nat) (quality : Bool) : Nat :=
  if k < 16 then Reg.REF_SLOT_CFG k else if quality then Reg.REF_TSLOT_QUAL (k - 16) else Reg.REF_TSLOT_CFG (k - 16)

/-- REF_SLOT_CFG_WRITE (R241). -/
def execRefSlotCfgWrite (dt k : Nat) (quality : Bool) (value : Word) (be : Nat) (s : State) : Answer :=
  after s dt (decide (k < 24)) (fun t => t.mmioWrite (slotCfg k quality) value (byteMask be))

/-- REF_SLOT_FAULT (R240). -/
def execRefSlotFault (dt k code : Nat) (off : Int) (dev : Nat) (s : State) : Answer :=
  after s dt (decide (k < 24)) (fun t => t.slotFaultBegins k code off dev)

/-- REF_SLOT_FAULT_END (R240). -/
def execRefSlotFaultEnd (dt k code : Nat) (off : Int) (s : State) : Answer :=
  after s dt (decide (k < 24)) (fun t => t.slotFaultEnds k code off)

/-- REF_VALIDATE_EXPIRY (R240). -/
def execRefValidateExpiry (dt k : Nat) (off : Int) (s : State) : Answer :=
  after s dt (decide (k < 24)) (fun t => t.validated k off)

/-- REF_WTR_EXPIRY (R240). -/
def execRefWtrExpiry (dt k : Nat) (off : Int) (s : State) : Answer :=
  after s dt (decide (k < 24)) (fun t => t.restored k off)

/-- REF_DISAGREE_DETECT (R243). -/
def execRefDisagreeDetect (dt i j : Nat) (di dj : Int) (s : State) : Answer :=
  after s dt (decide (i < 15) && decide (j < 15)) (fun t => t.disagreeBegins i j di dj)

/-- REF_DISAGREE_CLEAR (R243). -/
def execRefDisagreeClear (dt i j agreed : Nat) (di dj : Int) (s : State) : Answer :=
  after s dt (decide (i < 15) && decide (j < 15)) (fun t => t.disagreeEnds i j agreed di dj)

/-- REF_SWITCH_HANDOVER (R244). -/
def execRefSwitchHandover (dt : Nat) (time : Bool) (x : Int) (s : State) : Answer :=
  after s dt true (fun t => if time then t.timeHandover x else t.freqHandover x)

/-- DPLL_COMPARE_CYCLE (R250). -/
def execDpllCompareCycle (dt : Nat) (ps : Int) (s : State) : Answer :=
  after s dt true (fun t => t.dpllCycle ps)

/-- HOLDOVER_SECOND (R251). -/
def execHoldoverSecond (dt : Nat) (rate coef : Int) (s : State) : Answer :=
  after s dt true (fun t => t.refSecond rate coef)

/-- WICK_UPDATE (R253). -/
def execWickUpdate (dt : Nat) (s : State) : Answer :=
  after s dt true (fun t => t.wickUpdate)

/-- The reference converter's calibration instance for a slot that edges serve (R288). -/
def converterOf (k : Nat) : Option Nat :=
  if 10 ≤ k ∧ k ≤ 13 then some (8 + k) else if k = 20 ∨ k = 21 then some k else if k = 22 ∨ k = 23 then some (k - 4) else none

/-- TIME_SLOT_EDGE (R255). -/
def execTimeSlotEdge (dt k back : Nat) (ptp : Int) (s : State) : Answer :=
  after s dt (decide (k < 24)) (fun t => (match converterOf k with | some j => t.refEdge j | none => t).timeEdge k back ptp)

/-- VIRT_FREQ_WRITE (R247). -/
def execVirtFreqWrite (dt : Nat) (value : Word) (be : Nat) (s : State) : Answer :=
  after s dt true (fun t => t.mmioWrite Reg.REF_VIRT_FREQ_HI value (byteMask be))

/-- XPPS_DECL_ARM (R256). -/
def execXppsDeclArm (dt i : Nat) (value : Word) (be : Nat) (s : State) : Answer :=
  after s dt (decide (i < 2)) (fun t => t.mmioWrite (Reg.REF_XPPS_DECL_HI i) value (byteMask be))

/-- GNSS_SENTENCE (R256). -/
def execGnssSentence (dt : Nat) (sentence : List Byte) (s : State) : Answer :=
  after s dt true (fun t => t.gnssSentence sentence)

/-- IRIG_FRAME (R256). -/
def execIrigFrame (dt format : Nat) (symbols : List Nat) (s : State) : Answer :=
  after s dt (decide (format < 8)) (fun t => t.irigFrame format symbols)

/-- OUT_START_REQUEST (R259). -/
def execOutStartRequest (dt k : Nat) (value : Word) (be : Nat) (s : State) : Answer :=
  after s dt (decide (k < 8)) (fun t => t.mmioWrite (Reg.REF_OUT_START_W2 k) value (byteMask be))

/-- OUT_START (R259). -/
def execOutStart (dt k : Nat) (s : State) : Answer :=
  after s dt (decide (k < 8)) (fun t => t.outBegin k)

/-- OUT_CLOCK_AUTO_REALIGNED (R260). -/
def execOutClockAutoRealigned (dt k : Nat) (s : State) : Answer :=
  after s dt (decide (k < 8)) (fun t => t.clockAligned k)

/-- OUT_REALIGN_EDGE (R261). -/
def execOutRealignEdge (dt k : Nat) (s : State) : Answer :=
  after s dt (decide (k < 8)) (fun t => t.realignEdge k)

end Sys2Proof.Machine
end

