-- ==== Sys2Proof/Machine/ResetRows.lean ====
section
/-! DEFINITION. Start-up, resets and removal (15_bring_up_and_hot_plug.md). One meaning per row of the command table. -/

namespace Sys2Proof.Machine

/-- SUPPLY_RESET (R355). -/
def execSupplyReset (dt main : Nat) (s : State) : Answer :=
  after s dt true (fun t => t.supplyReset main)

/-- COLD_START (R48). -/
def execColdStart (dt : Nat) (s : State) : Answer :=
  after s dt true (fun t => t.coldStart)

/-- OSC_WARM (R348). -/
def execOscWarm (dt oven temp : Nat) (s : State) : Answer :=
  after s dt true (fun t => t.oscWarm oven temp)

/-- OSC_FAULT (R367). -/
def execOscFault (dt cause oven temp : Nat) (s : State) : Answer :=
  after s dt true (fun t => t.oscFaulted cause oven temp)

/-- POWER_GOOD (R351). -/
def execPowerGood (dt : Nat) (bad : List (Nat × Nat)) (s : State) : Answer :=
  after s dt true (fun t => t.powerGood bad)

/-- BOOT_IMAGE_LOAD (R69). -/
def execBootImageLoad (dt : Nat) (ok0 ok1 : Bool) (bad0 bad1 : Nat × Nat) (s : State) : Answer :=
  after s dt true (fun t => t.bootLoad ok0 ok1 bad0 bad1)

/-- MODULE_RESET (R357). -/
def execModuleReset (dt : Nat) (s : State) : Answer :=
  after s dt true (fun t => t.mmioWrite Reg.GEN_RESET_CTRL 0x5A01 0xFFFFFFFF)

/-- CORE_RESET (R358). -/
def execCoreReset (dt : Nat) (s : State) : Answer :=
  after s dt true (fun t => t.mmioWrite Reg.GEN_RESET_CTRL 0x5A02 0xFFFFFFFF)

/-- CORE_RESET_END (R358). -/
def execCoreResetEnd (dt : Nat) (s : State) : Answer :=
  after s dt true (fun t => t.coreResetEnd)

/-- CONTROLLER_RESTART (R357). -/
def execControllerRestart (dt : Nat) (s : State) : Answer :=
  after s dt true (fun t => t.mmioWrite Reg.GEN_RESET_CTRL 0x5A04 0xFFFFFFFF)

/-- CONTROLLER_WATCHDOG (R27). -/
def execControllerWatchdog (dt : Nat) (s : State) : Answer :=
  after s dt true (fun t => t.controllerRestart 5)

/-- EJECT_LATCH (R359). -/
def execEjectLatch (dt : Nat) (s : State) : Answer :=
  after s dt true (fun t => t.ejectLatch)

/-- EJECT_HOST (R359). -/
def execEjectHost (dt : Nat) (s : State) : Answer :=
  after s dt true (fun t => t.mmioWrite Reg.GEN_HOTPLUG 0x100 0xFF00)

/-- HOTPLUG_READY (R360). -/
def execHotplugReady (dt : Nat) (s : State) : Answer :=
  after s dt true (fun t => t.hotplugReady)

/-- SURPRISE_REMOVAL (R362). -/
def execSurpriseRemoval (dt pres : Nat) (s : State) : Answer :=
  after s dt (decide (pres < 4)) (fun t => t.surpriseRemoval pres)

/-- EJECT_CANCEL (R363). -/
def execEjectCancel (dt : Nat) (s : State) : Answer :=
  after s dt true (fun t => t.ejectCancel)

/-- START_UP_DOMAINS_ON (R352). -/
def execStartUpDomainsOn (dt : Nat) (s : State) : Answer :=
  after s dt true (fun t => t.domainsOn)

/-- START_UP_LANES_TRAINED (R352). -/
def execStartUpLanesTrained (dt : Nat) (s : State) : Answer :=
  after s dt true (fun t => t.lanesTrained)

/-- CONTROLLER_RESTART_END (R27). -/
def execControllerRestartEnd (dt : Nat) (s : State) : Answer :=
  after s dt true (fun t => t.controllerBack)

end Sys2Proof.Machine
end

