-- ==== Sys2Proof/Machine/RingRows.lean ====
section
/-! DEFINITION. Rings, DMA, the event queue and register writes (02_host_interface.md, R30..R58; 17_register_map.md). One meaning per row of the command table. -/

namespace Sys2Proof.Machine

/-- COMPLETION_WRITE (R44). -/
def execCompletionWrite (dt : Nat) (s : State) : Answer :=
  after s dt true (fun t => t.writeCompletion)

/-- DMA_ERROR (R32). -/
def execDmaError (dt ring kind dir access index addr tag : Nat) (s : State) : Answer :=
  after s dt (decide (ring < 10)) (fun t => t.dmaError ring kind dir access index addr tag)

/-- MSIX_HOLDOFF_EXPIRY (R34). -/
def execMsixHoldoffExpiry (dt v : Nat) (s : State) : Answer :=
  after s dt (decide (v < 8)) (fun t => t.holdoffDone v)

/-- MSIX_VECTOR_UNMASK (R390). -/
def execMsixVectorUnmask (dt v : Nat) (s : State) : Answer :=
  after s dt (decide (v < 8)) (fun t => t.mmioWrite (Reg.HIF_MSIX_CTRL v) 0 0xFFFFFFFF)

/-- FUNCTION_RESET (R30). -/
def execFunctionReset (dt : Nat) (s : State) : Answer :=
  after s dt true (fun t => t.functionReset)

/-- EVENT_RECORD_WRITE (R54). -/
def execEventRecordWrite (dt : Nat) (s : State) : Answer :=
  after s dt true (fun t => t.writeEvent)

/-- EVT_OVERFLOW_END (R57). -/
def execEvtOverflowEnd (dt : Nat) (s : State) : Answer :=
  after s dt true (fun t => t.overflowEnd)

/-- EVT_HELD_FLUSH (R58). -/
def execEvtHeldFlush (dt : Nat) (s : State) : Answer :=
  after s dt true (fun t => t.flushHeld)

/-- EVT_COALESCE_WINDOW_END (R56). -/
def execEvtCoalesceWindowEnd (dt src scope : Nat) (s : State) : Answer :=
  after s dt (decide (src < 96)) (fun t => t.windowEnd src scope)

/-- CPU_TX_DOORBELL (R50). -/
def execCpuTxDoorbell (dt tail : Nat) (s : State) : Answer :=
  after s dt true (fun t => t.mmioWrite Reg.HIF_CPU_TX_TAIL (w32 tail) 0xFFFFFFFF)

/-- CPU_TX_FRAME (R50). -/
def execCpuTxFrame (dt : Nat) (descs : List (BitVec 256)) (data : List Byte) (access : List Nat) (s : State) : Answer :=
  after s dt true (fun t => t.cpuTxFrame descs data access)

/-- CPU_RX_DELIVER (R51). -/
def execCpuRxDeliver (dt : Nat) (addrs : List Nat) (s : State) : Answer :=
  after s dt true (fun t => t.cpuRxDeliver addrs)

/-- REGISTER_WRITE (R372). -/
def execRegisterWrite (dt off : Nat) (value : Word) (be : Nat) (s : State) : Answer :=
  after s dt true (fun t => t.mmioWrite off value (byteMask be))

/-- BUS_MASTER_ENABLE (R31). -/
def execBusMasterEnable (dt : Nat) (master msix mask : Bool) (s : State) : Answer :=
  after s dt true (fun t => t.pciConfig master msix mask)

/-- I2C_TRANSACTION (R406). -/
def execI2cTransaction (dt addr : Nat) (write : Bool) (byte count : Nat) (s : State) : Answer :=
  after s dt true (fun t => t.i2c addr write byte count)

end Sys2Proof.Machine
end

