-- ==== Sys2Proof/Machine/TableRows.lean ====
section
/-! DEFINITION. Table upkeep (06_tables.md). One meaning per row of the command table. -/

namespace Sys2Proof.Machine

/-- TBL_FLUSH (R154). -/
def execTblFlush (dt : Nat) (value : Word) (be : Nat) (s : State) : Answer :=
  after s dt true (fun t => t.writeField Fld.TBL_FLUSH_CTRL_START 1 value be)

/-- TBL_FLUSH_DONE (R154). -/
def execTblFlushDone (dt : Nat) (s : State) : Answer :=
  after s dt true (fun t => t.flushDone)

/-- AGE_SWEEP_UNIT (R155). -/
def execAgeSweepUnit (dt p : Nat) (s : State) : Answer :=
  after s dt (decide (p < 4)) (fun t => t.ageUnit p)

/-- STASH_MOVE (R151). -/
def execStashMove (dt tb : Nat) (s : State) : Answer :=
  after s dt (decide (tb < 5)) (fun t => t.stashMove tb)

/-- TBL_SCRUB_UNIT (R168). -/
def execTblScrubUnit (dt tb : Nat) (bad : List (TblPlace × Bool)) (s : State) : Answer :=
  after s dt (decide (tb < 12)) (fun t => (t.upsetTables bad).tblUnit tb)

/-- TBL_PARITY_REPAIR (R168). -/
def execTblParityRepair (dt : Nat) (place : TblPlace) (s : State) : Answer :=
  after s dt true (fun t => t.repair place)

/-- FRER_ROGUE_INTERVAL_END (R160). -/
def execFrerRogueIntervalEnd (dt i : Nat) (s : State) : Answer :=
  after s dt (decide (i < 8192)) (fun t => t.frerRogueEnd i)

/-- FRER_DUP_BURST_CHECK (R160). -/
def execFrerDupBurstCheck (dt i : Nat) (s : State) : Answer :=
  after s dt (decide (i < 8192)) (fun t => t.frerBurst i)

/-- FRER_RESET_TIMER (R160). -/
def execFrerResetTimer (dt i : Nat) (s : State) : Answer :=
  after s dt (decide (i < 8192)) (fun t => t.frerReset i)

end Sys2Proof.Machine
end

