-- ==== Sys2Proof/Machine/TimeRows.lean ====
section
/-! DEFINITION. The time base (08_time_base.md). One meaning per row of the command table. -/

namespace Sys2Proof.Machine

/-- TIM_INC_TRANSFER (R198). -/
def execTimIncTransfer (dt : Nat) (s : State) : Answer :=
  after s dt true (fun t => t.transferInc)

/-- SLEW_START (R199). -/
def execSlewStart (dt : Nat) (value : Word) (be : Nat) (s : State) : Answer :=
  after s dt true (fun t => t.writeField Fld.TIM_SLEW_CTRL_START 1 value be)

/-- SLEW_CANCEL (R200). -/
def execSlewCancel (dt : Nat) (value : Word) (be : Nat) (s : State) : Answer :=
  after s dt true (fun t => t.writeField Fld.TIM_SLEW_CTRL_CANCEL 1 value be)

/-- SLEW_DONE (R200). -/
def execSlewDone (dt : Nat) (s : State) : Answer :=
  after s dt true (fun t => t.finishSlew)

/-- TIM_SNAP_CAPTURE (R216). -/
def execTimSnapCapture (dt : Nat) (s : State) : Answer :=
  after s dt true (fun t => t.takeSnap)

/-- TSF_READ (R215). -/
def execTsfRead (dt n : Nat) (s : State) : Answer :=
  after s dt (decide (n < 64)) (fun t => t.mmioRead (Reg.TIM_TSF_W0 n))

end Sys2Proof.Machine
end

