-- ==== Sys2Proof/Machine/TinRows.lean ====
section
/-! DEFINITION. Event timing inputs (11_event_timing.md). One meaning per row of the command table. -/

namespace Sys2Proof.Machine

/-- TIN_EDGE (R269). -/
def execTinEdge (dt i : Nat) (rising : Bool) (bin : Nat) (s : State) : Answer :=
  after s dt (decide (i < 16) && decide (bin < 512)) (fun t => t.tinEdge i rising bin)

/-- TIN_INTERVAL_TIMEOUT (R274). -/
def execTinIntervalTimeout (dt i : Nat) (s : State) : Answer :=
  after s dt (decide (i < 16)) (fun t => t.ticTimeout i)

/-- TIN_FREQ_GATE (R277). -/
def execTinFreqGate (dt i extra : Nat) (s : State) : Answer :=
  after s dt (decide (i < 16)) (fun t => t.freqGate i extra)

/-- TIN_ARM (R275). -/
def execTinArm (dt i : Nat) (value : Word) (be : Nat) (s : State) : Answer :=
  after s dt (decide (i < 16)) (fun t => t.writeField (Fld.TIC_CTRL_ARM i) 1 value be)

/-- TIN_DISARM (R275). -/
def execTinDisarm (dt i : Nat) (value : Word) (be : Nat) (s : State) : Answer :=
  after s dt (decide (i < 16)) (fun t => t.writeField (Fld.TIC_CTRL_DISARM i) 1 value be)

/-- TIC_CFG_WRITE (R276). -/
def execTicCfgWrite (dt i : Nat) (value : Word) (be : Nat) (s : State) : Answer :=
  after s dt (decide (i < 16)) (fun t => t.mmioWrite (Reg.TIC_CFG i) value (byteMask be))

/-- TIN_SETTING_APPLY (R285). -/
def execTinSettingApply (dt i : Nat) (s : State) : Answer :=
  after s dt (decide (i < 16)) (fun t => t.ticApply i)

/-- TIN_CAL_LAUNCH (R282). -/
def execTinCalLaunch (dt i : Nat) (s : State) : Answer :=
  after s dt (decide (i < 16)) (fun t => t.calLaunch i)

end Sys2Proof.Machine
end

