-- ==== Sys2Proof/Machine/TxnRows.lean ====
section
/-! DEFINITION. Images, restructuring and the steps of a commit (03_structure_and_transactions.md, R70..R85; R208). One meaning per row of the command table. -/

namespace Sys2Proof.Machine

/-- IMAGE_FLASH_WRITE_DONE (R70). -/
def execImageFlashWriteDone (dt : Nat) (ok : Bool) (op addr retries : Nat) (s : State) : Answer :=
  after s dt true (fun t => t.flashWriteDone ok op addr retries)

/-- RESTRUCTURE_QUEUE_DISCARD (R72). -/
def execRestructureQueueDiscard (dt g : Nat) (s : State) : Answer :=
  after s dt (decide (g < 4)) (fun t => t.restrDiscard g)

/-- RESTRUCTURE_PIPELINE_LOADED (R72). -/
def execRestructurePipelineLoaded (dt g : Nat) (s : State) : Answer :=
  after s dt (decide (g < 4)) (fun t => t.restrLoaded g)

/-- RESTRUCTURE_LANES_READY (R72). -/
def execRestructureLanesReady (dt g : Nat) (s : State) : Answer :=
  after s dt (decide (g < 4)) (fun t => t.restrReady g)

/-- TIME_STEP_APPLY (R208). -/
def execTimeStepApply (dt pick : Nat) (s : State) : Answer :=
  after s dt true (fun t => t.stepApply pick)

/-- TXN_DRAIN_DONE (R80). -/
def execTxnDrainDone (dt : Nat) (s : State) : Answer :=
  after s dt true (fun t => t.drainDone)

/-- TXN_DRAIN_LIMIT (R80). -/
def execTxnDrainLimit (dt : Nat) (s : State) : Answer :=
  after s dt true (fun t => t.drainLimit)

/-- TXN_DEADLINE_MISSED (R81). -/
def execTxnDeadlineMissed (dt : Nat) (s : State) : Answer :=
  after s dt true (fun t => t.deadline)

/-- TXN_APPLY (R79). -/
def execTxnApply (dt pick : Nat) (s : State) : Answer :=
  after s dt true (fun t => t.txnApply pick)

end Sys2Proof.Machine
end

