-- ==== Sys2Proof/Machine/Dispatch.lean ====
section
/-! DEFINITION. The meaning of every command, one arm per constructor. -/

namespace Sys2Proof.Machine

def exec (instr : Instr) (s : State) : Host.Outcome State Fault Refusal :=
  match instr with
  | .sqDoorbell dt n tail => Sys2Proof.Machine.execSqDoorbell dt n tail s
  | .commandFetch dt cmd pick buffer => Sys2Proof.Machine.execCommandFetch dt cmd pick buffer s
  | .cmdRegWrite dt tag => Sys2Proof.Machine.execCmdRegWrite dt tag s
  | .cmdRegRead dt tag => Sys2Proof.Machine.execCmdRegRead dt tag s
  | .cmdTblInsert dt tag pick => Sys2Proof.Machine.execCmdTblInsert dt tag pick s
  | .cmdTblDelete dt tag => Sys2Proof.Machine.execCmdTblDelete dt tag s
  | .cmdTblLookup dt tag => Sys2Proof.Machine.execCmdTblLookup dt tag s
  | .cmdTblRead dt tag => Sys2Proof.Machine.execCmdTblRead dt tag s
  | .cmdTxnBegin dt tag => Sys2Proof.Machine.execCmdTxnBegin dt tag s
  | .cmdTxnCommit dt tag => Sys2Proof.Machine.execCmdTxnCommit dt tag s
  | .cmdTxnRollback dt tag => Sys2Proof.Machine.execCmdTxnRollback dt tag s
  | .cmdImageLoad dt tag image => Sys2Proof.Machine.execCmdImageLoad dt tag image s
  | .imageFlashWriteDone dt ok op addr retries => Sys2Proof.Machine.execImageFlashWriteDone dt ok op addr retries s
  | .restructureQueueDiscard dt g => Sys2Proof.Machine.execRestructureQueueDiscard dt g s
  | .restructurePipelineLoaded dt g => Sys2Proof.Machine.execRestructurePipelineLoaded dt g s
  | .restructureLanesReady dt g => Sys2Proof.Machine.execRestructureLanesReady dt g s
  | .cmdCalRun dt tag => Sys2Proof.Machine.execCmdCalRun dt tag s
  | .cmdOutRealign dt tag => Sys2Proof.Machine.execCmdOutRealign dt tag s
  | .cmdTimeStep dt tag => Sys2Proof.Machine.execCmdTimeStep dt tag s
  | .timeStepApply dt pick => Sys2Proof.Machine.execTimeStepApply dt pick s
  | .cmdPairExchange dt tag => Sys2Proof.Machine.execCmdPairExchange dt tag s
  | .cmdLanePrbs dt tag => Sys2Proof.Machine.execCmdLanePrbs dt tag s
  | .cmdFence dt tag => Sys2Proof.Machine.execCmdFence dt tag s
  | .completionWrite dt => Sys2Proof.Machine.execCompletionWrite dt s
  | .dmaError dt ring kind dir access index addr tag => Sys2Proof.Machine.execDmaError dt ring kind dir access index addr tag s
  | .msixHoldoffExpiry dt v => Sys2Proof.Machine.execMsixHoldoffExpiry dt v s
  | .msixVectorUnmask dt v => Sys2Proof.Machine.execMsixVectorUnmask dt v s
  | .functionReset dt => Sys2Proof.Machine.execFunctionReset dt s
  | .eventRecordWrite dt => Sys2Proof.Machine.execEventRecordWrite dt s
  | .evtOverflowEnd dt => Sys2Proof.Machine.execEvtOverflowEnd dt s
  | .evtHeldFlush dt => Sys2Proof.Machine.execEvtHeldFlush dt s
  | .evtCoalesceWindowEnd dt src scope => Sys2Proof.Machine.execEvtCoalesceWindowEnd dt src scope s
  | .cpuTxDoorbell dt tail => Sys2Proof.Machine.execCpuTxDoorbell dt tail s
  | .cpuTxFrame dt descs data access => Sys2Proof.Machine.execCpuTxFrame dt descs data access s
  | .cpuRxDeliver dt addrs => Sys2Proof.Machine.execCpuRxDeliver dt addrs s
  | .frameReceive dt n data a bad => Sys2Proof.Machine.execFrameReceive dt n data a bad s
  | .learnInsert dt p pick behind => Sys2Proof.Machine.execLearnInsert dt p pick behind s
  | .frameTransmit dt n beats start33 flips => Sys2Proof.Machine.execFrameTransmit dt n beats start33 flips s
  | .framePreempt dt n => Sys2Proof.Machine.execFramePreempt dt n s
  | .portHoldExpiry dt n => Sys2Proof.Machine.execPortHoldExpiry dt n s
  | .pfcXoffRefresh dt n fill => Sys2Proof.Machine.execPfcXoffRefresh dt n fill s
  | .pfcFrameReceive dt n named => Sys2Proof.Machine.execPfcFrameReceive dt n named s
  | .llpFrameReceive dt n time => Sys2Proof.Machine.execLlpFrameReceive dt n time s
  | .pauseExpiry dt n k => Sys2Proof.Machine.execPauseExpiry dt n k s
  | .pauseStormStart dt n k => Sys2Proof.Machine.execPauseStormStart dt n k s
  | .pauseStormEnd dt n k => Sys2Proof.Machine.execPauseStormEnd dt n k s
  | .bufScrubUnit dt b hard flips => Sys2Proof.Machine.execBufScrubUnit dt b hard flips s
  | .malformedRateSecond dt n => Sys2Proof.Machine.execMalformedRateSecond dt n s
  | .lanTxFirWrite dt l value be => Sys2Proof.Machine.execLanTxFirWrite dt l value be s
  | .adaptDone dt l ctle => Sys2Proof.Machine.execAdaptDone dt l ctle s
  | .linkDown dt n => Sys2Proof.Machine.execLinkDown dt n s
  | .linkUp dt n => Sys2Proof.Machine.execLinkUp dt n s
  | .flapRecover dt n => Sys2Proof.Machine.execFlapRecover dt n s
  | .amLockLost dt n pcs lane => Sys2Proof.Machine.execAmLockLost dt n pcs lane s
  | .deskewRetry dt n => Sys2Proof.Machine.execDeskewRetry dt n s
  | .anRefused dt n => Sys2Proof.Machine.execAnRefused dt n s
  | .portEnable dt n value be => Sys2Proof.Machine.execPortEnable dt n value be s
  | .portDisable dt n value be => Sys2Proof.Machine.execPortDisable dt n value be s
  | .portFecChange dt n fec value be => Sys2Proof.Machine.execPortFecChange dt n fec value be s
  | .lanPrbsCfgWrite dt l value be => Sys2Proof.Machine.execLanPrbsCfgWrite dt l value be s
  | .prbsInjectSingle dt l => Sys2Proof.Machine.execPrbsInjectSingle dt l s
  | .prbsInjectBurst dt l => Sys2Proof.Machine.execPrbsInjectBurst dt l s
  | .prbsLockChange dt l on errs bits => Sys2Proof.Machine.execPrbsLockChange dt l on errs bits s
  | .prbsIntervalEnd dt l errs bits => Sys2Proof.Machine.execPrbsIntervalEnd dt l errs bits s
  | .tblFlush dt value be => Sys2Proof.Machine.execTblFlush dt value be s
  | .tblFlushDone dt => Sys2Proof.Machine.execTblFlushDone dt s
  | .ageSweepUnit dt p => Sys2Proof.Machine.execAgeSweepUnit dt p s
  | .stashMove dt tb => Sys2Proof.Machine.execStashMove dt tb s
  | .tblScrubUnit dt tb bad => Sys2Proof.Machine.execTblScrubUnit dt tb bad s
  | .tblParityRepair dt place => Sys2Proof.Machine.execTblParityRepair dt place s
  | .frerRogueIntervalEnd dt i => Sys2Proof.Machine.execFrerRogueIntervalEnd dt i s
  | .frerDupBurstCheck dt i => Sys2Proof.Machine.execFrerDupBurstCheck dt i s
  | .frerResetTimer dt i => Sys2Proof.Machine.execFrerResetTimer dt i s
  | .preemptVerifyTimer dt n => Sys2Proof.Machine.execPreemptVerifyTimer dt n s
  | .preemptVerifyResponse dt n bad => Sys2Proof.Machine.execPreemptVerifyResponse dt n bad s
  | .gclEntryWrite dt n value be => Sys2Proof.Machine.execGclEntryWrite dt n value be s
  | .gateConfigChange dt n value be => Sys2Proof.Machine.execGateConfigChange dt n value be s
  | .gateEnable dt n value be => Sys2Proof.Machine.execGateEnable dt n value be s
  | .gateDisable dt n value be => Sys2Proof.Machine.execGateDisable dt n value be s
  | .gateListStart dt n => Sys2Proof.Machine.execGateListStart dt n s
  | .gateEntryChange dt n => Sys2Proof.Machine.execGateEntryChange dt n s
  | .timIncTransfer dt => Sys2Proof.Machine.execTimIncTransfer dt s
  | .slewStart dt value be => Sys2Proof.Machine.execSlewStart dt value be s
  | .slewCancel dt value be => Sys2Proof.Machine.execSlewCancel dt value be s
  | .slewDone dt => Sys2Proof.Machine.execSlewDone dt s
  | .timSnapCapture dt => Sys2Proof.Machine.execTimSnapCapture dt s
  | .tsfRead dt n => Sys2Proof.Machine.execTsfRead dt n s
  | .lanternEnable dt n value be => Sys2Proof.Machine.execLanternEnable dt n value be s
  | .lanternDisable dt n value be => Sys2Proof.Machine.execLanternDisable dt n value be s
  | .lanternSetOffer dt n idle beats => Sys2Proof.Machine.execLanternSetOffer dt n idle beats s
  | .lanternWordReceive dt n blocks => Sys2Proof.Machine.execLanternWordReceive dt n blocks s
  | .lanternBlockReport dt n => Sys2Proof.Machine.execLanternBlockReport dt n s
  | .lanternReportSparse dt n => Sys2Proof.Machine.execLanternReportSparse dt n s
  | .lanternReportRead dt n => Sys2Proof.Machine.execLanternReportRead dt n s
  | .lanternWordTimeout dt n => Sys2Proof.Machine.execLanternWordTimeout dt n s
  | .lanternSuspendEnd dt n => Sys2Proof.Machine.execLanternSuspendEnd dt n s
  | .lanternBadCountReset dt => Sys2Proof.Machine.execLanternBadCountReset dt s
  | .phsAsymWrite dt n k value be => Sys2Proof.Machine.execPhsAsymWrite dt n k value be s
  | .swapCaptureBefore dt n value be => Sys2Proof.Machine.execSwapCaptureBefore dt n value be s
  | .swapCaptureAfter dt n value be => Sys2Proof.Machine.execSwapCaptureAfter dt n value be s
  | .swapAbort dt n value be => Sys2Proof.Machine.execSwapAbort dt n value be s
  | .swapAvgEnd dt n => Sys2Proof.Machine.execSwapAvgEnd dt n s
  | .swapGapTimeout dt n => Sys2Proof.Machine.execSwapGapTimeout dt n s
  | .refSlotCfgWrite dt k quality value be => Sys2Proof.Machine.execRefSlotCfgWrite dt k quality value be s
  | .refSlotFault dt k code off dev => Sys2Proof.Machine.execRefSlotFault dt k code off dev s
  | .refSlotFaultEnd dt k code off => Sys2Proof.Machine.execRefSlotFaultEnd dt k code off s
  | .refValidateExpiry dt k off => Sys2Proof.Machine.execRefValidateExpiry dt k off s
  | .refWtrExpiry dt k off => Sys2Proof.Machine.execRefWtrExpiry dt k off s
  | .refDisagreeDetect dt i j di dj => Sys2Proof.Machine.execRefDisagreeDetect dt i j di dj s
  | .refDisagreeClear dt i j agreed di dj => Sys2Proof.Machine.execRefDisagreeClear dt i j agreed di dj s
  | .refSwitchHandover dt time x => Sys2Proof.Machine.execRefSwitchHandover dt time x s
  | .dpllCompareCycle dt ps => Sys2Proof.Machine.execDpllCompareCycle dt ps s
  | .holdoverSecond dt rate coef => Sys2Proof.Machine.execHoldoverSecond dt rate coef s
  | .wickUpdate dt => Sys2Proof.Machine.execWickUpdate dt s
  | .timeSlotEdge dt k back ptp => Sys2Proof.Machine.execTimeSlotEdge dt k back ptp s
  | .virtFreqWrite dt value be => Sys2Proof.Machine.execVirtFreqWrite dt value be s
  | .xppsDeclArm dt i value be => Sys2Proof.Machine.execXppsDeclArm dt i value be s
  | .gnssSentence dt sentence => Sys2Proof.Machine.execGnssSentence dt sentence s
  | .irigFrame dt format symbols => Sys2Proof.Machine.execIrigFrame dt format symbols s
  | .outStartRequest dt k value be => Sys2Proof.Machine.execOutStartRequest dt k value be s
  | .outStart dt k => Sys2Proof.Machine.execOutStart dt k s
  | .outClockAutoRealigned dt k => Sys2Proof.Machine.execOutClockAutoRealigned dt k s
  | .outRealignEdge dt k => Sys2Proof.Machine.execOutRealignEdge dt k s
  | .tinEdge dt i rising bin => Sys2Proof.Machine.execTinEdge dt i rising bin s
  | .tinIntervalTimeout dt i => Sys2Proof.Machine.execTinIntervalTimeout dt i s
  | .tinFreqGate dt i extra => Sys2Proof.Machine.execTinFreqGate dt i extra s
  | .tinArm dt i value be => Sys2Proof.Machine.execTinArm dt i value be s
  | .tinDisarm dt i value be => Sys2Proof.Machine.execTinDisarm dt i value be s
  | .ticCfgWrite dt i value be => Sys2Proof.Machine.execTicCfgWrite dt i value be s
  | .tinSettingApply dt i => Sys2Proof.Machine.execTinSettingApply dt i s
  | .tinCalLaunch dt i => Sys2Proof.Machine.execTinCalLaunch dt i s
  | .interpCalDone dt j fault taps hits => Sys2Proof.Machine.execInterpCalDone dt j fault taps hits s
  | .phaseDetCalDone dt j samples steps table => Sys2Proof.Machine.execPhaseDetCalDone dt j samples steps table s
  | .portCalDone dt n sum trip rxCells txCells => Sys2Proof.Machine.execPortCalDone dt n sum trip rxCells txCells s
  | .portCalAbandon dt n => Sys2Proof.Machine.execPortCalAbandon dt n s
  | .portCalRetry dt n => Sys2Proof.Machine.execPortCalRetry dt n s
  | .outputCalDone dt k errs cells => Sys2Proof.Machine.execOutputCalDone dt k errs cells s
  | .calTempTrigger dt k temp => Sys2Proof.Machine.execCalTempTrigger dt k temp s
  | .oscRecentre dt i volt => Sys2Proof.Machine.execOscRecentre dt i volt s
  | .energyTally dt meters core rings oven flash => Sys2Proof.Machine.execEnergyTally dt meters core rings oven flash s
  | .flashHousekeepingUnit dt kind ok addr retries => Sys2Proof.Machine.execFlashHousekeepingUnit dt kind ok addr retries s
  | .pipelineSlow dt p cap fill => Sys2Proof.Machine.execPipelineSlow dt p cap fill s
  | .coreRailNominal dt caps fills => Sys2Proof.Machine.execCoreRailNominal dt caps fills s
  | .domainFault dt d cause mv ma => Sys2Proof.Machine.execDomainFault dt d cause mv ma s
  | .domainRestore dt d => Sys2Proof.Machine.execDomainRestore dt d s
  | .thermWarn dt => Sys2Proof.Machine.execThermWarn dt s
  | .thermHot dt => Sys2Proof.Machine.execThermHot dt s
  | .thermCool dt => Sys2Proof.Machine.execThermCool dt s
  | .throttlePeriod dt => Sys2Proof.Machine.execThrottlePeriod dt s
  | .thermalTrip dt => Sys2Proof.Machine.execThermalTrip dt s
  | .thermalTripRestart dt temps => Sys2Proof.Machine.execThermalTripRestart dt temps s
  | .supplyWarn dt main aux => Sys2Proof.Machine.execSupplyWarn dt main aux s
  | .supplyRecovered dt main aux => Sys2Proof.Machine.execSupplyRecovered dt main aux s
  | .supplyReset dt main => Sys2Proof.Machine.execSupplyReset dt main s
  | .coldStart dt => Sys2Proof.Machine.execColdStart dt s
  | .oscWarm dt oven temp => Sys2Proof.Machine.execOscWarm dt oven temp s
  | .oscFault dt cause oven temp => Sys2Proof.Machine.execOscFault dt cause oven temp s
  | .powerGood dt bad => Sys2Proof.Machine.execPowerGood dt bad s
  | .bootImageLoad dt ok0 ok1 bad0 bad1 => Sys2Proof.Machine.execBootImageLoad dt ok0 ok1 bad0 bad1 s
  | .moduleReset dt => Sys2Proof.Machine.execModuleReset dt s
  | .coreReset dt => Sys2Proof.Machine.execCoreReset dt s
  | .coreResetEnd dt => Sys2Proof.Machine.execCoreResetEnd dt s
  | .controllerRestart dt => Sys2Proof.Machine.execControllerRestart dt s
  | .controllerWatchdog dt => Sys2Proof.Machine.execControllerWatchdog dt s
  | .ejectLatch dt => Sys2Proof.Machine.execEjectLatch dt s
  | .ejectHost dt => Sys2Proof.Machine.execEjectHost dt s
  | .hotplugReady dt => Sys2Proof.Machine.execHotplugReady dt s
  | .surpriseRemoval dt pres => Sys2Proof.Machine.execSurpriseRemoval dt pres s
  | .ejectCancel dt => Sys2Proof.Machine.execEjectCancel dt s
  | .txnDrainDone dt => Sys2Proof.Machine.execTxnDrainDone dt s
  | .txnDrainLimit dt => Sys2Proof.Machine.execTxnDrainLimit dt s
  | .txnDeadlineMissed dt => Sys2Proof.Machine.execTxnDeadlineMissed dt s
  | .txnApply dt pick => Sys2Proof.Machine.execTxnApply dt pick s
  | .claimWordReceive dt word => Sys2Proof.Machine.execClaimWordReceive dt word s
  | .claimWireSilence dt => Sys2Proof.Machine.execClaimWireSilence dt s
  | .claimWireChange dt ready hold nets => Sys2Proof.Machine.execClaimWireChange dt ready hold nets s
  | .healthPublish dt => Sys2Proof.Machine.execHealthPublish dt s
  | .mirEnable dt value be => Sys2Proof.Machine.execMirEnable dt value be s
  | .mirDisable dt value be => Sys2Proof.Machine.execMirDisable dt value be s
  | .mirLaneChange dt lane up => Sys2Proof.Machine.execMirLaneChange dt lane up s
  | .claimSend dt => Sys2Proof.Machine.execClaimSend dt s
  | .claimMsg dt session seq good claim roles state age take image epoch => Sys2Proof.Machine.execClaimMsg dt session seq good claim roles state age take image epoch s
  | .partnerSilent dt => Sys2Proof.Machine.execPartnerSilent dt s
  | .syncData dt session seq good items => Sys2Proof.Machine.execSyncData dt session seq good items s
  | .syncDone dt session seq good instant epoch => Sys2Proof.Machine.execSyncDone dt session seq good instant epoch s
  | .syncApply dt => Sys2Proof.Machine.execSyncApply dt s
  | .syncTimeout dt => Sys2Proof.Machine.execSyncTimeout dt s
  | .txnPrepare dt session seq good id tag epoch instant at96 items => Sys2Proof.Machine.execTxnPrepare dt session seq good id tag epoch instant at96 items s
  | .txnVote dt session seq good id yes => Sys2Proof.Machine.execTxnVote dt session seq good id yes s
  | .txnDecision dt session seq good id yes => Sys2Proof.Machine.execTxnDecision dt session seq good id yes s
  | .changeMsg dt session seq good item => Sys2Proof.Machine.execChangeMsg dt session seq good item s
  | .handleReq dt session seq good code pick data => Sys2Proof.Machine.execHandleReq dt session seq good code pick data s
  | .timeStateSend dt => Sys2Proof.Machine.execTimeStateSend dt s
  | .timeState dt session seq good dpll fsel tsel ho warm wick entry host => Sys2Proof.Machine.execTimeState dt session seq good dpll fsel tsel ho warm wick entry host s
  | .frerWindowSend dt => Sys2Proof.Machine.execFrerWindowSend dt s
  | .frerWindow dt session seq good i recov hist => Sys2Proof.Machine.execFrerWindow dt session seq good i recov hist s
  | .journalMark dt session seq good tag state ring opcode cookie => Sys2Proof.Machine.execJournalMark dt session seq good tag state ring opcode cookie s
  | .exchange dt session seq good instant pref => Sys2Proof.Machine.execExchange dt session seq good instant pref s
  | .exchangeAck dt session seq good cause => Sys2Proof.Machine.execExchangeAck dt session seq good cause s
  | .exchangeDrainDone dt => Sys2Proof.Machine.execExchangeDrainDone dt s
  | .exchangeDrainTimeout dt => Sys2Proof.Machine.execExchangeDrainTimeout dt s
  | .exchangeApply dt => Sys2Proof.Machine.execExchangeApply dt s
  | .mirOffsetReport dt => Sys2Proof.Machine.execMirOffsetReport dt s
  | .mirOffsetRead dt => Sys2Proof.Machine.execMirOffsetRead dt s
  | .mirHostStateSend dt value be => Sys2Proof.Machine.execMirHostStateSend dt value be s
  | .registerWrite dt off value be => Sys2Proof.Machine.execRegisterWrite dt off value be s
  | .signalDetect dt l on => Sys2Proof.Machine.execSignalDetect dt l on s
  | .blockLockChange dt n kind on skew early late own counts => Sys2Proof.Machine.execBlockLockChange dt n kind on skew early late own counts s
  | .busMasterEnable dt master msix mask => Sys2Proof.Machine.execBusMasterEnable dt master msix mask s
  | .i2cTransaction dt addr write byte count => Sys2Proof.Machine.execI2cTransaction dt addr write byte count s
  | .startUpDomainsOn dt => Sys2Proof.Machine.execStartUpDomainsOn dt s
  | .startUpLanesTrained dt => Sys2Proof.Machine.execStartUpLanesTrained dt s
  | .controllerRestartEnd dt => Sys2Proof.Machine.execControllerRestartEnd dt s

end Sys2Proof.Machine
end

