-- ==== Sys2Proof/Safety.lean ====
section
/-! DEFINITION. What a safe run is, and the notions that claims share: waiting commands in order, the state in which a write finds
its register, the register store in canonical form. -/

namespace Sys2Proof.Machine

/-- A state is safe when its step goes on: no fault and no refusal. -/
def State.Safe (s : State) : Prop := ∃ t, step s = .next t

/-- Every waiting command is well formed. -/
def State.queueOk (s : State) : Bool := s.pending.all Instr.wf

/-- The register store is in canonical form: offsets strictly rising, none listed at its reset value. -/
def State.regsOk (s : State) : Bool := Store.wf regReset s.regs

/-- The set of words that a write of a register puts in force (R386, R387). -/
def State.writeList (s : State) (off : Nat) (value mask : Word) : List (Nat × StagedReg) :=
  match findReg off with
  | none => []
  | some (r, n, _) => (s.noteHostReg off mask).writeSet r off value (s.reach r n mask)

/-- The state in which a host write that has passed its checks finds its register: a commit whose instant has come has taken effect
(R389), a conflict with the open transaction is known (R78), held words have been taken up (R387), a frame of the older epoch sees the
bits too, and mirrored bits have gone to the partner (R322). -/
def State.atWrite (s : State) (off : Nat) (value mask : Word) : State :=
  let l := s.dueFirst.writeList off value mask
  (((s.dueFirst.noteHostReg off mask).dropHeld l).dropOld l).carry l

/-- Does a write of a register by MMIO reach it: the endpoint's domain is on, and no check fails (R372, R385)? -/
def State.takesWrite (s : State) (off : Nat) (value mask : Word) : Bool :=
  s.domainOn 4 && (s.dueFirst.writeFault false off value mask).isNone

/-- The word that a write leaves in its register: bits merged by their access codes, in the bits that the write can reach (R9, R386). -/
def State.writtenWord (s : State) (off : Nat) (value mask : Word) : Word :=
  match findReg off with
  | none => 0
  | some (r, n, _) => r.merge ((s.atWrite off value mask).reg off) value (s.dueFirst.reach r n mask)

/-- The bits of its register that a write reaches. -/
def State.reached (s : State) (off : Nat) (mask : Word) : Word :=
  match findReg off with
  | none => 0
  | some (r, n, _) => s.dueFirst.reach r n mask

/-- The write-1-to-set bits that a write sets. -/
def State.pulsed (s : State) (off : Nat) (value mask : Word) : Word :=
  match findReg off with
  | none => 0
  | some (r, n, _) => value &&& s.dueFirst.reach r n mask &&& r.w1s

/-- The state in which a write has put its word into its register and has yet to take effect on what the register governs. -/
def State.written (s : State) (off : Nat) (value mask : Word) : State :=
  (s.atWrite off value mask).setReg off (s.writtenWord off value mask)

/-- The bits that a row selects which gives a field its value: the field's byte and those of the byte enables. -/
def FieldRef.select (f : FieldRef) (be : Nat) : Word := byteMask be ||| byteMask (2 ^ (f.lo / 8))

end Sys2Proof.Machine
end

