-- ==== Sys2Proof/Certificates/Slice0/Obligations.lean ====
section
/-! DEFINITION. The statements about this model that are to be proved. -/

open Sys2Proof Sys2Proof.Machine

/-- Where a command c stands at the front of the waiting commands of a state, the step of that state is exec of c on the
state whose queue is the rest. It is the model's queue of commands (log 1). (01_architecture.md) -/
def Obligations.StepRunsFrontCommand : Prop :=
  ∀ (s : State) (c : Instr) (rest : List Instr), s.pending = c :: rest → step s = exec c { s with pending := rest }

/-- From any state with an empty queue, no transmission in progress, no record waiting for the TIC ring and the raw health
score as it was last seen, an increment in its range and a slew within its rate limit: the state after k steps has the
clock k ticks on and, with the main domain on, module time run for k ticks, and is otherwise the same in every
register, table, queue and buffer; each step goes on to the next; and a slew of A over N ticks that begins there has
after N steps added exactly A to what the increment alone counts. That an idle step is one tick is the choice of the
model (log 1). (R196, R198, R199, 08_time_base.md) -/
def Obligations.AnIdleBlockOnlyCountsTimeAndSlewsInFull : Prop :=
  ∀ (s : State), s.pending = [] → s.sending = [] → ringWaiting s.tin = 0 → s.rawScore = s.rawHeld.1 → incOk s.time.inc = true →
    (∀ w, s.time.slew = some w → w.done ≤ w.n ∧ slewRateOk w.amt w.n = true) →
    let run := fun (k : Nat) => { s with clk := s.clk + k, time := if s.domainOn 2 then s.time.run k else s.time };
    run 0 = s ∧ (∀ k, step (run k) = .next (run (k + 1))) ∧ (∀ k, (run k).time.inc = s.time.inc) ∧
    (s.domainOn 2 = true → s.time.slew = none → ∀ k, (run k).time.now = s.time.now + s.time.inc * k) ∧
    (s.domainOn 2 = true → ∀ a n, s.time.slew = some ⟨a, n, 0⟩ → 0 < n →
      ((run n).time.now : Int) = s.time.now + s.time.inc * n + a * 2 ^ 24 ∧ (run n).time.slew = some ⟨a, n, n⟩)

/-- For every state, whatever command is at the front of its queue and whatever its operands, the step answers a next
state. A command whose condition does not hold leaves the state as time has left it (log 4).
(16_violations_and_faults.md) -/
def Obligations.EveryStepGoesOn : Prop :=
  ∀ (s : State), s.Safe

/-- The invariant of the queue: if every waiting command is well formed, then after a step the queue is the old one
without its front, every command in it is well formed, and the SLOT_ID strap, the grade and the value of GEN_ID are
what they were, whichever of the 213 commands was carried out. (00_scope.md) -/
def Obligations.StepKeepsQueueOrderStrapAndGrade : Prop :=
  ∀ (s t : State), s.queueOk = true → step s = .next t →
    t.queueOk = true ∧ t.pending = s.pending.tail ∧ t.slotA = s.slotA ∧ t.gradeEx = s.gradeEx ∧ t.idWord = s.idWord

/-- State.reset meets the invariant of the queue, and GEN_ID has PART 0x6440, GRADE 1 (EX, the grade that log 3 gives the
model) and STEPPING 0x42. (00_scope.md) -/
def Obligations.QueueInvariantHoldsAtReset : Prop :=
  State.reset.queueOk = true ∧ State.reset.regsOk = true ∧ Fld.GEN_ID_PART.of State.reset.idWord = 0x6440 ∧
    Fld.GEN_ID_GRADE.of State.reset.idWord = 1 ∧ Fld.GEN_ID_STEPPING.of State.reset.idWord = 0x42

/-- A tag's command of an opcode may begin in a state exactly when the journal holds its entry in RECEIVED and not begun,
the entry has that opcode, the domain of the host interface is on, no earlier command of the journal holds it back
under the ordering rules, and DMA may be issued where it reads a buffer or an image. (R31, R45, 02_host_interface.md) -/
def Obligations.CommandBeginsOnlyWhenItsTurnHasCome : Prop :=
  ∀ (s : State) (tag op : Nat) (e : JEntry), s.startable tag op = some e ↔
    (s.jget tag = some e ∧ e.st = .received ∧ e.started = false ∧ e.opcode = op ∧ s.domainOn 4 = true ∧
      (∀ p ∈ s.hif.journal, ∀ x, p.2 = some x → holdsBack x e = false) ∧
      (e.indirect = true ∨ op = 0x30 → s.dmaOk = true))

/-- Ending the command of a tag in flight with a status and two results makes its journal entry DONE with a completion of
that status, those results and the present module time, appends the tag to the completions prepared, and leaves every
other journal entry, the tables, the buffer, the ports, the transaction and module time as they were; outside a pair
in service no register changes and nothing is sent. (R43, R44, R46) -/
def Obligations.EndOfCommandPreparesOneCompletion : Prop :=
  ∀ (s : State) (tag status a b : Nat) (e : JEntry), s.jget tag = some e →
    let t := s.finish tag status a b
    t.jget tag = some { e with st := .done, comp := ⟨status, a, b, s.now16⟩ } ∧
    (∀ other, other ≠ tag → t.jget other = s.jget other) ∧
    t.hif.doneQ = s.hif.doneQ ++ [tag] ∧
    t.tbl = s.tbl ∧ t.buf = s.buf ∧ t.ports = s.ports ∧ t.txn = s.txn ∧ t.time = s.time ∧ t.evt = s.evt ∧ t.clk = s.clk ∧
    (s.mirrors = false → t.regs = s.regs ∧ t.outbox = s.outbox ∧ t.mir = s.mir)

/-- Rejecting the command of a tag in flight for a reason adds one to HIF_MALFORMED_CNT and makes the entry DONE with
status 0x10 and RESULT_A the reason; while PD4 is on it counts event 91 in EVT_SRC_CNT; the tables, the buffer and the
transaction do not change. (R42, R60, R41) -/
def Obligations.RejectedCommandIsCountedAndCompletesMalformed : Prop :=
  ∀ (s : State) (tag reason place : Nat) (e : JEntry), s.jget tag = some e →
    let t := s.malformed tag reason place
    t.reg Reg.HIF_MALFORMED_CNT = s.reg Reg.HIF_MALFORMED_CNT + 1 ∧
    t.jget tag = some { e with st := .done, comp := ⟨0x10, reason, 0, s.now16⟩ } ∧
    t.hif.doneQ = s.hif.doneQ ++ [tag] ∧
    (s.domainOn 4 = true → t.reg (Reg.EVT_SRC_CNT 91) = s.reg (Reg.EVT_SRC_CNT 91) + 1) ∧
    t.tbl = s.tbl ∧ t.buf = s.buf ∧ t.txn = s.txn ∧ t.time = s.time

/-- When its turn has come: CMD_REG_READ of a mapped offset without STAGED_READ completes OK with the register's word, and
makes the change that such a read makes; CMD_REG_WRITE outside a transaction whose checks find nothing is marked,
carried out and completed; CMD_REG_WRITE that names the open transaction and passes the staging checks stages its bits
and completes OK. Completion: cmdRegRead (its command may begin, the offset is mapped, no STAGED_READ); cmdRegWrite
(its command may begin, and the checks of the write or of the staging find nothing). (R39, R75, R77, R412) -/
def Obligations.RegisterCommandsComplete : Prop :=
  ∀ (s u : State) (dt tag : Nat) (e : JEntry), u = s.advance dt → tag < 512 →
    (∀ r, u.startable tag 0x02 = some e → findReg (e.op 16 4) = some r → e.stagedRead = false →
      exec (.cmdRegRead dt tag) s = .next
        (((u.hostRead (e.op 16 4)).2.finish tag 0 (u.hostRead (e.op 16 4)).1.toNat 0).keeping s)) ∧
    (u.startable tag 0x01 = some e → e.txn = 0 →
      u.dueFirst.writeFault true (e.op 16 4) (BitVec.ofNat 32 (e.op 20 4)) (BitVec.ofNat 32 (e.op 24 4)) = none →
      exec (.cmdRegWrite dt tag) s = .next
        ((((u.dueFirst.mark tag).writeDone (e.op 16 4) (BitVec.ofNat 32 (e.op 20 4)) (BitVec.ofNat 32 (e.op 24 4))).finishMarked tag).keeping s)) ∧
    (∀ x, u.startable tag 0x01 = some e → e.txn ≠ 0 → u.txn.open_ = some x → x.id = e.txn → u.txnState = 1 →
      u.stageFault (e.op 16 4) (BitVec.ofNat 32 (e.op 20 4)) (BitVec.ofNat 32 (e.op 24 4)) = none →
      exec (.cmdRegWrite dt tag) s = .next
        ((((u.mark tag).stageReg (e.op 16 4) (BitVec.ofNat 32 (e.op 20 4)) (BitVec.ofNat 32 (e.op 24 4))).finish tag 0 0 0).keeping s))

/-- When its turn has come and its form is right: an insert outside a transaction, which needs no handle of a pair's
owner, places the entry and completes OK with its handle and whether it replaced one; a delete that finds an
unreferenced entry removes it and completes OK; a lookup by key that finds an entry, one of an address whose trie walk
ends in a route, and a read of a live handle whose index map is good, answer with that entry; finding none they
complete NOT_FOUND; a bad trie or index map entry is event 51 and PARITY. Completion: cmdTblInsert, cmdTblDelete,
cmdTblLookup, cmdTblRead (each where its command may begin and its operands pass the checks named). (R141, R142, R148,
R150, R168, R322) -/
def Obligations.TableCommandsComplete : Prop :=
  ∀ (s u w : State) (dt tag pick : Nat) (e : JEntry), u = s.advance dt → w = u.dueFirst → tag < 512 →
    (∀ p, let code := e.op 16 1
      let d := e.data (insertLen code)
      let key := replacedHandle code d
      let v := w.noteHostTable code (if keyless code && key != noHandle then some (key % 2 ^ 24) else none) (some p)
      let r := v.insertEntry code pick visBoth key p
      w.startable tag 0x10 = some e → e.txn = 0 → insertLen code ≠ 0 → lengthOk e (insertLen code) = true →
      parseInsert w.now16 code d = .ok p → v.insertFault 0 pick key p = none → (v.asksOwner && (key == noHandle || (v.byHandle code key).isSome)) = false → r.status = 0 →
      exec (.cmdTblInsert dt tag pick) s = .next
        (((((r.s.mark tag).changeEntry 1 code r.handle d).settle).finish tag 0 r.handle (if r.replaced then 1 else 0)).keeping s)) ∧
    (∀ q tb, let v := w.noteHostTable (e.op 16 1) (some (e.op 20 4 % 2 ^ 24)) none
      w.startable tag 0x11 = some e → e.txn = 0 → e.op 20 4 ≠ noHandle → tableOf (e.op 16 1) = some tb → lengthOk e 0 = true →
      v.deleteTarget (e.op 16 1) (e.op 20 4) none = some q → v.refCount tb q.entry.index = 0 →
      exec (.cmdTblDelete dt tag) s = .next
        ((((((v.mark tag).deleteEntry (e.op 16 1) q).tellDelete (e.op 16 1) (q.entry.handle tb)).settle).finish tag 0 0 0).keeping s)) ∧
    (∀ q tb, u.startable tag 0x12 = some e → tableOf (e.op 16 1) = some tb → lookupLen (e.op 16 1) ≠ 0 →
      e.op 16 1 ≠ 0x30 → e.op 16 1 ≠ 0x31 → lengthOk e (lookupLen (e.op 16 1)) = true → u.lookupKey (e.op 16 1) tb (e.data (lookupLen (e.op 16 1))) = .ok q →
      exec (.cmdTblLookup dt tag) s = .next
        ((match q with | some q => u.answerEntry tag tb e q | none => u.finish tag 0x21 0 0).keeping s)) ∧
    (∀ v6, u.startable tag 0x12 = some e → e.op 16 1 = (if v6 then 0x31 else 0x30) →
      let want := lookupLen (e.op 16 1)
      lengthOk e want = true →
      exec (.cmdTblLookup dt tag) s = .next ((match u.trieFind v6 u.parity (beAt (e.data want) 0 want) with
        | .miss => u.finish tag 0x21 0 0
        | .bad st key => (u.foundTrie v6 st key 1).finish tag 0x40 0 0
        | .leaf i => match u.byIndex (lpmTable v6) u.parity i with
          | some q => u.answerEntry tag (lpmTable v6) e q
          | none => u.finish tag 0x21 0 0).keeping s)) ∧
    (∀ tb q, u.startable tag 0x13 = some e → tableOf (e.op 16 1) = some tb → e.op 18 2 = 0 →
      u.byHandle (e.op 16 1) (e.op 20 4) = some q → u.mapBad tb q.entry.index = true →
      exec (.cmdTblRead dt tag) s = .next (((u.foundMap tb q.entry.index 1).finish tag 0x40 0 0).keeping s)) ∧
    (∀ tb, u.startable tag 0x13 = some e → tableOf (e.op 16 1) = some tb → e.op 18 2 = 0 →
      (∀ q, u.byHandle (e.op 16 1) (e.op 20 4) = some q → u.mapBad tb q.entry.index = false) →
      exec (.cmdTblRead dt tag) s = .next
        ((match u.byHandle (e.op 16 1) (e.op 20 4) with | some q => u.answerEntry tag tb e q | none => u.finish tag 0x21 0 0).keeping s))

/-- When its turn has come: BEGIN with no transaction open gives the next TXN_ID, never 0, opens an empty transaction of
that number, shows OPEN and TXN_OPEN_ID, and completes OK with the number; ROLLBACK of the open transaction while it
is OPEN discards its staging and completes OK; an immediate COMMIT that validates with no older frame and no pair in
service enters WAIT_TIME with its instant now and the next epoch, marked. Completion: cmdTxnBegin, cmdTxnRollback,
cmdTxnCommit (each where its command may begin and the state of the transaction is as named). (R74, R82, R83, R79,
R85) -/
def Obligations.TransactionCommandsComplete : Prop :=
  ∀ (s u : State) (dt tag : Nat) (e : JEntry), u = s.advance dt → tag < 512 →
    (u.startable tag 0x20 = some e → u.txn.open_ = none →
      nextTxnId u.txn.lastId ≠ 0 ∧ ∃ t, exec (.cmdTxnBegin dt tag) s = .next t ∧
        t.txn.lastId = nextTxnId u.txn.lastId ∧ t.txn.open_ = some { id := nextTxnId u.txn.lastId } ∧
        t.f Fld.TXN_STATUS_STATE = 1 ∧
        t.reg Reg.TXN_OPEN_ID = BitVec.ofNat 32 (nextTxnId u.txn.lastId) ∧
        t.jget tag = some { e with st := .done, comp := ⟨0, nextTxnId u.txn.lastId, 0, u.now16⟩ } ∧
        t.tbl = u.tbl ∧ t.buf = u.buf ∧ t.time = u.time) ∧
    (∀ x, u.startable tag 0x22 = some e → u.txn.open_ = some x → x.id = e.txn → u.txnState = 1 → u.txn.commit = none →
      exec (.cmdTxnRollback dt tag) s = .next
        ((((u.mark tag).dropTxn.rolledBack x.id 0).finish tag 0 0 0).keeping s)) ∧
    (∀ x, let c : Commit := ⟨some tag, 0, u.clk, u.clk, false, false, 0, 0, false, false, false⟩
      let v := ((((u.unhold tag).begin tag).setCommit (some c)).setTxnState 2).showAt 0
      u.startable tag 0x21 = some e → u.heldTurn tag = true → u.hif.supplyHeld = [] → u.txn.open_ = some x → x.id = e.txn →
      u.txnState = 1 → e.op 16 12 = 0 → x.conflict = false → v.commitFault x u.now16 = none → v.olderFrames = 0 →
      v.pairState ≠ 1 → v.inService = false →
      exec (.cmdTxnCommit dt tag) s = .next
        ((v.toWait { c with epoch := (v.reg Reg.TXN_EPOCH).toNat + 1, instant := u.now16 }).keeping s))

/-- While DMA is allowed, no removal runs, fewer than 512 tags are in flight and no release of a reset is outstanding, a
fetch takes the command of the ring whose turn has come: a tag that was free gets an entry RECEIVED of that ring with
the command's bytes and those of its operand buffer, the other entries stay, the ring's HEAD moves on by one modulo
its size, and a command that passes the format checks prepares no completion yet. A tag is free exactly when it has no
entry, and one is found whenever there is one. Completion: commandFetch (a ring can be fetched from, a tag is free,
DMA allowed). (R35, R36, R46) -/
def Obligations.FetchRecordsTheCommandUnderAFreeTag : Prop :=
  (∀ (s u : State) (dt : Nat) (cmd : BitVec 512) (buffer : List Byte) (pick r tag : Nat), u = s.advance dt →
    u.dmaOk = true → u.rst.ejectAt = none → u.tagsInFlight < 512 → u.releasePending = false → u.nextRing = some r →
    freeTag (fun t => (u.jget t).isSome) pick 512 = some tag →
    formatFault ⟨r, u.hif.fetchSeq, cmd, buffer, .received, false, false, ⟨0, 0, 0, 0⟩⟩ = none →
    ∃ t, exec (.commandFetch dt cmd pick buffer) s = .next t ∧
      u.jget tag = none ∧ tag < 512 ∧
      t.jget tag = some ⟨r, u.hif.fetchSeq, cmd, buffer, .received, false, false, ⟨0, 0, 0, 0⟩⟩ ∧
      (∀ other, other ≠ tag → t.jget other = u.jget other) ∧
      t.f (Fld.HIF_SQ_HEAD_HEAD r) = (u.f (Fld.HIF_SQ_HEAD_HEAD r) + 1) % ringSize (u.f (Fld.HIF_SQ_CFG_SIZE_LOG2 r)) % 4096 ∧
      t.hif.doneQ = u.hif.doneQ ∧ t.hif.fetchSeq = u.hif.fetchSeq + 1 ∧ t.tbl = u.tbl ∧ t.buf = u.buf ∧ t.txn = u.txn) ∧
  (∀ (used : Nat → Bool) (pick : Nat), (∃ tag, tag < 512 ∧ used tag = false) →
    ∃ tag, freeTag used pick 512 = some tag ∧ tag < 512 ∧ used tag = false)

/-- When its turn has come and its checks hold: an image load verifies (target 0), begins its flash write (targets 1 and
2) or activates (target 3); a calibration run of an instance that can use it starts; a realignment is marked and waits
for the outputs that must move; a time step with no older frame is marked to apply, and with older frames waits; an
exchange in service begins; a PRBS set-up of free lanes is made on every lane named and completes; a fence completes
OK. Completion: cmdImageLoad, cmdCalRun, cmdOutRealign, cmdTimeStep, cmdPairExchange, cmdLanePrbs, cmdFence (each
where its command may begin and its checks hold). (R70, R261, R201, R208, R328, R105, R45) -/
def Obligations.ServiceCommandsComplete : Prop :=
  ∀ (s u : State) (dt tag : Nat) (e : JEntry), u = s.advance dt → tag < 512 →
    (∀ i : Image, let w := u.dueFirst; let v := w.unhold tag
      w.startable tag 0x30 = some e → w.heldTurn tag = true → w.rst.controller = false → 1 ≤ e.op 16 4 → e.op 16 4 ≤ 16777216 →
      v.img.write = none → i.totalLength = e.op 16 4 → v.verify i true = none →
      (e.op 20 1 = 0 → exec (.cmdImageLoad dt tag i) s = .next ((v.finish tag 0 i.identity 0).keeping s)) ∧
      (e.op 20 1 = 3 → exec (.cmdImageLoad dt tag i) s = .next ((((v.mark tag).takeImage i 2 false).finish tag 0 i.identity 0).keeping s)) ∧
      (∀ k, k < 2 → e.op 20 1 = k + 1 → w.rst.ejectAt = none →
        ∃ t, exec (.cmdImageLoad dt tag i) s = .next t ∧ t.img = { v.img with write := some ⟨tag, k, i⟩ } ∧
          t.jget tag = some { e with started := true } ∧ t.regs = (v.showSlot k 3 0 i).regs ∧ t.tbl = v.tbl ∧ t.buf = v.buf)) ∧
    (∀ j, u.startable tag 0x40 = some e → calInst (e.op 16 1) (e.op 18 2) = some j → u.calExists j = true → e.op 17 1 = 0 →
      u.calRun j = none → u.cal.queue = [] → e.op 16 1 ≠ 1 → u.calUseless j false = false → (u.dropDue j).supplyWarn = false →
      exec (.cmdCalRun dt tag) s = .next ((((u.dropDue j).begin tag).startRun j 2 false false (some tag)).keeping s)) ∧
    (let named := maskOf (fun k => (e.op 16 1).testBit k && u.outFn k != 0);
      let wait := maskOf (fun k => named.testBit k && u.mustRealign k);
      let v := (List.range 8).foldl (fun (x : State) k =>
        if wait.testBit k then
          (x.setOut k { x.out k with boundary := some ((x.out k).boundary.getD (x.boundary k)) }).setFlag (Fld.REF_OUT_STATUS_REALIGN_PENDING k) true
        else x) ((u.begin tag).mark tag);
      u.startable tag 0x41 = some e →
      exec (.cmdOutRealign dt tag) s = .next
        ((({ v with ref := { v.ref with realign := v.ref.realign ++ [(tag, wait, named)] } } : State).finishRealigns).keeping s)) ∧
    (u.startable tag 0x42 = some e → u.time.step = none → u.stepFault e.stepAmount = none →
      (u.olderGenFrames = 0 → exec (.cmdTimeStep dt tag) s = .next ((((u.begin tag).mark tag).setStep (some ⟨tag, true, false⟩)).keeping s)) ∧
      (u.olderGenFrames ≠ 0 → exec (.cmdTimeStep dt tag) s = .next
        ((((u.begin tag).setFlag Fld.TIM_STATUS_STEP_PENDING true).setStep (some ⟨tag, false, true⟩)).keeping s))) ∧
    (u.startable tag 0x50 = some e → u.inService = true → u.partnerClaim / 16 % 256 ≠ 0 → u.mir.exch = none →
      exec (.cmdPairExchange dt tag) s = .next (((u.begin tag).beginExchange (some tag)).keeping s)) ∧
    (let lanes := (List.range 64).filter (e.op 16 8).testBit;
      u.startable tag 0x60 = some e → e.op 24 1 ≤ 5 → e.op 25 1 ≤ 3 → e.op 26 1 = 0 → 1 ≤ e.op 27 1 →
      lanes.all (fun l => u.domainOn (portDomain l) && u.prbsAllowed l) = true →
      exec (.cmdLanePrbs dt tag) s = .next
        (((lanes.foldl (fun s l => s.prbsSetUp (e.op 24 1) (e.op 25 1) 0 (e.op 27 1) l) (u.mark tag)).finish tag 0 0 0).keeping s)) ∧
    (u.startable tag 0xF0 = some e → exec (.cmdFence dt tag) s = .next ((u.finish tag 0 0 0).keeping s))

/-- A doorbell whose checks find nothing (its index lies inside its ring) puts the index into TAIL of its submission ring
or of the CPU transmit ring, and nothing else happens than the write itself; clearing the mask of an MSI-X vector
sends its pending message and clears the pending bit while MSI-X is enabled and not masked; a REGISTER_WRITE whose
checks find nothing is carried out with the bytes that its byte enables select. Completion: sqDoorbell, cpuTxDoorbell,
msixVectorUnmask, registerWrite (each where its write passes its checks). (R35, R50, R386, R390, R372) -/
def Obligations.HostWritesReachTheirRegister : Prop :=
  ∀ (s u : State) (dt : Nat), u = s.advance dt →
    (∀ n tail, n < 4 → u.takesWrite (Reg.HIF_SQ_TAIL n) (w32 tail) 0xFFFFFFFF = true →
      exec (.sqDoorbell dt n tail) s = .next (((u.written (Reg.HIF_SQ_TAIL n) (w32 tail) 0xFFFFFFFF).rewrite).keeping s)) ∧
    (∀ tail, u.takesWrite Reg.HIF_CPU_TX_TAIL (w32 tail) 0xFFFFFFFF = true →
      exec (.cpuTxDoorbell dt tail) s = .next (((u.written Reg.HIF_CPU_TX_TAIL (w32 tail) 0xFFFFFFFF).rewrite).keeping s)) ∧
    (∀ v, v < 8 → u.takesWrite (Reg.HIF_MSIX_CTRL v) 0 0xFFFFFFFF = true →
      let p := u.written (Reg.HIF_MSIX_CTRL v) 0 0xFFFFFFFF
      ((p.pba.testBit v = true ∧ p.hif.msixEnable = true ∧ p.hif.msixFuncMask = false ∧ p.flag (Fld.HIF_MSIX_CTRL_MASK v) = false) →
        exec (.msixVectorUnmask dt v) s = .next ((((p.setPba v false).emit (.msix v)).rewrite).keeping s)) ∧
      ((p.pba.testBit v = false ∨ p.hif.msixEnable = false ∨ p.hif.msixFuncMask = true) →
        exec (.msixVectorUnmask dt v) s = .next ((p.rewrite).keeping s))) ∧
    (∀ off value be, u.takesWrite off value (byteMask be) = true →
      exec (.registerWrite dt off value be) s = .next ((u.dueFirst.writeDone off value (byteMask be)).keeping s))

/-- While DMA is allowed, the completion ring is enabled and not full, COMPLETION_WRITE writes the entry of the tag
prepared first at TAIL with the present phase, moves TAIL on (inverting the phase at the wrap), frees the tag and
signals vector 0; into a full ring nothing is written and the completions stay prepared. A DMA error that is not a
failed operand read counts in HIF_DMA_ERR_CNT, raises event 95 and clears ENABLE of its ring; where a write failed,
its entry is taken back and held. Once HOLDOFF_US has passed since a vector's first unsignalled entry, its message
goes, or while MSI-X Enable is clear nothing happens (the model's choice, log 31). Completion: completionWrite (a
completion is prepared, DMA allowed, the ring enabled and not full), dmaError (PD4 on), msixHoldoffExpiry (an entry
has waited for HOLDOFF_US). (R43, R44, R32, R34) -/
def Obligations.CompletionsAndErrorsOfTheRings : Prop :=
  ∀ (s u : State) (dt : Nat), u = s.advance dt →
    (∀ tag rest e, u.hif.doneQ = tag :: rest → u.dmaOk = true → u.flag Fld.HIF_CQ_CFG_ENABLE = true → u.jget tag = some e →
      (u.cqFull = false →
        let i := u.f Fld.HIF_CQ_TAIL_TAIL
        let next := (i + 1) % ringSize (u.f Fld.HIF_CQ_CFG_SIZE_LOG2)
        ∃ t, exec (.completionWrite dt) s = .next t ∧
          t.outbox.contains (.completion i (completionEntry tag e (u.f Fld.HIF_CQ_TAIL_PHASE))) = true ∧
          t.hif.doneQ = rest ∧ t.jget tag = none ∧ (∀ other, other ≠ tag → t.jget other = u.jget other) ∧
          t.f Fld.HIF_CQ_TAIL_TAIL = next % 8192 ∧
          t.f Fld.HIF_CQ_TAIL_PHASE = (if next = 0 then (1 - u.f Fld.HIF_CQ_TAIL_PHASE) % 2 else u.f Fld.HIF_CQ_TAIL_PHASE) ∧
          t.tbl = u.tbl ∧ t.buf = u.buf ∧ t.txn = u.txn) ∧
      (u.cqFull = true → exec (.completionWrite dt) s = .next (u.keeping s))) ∧
    (∀ ring kind dir access index addr tag, ring < 10 → u.domainOn 4 = true → access ≠ 1 →
      let v := ((u.bump Reg.HIF_DMA_ERR_CNT).raise 95 ring
        [(24, 1, kind), (25, 1, dir), (26, 1, access), (28, 4, index), (32, 8, addr)]).setFlag (ringEnable ring) false
      exec (.dmaError dt ring kind dir access index addr tag) s = .next ((if dir = 1 then v.holdEntry ring index else v).keeping s)) ∧
    (∀ v, v < 8 → (u.vec v).count ≠ 0 → (u.vec v).since + u.f (Fld.HIF_MSIX_MOD_HOLDOFF_US v) * 625 ≤ u.clk →
      exec (.msixHoldoffExpiry dt v) s = .next ((u.sendMsix v).keeping s) ∧
      (u.hif.msixEnable = false → v ≠ 7 → u.sendMsix v = u) ∧
      (v ≠ 7 → u.hif.msixEnable = true → u.hif.msixFuncMask = false → u.flag (Fld.HIF_MSIX_CTRL_MASK v) = false →
        (u.sendMsix v).outbox = .msix v :: u.outbox ∧ (u.sendMsix v).vec v = {}))

/-- EVENT_RECORD_WRITE takes the oldest generated record and the next SEQ: into a writable queue with two free slots or
more, nothing held and no overflow, the record is written; while the queue cannot be written and fewer than 256
records are held, it is held behind them. The ending record of an overflow is written once two slots are free and
nothing is held. Held records are written once the queue can be. The 1 ms window of a source and scope ends with a
record of what it gathered. Completion: eventRecordWrite (a record waits), evtOverflowEnd, evtHeldFlush (an overflow
or a held record, and two free slots), evtCoalesceWindowEnd (the window of 1 ms has passed with occurrences). (R54,
R55, R56, R57, R58) -/
def Obligations.EventsLeaveInOrderOrAreHeld : Prop :=
  ∀ (s u : State) (dt : Nat), u = s.advance dt →
    (∀ r rest, u.evt.gen = r :: rest →
      let q := State.takeSeq { u with evt := { u.evt with gen := rest } }
      q.1 = (u.reg Reg.EVT_SEQ).toNat ∧ q.2.reg Reg.EVT_SEQ = u.reg Reg.EVT_SEQ + 1 ∧
      (u.evtWritable = true → u.evt.held = [] → 2 ≤ u.evtFree → u.evt.overflow = none →
        exec (.eventRecordWrite dt) s = .next ((q.2.putRecord q.1 r).keeping s)) ∧
      (u.evtWritable = false → u.evt.held.length < 256 →
        exec (.eventRecordWrite dt) s = .next (({ q.2 with evt := { u.evt with gen := rest, held := u.evt.held ++ [(q.1, r)] } } : State).keeping s))) ∧
    (∀ o, u.evt.overflow = some o → u.evtWritable = true → u.evt.held = [] → 2 ≤ u.evtFree →
      exec (.evtOverflowEnd dt) s = .next (((u.setOverflow none).overflowRecord o true).keeping s)) ∧
    (∀ q r, u.evt.held = [(q, r)] → u.evtWritable = true → 2 ≤ u.evtFree → u.evt.overflow = none →
      exec (.evtHeldFlush dt) s = .next
        (((({ u with evt := { u.evt with held := [] } } : State).putRecord q r).overflowEnd).keeping s)) ∧
    (∀ src scope w, src < 96 → u.evt.windows.find? (fun w => w.source == src && w.scope == scope) = some w → w.since + 625000 ≤ u.clk →
      w.gathered ≠ 0 → u.masked src = false →
      ∃ t, exec (.evtCoalesceWindowEnd dt src scope) s = .next t ∧
        t.evt.gen = u.evt.gen ++ [(w.last.counted w.gathered w.flags).fecWindow (u.corrected src scope + 2 ^ 32 - w.corrected)] ∧ t.evt.held = u.evt.held ∧
        t.evt.windows = u.evt.windows.filter (fun w => !(w.source == src && w.scope == scope)) ++ [⟨src, scope, u.clk, 0, 0, u.corrected src scope, w.last⟩] ∧
        t.regs = u.regs ∧ t.outbox = u.outbox)

/-- While the host domain is on, FUNCTION_RESET clears Bus Master Enable, MSI-X Enable and Function Mask, and returns
every register of the HIF and EVT blocks to its reset value, but for HIF_DMA_ERR_CNT, HIF_MALFORMED_CNT, HIF_SMP_LOST,
EVT_SEQ, EVT_LOST and the event source counters. GEN_RESET_CAUSE names cause 7 with no domain cleared and
GEN_RESET_CNT counts; every other register is unchanged, and so are the journal, the completions prepared, tables,
buffer, time and the open transaction. Completion: functionReset (PD4 on). (R30, R67, 15_bring_up_and_hot_plug.md) -/
def Obligations.FunctionResetClearsItsRegistersAndKeepsTheJournal : Prop :=
  ∀ (s u : State) (dt : Nat), u = s.advance dt → u.domainOn 4 = true →
    ∃ t, exec (.functionReset dt) s = .next t ∧
      t.hif.busMaster = false ∧ t.hif.msixEnable = false ∧ t.hif.msixFuncMask = false ∧
      (∀ off, 0x20000 ≤ off → off < 0x40000 → keptByFunction off = false → t.reg off = regReset off) ∧
      (∀ off, off < 0x20000 ∨ 0x40000 ≤ off ∨ keptByFunction off = true → off ≠ Reg.GEN_RESET_CAUSE → off ≠ Reg.GEN_RESET_CNT →
        off ≠ Reg.EVT_SRC_CNT 15 → t.reg off = u.reg off) ∧
      Fld.GEN_RESET_CAUSE_CAUSE.of (t.reg Reg.GEN_RESET_CAUSE) = 7 ∧ Fld.GEN_RESET_CAUSE_CLEARED.of (t.reg Reg.GEN_RESET_CAUSE) = 0 ∧
      t.reg Reg.GEN_RESET_CNT = u.reg Reg.GEN_RESET_CNT + 1 ∧
      t.hif.journal = u.hif.journal ∧ t.hif.doneQ = u.hif.doneQ ∧ t.tbl = u.tbl ∧ t.buf = u.buf ∧ t.time = u.time ∧ t.txn = u.txn

/-- While the host domain is on, BUS_MASTER_ENABLE gives Bus Master Enable, MSI-X Enable and Function Mask the values the
host writes; then pending bits that are unmasked go as messages, entries whose message fell due while MSI-X was off
are signalled, and held ring entries are written where they now can; with MSI-X Enable clear no message goes and no
pending bit changes. An I2C write at address 4Ah in slot A, 4Bh in slot B, sets the pointer and nothing else; a read
sends bytes of the identity record from the pointer on, of which bytes 0 to 3 are GEN_ID and byte 44 is the low byte
of GEN_BOOT_STATUS; at any other address the module does nothing. Completion: busMasterEnable (PD4 on), i2cTransaction
(the module's own address). (R31, R390, R406) -/
def Obligations.ConfigurationBitsAndIdentityRecord : Prop :=
  ∀ (s u : State) (dt : Nat), u = s.advance dt →
    (∀ master msix mask, u.domainOn 4 = true →
      let p : State := { u with hif := { u.hif with busMaster := master, msixEnable := msix, msixFuncMask := mask } }
      exec (.busMasterEnable dt master msix mask) s = .next ((((List.range 7).foldl State.signalDue p.unmaskAll).rewrite).keeping s) ∧
      (msix = false → exec (.busMasterEnable dt master msix mask) s = .next ((p.rewrite).keeping s)) ∧
      (u.hif.unwritten = [] → p.rewrite = p)) ∧
    (∀ byte count, let own := if u.slotA = true then 0x4A else 0x4B
      exec (.i2cTransaction dt own true byte count) s = .next (({ u with rst := { u.rst with i2cPtr := byte % 256 } } : State).keeping s) ∧
      exec (.i2cTransaction dt own false byte count) s =
        .next ((u.emit (.i2c ((List.range count).map (fun i => u.identityByte (u.rst.i2cPtr + i))))).keeping s) ∧
      (∀ addr write, addr ≠ own → exec (.i2cTransaction dt addr write byte count) s = .next (u.keeping s))) ∧
    (∀ i, i < 4 → u.identityByte i = BitVec.ofNat 8 (u.idWord.toNat / 256 ^ i)) ∧
    u.identityByte 44 = BitVec.ofNat 8 (Fld.GEN_BOOT_STATUS_STAGE.into (u.reg Reg.GEN_BOOT_STATUS) u.stageNow).toNat

/-- With DMA allowed, the transmit ring enabled and delivery on, CPU_TX_FRAME on posted descriptors whose last alone has
MORE clear, with as many bytes as they give, writes STATUS back into the last of them and moves HEAD past them; a
descriptor out of R50's layout, a length outside 64 to 9216 or a directed port above 63 gives STATUS 2, with buffer
and tables untouched; else the frame is admitted or not, STATUS 0 or 1. CPU_RX_DELIVER delivers the copy that port
64's scheduler chooses into the descriptors it needs, and leaves it queued while fewer are posted. Completion:
cpuTxFrame (DMA allowed, the ring enabled, descriptors posted), cpuRxDeliver (the CPU port can send, a copy chosen,
descriptors posted). (R50, R51, R52) -/
def Obligations.CpuPortFramesAreTakenAndDelivered : Prop :=
  ∀ (s u : State) (dt : Nat), u = s.advance dt → u.dmaOk = true →
    (∀ (d : BitVec 256) (l : List (BitVec 256)) (data : List Byte) (access : List Nat), let descs := d :: l
      let size := ringSize (u.f Fld.HIF_CPU_TX_CFG_SIZE_LOG2)
      let head := u.f Fld.HIF_CPU_TX_HEAD_HEAD
      u.flag Fld.HIF_CPU_TX_CFG_ENABLE = true → u.noDelivery = false → moreOk descs = true →
      descs.length ≤ (u.f Fld.HIF_CPU_TX_TAIL_TAIL + size - head) % size → data.length = (descs.map (fun x => descField x 8 2)).sum →
      let bad := descs.all txDescOk = false ∨ data.length < 64 ∨ 9216 < data.length ∨ ((descField d 10 1).testBit 1 = true ∧ 63 < descField d 12 1)
      ∃ t status, exec (.cpuTxFrame dt descs data access) s = .next t ∧
        Output.txDone ((head + descs.length - 1) % size) status ∈ t.outbox ∧
        t.f Fld.HIF_CPU_TX_HEAD_HEAD = (head + descs.length) % size % 2 ^ Fld.HIF_CPU_TX_HEAD_HEAD.width ∧
        (bad → status = 2 ∧ t.buf = u.buf ∧ t.tbl = u.tbl ∧ t.ports = u.ports) ∧
        (¬ bad → status = (u.cpuFrame d data access).1)) ∧
    (∀ (addrs : List Nat) j x h f c, u.canSend 64 = true → u.choose 64 = some (j, x) → u.head 64 j = some h → u.frame h.id = some f →
      f.copy 64 = some c →
      let size := ringSize (u.f Fld.HIF_CPU_RX_CFG_SIZE_LOG2)
      let posted := (u.f Fld.HIF_CPU_RX_TAIL_TAIL + size - u.f Fld.HIF_CPU_RX_HEAD_HEAD) % size
      (posted < u.rxNeed c.editLen ∨ addrs.length < u.rxNeed c.editLen → exec (.cpuRxDeliver dt addrs) s = .next (u.keeping s)) ∧
      (u.rxNeed c.editLen ≤ posted → u.rxNeed c.editLen ≤ addrs.length → ∀ data r, (u.unlink f.id 64).readCopy f 64 = (some data, r) →
        let bytes := withFcs (c.edited f data)
        let q := (r.fillRx f c size true addrs bytes).bump (Reg.PRT_TX_FRAMES 64)
        exec (.cpuRxDeliver dt addrs) s =
          .next ((((q.sampleFrame 64 1 q.now16 bytes).dropCopy f.id 64).flow.afterSend 64 j x h.wire).keeping s)))

/-- A finished flash write puts the image into its slot, marks the command begun and completes it OK with the identity; a
failed one leaves the slot empty with its registers 0, raises event 12 and completes the command MALFORMED with reason
9. 10 ms after activation a restructured group's remaining copies are discarded; then its pipeline is loaded: its lane
domain goes on or off as the plan says, or the group takes its queue counts and delays; then the group is free again
and its ports wait for their links. No step comes before the one ahead of it. Completion: imageFlashWriteDone (a flash
write in progress, ok or not), restructureQueueDiscard (a group below 4 being restructured, its copies not yet
discarded, 10 ms after activation), restructurePipelineLoaded (the group named, an active image, its copies discarded
and its graph not yet loaded), restructureLanesReady (the group named, its pipeline loaded) each answer the next state
given here. (R70, R72, R369, R42) -/
def Obligations.FlashAndRestructureStepsComplete : Prop :=
  ∀ (s u : State) (dt : Nat), u = s.advance dt →
    (∀ w op addr retries, u.img.write = some w →
      exec (.imageFlashWriteDone dt true op addr retries) s = .next
        ((((({ u with img := { u.img with write := none, flash := Store.set (fun _ => none) u.img.flash w.slot (some w.image) } } : State).showSlot
          w.slot 1 0 w.image).mark w.tag).finish w.tag stOk w.image.identity 0).keeping s) ∧
      ∃ t, ∃ v : State, exec (.imageFlashWriteDone dt false op addr retries) s = .next t ∧ t = ((v.flashError op w.slot addr retries).malformed w.tag 9 0).keeping s ∧
        v.img.write = none ∧ Store.get (fun _ => none) v.img.flash w.slot = none ∧
        v.reg (Reg.TXN_IMG_SLOT_STATE w.slot) = 0 ∧ v.reg (Reg.TXN_IMG_SLOT_ID w.slot) = 0 ∧ v.reg (Reg.TXN_IMG_SLOT_VER w.slot) = 0) ∧
    (∀ g x, g < 4 → u.restr g = some x →
      (x.discarded = false → x.since + 10 * 625000 ≤ u.clk →
        ∃ t, ∃ v : State, exec (.restructureQueueDiscard dt g) s = .next t ∧ t = ((v.setRestr g (some { x with discarded := true })).flow).keeping s ∧
          v = ((List.range 16).map (16 * g + ·)).foldl (fun (w : State) p =>
            let w := if w.portUp p then w.declareDown p 8 else w
            let w := (w.abortTx p).abortCuts p (w.port p).cut
            let w := w.exitAll p Reg.TXN_RESTRUCT_DISCARD (w.portQueued p)
            (w.setPort p { w.port p with hold := none, holdSingle := false, cut := [] }).receiverOff p) u) ∧
      (x.discarded = false → exec (.restructurePipelineLoaded dt g) s = .next (u.keeping s)) ∧
      (∀ i, u.img.active = some i → x.discarded = true → x.loaded = false →
        let v := u.setRestr g (some { x with loaded := true })
        (v.domainOn (9 + g) = true → i.planOn (9 + g) = false → exec (.restructurePipelineLoaded dt g) s = .next ((v.domainOff (9 + g)).keeping s)) ∧
        (v.domainOn (9 + g) = false → i.planOn (9 + g) = true → (v.f Fld.GEN_DOMAIN_GIVEN_UP_DOMAINS).testBit (9 + g) = false → u.pwr.oscLost = false →
          exec (.restructurePipelineLoaded dt g) s = .next (((v.clearDomain (9 + g)).bringUp (9 + g)).keeping s))) ∧
      (x.loaded = true → exec (.restructureLanesReady dt g) s = .next
        ((((List.range 16).map (16 * g + ·)).foldl (fun (w : State) n => w.waitUp n) (u.setRestr g none)).keeping s)) ∧
      (x.loaded = false → exec (.restructureLanesReady dt g) s = .next (u.keeping s)))

/-- While frames of the older epoch remain, TXN_DRAIN_DONE does nothing; with none left, a commit in PENDING_DRAIN enters
the largest drain time in TXN_DRAIN_MAX_US, and is prepared across the pair or waits for its instant, or is missed
when the lead before AT has come. An immediate commit past DRAIN_LIMIT_MS is rolled back with cause 2 and completes
DRAIN. A timed commit whose deadline has come while validating, draining or preparing is missed (in PREPARE the pair
is told). A waiting commit that is due is applied; one not due changes nothing. Completion: txnDrainDone (no frame of
the older epoch, an own commit in PENDING_DRAIN), txnDrainLimit (an immediate commit draining for its limit),
txnDeadlineMissed (a timed commit too late), txnApply (an own commit in WAIT_TIME at its instant) each answer the next
state given here. (R80, R81, R83, R84, R79) -/
def Obligations.CommitsDrainApplyOrMissTheirInstant : Prop :=
  ∀ (s u : State) (dt : Nat), u = s.advance dt →
    (u.olderFrames ≠ 0 → exec (.txnDrainDone dt) s = .next (u.keeping s)) ∧
    (∀ t c, u.txn.open_ = some t → u.txn.commit = some c →
      (u.olderFrames = 0 → u.settle.txn = u.txn → u.settle.txnState = tsDrain →
        let v := u.settle.setReg Reg.TXN_DRAIN_MAX_US (BitVec.ofNat 32 (max (u.settle.reg Reg.TXN_DRAIN_MAX_US).toNat (min (u.settle.usSince c.drainSince) 0xFFFFFFFF)))
        (v.tooLate c = true → exec (.txnDrainDone dt) s = .next ((v.missed 1).keeping s)) ∧
        (v.tooLate c = false → exec (.txnDrainDone dt) s = .next ((v.prepareOrWait t c).keeping s))) ∧
      (u.txnState = tsDrain → c.at96 = 0 → u.f Fld.TXN_CTRL_DRAIN_LIMIT_MS ≠ 0 → u.f Fld.TXN_CTRL_DRAIN_LIMIT_MS ≤ u.msSince c.drainSince →
        exec (.txnDrainLimit dt) s = .next ((u.rollback 2 stDrain 0).keeping s)) ∧
      (u.tooLate c = true →
        (u.txnState = tsValidating → exec (.txnDeadlineMissed dt) s = .next ((u.missed 0).keeping s)) ∧
        (u.txnState = tsDrain → exec (.txnDeadlineMissed dt) s = .next ((u.missed 1).keeping s)) ∧
        (u.txnState = tsPrepare → exec (.txnDeadlineMissed dt) s = .next (((u.sendMir msgDecision [t.id, 0]).missed 2).keeping s))) ∧
      (∀ pick, u.txn.remote = none → u.txnState = tsWait →
        (c.due u.now16 = true → exec (.txnApply dt pick) s = .next ((u.applyOwn t c pick).keeping s)) ∧
        (c.due u.now16 = false → exec (.txnApply dt pick) s = .next (u.keeping s))))

/-- With a time step waiting for its command: while frames of the step generation before remain, TIME_STEP_APPLY does
nothing; when none remain, a step whose checks fail completes MALFORMED with the check's reason and STEP_PENDING
clears; one whose checks pass is marked begun, is made at one tick and completes OK; a step already marked is made and
completes OK. A missed commit counts in TXN_MISSED_CNT with event 90 and its command completes TIMED_MISSED.
Completion: timeStepApply (a time step waiting, no frame of the generation before, its checks passing) answers the
next state given here. (R208, R201, R81, R86) -/
def Obligations.WaitingTimeStepIsMadeOrRefused : Prop :=
  ∀ (s u : State) (dt pick : Nat), u = s.advance dt →
    (∀ p e, u.time.step = some p → u.jget p.tag = some e →
      (p.marked = true → exec (.timeStepApply dt pick) s = .next (((u.makeStep e.stepAmount p.waited pick).finish p.tag stOk 0 0).keeping s)) ∧
      (p.marked = false →
        (u.olderGenFrames ≠ 0 → exec (.timeStepApply dt pick) s = .next (u.keeping s)) ∧
        (u.olderGenFrames = 0 →
          (∀ why place, u.stepFault e.stepAmount = some (why, place) →
            ∃ t, exec (.timeStepApply dt pick) s = .next t ∧
              t = (((u.setStep none).setFlag Fld.TIM_STATUS_STEP_PENDING false).malformed p.tag why place).keeping s ∧
              t.time = { u.time with step := none } ∧ t.tbl = u.tbl ∧ t.buf = u.buf) ∧
          (u.stepFault e.stepAmount = none →
            exec (.timeStepApply dt pick) s = .next ((((u.mark p.tag).makeStep e.stepAmount p.waited pick).finish p.tag stOk 0 0).keeping s))))) ∧
    (u.time.step = none → exec (.timeStepApply dt pick) s = .next (u.keeping s)) ∧
    (∀ t c tag cause, u.txn.open_ = some t → u.txn.commit = some c → c.tag = some tag → c.at96 ≠ 0 →
      u.missed cause = (((u.dropTxn.bump Reg.TXN_MISSED_CNT).raise 90 moduleScope
        [(24, 4, t.id), (28, 12, c.at96), (40, 12, time96 (u.dropTxn.bump Reg.TXN_MISSED_CNT).now16), (52, 1, cause)]).finish tag stMissed 0 0))

/-- A write of LAN_TX_FIR that passes its checks (R91) changes the filter only if the word changes; a write of
LAN_PRBS_CFG asks for each injection whose bit it sets after the generator and checker follow their settings; a
PORT_ENABLE, PORT_DISABLE or PORT_FEC_CHANGE whose write passes its checks gives ENABLE or FEC its value in the word
written, reacts to a change of FEC, then of AN_EN from 0 to 1, then of ENABLE, and judges the wait for link up; a
write that any check fails leaves every register of its block as it was and takes no effect there. Completion:
lanTxFirWrite and lanPrbsCfgWrite (a lane below 64, a write its checks pass), portEnable, portDisable and
portFecChange (a port below 64, a write its checks pass) each answer the next state given here. (R91, R94, R103, R105,
R107, R372) -/
def Obligations.LaneAndPortWritesTakeEffect : Prop :=
  ∀ (s u : State) (dt : Nat), u = s.advance dt →
    (∀ l v be, l < 64 → u.takesWrite (Reg.LAN_TX_FIR l) v (byteMask be) = true →
      let w := u.written (Reg.LAN_TX_FIR l) v (byteMask be)
      exec (.lanTxFirWrite dt l v be) s = .next
        ((if (u.atWrite (Reg.LAN_TX_FIR l) v (byteMask be)).reg (Reg.LAN_TX_FIR l) = w.reg (Reg.LAN_TX_FIR l) then w else w.firWritten l).rewrite.keeping s)) ∧
    (∀ l v be, l < 64 → u.takesWrite (Reg.LAN_PRBS_CFG l) v (byteMask be) = true →
      let p := u.pulsed (Reg.LAN_PRBS_CFG l) v (byteMask be);
      let w := (u.written (Reg.LAN_PRBS_CFG l) v (byteMask be)).prbsChanged l ((u.atWrite (Reg.LAN_PRBS_CFG l) v (byteMask be)).reg (Reg.LAN_PRBS_CFG l));
      ((Fld.LAN_PRBS_CFG_INJ_SINGLE l).of p = 0 → (Fld.LAN_PRBS_CFG_INJ_BURST l).of p = 0 → exec (.lanPrbsCfgWrite dt l v be) s = .next (w.rewrite.keeping s)) ∧
      ((Fld.LAN_PRBS_CFG_INJ_SINGLE l).of p ≠ 0 → (Fld.LAN_PRBS_CFG_INJ_BURST l).of p = 0 →
        exec (.lanPrbsCfgWrite dt l v be) s = .next ((w.askInject l true 1).rewrite.keeping s)) ∧
      ((Fld.LAN_PRBS_CFG_INJ_SINGLE l).of p = 0 → (Fld.LAN_PRBS_CFG_INJ_BURST l).of p ≠ 0 →
        exec (.lanPrbsCfgWrite dt l v be) s = .next ((w.askInject l false (w.f (Fld.LAN_PRBS_CFG_BURST_LEN l))).rewrite.keeping s))) ∧
    (∀ n value be, n < 64 → let off := Reg.PRT_CFG n
      let out := fun (v m : Word) =>
        let w := u.written off v m
        let fec := if (Fld.PRT_CFG_FEC n).of ((u.atWrite off v m).reg off) = w.f (Fld.PRT_CFG_FEC n) then w else w.fecChanged n
        let fec := if (Fld.PRT_CFG_AN_EN n).of ((u.atWrite off v m).reg off) != w.f (Fld.PRT_CFG_AN_EN n) && fec.flag (Fld.PRT_CFG_AN_EN n)
          then fec.anEnabled n else fec
        ((if (Fld.PRT_CFG_ENABLE n).of ((u.atWrite off v m).reg off) = w.f (Fld.PRT_CFG_ENABLE n) then fec else fec.enableChanged n).waitUp n).rewrite.keeping s
      (u.takesWrite off ((Fld.PRT_CFG_ENABLE n).into value 1) ((Fld.PRT_CFG_ENABLE n).select be) = true →
        exec (.portEnable dt n value be) s = .next (out ((Fld.PRT_CFG_ENABLE n).into value 1) ((Fld.PRT_CFG_ENABLE n).select be))) ∧
      (u.takesWrite off ((Fld.PRT_CFG_ENABLE n).into value 0) ((Fld.PRT_CFG_ENABLE n).select be) = true →
        exec (.portDisable dt n value be) s = .next (out ((Fld.PRT_CFG_ENABLE n).into value 0) ((Fld.PRT_CFG_ENABLE n).select be))) ∧
      (∀ fec, fec < 4 → u.takesWrite off ((Fld.PRT_CFG_FEC n).into value fec) ((Fld.PRT_CFG_FEC n).select be) = true →
        exec (.portFecChange dt n fec value be) s = .next (out ((Fld.PRT_CFG_FEC n).into value fec) ((Fld.PRT_CFG_FEC n).select be))))

/-- With a lane's receiver on, signal detected and adaptation not done, ADAPT_DONE sets CDR_LOCK and ADAPT_DONE and stores
the linear equaliser's setting in LAN_RX_STATUS, then has the reference slots of that lane looked at again, and
changes nothing else. SIGNAL_DETECT with the receiver on stores SIGNAL and starts adaptation again, a loss also clears
CDR_LOCK and has those slots looked at; on a lane of no port that is all; a port that runs takes a loss as the
beginning of fault 0 and of marker loss, and a detection on its last lane as the fault's end. With the receiver off
neither changes anything. Completion: adaptDone (receiver on, signal detected, adaptation not done), signalDetect
(receiver on) each answer the next state given here. (R93, R99, R98) -/
def Obligations.AdaptationAndSignalOfALane : Prop :=
  ∀ (s u : State) (dt l : Nat), u = s.advance dt → l < 64 →
    (∀ ctle, u.receiverOn l = true → u.flag (Fld.LAN_RX_STATUS_SIGNAL l) = true → u.flag (Fld.LAN_RX_STATUS_ADAPT_DONE l) = false →
      ∃ t : State, exec (.adaptDone dt l ctle) s = .next ((t.refLane l).keeping s) ∧
        ((∀ k, k < 8 → u.f (Fld.REF_SLOT_CFG_LANE k) ≠ l) → t.refLane l = t) ∧
        t.flag (Fld.LAN_RX_STATUS_CDR_LOCK l) = true ∧ t.flag (Fld.LAN_RX_STATUS_ADAPT_DONE l) = true ∧
        t.f (Fld.LAN_RX_STATUS_CTLE l) = ctle % 2 ^ (Fld.LAN_RX_STATUS_CTLE l).width ∧
        (∀ off, off ≠ Reg.LAN_RX_STATUS l → t.reg off = u.reg off) ∧
        t.lanes = u.lanes ∧ t.links = u.links ∧ t.ports = u.ports ∧ t.buf = u.buf ∧ t.tbl = u.tbl ∧ t.evt = u.evt ∧ t.time = u.time ∧ t.outbox = u.outbox) ∧
    (∀ on, u.receiverOn l = true →
      let w := (u.setFlag (Fld.LAN_RX_STATUS_SIGNAL l) on).readapt l
      let w := if on = true then w else (w.setFlag (Fld.LAN_RX_STATUS_CDR_LOCK l) false).refLane l
      (w.portOfLane l = none → exec (.signalDetect dt l on) s = .next (w.keeping s)) ∧
      (∀ p, w.portOfLane l = some p → w.linkRuns p = true →
        (on = false → exec (.signalDetect dt l on) s = .next ((((w.faultBegins p 0).amLost p 0 0).waitUp p).keeping s)) ∧
        (on = true → w.allSignal p = true → exec (.signalDetect dt l on) s = .next (((w.faultEnds p 0).waitUp p).keeping s)) ∧
        (on = true → w.allSignal p = false → exec (.signalDetect dt l on) s = .next (w.keeping s)))) ∧
    (u.receiverOn l = false → (∀ ctle, exec (.adaptDone dt l ctle) s = .next (u.keeping s)) ∧ ∀ on, exec (.signalDetect dt l on) s = .next (u.keeping s))

/-- For a port that is up and runs, LINK_DOWN declares the lowest of causes 0 to 5 that has held for DOWN_DEBOUNCE_US and
freezes its queues; with no cause held so long nothing changes. LINK_UP brings a port up whose conditions hold and
have held for UP_WAIT_MS: UP is set, event 64 is raised, the held frames resume. FLAP_RECOVER after 60 s up clears the
flap count and puts UP_HOLD_MS back, with event 79 ended where the time had been raised. AM_LOCK_LOST clears AM_LOCK
of a multi-lane port and begins fault 5. AN_REFUSED counts in PRT_AN_FAIL_CNT and leaves AN_DONE clear. DESKEW_RETRY
after 10 ms tries lock again. Completion: linkDown, linkUp, flapRecover, amLockLost, anRefused and deskewRetry (a
running link under the conditions named) each answer the next state given here. (R99, R100, R101, R102, R98, R97,
R104) -/
def Obligations.LinksGoDownAndComeUpByTheirConditions : Prop :=
  ∀ (s u : State) (dt n : Nat), u = s.advance dt → n < 64 → u.linkRuns n = true →
    (let held := ((u.link n).faults.filter (fun f => u.passed f.2 (u.f (Fld.PRT_LINK_CFG_DOWN_DEBOUNCE_US n)) 625)).map (·.1);
      u.portUp n = true →
      (∀ c, c < 6 → held.contains c = true → (∀ b, b < c → held.contains b = false) →
        exec (.linkDown dt n) s = .next ((((u.declareDown n c).freezePort n).waitUp n).keeping s)) ∧
      ((∀ c, c < 6 → held.contains c = false) → exec (.linkDown dt n) s = .next (u.keeping s))) ∧
    (∀ since, (u.link n).upSince = some since → u.upConditions n = true → u.portUp n = false →
      since + u.f (Fld.PRT_LINK_STATUS_UP_WAIT_MS n) * 625000 ≤ u.clk →
      let w := ((u.setLink n { u.link n with upSince := none, upAt := some u.clk, faults := [] }).setFlag (Fld.PRT_LINK_STATUS_UP n) true).setFlag
        (Fld.PRT_LINK_STATUS_SUPPRESSED n) false
      exec (.linkUp dt n) s = .next (((((((w.raise 64 n [(24, 1, w.speed n), (25, 1, w.f (Fld.PRT_CFG_FEC n)), (26, 2, w.f (Fld.PRT_LINK_STATUS_UP_WAIT_MS n)),
        (28, 2, if w.multiLane n then w.f (Fld.PRT_LINK_STATUS_DESKEW_NS n) else 0)]).resumePort n).sendControl n).lanLinkUp n).refPort n).calLinkUp n).keeping s)) ∧
    (∀ since, (u.link n).upAt = some since → u.portUp n = true → (u.link n).flaps ≠ 0 → since + 60 * 625000000 ≤ u.clk →
      let w := (u.setLink n { u.link n with flaps := 0, raised := false }).setF (Fld.PRT_LINK_STATUS_UP_WAIT_MS n) (u.f (Fld.PRT_LINK_CFG_UP_HOLD_MS n))
      exec (.flapRecover dt n) s = .next
        ((if (u.link n).raised = true then w.raiseEnd 79 n [(24, 2, u.f (Fld.PRT_LINK_CFG_UP_HOLD_MS n)), (26, 2, (u.link n).flaps)] else w).keeping s)) ∧
    (∀ pcs lane, u.multiLane n = true → u.flag (Fld.PRT_LINK_STATUS_AM_LOCK n) = true →
      let w := u.setFlag (Fld.PRT_LINK_STATUS_AM_LOCK n) false
      exec (.amLockLost dt n pcs lane) s = .next (((if (u.allSignal n && u.flag (Fld.PRT_LINK_STATUS_BLOCK_LOCK n) && w.portUp n) = true
        then w.raise 67 n [(24, 1, pcs), (25, 1, lane)] else w).faultBegins n 5 |>.waitUp n).keeping s)) ∧
    (u.speed n = 1 → u.flag (Fld.PRT_CFG_AN_EN n) = true → u.portUp n = false →
      exec (.anRefused dt n) s = .next ((((u.bump (Reg.PRT_AN_FAIL_CNT n)).setFlag (Fld.PRT_LINK_STATUS_AN_DONE n) false).waitUp n).keeping s)) ∧
    (∀ since, (u.link n).deskewRetry = some since → since + 10 * 625000 ≤ u.clk →
      exec (.deskewRetry dt n) s = .next ((u.setLink n { u.link n with deskewRetry := none }).keeping s))

/-- BLOCK_LOCK_CHANGE counts what the PCS counted where the port's domain is on. On a running link: high BER, remote fault
and local fault set or clear their bit in PRT_LINK_STATUS and begin or end fault 2, 3 or 4, then the wait for link up
is judged; on a link that does not run nothing else changes. A pending PRBS injection goes out at its block and its
bit clears. A checker that gains lock sets LOCK; one that loses it counts, clears LOCK and sets LOCK_LOST. A one-
second interval is counted and started again, and is reported by event 68 if it had errors or lost lock. Completion:
blockLockChange (a running link), prbsInjectSingle and prbsInjectBurst (a pending injection), prbsLockChange and
prbsIntervalEnd (a checker on) each answer the next state given here. (R99, R100, R101, R104, R105, R106, R107) -/
def Obligations.LinkConditionsAndTestPatternsAreRecorded : Prop :=
  ∀ (s u : State) (dt n : Nat), u = s.advance dt → n < 64 →
    (∀ on skew early late own c, let v := if (u.domainOn (portDomain n) && u.speed n != 0) = true then u.countBlocks n c else u
      v.linkRuns n = true →
      exec (.blockLockChange dt n 1 on skew early late own c) s = .next ((v.blockLock n on ((v.portLanes n).filter (· == early))).keeping s) ∧
      (∀ kind fld, (kind = 2 ∧ fld = Fld.PRT_LINK_STATUS_HI_BER n) ∨ (kind = 3 ∧ fld = Fld.PRT_LINK_STATUS_REMOTE_FAULT n) ∨
        (kind = 4 ∧ fld = Fld.PRT_LINK_STATUS_LOCAL_FAULT n) →
        exec (.blockLockChange dt n kind on skew early late own c) s = .next
          (((if on = true then (v.setFlag fld on).faultBegins n kind else (v.setFlag fld on).faultEnds n kind).waitUp n).keeping s)) ∧
      (v.speed n = 1 → exec (.blockLockChange dt n 6 on skew early late own c) s = .next (((v.setFlag (Fld.PRT_LINK_STATUS_AN_DONE n) on).waitUp n).keeping s))) ∧
    (∀ kind on skew early late own c, let v := if (u.domainOn (portDomain n) && u.speed n != 0) = true then u.countBlocks n c else u
      v.linkRuns n = false → exec (.blockLockChange dt n kind on skew early late own c) s = .next (v.keeping s)) ∧
    (u.flag (Fld.LAN_PRBS_CFG_INJ_SINGLE n) = true → exec (.prbsInjectSingle dt n) s = .next
      ((((u.setLane n { u.lane n with inject := 0 }).setFlag (Fld.LAN_PRBS_CFG_INJ_SINGLE n) false).emit (.prbsInject n (u.lane n).inject)).keeping s)) ∧
    (u.flag (Fld.LAN_PRBS_CFG_INJ_BURST n) = true → exec (.prbsInjectBurst dt n) s = .next
      ((((u.setLane n { u.lane n with inject := 0 }).setFlag (Fld.LAN_PRBS_CFG_INJ_BURST n) false).emit (.prbsInject n (u.lane n).inject)).keeping s)) ∧
    (∀ errs bits, u.domainOn (portDomain n) = true → u.flag (Fld.LAN_PRBS_CFG_CHECK n) = true →
      (u.flag (Fld.LAN_PRBS_STATUS_LOCK n) = false → exec (.prbsLockChange dt n true errs bits) s = .next ((u.setFlag (Fld.LAN_PRBS_STATUS_LOCK n) true).keeping s)) ∧
      (u.flag (Fld.LAN_PRBS_STATUS_LOCK n) = true →
        let w := ((u.prbsCount n errs bits).setFlag (Fld.LAN_PRBS_STATUS_LOCK n) false).setFlag (Fld.LAN_PRBS_STATUS_LOCK_LOST n) true
        exec (.prbsLockChange dt n false errs bits) s = .next ((w.setLane n { w.lane n with prbsLost := true }).keeping s)) ∧
      ((u.lane n).prbsSince + 625000000 ≤ u.clk →
        let x := (u.prbsCount n errs bits).lane n
        let w := (u.prbsCount n errs bits).setLane n { x with prbsErr := 0, prbsBits := 0, prbsLost := false, prbsSince := (u.prbsCount n errs bits).clk }
        (x.prbsErr = 0 → x.prbsLost = false → exec (.prbsIntervalEnd dt n errs bits) s = .next (w.keeping s)) ∧
        ((x.prbsErr ≠ 0 ∨ x.prbsLost = true) → exec (.prbsIntervalEnd dt n errs bits) s = .next
          ((w.raise 68 n [(24, 4, x.prbsErr), (28, 8, x.prbsBits), (36, 1, (if x.prbsLost then 1 else 0) + 2 * w.f (Fld.LAN_PRBS_CFG_PATTERN n))]).keeping s))))

/-- FRAME_RECEIVE on a port that is not up does nothing. On one that is up, blocks are counted first; then the frame is
dropped and counted while nothing is delivered, while the lane is withheld, while its group restructures, when the
elastic store would pass 65536 bytes, for a broken fragment, for a cut frame or a length below 64 or above 9216, for
an FCS error, in that order; else it is stamped, sampled and forwarded. A drop for an FCS error counts in
PRT_RX_FRAMES and PRT_RX_FCS_ERR. Completion: frameReceive (a port below 64 that is up: every frame, delivered or
counted) answers the next state given here. (R112, R113, R72, R358) -/
def Obligations.FramesAreReceivedOrCountedAsR112Says : Prop :=
  ∀ (s u : State) (dt n : Nat) (data : List Byte) (a : Arrival) (bad : List (TblPlace × Bool)), u = s.advance dt → n < 64 →
    let v := u.upsetTables bad
    (v.portUp n = false → exec (.frameReceive dt n data a bad) s = .next (v.keeping s)) ∧
    (v.portUp n = true →
      let w := v.countBlocks n a.counts
      (w.noDelivery = true → exec (.frameReceive dt n data a bad) s = .next ((w.bump (Reg.GEN_CORE_RX_DROP (groupOf n))).keeping s)) ∧
      (w.noDelivery = false → w.laneWithheld n = true →
        exec (.frameReceive dt n data a bad) s = .next ((w.bump (Reg.MIR_STBY_RX_FRAMES (groupOf n))).keeping s)) ∧
      (w.noDelivery = false → w.laneWithheld n = false →
        let x := w.bump (Reg.PRT_RX_FRAMES n)
        ((x.restr (groupOf n)).isSome = true →
          exec (.frameReceive dt n data a bad) s = .next (((x.bump (Reg.PRT_RX_RESTRUCT_DROP n)).bump Reg.TXN_RESTRUCT_RX_DROP).keeping s)) ∧
        ((x.restr (groupOf n)).isSome = false →
          let y := (x.noteFill (groupOf n) a.fill).flow;
          (65536 < a.fill + data.length →
            exec (.frameReceive dt n data a bad) s = .next (((y.bump (Reg.PRT_RX_ELASTIC_OVF n)).bump (Reg.BUF_ELASTIC_OVF_CNT (groupOf n))).keeping s)) ∧
          (a.fill + data.length ≤ 65536 →
            (a.fragment = true → exec (.frameReceive dt n data a bad) s = .next (((y.bump (Reg.SCH_REASM_ERR n)).bump (Reg.PRT_RX_FCS_ERR n)).keeping s)) ∧
            (a.fragment = false → a.cut = true → exec (.frameReceive dt n data a bad) s = .next ((y.refuseLength n 16384 2).keeping s)) ∧
            (a.fragment = false → a.cut = false → data.length < 64 →
              exec (.frameReceive dt n data a bad) s = .next ((y.refuseLength n data.length 0).keeping s)) ∧
            (a.fragment = false → a.cut = false → 9216 < data.length →
              exec (.frameReceive dt n data a bad) s = .next ((y.refuseLength n data.length 1).keeping s)) ∧
            (a.fragment = false → a.cut = false → 64 ≤ data.length → data.length ≤ 9216 →
              (a.marked = true ∨ fcsOk data = false → exec (.frameReceive dt n data a bad) s = .next ((y.bump (Reg.PRT_RX_FCS_ERR n)).keeping s)) ∧
              (a.marked = false → fcsOk data = true →
                let stamp := stampOf y.tickTime (y.phase n a.beats) (y.speed n) (startUi a.start33) (-(y.rxDelay n));
                exec (.frameReceive dt n data a bad) s = .next
                  (((y.sampleFrame n 0 stamp data).forwardFrame n data stamp
                    ((if y.portCalibrating n then 1 else 0) + (y.commonFlags % 8) * 2) none a.access).2.keeping s)))))))

/-- On a port that cannot send FRAME_TRANSMIT does nothing. Else the waits are noted, and the scheduler's choice is
resumed if it was cut before; if not it is unlinked, read from the buffer, and launched, or given up where its cells
cannot be read. FRAME_PREEMPT, with preemption active, a preemptable frame in transmission and a cut point that is
reached with 60 bytes or more of the fragment and 64 or more of the rest, sends the fragment, counts SCH_FRAG_CNT (and
SCH_PREEMPT_CNT on a first cut), and puts the rest back ahead of its queue; the tables, the buffer and the events are
unchanged by a cut; a pause frame that is owed follows it. With no frame in transmission or no cut point it does
nothing. Completion: frameTransmit (a port that can send, a copy chosen), framePreempt (a preemptable frame in
transmission at its cut point) each answer the next state given here. (R130, R182) -/
def Obligations.SchedulerSendsOrCutsWhatItChose : Prop :=
  ∀ (s u : State) (dt n : Nat), u = s.advance dt → n < 64 →
    (∀ beats start33 flips, let v := u.upset flips
      (v.canSend n = false → exec (.frameTransmit dt n beats start33 flips) s = .next (v.keeping s)) ∧
      (v.canSend n = true → let w := (v.noteWaits n [7, 6, 5, 4, 3, 2, 1, 0]).endVisit n (fun j h => (v.noteWaits n [7, 6, 5, 4, 3, 2, 1, 0]).headOpen n j h && (v.noteWaits n [7, 6, 5, 4, 3, 2, 1, 0]).fits n h.cls h.left);
        (w.choose n = none → exec (.frameTransmit dt n beats start33 flips) s = .next (w.keeping s)) ∧
        (∀ j x h, w.choose n = some (j, x) → w.head n j = some h →
          (∀ t, h.cut = some t → exec (.frameTransmit dt n beats start33 flips) s = .next (((w.resume n t).afterSend n j x 0).keeping s)) ∧
          (∀ f c, h.cut = none → w.frame h.id = some f → f.copy n = some c →
            (∀ data r, (w.unlink f.id n).readCopy f n = (some data, r) →
              exec (.frameTransmit dt n beats start33 flips) s = .next (((r.launch n j f c data beats (startUi start33)).afterSend n j x h.wire).keeping s)) ∧
            (∀ r, (w.unlink f.id n).readCopy f n = (none, r) →
              exec (.frameTransmit dt n beats start33 flips) s = .next ((r.afterSend n j x 0).keeping s)))))) ∧
    (∀ t sent, (u.port n).tx = some t → u.cutPoint n t = some sent →
      u.preemptActive n = true → t.express = false → 60 ≤ sent → t.sentBefore + sent + 64 ≤ t.data.length →
      ∃ r : State, exec (.framePreempt dt n) s = .next ((r.sendControl n).keeping s) ∧
        r.outbox = .frame n ((t.data.drop t.sentBefore).take sent) t.stamp false :: u.outbox ∧
        r.reg (Reg.SCH_FRAG_CNT n) = u.reg (Reg.SCH_FRAG_CNT n) + 1 ∧
        r.reg (Reg.SCH_PREEMPT_CNT n) = (if t.sentBefore = 0 then u.reg (Reg.SCH_PREEMPT_CNT n) + 1 else u.reg (Reg.SCH_PREEMPT_CNT n)) ∧
        (∀ off, off ≠ Reg.SCH_FRAG_CNT n → off ≠ Reg.SCH_PREEMPT_CNT n → r.reg off = u.reg off) ∧
        (r.port n).tx = none ∧ (r.port n).cut = (u.port n).cut ++ [{ t with sentBefore := t.sentBefore + sent }] ∧
        (∀ p, p ≠ n → r.port p = u.port p) ∧ r.tbl = u.tbl ∧ r.buf = u.buf ∧ r.evt = u.evt) ∧
    ((u.port n).tx = none ∨ (∀ t, (u.port n).tx = some t → u.cutPoint n t = none) → exec (.framePreempt dt n) s = .next (u.keeping s))

/-- A PFC or link-level pause frame on a port that is up: with RX_EN set, each named class below 6 takes its time, else
none does; it counts once in PRT_PFC_RX_IGNORED if it names a class above 5 or one in a storm, or RX_EN is clear; with
RX_EN clear nothing else changes; an open visit of the scheduler ends where its queue has become paused.
PFC_XOFF_REFRESH takes the elastic store's fill; at a frame boundary of an up port a change of the held XOFF is sent,
and one that stays is repeated after 0x8000 quanta. A pause whose time has run out ends, unless a storm holds. A class
paused without a break for 100 ms with a copy waiting begins a storm with event 76; 1 s after the last non-zero pause
the storm ends with event 76 ended and the pause is gone. A hold whose time has come ends by flushing the port, unless
a link up falls no later. Completion: pfcFrameReceive and llpFrameReceive (a port that is up), pfcXoffRefresh (any
port), pauseExpiry, pauseStormStart, pauseStormEnd and portHoldExpiry (their time passed) each answer the next state
given here. (R123, R128, R135, R377) -/
def Obligations.PauseIsTakenRepeatedAndEnded : Prop :=
  ∀ (s u : State) (dt n : Nat), u = s.advance dt → n < 64 →
    let fin := fun (w : State) => w.endVisit n (w.headOpen n)
    (u.portUp n = true →
      (∀ named, u.flag (Fld.PRT_PFC_CFG_RX_EN n) = false → named ≠ [] →
        exec (.pfcFrameReceive dt n named) s = .next ((fin (u.bump (Reg.PRT_PFC_RX_IGNORED n))).keeping s)) ∧
      (∀ named, u.flag (Fld.PRT_PFC_CFG_RX_EN n) = true → named.any (fun x => decide (6 ≤ x.1) || (u.rxPause n x.1).storm.isSome) = false →
        exec (.pfcFrameReceive dt n named) s = .next ((fin (u.takePauses n false (named.filter (fun x => x.1 < 6)))).keeping s)) ∧
      (∀ time, let all := (List.range 6).map (fun k => (k, time))
        u.flag (Fld.PRT_PFC_CFG_RX_EN n) = true → all.any (fun x => (u.rxPause n x.1).storm.isSome) = false →
          exec (.llpFrameReceive dt n time) s = .next ((fin (u.takePauses n true all)).keeping s))) ∧
    (u.portUp n = false → (∀ named, exec (.pfcFrameReceive dt n named) s = .next ((fin u).keeping s)) ∧ ∀ time, exec (.llpFrameReceive dt n time) s = .next ((fin u).keeping s)) ∧
    (∀ fill, exec (.pfcXoffRefresh dt n fill) s = .next (((u.noteFill (groupOf n) fill).flow.sendControl n).keeping s)) ∧
    (∀ v : State, (v.portUp n = false ∨ (v.port n).tx.isSome = true → v.sendControl n = v) ∧
      (v.portUp n = true → (v.port n).tx = none → v.flag (Fld.PRT_PFC_STATUS_LLP_ACTIVE n) = false → (v.port n).toldLlp = false →
        let told := (v.port n).told
        let x := v.heldXoff n;
        (x ≠ told ∨ (x ≠ 0 ∧ (v.port n).xoffSent + v.quantaTicks n 0x8000 ≤ v.clk) →
          v.sendControl n = (v.emit (.pfc n (told ||| x) (pfcTimes x))).setPort n
            { v.port n with told := x, xoffSent := v.clk, busy := max (v.port n).busy v.clk + byteTicks (rateOf (v.speed n)) 84 }) ∧
        (x = told → x = 0 ∨ v.clk < (v.port n).xoffSent + v.quantaTicks n 0x8000 → v.sendControl n = v))) ∧
    (∀ k, k < 6 → let r := u.rxPause n k
      (r.until_ ≤ u.clk → r.storm = none → exec (.pauseExpiry dt n k) s = .next ((u.setRxPause n k { r with until_ := 0, since := none }).keeping s)) ∧
      (u.clk < r.until_ ∨ r.storm.isSome = true → exec (.pauseExpiry dt n k) s = .next (u.keeping s)) ∧
      (∀ since, r.since = some since → u.paused n k = true → u.queueHolds n k = true → u.flag (Fld.PRT_PFC_CFG_RX_EN n) = true →
        since + 100 * 625000 ≤ u.clk →
        exec (.pauseStormStart dt n k) s = .next (((u.setRxPause n k { r with storm := some u.clk, stormLast := u.clk, stormIgnored := 0 }).raise 76 n
          [(24, 1, 2 ^ k), (25, 1, if r.linkLevel then 1 else 0), (28, 4, (u.setRxPause n k { r with storm := some u.clk, stormLast := u.clk, stormIgnored := 0 }).msSince since)]).keeping s)) ∧
      (∀ since, r.storm = some since → r.stormLast + 625000000 ≤ u.clk →
        exec (.pauseStormEnd dt n k) s = .next (((u.setRxPause n k {}).raiseEnd 76 n
          [(24, 1, 2 ^ k), (25, 1, if r.linkLevel then 1 else 0), (28, 4, (u.setRxPause n k {}).msSince since), (32, 4, r.stormIgnored)]).keeping s))) ∧
    (∀ t, (u.port n).hold = some t → (t ≤ u.clk → (∀ l, u.linkUpAt n = some l → t < l) → exec (.portHoldExpiry dt n) s = .next ((u.flushPort n 0).keeping s)) ∧
      (u.clk < t → exec (.portHoldExpiry dt n) s = .next (u.keeping s)))

/-- LEARN_INSERT takes the sender queued first, after a bad entry of its key has been met: a learned entry takes its new
port and the learn is counted, a static one stays; an unknown sender whose index is free and whose entry finds a place
is added as a learned entry of its port, kept from the flush that has passed its place, and counted; without an index
or a place the attempt counts in TBL_LEARN_FULL_DROP and TBL_STAT_INS_FAIL, and the first of a full spell raises event
48. A successful learn counts in TBL_LEARN_CNT and ends a full spell. With nothing queued nothing changes. A buffer
scrub unit that has been started, with the scrub enabled and PD7 on, leaves the list, scrubs every cell that its bank
holds free, and notes the bank as read: the 64th bank of a pass counts it in BUF_SCRUB_PASS_CNT and begins the next;
one that has not been started changes nothing but the words upset. At the end of a second on a port with a speed, its
counters are taken as the next second's marks; 100 malformed frames or more, above 1% of its frames, in the first such
second raise event 77, and the first second that is not so ends it. Completion: learnInsert (a sender queued),
bufScrubUnit (a unit of the bank started, the scrub enabled, PD7 on), malformedRateSecond (a port with a speed, a new
second) each answer the next state given here. (R152, R153, R119, R376) -/
def Obligations.LearningScrubbingAndMalformedRate : Prop :=
  ∀ (s u : State) (dt : Nat), u = s.advance dt →
    (∀ p pick behind, p < 4 → (u.table p).learnQ = [] → exec (.learnInsert dt p pick behind) s = .next (u.keeping s)) ∧
    (∀ p pick behind mac fid n rest, p < 4 → (u.table p).learnQ = (mac, fid, n) :: rest →
      let own := fun (x : State) => (x.entries p).find? (fun q => isMac mac fid q.entry.payload && q.entry.vis.testBit x.parity)
      let v := u.setTable p { u.table p with learnQ := rest }
      let w := match own v with | some q => (if q.entry.bad then v.foundBad p q 0 else v) | none => v
      let new := fun i => (⟨i, w.genOf p i, .mac mac fid n 0 false true false, visBoth, false, false, false, (w.table p).nextOrder⟩ : Entry)
      (∀ q, own w = some q → q.entry.payload.isLearned = true → exec (.learnInsert dt p pick behind) s = .next
        (((w.mapEntries p (fun e => e == q.entry) (fun e => { e with payload := .mac mac fid n 0 false true false })).learnDone p).keeping s)) ∧
      (∀ q, own w = some q → q.entry.payload.isLearned = false → exec (.learnInsert dt p pick behind) s = .next (w.keeping s)) ∧
      (∀ i x, own w = none → w.newIndex p pick = some i → w.addEntry p (new i) = some x →
        let y := if behind && x.tbl.flush.isSome then { x with tbl := { x.tbl with flushKept := x.tbl.flushKept ++ [(p, i)] } } else x
        exec (.learnInsert dt p pick behind) s = .next ((y.learnDone p).keeping s)) ∧
      (own w = none → (w.newIndex p pick = none ∨ ∃ i, w.newIndex p pick = some i ∧ w.addEntry p (new i) = none) →
        let y := (w.bump (Reg.TBL_LEARN_FULL_DROP p)).bump (Reg.TBL_STAT_INS_FAIL p)
        (∀ c m, (y.table p).full = some (c, m) →
          exec (.learnInsert dt p pick behind) s = .next ((y.setTable p { y.table p with full := some (c + 1, m) }).keeping s)) ∧
        ((y.table p).full = none → exec (.learnInsert dt p pick behind) s = .next
          (((y.setTable p { y.table p with full := some (1, mac, fid, n) }).raise 48 p
            ([(24, 4, 1)] ++ macDetail 28 mac ++ [(34, 2, fid), (36, 2, n)])).keeping s)))) ∧
    (∀ (x : State) p, let y := x.bump (Reg.TBL_LEARN_CNT p)
      y.reg (Reg.TBL_LEARN_CNT p) = x.reg (Reg.TBL_LEARN_CNT p) + 1 ∧
      ((x.table p).full = none → x.learnDone p = y) ∧
      (∀ c m f q, (x.table p).full = some (c, m, f, q) → x.learnDone p = (y.setTable p { y.table p with full := none }).raiseEnd 48 p
        ([(24, 4, c)] ++ macDetail 28 m ++ [(34, 2, f), (36, 2, q)]))) ∧
    (∀ b hard flips, b < 64 → let v := u.upset flips
      let unit := v.pwr.started.find? (fun x => x.task == 1 && x.unit == b)
      (∀ x, unit = some x → let w := ({ v with pwr := { v.pwr with started := v.pwr.started.erase x } } : State)
        w.flag Fld.BUF_SCRUB_CFG_ENABLE = true → w.domainOn 7 = true →
        let t := (w.scrubTargets b).foldl (fun y c => y.scrubCell (2 * (w.reg Reg.BUF_SCRUB_PASS_CNT).toNat + 1) c (hard.contains c)) w
        let seen := if t.buf.scrubbed.contains b then t.buf.scrubbed else t.buf.scrubbed ++ [b]
        (seen.length = 64 → exec (.bufScrubUnit dt b hard flips) s = .next
          ((({ t with buf := { t.buf with scrubbed := [] } } : State).bump Reg.BUF_SCRUB_PASS_CNT).keeping s)) ∧
        (seen.length ≠ 64 → exec (.bufScrubUnit dt b hard flips) s = .next
          (({ t with buf := { t.buf with scrubbed := seen } } : State).keeping s))) ∧
      (unit = none → exec (.bufScrubUnit dt b hard flips) s = .next (v.keeping s))) ∧
    (∀ n, n < 64 → (u.speed n = 0 ∨ u.now16 / unitsPerS = (u.port n).secMark → exec (.malformedRateSecond dt n) s = .next (u.keeping s)) ∧
      (u.speed n ≠ 0 → u.now16 / unitsPerS ≠ (u.port n).secMark →
        let count := fun (off old : Nat) => ((u.reg off).toNat + 2 ^ 32 - old) % 2 ^ 32
        let parse := count (Reg.PRT_RX_PARSE_ERR n) (u.port n).secParse
        let len := count (Reg.PRT_RX_LEN_ERR n) (u.port n).secLen
        let fcs := count (Reg.PRT_RX_FCS_ERR n) (u.port n).secFcs
        let frames := count (Reg.PRT_RX_FRAMES n) (u.port n).secFrames
        let bad := parse + len + fcs
        let record := [(24, 4, parse), (28, 4, len), (32, 4, fcs), (36, 4, frames)]
        let w := fun now => u.setPort n { u.port n with
          secMark := u.now16 / unitsPerS
          malformed := now
          secFrames := (u.reg (Reg.PRT_RX_FRAMES n)).toNat
          secParse := (u.reg (Reg.PRT_RX_PARSE_ERR n)).toNat
          secLen := (u.reg (Reg.PRT_RX_LEN_ERR n)).toNat
          secFcs := (u.reg (Reg.PRT_RX_FCS_ERR n)).toNat }
        (100 ≤ bad → frames < bad * 100 → exec (.malformedRateSecond dt n) s = .next
          ((if (u.port n).malformed = true then w true else (w true).raise 77 n record).keeping s)) ∧
        ((bad < 100 ∨ bad * 100 ≤ frames) → exec (.malformedRateSecond dt n) s = .next
          ((if (u.port n).malformed = true then (w false).raiseEnd 77 n record else w false).keeping s))))

/-- A TBL_FLUSH whose write passes its checks and sets START begins the walk. At its end every entry the flush matches,
but those learned behind its walk, has left the four MAC tables and no other entry of any table has, TBL_FLUSH_CNT
shows how many left, BUSY clears, and no other register changes. With no flush running its end changes nothing.
Completion: tblFlush (a write its checks pass that sets START), tblFlushDone (a flush running) each answer the next
state given here. (R154, R386) -/
def Obligations.TableFlushRunsToItsCount : Prop :=
  ∀ (s u : State) (dt : Nat), u = s.advance dt →
    (∀ value be, let off := Reg.TBL_FLUSH_CTRL
      let v := Fld.TBL_FLUSH_CTRL_START.into value 1
      let m := Fld.TBL_FLUSH_CTRL_START.select be
      u.takesWrite off v m = true → Fld.TBL_FLUSH_CTRL_START.of (u.pulsed off v m) ≠ 0 →
        exec (.tblFlush dt value be) s = .next (((u.written off v m).flushStart).rewrite.keeping s)) ∧
    (∀ f, u.tbl.flush = some f →
      ∃ t, exec (.tblFlushDone dt) s = .next t ∧ t.tbl.flush = none ∧
        (∀ k, k < 4 → t.entries k = (u.entries k).filter (fun q => !(flushMatch f q.entry.payload && !u.tbl.flushKept.contains (k, q.entry.index)))) ∧
        (∀ k, 4 ≤ k → t.table k = u.table k) ∧
        t.reg Reg.TBL_FLUSH_CNT =
          BitVec.ofNat 32 ([0, 1, 2, 3].map (fun k => ((u.entries k).filter (fun q => flushMatch f q.entry.payload && !u.tbl.flushKept.contains (k, q.entry.index))).length)).sum ∧
        t.flag Fld.TBL_FLUSH_STATUS_BUSY = false ∧
        (∀ off, off ≠ Reg.TBL_FLUSH_CNT → off ≠ Reg.TBL_FLUSH_STATUS → t.reg off = u.reg off) ∧ t.buf = u.buf ∧ t.evt = u.evt) ∧
    (u.tbl.flush = none → exec (.tblFlushDone dt) s = .next (u.keeping s))

/-- An aging or scrub unit that has been started leaves the list of started units and walks its part of its table; one
that has not been started changes nothing (but upsets it observes). A stash move puts the oldest movable stash entry
into a free slot and counts. A parity repair restores every bad entry of an index from a good protected copy,
refilling a policer's buckets, and counts in TBL_STAT_REPAIR; with none to repair it changes nothing. An index-map or
trie entry that is bad is restored and counted in the same register of its table. Completion: ageSweepUnit and
tblScrubUnit (a unit started), stashMove (a stash entry that a bucket can take), tblParityRepair (an entry, index-map
entry or trie entry that is bad) each answer the next state given here. (R155, R151, R168, R336) -/
def Obligations.TableUpkeepUnitsWork : Prop :=
  ∀ (s u : State) (dt : Nat), u = s.advance dt →
    (∀ p, p < 4 → (u.pwr.started.find? (fun x => x.task == 0 && x.unit == p) = none → exec (.ageSweepUnit dt p) s = .next (u.keeping s)) ∧
      (∀ x, u.pwr.started.find? (fun x => x.task == 0 && x.unit == p) = some x → exec (.ageSweepUnit dt p) s = .next
        ((({ u with pwr := { u.pwr with started := u.pwr.started.erase x } } : State).sweepUnit p).keeping s))) ∧
    (∀ tb bad, tb < 12 → let v := u.upsetTables bad
      (v.pwr.started.find? (fun x => x.task == 2 && x.unit == tb) = none → exec (.tblScrubUnit dt tb bad) s = .next (v.keeping s)) ∧
      (∀ x, v.pwr.started.find? (fun x => x.task == 2 && x.unit == tb) = some x → exec (.tblScrubUnit dt tb bad) s = .next
        ((({ v with pwr := { v.pwr with started := v.pwr.started.erase x } } : State).scrubTable tb).keeping s))) ∧
    (∀ tb, tb < 5 → (stashCandidate (u.entries tb) (u.bucketLog tb) = none → exec (.stashMove dt tb) s = .next (u.keeping s)) ∧
      (∀ q n, stashCandidate (u.entries tb) (u.bucketLog tb) = some (q, n) → exec (.stashMove dt tb) s = .next
        (((u.setTable tb { u.table tb with entries := (u.entries tb).map (fun x => if x = q then { x with place := .slot n } else x) }).bump (Reg.TBL_STAT_MOVES tb)).keeping s))) ∧
    (∀ tb index, let able := fun (e : Entry) => e.index == index && e.bad && !e.copyBad && e.host
      ((u.entries tb).any (fun q => able q.entry) = false → exec (.tblParityRepair dt (.entry tb index)) s = .next (u.keeping s)) ∧
      ((u.entries tb).any (fun q => able q.entry) = true → exec (.tblParityRepair dt (.entry tb index)) s = .next
        (((u.mapEntries tb able (fun e => { e with bad := false, payload := e.payload.refilled })).bump (Reg.TBL_STAT_REPAIR tb)).keeping s))) ∧
    (∀ tb index,
      ((u.table tb).badMap.contains index = true → exec (.tblParityRepair dt (.map tb index)) s = .next
        (((u.setTable tb { u.table tb with badMap := (u.table tb).badMap.erase index }).bump (Reg.TBL_STAT_REPAIR tb)).keeping s)) ∧
      ((u.table tb).badMap.contains index = false → exec (.tblParityRepair dt (.map tb index)) s = .next (u.keeping s))) ∧
    (∀ v6 st key,
      (u.tbl.badTrie.contains (v6, st, key) = true → exec (.tblParityRepair dt (.trie v6 st key)) s = .next
        ((({ u with tbl := { u.tbl with badTrie := u.tbl.badTrie.erase (v6, st, key) } } : State).bump (Reg.TBL_STAT_REPAIR (lpmTable v6))).keeping s)) ∧
      (u.tbl.badTrie.contains (v6, st, key) = false → exec (.tblParityRepair dt (.trie v6 st key)) s = .next (u.keeping s)))

/-- Of an instance i with its recovery reset time r and count m: one second after a first rogue frame its rogue count goes
to 0 and event 59 reports it; after a millisecond its counts start again, with event 60 at the beginning and end of a
burst (more eliminated than passed and m together); RESET_MS after its last passed frame, while it does not already
take any, its recovery resets: it takes any sequence number, its history is 0 and its resets are counted. Before those
times nothing changes. Completion: frerRogueIntervalEnd, frerDupBurstCheck and frerResetTimer (an FRER instance, its
time passed) each answer the next state given here. (R160, R326) -/
def Obligations.SequenceRecoveryTimersRun : Prop :=
  ∀ (s u : State) (dt i : Nat) a b m r st, u = s.advance dt → i < 8192 → u.frerOf i = some (a, b, m, r, st) →
    (st.rogueCount ≠ 0 → st.rogueSince + 625000000 ≤ u.clk →
      exec (.frerRogueIntervalEnd dt i) s = .next (((u.frerMap i (fun x => { x with rogueCount := 0 })).raise 59 i
        ([(24, 4, st.rogueCount), (30, 2, st.rogueRecov)] ++ wireDetail 28 2 st.rogueSeq)).keeping s)) ∧
    (st.rogueCount = 0 ∨ u.clk < st.rogueSince + 625000000 → exec (.frerRogueIntervalEnd dt i) s = .next (u.keeping s)) ∧
    (st.msSince + 625000 ≤ u.clk →
      let v := u.frerMap i (fun x => { x with msSince := u.clk, msPassed := 0, msElim := 0, burst := decide (st.msPassed + m < st.msElim) });
      (st.msPassed + m < st.msElim → st.burst = false → exec (.frerDupBurstCheck dt i) s = .next ((v.raise 60 i [(24, 4, st.msElim), (28, 4, st.msPassed)]).keeping s)) ∧
      (st.msElim ≤ st.msPassed + m → st.burst = true → exec (.frerDupBurstCheck dt i) s = .next ((v.raiseEnd 60 i [(24, 4, st.msElim), (28, 4, st.msPassed)]).keeping s)) ∧
      (decide (st.msPassed + m < st.msElim) = st.burst → exec (.frerDupBurstCheck dt i) s = .next (v.keeping s))) ∧
    (st.takeAny = false → st.lastTick + r * 625000 ≤ u.clk →
      exec (.frerResetTimer dt i) s = .next ((u.frerMap i (fun x => { x with takeAny := true, history := 0, resets := (x.resets + 1) % 2 ^ 32 })).keeping s)) ∧
    (st.takeAny = true ∨ u.clk < st.lastTick + r * 625000 → exec (.frerResetTimer dt i) s = .next (u.keeping s))

/-- GATE_CONFIG_CHANGE, GATE_ENABLE and GATE_DISABLE, where their write passes its checks, give CONFIG_CHANGE 1, ENABLE 1
or ENABLE 0 in the word written; the port's gates then change as R185 and R188 say: disabling first, then a change
asked for, else enabling, and the status shows the present gates. GCL_ENTRY_WRITE, where its checks pass, is carried
out with the bytes selected. A write any check fails takes none of these effects. Completion: gclEntryWrite,
gateConfigChange, gateEnable and gateDisable (a port below 64, a write its checks pass) each answer the next state
given here. (R185, R188, R195, R387) -/
def Obligations.GateListsAreWrittenAndChanged : Prop :=
  ∀ (s u : State) (dt n : Nat) (value : Word) (be : Nat), u = s.advance dt → n < 64 →
    (u.takesWrite (Reg.SCH_GCL_ENTRY_HI n) value (byteMask be) = true →
      exec (.gclEntryWrite dt n value be) s = .next ((u.dueFirst.writeDone (Reg.SCH_GCL_ENTRY_HI n) value (byteMask be)).keeping s)) ∧
    (let off := Reg.SCH_GATE_CTRL n;
      let out := fun (v m : Word) =>
        let w := u.written off v m
        let was := (Fld.SCH_GATE_CTRL_ENABLE n).of ((u.atWrite off v m).reg off)
        let on := w.flag (Fld.SCH_GATE_CTRL_ENABLE n)
        let w := if was ≠ 0 ∧ on = false then w.gateDisabled n else w
        ((if w.flag (Fld.SCH_GATE_CTRL_CONFIG_CHANGE n) then w.gateChange n else if on = true ∧ was = 0 then w.gateEnabled n else w).showGates n).rewrite.keeping s;
      (u.takesWrite off ((Fld.SCH_GATE_CTRL_CONFIG_CHANGE n).into value 1) ((Fld.SCH_GATE_CTRL_CONFIG_CHANGE n).select be) = true →
        exec (.gateConfigChange dt n value be) s =
          .next (out ((Fld.SCH_GATE_CTRL_CONFIG_CHANGE n).into value 1) ((Fld.SCH_GATE_CTRL_CONFIG_CHANGE n).select be))) ∧
      (u.takesWrite off ((Fld.SCH_GATE_CTRL_ENABLE n).into value 1) ((Fld.SCH_GATE_CTRL_ENABLE n).select be) = true →
        exec (.gateEnable dt n value be) s = .next (out ((Fld.SCH_GATE_CTRL_ENABLE n).into value 1) ((Fld.SCH_GATE_CTRL_ENABLE n).select be))) ∧
      (u.takesWrite off ((Fld.SCH_GATE_CTRL_ENABLE n).into value 0) ((Fld.SCH_GATE_CTRL_ENABLE n).select be) = true →
        exec (.gateDisable dt n value be) s = .next (out ((Fld.SCH_GATE_CTRL_ENABLE n).into value 0) ((Fld.SCH_GATE_CTRL_ENABLE n).select be))))

/-- GATE_LIST_START with a pending list whose start is due makes it the operational list, shows its cycle, length and
base, clears the pending start, and raises event 30; before its start nothing changes. GATE_ENTRY_CHANGE shows the
present gates and index and changes no other register. While verifying, VERIFY_MS after a try: the next of three tries
goes out, or verification fails with event 62. 1 s after a failure the tries begin again. A good response verifies
(ending event 62 after a failure), a bad one is remembered; while not verifying a response does nothing. Completion:
gateListStart (a pending list at its start), gateEntryChange (every port), preemptVerifyTimer (its time passed),
preemptVerifyResponse (verifying) each answer the next state given here. (R181, R183, R186, R188) -/
def Obligations.GatesStartAndVerificationProceeds : Prop :=
  ∀ (s u : State) (dt n : Nat), u = s.advance dt → n < 64 →
    (∀ p, (u.gate n).pend = some p →
      (reached p.start u.now16 = false → exec (.gateListStart dt n) s = .next (u.keeping s)) ∧
      (reached p.start u.now16 = true →
        let v := (((u.setGate n { u.gate n with oper := some p.list, pend := none, since := p.start }).setF (Fld.SCH_GATE_STATUS_STATE n) gsRunning).setReg (Reg.SCH_OPER_CYCLE n)
          (BitVec.ofNat 32 p.list.cycle)).setReg (Reg.SCH_OPER_LEN n) (BitVec.ofNat 32 p.list.entries.length);
        let v := (v.setTriple (Reg.SCH_OPER_BASE_W0 n) (Reg.SCH_OPER_BASE_W1 n) (Reg.SCH_OPER_BASE_W2 n) (time96 p.list.base)).setTriple
          (Reg.SCH_PEND_START_W0 n) (Reg.SCH_PEND_START_W1 n) (Reg.SCH_PEND_START_W2 n) 0;
        let v := v.showGates n
        let overran := v.overrun n
        let r := (v.bumpBy (Reg.SCH_GATE_OVERRUN_NS n) overran).strand n
        exec (.gateListStart dt n) s = .next ((r.2.raise 30 n [(24, 12, time96 p.start), (36, 4, p.list.cycle), (40, 2, p.list.entries.length),
          (42, 1, if p.late then 1 else 0), (44, 4, r.1), (48, 4, overran)]).keeping s))) ∧
    (∃ t, exec (.gateEntryChange dt n) s = .next t ∧ (∀ off, off ≠ Reg.SCH_GATE_STATUS n → t.reg off = u.reg off) ∧
      t.f (Fld.SCH_GATE_STATUS_OPER_GATES n) = u.gatesNow n % 256 ∧ t.gates = u.gates ∧ t.buf = u.buf ∧ t.tbl = u.tbl ∧ t.outbox = u.outbox) ∧
    (let pt := u.port n;
      (u.f (Fld.SCH_PREEMPT_STATUS_VERIFY n) = 1 → pt.verifyAt + u.f (Fld.SCH_PREEMPT_CFG_VERIFY_MS n) * 625000 ≤ u.clk →
        (pt.verifyTries < 3 → exec (.preemptVerifyTimer dt n) s = .next
          (((u.setPort n { pt with verifyTries := pt.verifyTries + 1, verifyAt := u.clk }).emit (.mpacket n 0)).keeping s)) ∧
        (3 ≤ pt.verifyTries → exec (.preemptVerifyTimer dt n) s = .next
          ((((u.setPort n { pt with verifyAt := u.clk, verifyFailed := true }).setVerify n 3).raise 62 n [(24, 1, pt.verifyTries), (25, 1, if pt.verifyBad then 1 else 0)]).keeping s))) ∧
      (u.f (Fld.SCH_PREEMPT_STATUS_VERIFY n) = 3 → pt.verifyAt + 625000000 ≤ u.clk → exec (.preemptVerifyTimer dt n) s = .next
        ((((u.setPort n { pt with verifyTries := 1, verifyAt := u.clk, verifyBad := false }).emit (.mpacket n 0)).setVerify n 1).keeping s)) ∧
      (u.f (Fld.SCH_PREEMPT_STATUS_VERIFY n) ≠ 1 → ∀ bad, exec (.preemptVerifyResponse dt n bad) s = .next (u.keeping s)) ∧
      (u.f (Fld.SCH_PREEMPT_STATUS_VERIFY n) = 1 →
        exec (.preemptVerifyResponse dt n true) s = .next ((u.setPort n { pt with verifyBad := true }).keeping s) ∧
        (pt.verifyFailed = false → exec (.preemptVerifyResponse dt n false) s = .next (((u.setPort n { pt with verifyFailed := false }).setVerify n 2).keeping s)) ∧
        (pt.verifyFailed = true → exec (.preemptVerifyResponse dt n false) s = .next
          ((((u.setPort n { pt with verifyFailed := false }).setVerify n 2).raiseEnd 62 n [(24, 1, pt.verifyTries), (25, 1, 0)]).keeping s))))

/-- A transfer of a written increment makes it the active one, shown in TIM_INC_ACTIVE, with event 27; module time itself,
any slew and all other registers are as before; with none written nothing changes. SLEW_START and SLEW_CANCEL, where
their write passes its checks, act on the bits the write sets: a cancel ends a running slew with event 27 kind 2, a
start within the rate limit supersedes one (kind 3) and loads the new, a start beyond it only sets SLEW_REJECTED. A
slew whose N ticks are done ends with event 27 kind 1; one that has ticks left goes on. Completion: timIncTransfer (an
increment written), slewStart and slewCancel (a write its checks pass), slewDone (a slew whose ticks are done) each
answer the next state given here. (R198, R199, R200, R217) -/
def Obligations.TheIncrementAndTheSlewTakeEffect : Prop :=
  ∀ (s u : State) (dt : Nat), u = s.advance dt →
    (∀ v, u.time.incNext = some v →
      ∃ t, exec (.timIncTransfer dt) s = .next t ∧ t.time = { u.time with inc := v, incNext := none } ∧
        t.reg Reg.TIM_INC_ACTIVE_LO = BitVec.ofNat 32 v ∧ t.reg Reg.TIM_INC_ACTIVE_HI = BitVec.ofNat 32 (v / 2 ^ 32) ∧
        (∀ off, off ≠ Reg.TIM_INC_ACTIVE_LO → off ≠ Reg.TIM_INC_ACTIVE_HI → off ≠ Reg.EVT_SRC_CNT 27 → t.reg off = u.reg off) ∧
        t.tbl = u.tbl ∧ t.buf = u.buf ∧ t.gates = u.gates) ∧
    (u.time.incNext = none → exec (.timIncTransfer dt) s = .next (u.keeping s)) ∧
    (∀ value be, let off := Reg.TIM_SLEW_CTRL;
      let out := fun (v m : Word) =>
        let w := u.written off v m
        let w := if Fld.TIM_SLEW_CTRL_CANCEL.of (u.pulsed off v m) ≠ 0 then w.endSlew 2 else w
        (if Fld.TIM_SLEW_CTRL_START.of (u.pulsed off v m) = 0 then w
          else if slewRateOk (w.pair48 Reg.TIM_SLEW_AMT_LO Reg.TIM_SLEW_AMT_HI) (w.reg Reg.TIM_SLEW_TICKS).toNat = true then (w.endSlew 3).loadSlew
          else w.setFlag Fld.TIM_STATUS_SLEW_REJECTED true).rewrite.keeping s;
      (u.takesWrite off (Fld.TIM_SLEW_CTRL_START.into value 1) (Fld.TIM_SLEW_CTRL_START.select be) = true →
        exec (.slewStart dt value be) s = .next (out (Fld.TIM_SLEW_CTRL_START.into value 1) (Fld.TIM_SLEW_CTRL_START.select be))) ∧
      (u.takesWrite off (Fld.TIM_SLEW_CTRL_CANCEL.into value 1) (Fld.TIM_SLEW_CTRL_CANCEL.select be) = true →
        exec (.slewCancel dt value be) s = .next (out (Fld.TIM_SLEW_CTRL_CANCEL.into value 1) (Fld.TIM_SLEW_CTRL_CANCEL.select be)))) ∧
    (∀ w, u.time.slew = some w →
      (w.n ≤ w.done → ∃ t, exec (.slewDone dt) s = .next t ∧ t.time = { u.time with slew := none } ∧ t.flag Fld.TIM_STATUS_SLEW_ACTIVE = false ∧
        (∀ off, off ≠ Reg.TIM_STATUS → off ≠ Reg.EVT_SRC_CNT 27 → t.reg off = u.reg off) ∧ t.tbl = u.tbl ∧ t.buf = u.buf) ∧
      (w.done < w.n → exec (.slewDone dt) s = .next (u.keeping s)))

/-- TIM_SNAP_CAPTURE with a capture requested copies the 96-bit layout of module time into TIM_SNAP and sets DONE; without
one nothing changes. TSF_READ of a port that the structure provides, with the host and time domains on, answers 0 from
an empty FIFO and changes nothing but the answer; from a FIFO with entries it answers the oldest entry's word, takes
the entry out, and puts its time (0 if discarded) into W1 to W3. While the host domain is off nothing is answered.
Completion: timSnapCapture (a capture requested), tsfRead (a provided port, the domains on) each answer the next state
given here. (R216, R214, R215, R8, R388) -/
def Obligations.SnapshotAndTimestampFifoReads : Prop :=
  ∀ (s u : State) (dt : Nat), u = s.advance dt →
    (u.time.snapReq = true → ∃ t, exec (.timSnapCapture dt) s = .next t ∧ t.time = { u.time with snapReq := false } ∧
      t.triple Reg.TIM_SNAP_W0 Reg.TIM_SNAP_W1 Reg.TIM_SNAP_W2 = time96 u.now16 % 2 ^ 96 ∧ t.flag Fld.TIM_SNAP_CTRL_DONE = true ∧
      (∀ off, off ≠ Reg.TIM_SNAP_W0 → off ≠ Reg.TIM_SNAP_W1 → off ≠ Reg.TIM_SNAP_W2 → off ≠ Reg.TIM_SNAP_CTRL → t.reg off = u.reg off) ∧
      t.evt = u.evt ∧ t.tbl = u.tbl ∧ t.buf = u.buf) ∧
    (u.time.snapReq = false → exec (.timSnapCapture dt) s = .next (u.keeping s)) ∧
    (∀ n, n < 64 → u.domainOn 4 = true → u.domainOn 2 = true → u.speed n ≠ 0 →
      (u.tsf n = [] → exec (.tsfRead dt n) s = .next ((u.emit (.read (Reg.TIM_TSF_W0 n) 0)).keeping s)) ∧
      (∀ e l, u.tsf n = e :: l → exec (.tsfRead dt n) s = .next
        ((((u.setTsf n l).setTriple (Reg.TIM_TSF_W1 n) (Reg.TIM_TSF_W2 n) (Reg.TIM_TSF_W3 n) (if e.discarded = true then 0 else time96 e.stamp)).emit
          (.read (Reg.TIM_TSF_W0 n) (BitVec.ofNat 32 e.w0))).keeping s))) ∧
    (∀ n, n < 64 → u.domainOn 4 = false → exec (.tsfRead dt n) s = .next (u.keeping s))

/-- LANTERN_ENABLE and LANTERN_DISABLE, where their write passes its checks, write ENABLE; if its value changes, the
lantern of an enabled port that was OFF seeks (with its link up, at 10GBASE-R or faster) or waits for the link, and a
disabled one stops and goes OFF; if it does not change nothing else happens. A PHS_ASYM_WRITE that passes its checks
is carried out with the bytes selected, on any of the seven asymmetry words of the port. Completion: lanternEnable,
lanternDisable and phsAsymWrite (a port below 64, a write its checks pass) each answer the next state given here.
(R230, R233, R219) -/
def Obligations.LanternEnableAndAsymmetryWrites : Prop :=
  ∀ (s u : State) (dt n : Nat) (value : Word) (be : Nat), u = s.advance dt → n < 64 →
    (let off := Reg.PHS_CFG n;
      let out := fun (v m : Word) =>
        let w := u.written off v m
        (if (Fld.PHS_CFG_ENABLE n).of ((u.atWrite off v m).reg off) = w.f (Fld.PHS_CFG_ENABLE n) then w
          else if w.flag (Fld.PHS_CFG_ENABLE n) = false then (if w.lanState n = lsOff then w else w.lanStop n lsOff 0)
          else if w.lanState n ≠ lsOff then w
          else if w.lanLink n = true then w.lanSeek n true else w.setF (Fld.PHS_STATUS_STATE n) lsWait).rewrite.keeping s;
      (u.takesWrite off ((Fld.PHS_CFG_ENABLE n).into value 1) ((Fld.PHS_CFG_ENABLE n).select be) = true →
        exec (.lanternEnable dt n value be) s = .next (out ((Fld.PHS_CFG_ENABLE n).into value 1) ((Fld.PHS_CFG_ENABLE n).select be))) ∧
      (u.takesWrite off ((Fld.PHS_CFG_ENABLE n).into value 0) ((Fld.PHS_CFG_ENABLE n).select be) = true →
        exec (.lanternDisable dt n value be) s = .next (out ((Fld.PHS_CFG_ENABLE n).into value 0) ((Fld.PHS_CFG_ENABLE n).select be)))) ∧
    (∀ k, k < 7 → u.takesWrite (Reg.PHS_ASYM_CFG n + 4 * k) value (byteMask be) = true →
      exec (.phsAsymWrite dt n k value be) s = .next ((u.dueFirst.writeDone (Reg.PHS_ASYM_CFG n + 4 * k) value (byteMask be)).keeping s))

/-- Of a line that carries lantern sets (a port, or an Emulug lane as 64 or 65): first the offers whose set has found no
idle block before the next offer are skipped, each counted in PHS_TX_SKIPPED for a port, and only the latest still
stands; an idle one that is due sends the next set of the word in hand, or of a new word, as a whole block, stamped,
and counts in PHS_TX_SETS; before the offer is due or with something else on the line nothing else changes. A received
block that is no lantern set changes nothing; one that is goes to the receiver with its stamp. In UP, 10 ms after the
last valid word the port leaves UP and seeks; a suspension that has lasted SUSPEND_S ends. At a new second of module
time every BAD_1S of the 64 ports is 0. Completion: lanternSetOffer (a line that carries sets, the offer due),
lanternWordReceive (a lantern block, the domain on), lanternWordTimeout, lanternSuspendEnd (their time passed) and
lanternBadCountReset (a new second) each answer the next state given here. (R222, R223, R225, R230, R231) -/
def Obligations.LanternSetsAreOfferedReceivedAndTimedOut : Prop :=
  ∀ (s u : State) (dt n : Nat), u = s.advance dt → n < 64 →
    (∀ m, m < 66 → let v := u.lanSkip m
      let l := v.lant m
      let gone := (v.clk - l.sendAt) * rateOf (v.lineSpeed m)
      (let old := u.lant m
        let made := (u.clk - old.sendAt) * rateOf (u.lineSpeed m) / offerTicks
        (made ≤ old.offers + 1 → v = u) ∧
        (old.offers + 1 < made → m < 64 →
          v = (u.setLant m { old with offers := made - 1 }).bumpBy (Reg.PHS_TX_SKIPPED m) (made - 1 - old.offers)) ∧
        (old.offers + 1 < made → 64 ≤ m → v = u.setLant m { old with offers := made - 1 })) ∧
      (u.lineLive m = true → ∀ beats, let stamp := stampOf v.tickTime (v.phase m beats) (v.lineSpeed m) 0 (v.lineTx m)
        let sent := fun (x : Lantern) => (((v.setLant m { x with word := x.word.tail, offers := x.offers + 1 }).bumpLan m (Reg.PHS_TX_SETS m)).emit
          (.lantern m (setBlock (x.word.headD 0)) stamp)).keeping s
        (exec (.lanternSetOffer dt m false beats) s = .next (v.keeping s)) ∧
        ((l.offers + 1) * offerTicks ≤ gone → v.lineIdle m = true →
          (l.word ≠ [] → exec (.lanternSetOffer dt m true beats) s = .next (sent l)) ∧
          (l.word = [] → exec (.lanternSetOffer dt m true beats) s = .next (sent (v.wordBegun l (v.newWord l stamp))))) ∧
        (gone < (l.offers + 1) * offerTicks ∨ v.lineIdle m = false → exec (.lanternSetOffer dt m true beats) s = .next (v.keeping s))) ∧
      (u.lineLive m = false → ∀ idle beats, exec (.lanternSetOffer dt m idle beats) s = .next (u.keeping s)) ∧
      (∀ block beats, (blockSet block = none → exec (.lanternWordReceive dt m [(block, beats)]) s = .next (u.keeping s)) ∧
        (∀ set, blockSet block = some set → u.domainOn (if m < 64 then portDomain m else 5) = true →
          exec (.lanternWordReceive dt m [(block, beats)]) s = .next
            ((u.lanSet m set (stampOf u.tickTime (u.phase m beats) (u.lineSpeed m) 0 (-(u.lineRx m)))).keeping s)))) ∧
    (u.lanState n = lsUp → (u.lant n).lastGood + 10 * 625000 ≤ u.clk → exec (.lanternWordTimeout dt n) s = .next (((u.lanLeave n 2).lanSeek n false).keeping s)) ∧
    (u.lanState n ≠ lsUp ∨ u.clk < (u.lant n).lastGood + 10 * 625000 → exec (.lanternWordTimeout dt n) s = .next (u.keeping s)) ∧
    (u.lanState n = lsSuspended → (u.lant n).suspendAt + u.f (Fld.PHS_CFG_SUSPEND_S n) * 625000000 ≤ u.clk →
      exec (.lanternSuspendEnd dt n) s = .next ((if u.lanLink n = true then u.lanSeek n true else u.setF (Fld.PHS_STATUS_STATE n) lsWait).keeping s)) ∧
    (u.now16 / unitsPerS = u.lanSec → exec (.lanternBadCountReset dt) s = .next (u.keeping s)) ∧
    (u.now16 / unitsPerS ≠ u.lanSec → ∃ t, exec (.lanternBadCountReset dt) s = .next t ∧ t.lanSec = u.now16 / unitsPerS ∧
      t.f (Fld.PHS_STATUS_BAD_1S n) = 0 ∧ (∀ off, (∀ p, p < 64 → off ≠ Reg.PHS_STATUS p) → t.reg off = u.reg off) ∧ t.lan = u.lan)

/-- With a live lantern, a block that has ended and whose peer summary has come is reported with it; 2 ms after its end
without one it is reported SPARSE. LANTERN_REPORT_READ, with the host and lane domains on, answers the header, clears
NEW and shows the delay, offset and counts of that report. The three swap writes, where they pass their checks, act on
the bits the write sets in the order before, after, abort. The averaging time of a capture before the swap ends in
GAP, that of the one after it finishes the swap; 10 s of GAP in hold mode fail it. Completion: lanternBlockReport,
lanternReportSparse (a live lantern, the block ended), lanternReportRead (the domains on), swapCaptureBefore,
swapCaptureAfter and swapAbort (a write its checks pass), swapAvgEnd and swapGapTimeout (their time passed) each
answer the next state given here. (R228, R229, R234, R388) -/
def Obligations.LanternBlocksReportAndSwapsProceed : Prop :=
  ∀ (s u : State) (dt n : Nat), u = s.advance dt → n < 64 →
    (u.lanLive n = true → (u.lanPick n).ended = true → (u.lanSum n (u.lanPick n).k).isSome = true →
      exec (.lanternBlockReport dt n) s = .next ((u.lanReport n).keeping s)) ∧
    (u.lanLive n = true → (u.lanPick n).late = true → (u.lanSum n (u.lanPick n).k).isNone = true →
      exec (.lanternReportSparse dt n) s = .next ((u.lanReport n).keeping s)) ∧
    (u.lanLive n = false → exec (.lanternBlockReport dt n) s = .next (u.keeping s) ∧ exec (.lanternReportSparse dt n) s = .next (u.keeping s)) ∧
    (u.domainOn 4 = true → u.domainOn (portDomain n) = true → u.speed n ≠ 0 →
      ∃ t, exec (.lanternReportRead dt n) s = .next t ∧ t.outbox = .read (Reg.PHS_RPT_SEQ n) (u.reg (Reg.PHS_RPT_SEQ n)) :: u.outbox ∧
        t.flag (Fld.PHS_RPT_SEQ_NEW n) = false ∧
        t.reg (Reg.PHS_RPT_COUNT n) = BitVec.ofNat 32 ((u.lant n).latest.2.2.1 + (u.lant n).latest.2.2.2 * 65536) ∧ t.lan = u.lan ∧ t.evt = u.evt) ∧
    (∀ value be, let off := Reg.PHS_SWAP_CTRL n;
      let out := fun (v m : Word) =>
        let p := u.pulsed off v m
        let w := u.written off v m
        let w := if (Fld.PHS_SWAP_CTRL_CAPTURE_BEFORE n).of p ≠ 0 then w.swapBegin n else w
        let w := if (Fld.PHS_SWAP_CTRL_CAPTURE_AFTER n).of p ≠ 0 then w.swapAgain n else w
        (if (Fld.PHS_SWAP_CTRL_ABORT n).of p ≠ 0 then w.swapAbort n else w).rewrite.keeping s;
      (u.takesWrite off ((Fld.PHS_SWAP_CTRL_CAPTURE_BEFORE n).into value 1) ((Fld.PHS_SWAP_CTRL_CAPTURE_BEFORE n).select be) = true →
        exec (.swapCaptureBefore dt n value be) s =
          .next (out ((Fld.PHS_SWAP_CTRL_CAPTURE_BEFORE n).into value 1) ((Fld.PHS_SWAP_CTRL_CAPTURE_BEFORE n).select be))) ∧
      (u.takesWrite off ((Fld.PHS_SWAP_CTRL_CAPTURE_AFTER n).into value 1) ((Fld.PHS_SWAP_CTRL_CAPTURE_AFTER n).select be) = true →
        exec (.swapCaptureAfter dt n value be) s =
          .next (out ((Fld.PHS_SWAP_CTRL_CAPTURE_AFTER n).into value 1) ((Fld.PHS_SWAP_CTRL_CAPTURE_AFTER n).select be))) ∧
      (u.takesWrite off ((Fld.PHS_SWAP_CTRL_ABORT n).into value 1) ((Fld.PHS_SWAP_CTRL_ABORT n).select be) = true →
        exec (.swapAbort dt n value be) s = .next (out ((Fld.PHS_SWAP_CTRL_ABORT n).into value 1) ((Fld.PHS_SWAP_CTRL_ABORT n).select be)))) ∧
    (let w := (u.lant n).swap;
      (w.since + w.avg * 625000000 ≤ u.clk →
        (u.swapState n = swBefore → exec (.swapAvgEnd dt n) s = .next
          (((u.setLant n { u.lant n with swap := { w with gapAt := u.clk } }).setF (Fld.PHS_SWAP_STATUS_STATE n) swGap).keeping s)) ∧
        (u.swapState n = swAfter → exec (.swapAvgEnd dt n) s = .next ((u.swapFinish n).keeping s))) ∧
      (u.clk < w.since + w.avg * 625000000 → exec (.swapAvgEnd dt n) s = .next (u.keeping s)) ∧
      (u.swapState n = swGap → 64 ≤ w.ref → w.gapAt + 10 * 625000000 ≤ u.clk → exec (.swapGapTimeout dt n) s = .next ((u.swapFail n 3).keeping s)))

/-- REF_SLOT_CFG_WRITE that passes its checks writes a frequency slot's CFG, a time slot's CFG, or its QUAL; a CFG write
starts, stops, or rechecks the slot as ENABLE (or a write of a port slot's LANE) says and weighs the references again,
a QUAL write weighs them again. A VIRT_FREQ_WRITE, an XPPS_DECL_ARM and an OUT_START_REQUEST that pass their checks
are carried out with the bytes selected, as the last word of their value (R387). Completion: refSlotCfgWrite,
virtFreqWrite, xppsDeclArm and outStartRequest (a slot, declaration or output of its range, a write its checks pass)
each answer the next state given here. (R241, R247, R256, R259, R387) -/
def Obligations.ReferenceSettingsTakeEffect : Prop :=
  ∀ (s u : State) (dt : Nat) (value : Word) (be : Nat), u = s.advance dt →
    (∀ k, k < 15 → u.takesWrite (Reg.REF_SLOT_CFG k) value (byteMask be) = true → ∀ quality,
      let w := u.written (Reg.REF_SLOT_CFG k) value (byteMask be)
      let old := (u.atWrite (Reg.REF_SLOT_CFG k) value (byteMask be)).reg (Reg.REF_SLOT_CFG k);
      exec (.refSlotCfgWrite dt k quality value be) s = .next ((w.slotWritten k ((Fld.REF_SLOT_CFG_ENABLE k).of old != 0)
        (decide (k < 8) && (u.reached (Reg.REF_SLOT_CFG k) (byteMask be) &&& (Fld.REF_SLOT_CFG_LANE k).mask) != 0)).rewrite.keeping s)) ∧
    (∀ k, k < 8 → u.takesWrite (Reg.REF_TSLOT_CFG k) value (byteMask be) = true →
      exec (.refSlotCfgWrite dt (16 + k) false value be) s = .next (((u.written (Reg.REF_TSLOT_CFG k) value (byteMask be)).slotWritten (16 + k)
        ((Fld.REF_TSLOT_CFG_ENABLE k).of ((u.atWrite (Reg.REF_TSLOT_CFG k) value (byteMask be)).reg (Reg.REF_TSLOT_CFG k)) != 0) false).rewrite.keeping s)) ∧
    (∀ k, k < 8 → u.takesWrite (Reg.REF_TSLOT_QUAL k) value (byteMask be) = true →
      exec (.refSlotCfgWrite dt (16 + k) true value be) s = .next (((u.written (Reg.REF_TSLOT_QUAL k) value (byteMask be)).reselect).rewrite.keeping s)) ∧
    (u.takesWrite Reg.REF_VIRT_FREQ_HI value (byteMask be) = true →
      exec (.virtFreqWrite dt value be) s = .next ((u.dueFirst.writeDone Reg.REF_VIRT_FREQ_HI value (byteMask be)).keeping s)) ∧
    (∀ i, i < 2 → u.takesWrite (Reg.REF_XPPS_DECL_HI i) value (byteMask be) = true →
      exec (.xppsDeclArm dt i value be) s = .next ((u.dueFirst.writeDone (Reg.REF_XPPS_DECL_HI i) value (byteMask be)).keeping s)) ∧
    (∀ k, k < 8 → u.takesWrite (Reg.REF_OUT_START_W2 k) value (byteMask be) = true →
      exec (.outStartRequest dt k value be) s = .next ((u.dueFirst.writeDone (Reg.REF_OUT_START_W2 k) value (byteMask be)).keeping s))

/-- With the time domain on: a fault of the kinds a slot knows (an offset only beyond LIMIT, an edge only outside PPS_WIN)
makes the slot faulted; its end ends the fault, but an offset that is still beyond LIMIT holds it. When VALIDATE_S has
passed a validating slot without a fault qualifies, or waits WTR_S if it was lost before; when WTR_S has passed it
qualifies. Two qualified slots of equal priority that differ beyond DISAGREE are entered as disagreeing with the
outcome of R243, marked, reported by event 20 and weighed again; when they agree once more, an outvoted one for its
WTR_S, the entry goes. Completion: refSlotFault, refSlotFaultEnd (a slot, the time domain on), refValidateExpiry,
refWtrExpiry (their timer run out), refDisagreeDetect and refDisagreeClear (two slots below 15) each answer the next
state given here. (R239, R240, R243) -/
def Obligations.SlotsFaultValidateRestoreAndDisagree : Prop :=
  ∀ (s u : State) (dt : Nat), u = s.advance dt → u.domainOn 2 = true →
    (∀ k code off, k < 24 → isSlot k = true → let w := u.setSlotFreq k off;
      (∀ dev, let is := (inputFaults k).contains code && (if code = 1 then decide (w.f (Fld.REF_SLOT_LIMIT_LIMIT_PPB k) * 1000 < off.natAbs)
          else code != 2 || decide (w.ppsWin k < dev));
        (is = true → exec (.refSlotFault dt k code off dev) s = .next
          (((if k = 22 ∨ k = 23 then w.setSlot k { w.slot k with nextSec := none } else w).slotFault k code).keeping s)) ∧
        (is = false → w.shownFault k ≠ some code → exec (.refSlotFault dt k code off dev) s = .next (w.keeping s)) ∧
        (is = false → w.shownFault k = some code → exec (.refSlotFault dt k code off dev) s = .next ((w.slotCheck k).keeping s))) ∧
      (code = 1 → w.f (Fld.REF_SLOT_LIMIT_LIMIT_PPB k) * 1000 < off.natAbs → exec (.refSlotFaultEnd dt k code off) s = .next (w.keeping s)) ∧
      (code ≠ 1 ∨ off.natAbs ≤ w.f (Fld.REF_SLOT_LIMIT_LIMIT_PPB k) * 1000 →
        exec (.refSlotFaultEnd dt k code off) s = .next ((w.slotFaultEnd k code).keeping s)) ∧
      (u.slotState k = rsValidating → (u.slot k).timerAt + (u.slot k).timerS * 625000000 ≤ u.clk →
        (w.faultOf k ≠ none → exec (.refValidateExpiry dt k off) s = .next ((w.slotCheck k).keeping s)) ∧
        (w.faultOf k = none → (w.slot k).lost = true → w.slotWtr k ≠ 0 → exec (.refValidateExpiry dt k off) s = .next ((w.startSlotTimer k rsWaitRestore (w.slotWtr k)).keeping s)) ∧
        (w.faultOf k = none → (w.slot k).lost = false ∨ w.slotWtr k = 0 → exec (.refValidateExpiry dt k off) s = .next ((w.qualify k false).keeping s))) ∧
      (u.slotState k = rsWaitRestore → (u.slot k).timerAt + (u.slot k).timerS * 625000000 ≤ u.clk →
        (w.faultOf k = none → exec (.refWtrExpiry dt k off) s = .next ((w.qualify k true).keeping s)) ∧
        (w.faultOf k ≠ none → exec (.refWtrExpiry dt k off) s = .next ((w.slotCheck k).keeping s)))) ∧
    (∀ a b da db, a < b → b < 15 → let w := (u.setSlotFreq a da).setSlotFreq b db;
      (w.slotPrio a = w.slotPrio b → w.slotPrio a ≠ 0 → w.slotState a = rsQualified → w.slotState b = rsQualified → w.disagreeLimit < (da - db).natAbs →
        w.ref.disagree.any (fun x => x.a == a && x.b == b) = false →
        let big := max da.natAbs db.natAbs
        let outcome := if w.warming = true then 3 else if w.disagreeLimit < 2 * big then (if db.natAbs < da.natAbs then 1 else 2) else 0
        let x : Disagreement := ⟨a, b, outcome, w.clk⟩
        let v : State := { w with ref := { w.ref with disagree := w.ref.disagree ++ [x] } };
        exec (.refDisagreeDetect dt a b da db) s = .next (((((v.showMarks a).showMarks b).raise 20 a (v.disagreeDetail x)).reselect).keeping s)) ∧
      (∀ x agreed, u.ref.disagree.find? (fun x => x.a == a && x.b == b) = some x → (da - db).natAbs ≤ w.disagreeLimit →
        (x.outcome = 1 → w.slotWtr x.a * 625000000 ≤ min agreed (w.clk - x.since)) →
        (x.outcome = 2 → w.slotWtr x.b * 625000000 ≤ min agreed (w.clk - x.since)) →
        let v : State := { w with ref := { w.ref with disagree := w.ref.disagree.filter (· != x) } };
        exec (.refDisagreeClear dt a b agreed da db) s = .next (((((v.showMarks a).showMarks b).raiseEnd 20 a (v.disagreeDetail x)).reselect).keeping s)) ∧
      (u.ref.disagree.find? (fun x => x.a == a && x.b == b) = none → ∀ agreed, exec (.refDisagreeClear dt a b agreed da db) s = .next (u.keeping s)))

/-- A frequency handover (100 ms after its beginning for a clock source, at two edges for a pulse source, at once for a
target that has failed) selects the target, counts in REF_SWITCH_CNT, ends the switch and reports event 19, with event
24 and the wick event after holdover, then weighs the references; so does a time handover, whose offset for an
external slot is the mean of its first two edges; with no switch in progress neither changes anything. A comparison
cycle in FREERUN, HOLDOVER, or with no source does nothing; else it enters the phase error, steers, counts good and
bad cycles, and moves between ACQUIRING, LOCKED and loss of lock. A second not yet passed changes nothing. The wick is
computed from the holdover in force or the one planned. Completion: refSwitchHandover (a switch in progress and
measured), dpllCompareCycle (a selected slot, LOCKED), holdoverSecond (a second passed in HOLDOVER) and wickUpdate (in
HOLDOVER) each answer the next state given here. (R244, R248, R249, R250, R251, R253) -/
def Obligations.SwitchesSteeringAndHoldoverProceed : Prop :=
  ∀ (s u : State) (dt : Nat), u = s.advance dt →
    (∀ w x, u.ref.fsw = some w →
      u.slotState w.target ≠ rsQualified ∨ (clockType w.target = true ∧ w.since + 100 * 625000 ≤ u.clk) ∨ (clockType w.target = false ∧ 2 ≤ w.edges) → w.ownState ≠ dpHoldover →
      let v := ((((u.setSelected w.old false).setSelected w.target true).setF Fld.REF_STATUS_FSEL w.target).setF Fld.REF_STATUS_FTARGET noSlot).bump Reg.REF_SWITCH_CNT
      let locked := w.ownState == dpLocked && w.oldOk
      let v : State := { v with ref := { v.ref with
        fsw := none
        frozen := false
        ho := none
        handAt := v.clk
        good := 0
        bad := 0
        narrow := locked
        virtInt := 0
        integ := v.cv
        err := 0 } }
      let v := ((v.setReg Reg.REF_PHASE_ERR 0).setReg Reg.REF_HO_TIME 0).setDpll (if locked then dpLocked else dpAcquiring);
      exec (.refSwitchHandover dt false x) s = .next
        ((v.raise 19 w.target [(24, 2, w.old), (26, 1, 0), (28, 6, unsigned 48 x), (36, 4, v.msSince w.since)]).freqSelect.keeping s)) ∧
    (∀ w x, u.ref.tsw = some w →
      u.slotState w.target ≠ rsQualified ∨ (w.target < 20 ∧ w.since + 100 * 625000 ≤ u.clk) ∨ (20 ≤ w.target ∧ 2 ≤ w.edges) → u.ref.timeHo = none →
      let y := if w.offs.isEmpty then x else ratio w.offs.sum w.offs.length
      let v := ((((u.setSelected w.old false).setSelected w.target true).setF Fld.REF_STATUS_TSEL w.target).setFlag Fld.REF_STATUS_TSWITCHING false).bump Reg.REF_SWITCH_CNT
      let v := State.showHoldover { v with ref := { v.ref with tsw := none, hadTime := true, timeHo := none, secSwitch := true } };
      exec (.refSwitchHandover dt true x) s = .next
        ((v.raise 19 w.target [(24, 2, w.old), (26, 1, 1), (28, 6, unsigned 48 y), (36, 4, v.msSince w.since)]).timeSelect.keeping s)) ∧
    (u.ref.fsw = none → ∀ x, exec (.refSwitchHandover dt false x) s = .next (u.keeping s)) ∧
    (u.ref.tsw = none → ∀ x, exec (.refSwitchHandover dt true x) s = .next (u.keeping s)) ∧
    (∀ ps, (u.domainOn 2 = false ∨ 15 ≤ u.fsel ∨ u.dpll = dpFreerun ∨ u.dpll = dpHoldover → exec (.dpllCompareCycle dt ps) s = .next (u.keeping s)) ∧
      (u.domainOn 2 = true → u.fsel < 14 → u.dpll = dpLocked →
        let v := u.compare u.fsel ps
        let omega := (Config.loopRate (v.loopBw u.fsel)).toNat
        let v : State := { v with ref := { v.ref with integ := v.ref.integ + loopIntegral omega (cycleMs u.fsel) v.ref.err } }
        let v := v.steer (v.ref.integ + loopProportional omega v.ref.err)
        let v := v.countCycle v.ref.err (v.f (Fld.REF_SLOT_LOCK_WIN_NS u.fsel));
        v.dpll = dpLocked → exec (.dpllCompareCycle dt ps) s =
          .next ((if 4 ≤ v.ref.bad ∧ v.selectable u.fsel = true then v.loseLock else v).keeping s))) ∧
    (∀ rate coef, u.clk < u.ref.secAt + 625000000 → exec (.holdoverSecond dt rate coef) s = .next (u.keeping s)) ∧
    (∀ rate coef h, u.domainOn 2 = true → u.ref.secAt + 625000000 ≤ u.clk → u.dpll = dpHoldover → u.ref.ho = some h →
      let v : State := { u with ref := { u.ref with secAt := u.clk, cvSum := 0, cvN := 0, secSwitch := u.ref.tsw.isSome || u.warming } }
      let w := v.setReg Reg.REF_HO_TIME (BitVec.ofNat 32 (v.sSince h.since))
      let x := w.hoCv h (v.sSince h.since);
      exec (.holdoverSecond dt rate coef) s = .next (((w.setCv x).setPair48 Reg.REF_HO_CV_LO Reg.REF_HO_CV_HI x).keeping s)) ∧
    (∀ h, u.domainOn 2 = true → u.dpll = dpHoldover → u.ref.ho = some h →
      let k := u.wick h (u.sSince h.since)
      let v := u.setReg Reg.REF_WICK (BitVec.ofNat 32 k);
      exec (.wickUpdate dt) s = .next ((v.wickEvent k).keeping s))

/-- With the time domain on, an edge of slots 10 to 13 counts for a switch, one of slots 16 to 19 shows the offset given;
one of slots 20 to 23 whose second is named shows module time less the time back, the cable and the second, moves on
to the next second, and aligns time if that slot steers it; with no second named it changes nothing. A sentence that
decodes names its second, the next one if SENT_FOLLOWS; another one nothing. An IRIG frame that decodes names the
second after its own; the second undecodable one in a row faults slots 13 and 21. An output that waits for a start
begins at its first ideal edge, misalignment 0, RUNNING, an IRIG output with its first code; one that realigns takes
its edge the same way with event 29; before the edge nothing changes. Completion: timeSlotEdge, gnssSentence,
irigFrame (the time domain on), outStart, outRealignEdge (an output at its edge) and outClockAutoRealigned (a
misaligned CLOCK output back in bounds) each answer the next state given here. (R255, R256, R259, R260, R261) -/
def Obligations.TimeSlotsAndOutputsActAtTheirEdges : Prop :=
  ∀ (s u : State) (dt : Nat), u = s.advance dt →
    (∀ k back ptp, let r := (match converterOf k with | some j => u.refEdge j | none => u)
      r.domainOn 2 = true →
      (10 ≤ k → k ≤ 13 → exec (.timeSlotEdge dt k back ptp) s = .next ((r.switchEdge k none).keeping s)) ∧
      (16 ≤ k → k ≤ 19 → exec (.timeSlotEdge dt k back ptp) s = .next ((r.showOffset k ptp).keeping s)) ∧
      (20 ≤ k → k ≤ 23 → (r.edgeSecond k = none → exec (.timeSlotEdge dt k back ptp) s = .next (r.keeping s)) ∧
        (∀ sec, r.edgeSecond k = some sec →
          let cable := ratio (signed 32 (r.reg (Reg.REF_TSLOT_CABLE (k - 16))).toNat * 65536) 1000
          let delta := (r.now16 : Int) - (back : Int) - cable - ((sec * unitsPerS : Nat) : Int)
          let v := (r.setSlot k { r.slot k with nextSec := (r.slot k).nextSec.map (· + 1) }).showOffset k delta |>.switchEdge k (some delta);
          exec (.timeSlotEdge dt k back ptp) s =
            .next ((if v.tsel = k ∧ v.flag Fld.REF_CTRL_TLOOP_EN = true ∧ v.holds roleTime = true then v.alignTime delta else v).keeping s)))) ∧
    (u.domainOn 2 = true →
      (∀ sentence utc, nmeaSecond sentence = some utc → exec (.gnssSentence dt sentence) s = .next ((u.nameSecond 20 (if u.flag Fld.REF_GNSS_CFG_SENT_FOLLOWS = true then utc + 1 else utc)).keeping s)) ∧
      (∀ x symbols, x < 8 →
        (∀ sec, irigSecond x (yearOf (u.now16 / unitsPerS / 86400)) symbols = some sec → exec (.irigFrame dt x symbols) s = .next
          (((({ u with ref := { u.ref with irigBad := 0 } } : State).slotFaultEnd 13 3).nameSecond 21 (sec + 1)).keeping s)) ∧
        (irigSecond x (yearOf (u.now16 / unitsPerS / 86400)) symbols = none →
          let v : State := { u with ref := { u.ref with irigBad := u.ref.irigBad + 1 } };
          (u.ref.irigBad = 0 → exec (.irigFrame dt x symbols) s = .next (v.keeping s)) ∧
          (u.ref.irigBad ≠ 0 → exec (.irigFrame dt x symbols) s = .next (((v.slotFault 13 3).slotFault 21 3).keeping s))))) ∧
    (∀ sentence, nmeaSecond sentence = none → exec (.gnssSentence dt sentence) s = .next (u.keeping s)) ∧
    (∀ k t, k < 8 → u.domainOn 2 = true → (u.out k).start = some t →
      (reached (u.idealEdge k t) u.now16 = false → exec (.outStart dt k) s = .next (u.keeping s)) ∧
      (reached (u.idealEdge k t) u.now16 = true → ∃ r, exec (.outStart dt k) s = .next r ∧
        (u.outFn k ≠ ofIrig → r.outbox = .outputEdge k (u.idealEdge k t) :: u.outbox) ∧
        (u.outFn k = ofIrig → ∃ symbols, r.outbox = .irig k symbols (u.flag (Fld.REF_OUT_K_CFG_IRIG_AM k)) :: .outputEdge k (u.idealEdge k t) :: u.outbox) ∧
        (r.out k).start = none ∧ (r.out k).slewAt = u.clk ∧ r.flag (Fld.REF_OUT_STATUS_START_PENDING k) = false ∧ r.flag (Fld.REF_OUT_STATUS_RUNNING k) = true ∧
        r.flag (Fld.REF_OUT_STATUS_MISALIGNED k) = false ∧
        (∀ off, off ≠ Reg.REF_OUT_STATUS k → off ≠ Reg.REF_OUT_MISALIGN_LO k → off ≠ Reg.REF_OUT_MISALIGN_HI k → r.reg off = u.reg off) ∧
        r.time = u.time ∧ r.evt = u.evt)) ∧
    (∀ k, k < 8 → u.autoClock k = true → u.flag (Fld.REF_OUT_STATUS_MISALIGNED k) = true → u.below (u.outM k) = true →
      let v := (u.foldM k).setFlag (Fld.REF_OUT_STATUS_MISALIGNED k) false;
      exec (.outClockAutoRealigned dt k) s = .next ((v.raise 29 k [(24, 6, unsigned 48 (u.storedM k - v.storedM k)), (30, 1, 1), (32, 12, time96 (v.idealEdge k v.now16))]).keeping s)) ∧
    (∀ k b, k < 8 → u.domainOn 2 = true → (u.out k).boundary = some b →
      (reached (u.alignEdge k (b + us1)) u.now16 = false → exec (.outRealignEdge dt k) s = .next (u.keeping s)) ∧
      (reached (u.alignEdge k (b + us1)) u.now16 = true →
        let v := (u.setOut k { u.out k with boundary := none, slewAt := u.clk }).setPair48 (Reg.REF_OUT_MISALIGN_LO k) (Reg.REF_OUT_MISALIGN_HI k) 0
        let v := (v.setFlag (Fld.REF_OUT_STATUS_MISALIGNED k) false).firstEdge k (u.alignEdge k (b + us1))
        let v := v.raise 29 k [(24, 6, unsigned 48 (u.outM k)), (30, 1, 0), (32, 12, time96 (u.alignEdge k (b + us1)))]
        let v := (v.setOut k { v.out k with boundary := none }).setFlag (Fld.REF_OUT_STATUS_REALIGN_PENDING k) false
        let v : State := { v with ref := { v.ref with realign := v.ref.realign.map (fun (x : Nat × Nat × Nat) => (x.1, setBit x.2.1 k false, x.2.2)) } };
        exec (.outRealignEdge dt k) s = .next (v.finishRealigns.keeping s)))

/-- On an input in use with the timing domain on, settings and a table that wait for an idle period that has passed take
effect, and a crossing is noted as seen. In an external calibration one of the selected sense that reaches the
converter not within 8 ns of the last captured becomes the last and counts in TIC_CAL_HITS; one that no one uses
counts nowhere. One that the prescaler passes gets its stamp from its bin: within HOLDOFF of the last stamp it counts
in TIC_HELDOFF; reaching the converter within 8 ns of it in TIC_MISSED; else it becomes the last edge, counts in
TIC_EDGES, gives its error to an external output run that takes it, and is captured. On an input not in use, or with
the domain off, nothing changes. Completion: tinEdge (an input in use, a bin of the 512, the timing domain on) answers
the next state given here. (R265, R266, R267, R268, R269) -/
def Obligations.EdgesOfTimingInputsAreCountedOrHeld : Prop :=
  ∀ (s u : State) (dt i : Nat) (rising : Bool) (bin : Nat), u = s.advance dt → i < 16 → bin < 512 →
    (u.domainOn 3 = false ∨ u.tinFn i = 0 → exec (.tinEdge dt i rising bin) s = .next (u.keeping s)) ∧
    (u.domainOn 3 = true → u.tinFn i ≠ 0 →
      let x := u.ticApply i
      let v := x.setTic i { x.tic i with seenAt := some x.clk }
      let own := decide (v.ticMode i ≠ 0) && edgeFits (v.ticEdgeSel i) rising
      let users := v.stopUsers i rising
      let place := v.edgePlace i bin;
      (v.calExt i = true → exec (.tinEdge dt i rising bin) s = .next ((if edgeFits (v.ticEdgeSel i) rising && !(v.tic i).blind place
        then (v.setTic i { v.tic i with last := some (v.edgeAt i bin rising), lastAt := place }).bump (Reg.TIC_CAL_HITS i) else v).keeping s)) ∧
      (v.calExt i = false → own = false → users = [] → exec (.tinEdge dt i rising bin) s = .next (v.keeping s)) ∧
      (v.calExt i = false → (own = true ∨ users ≠ []) →
        let w := (v.prescale i).2
        let e := w.edgeAt i bin rising
        let hold := (w.reg (Reg.TIC_HOLDOFF i)).toNat * 1000 * 65536;
        ((v.prescale i).1 = false → exec (.tinEdge dt i rising bin) s = .next (w.keeping s)) ∧
        ((v.prescale i).1 = true →
          ((w.tic i).last = none →
            exec (.tinEdge dt i rising bin) s = .next (((((w.setTic i { w.tic i with last := some e, lastAt := place }).bump (Reg.TIC_EDGES i)).extGather i e).ticCaptured
              i e own users).keeping s)) ∧
          (∀ l, (w.tic i).last = some l →
            (hold ≠ 0 → l.stamp ≤ e.stamp → e.stamp < l.stamp + hold → exec (.tinEdge dt i rising bin) s = .next ((w.bump (Reg.TIC_HELDOFF i)).keeping s)) ∧
            (hold = 0 ∨ e.stamp < l.stamp ∨ l.stamp + hold ≤ e.stamp →
              (place - (w.tic i).lastAt < 8 * 655360 → exec (.tinEdge dt i rising bin) s = .next
                ((((w.freqBlind i e).setTic i { (w.freqBlind i e).tic i with missed := ((w.freqBlind i e).tic i).missed + 1 }).bump (Reg.TIC_MISSED i)).keeping s)) ∧
              (¬ place - (w.tic i).lastAt < 8 * 655360 → exec (.tinEdge dt i rising bin) s = .next
                (((((w.setTic i { w.tic i with last := some e, lastAt := place }).bump (Reg.TIC_EDGES i)).extGather i e).ticCaptured i e own users).keeping s)))))))

/-- TIN_ARM and TIN_DISARM, where their write passes its checks, act on the bits the write sets, ARM before DISARM; a
TIC_CFG_WRITE that passes its checks aborts a measurement whose setting it changes, writes the word, and takes effect
at once where the input is idle. An open measurement whose timeout is due, with every edge stamped up to it out of the
converters of start and stop, is cut with reason 4, one not due goes on. In frequency mode a gate that has ended and
can close is closed; other modes are unchanged. In the first idle period pending edge settings and a new bin table
take effect, the latter with its widest bin shown and CAL_PENDING and FACTORY_TABLE clear. A calibration launch into a
quiet input of a running calibration counts a hit. Completion: tinArm, tinDisarm and ticCfgWrite (an input below 16, a
write its checks pass), tinIntervalTimeout (an open measurement due and its edges settled), tinFreqGate (frequency
mode, the gate ended), tinSettingApply (an idle input), tinCalLaunch (a quiet input under calibration) each answer the
next state given here. (R274, R275, R276, R277, R282, R285) -/
def Obligations.TimingInputsAreArmedSetAndTimedOut : Prop :=
  ∀ (s u : State) (dt i : Nat), u = s.advance dt → i < 16 →
    (∀ value be, let off := Reg.TIC_CTRL i;
      let out := fun (v m : Word) =>
        let p := u.pulsed off v m
        let w := u.written off v m
        let w := if (Fld.TIC_CTRL_ARM i).of p ≠ 0 then w.ticArm i else w
        (if (Fld.TIC_CTRL_DISARM i).of p ≠ 0 then w.ticDisarm i else w).rewrite.keeping s;
      (u.takesWrite off ((Fld.TIC_CTRL_ARM i).into value 1) ((Fld.TIC_CTRL_ARM i).select be) = true →
        exec (.tinArm dt i value be) s = .next (out ((Fld.TIC_CTRL_ARM i).into value 1) ((Fld.TIC_CTRL_ARM i).select be))) ∧
      (u.takesWrite off ((Fld.TIC_CTRL_DISARM i).into value 1) ((Fld.TIC_CTRL_DISARM i).select be) = true →
        exec (.tinDisarm dt i value be) s = .next (out ((Fld.TIC_CTRL_DISARM i).into value 1) ((Fld.TIC_CTRL_DISARM i).select be))) ∧
      (u.takesWrite (Reg.TIC_CFG i) value (byteMask be) = true →
        let word := u.writtenWord (Reg.TIC_CFG i) value (byteMask be)
        exec (.ticCfgWrite dt i value be) s =
          .next (((((u.atWrite (Reg.TIC_CFG i) value (byteMask be)).ticWriting i word).setReg (Reg.TIC_CFG i) word).ticApply i).rewrite.keeping s))) ∧
    (∀ a b t, (u.tic i).opened = some (a, b, t) →
      let settled := t + max (u.settleTime i) (u.settleTime (u.ticStopSrc i))
      (reached settled u.now16 = true → exec (.tinIntervalTimeout dt i) s = .next ((u.ticCut i 4 t).keeping s)) ∧
      (reached settled u.now16 = false → exec (.tinIntervalTimeout dt i) s = .next (u.keeping s))) ∧
    (∀ extra, (u.ticMode i ≠ 4 → exec (.tinFreqGate dt i extra) s = .next (u.keeping s)) ∧
      (u.ticMode i = 4 → u.domainOn 3 = true → (u.tic i).gate ≤ u.now16 / u.gateLen i → (u.tic i).e0 = none →
        let v := (u.bumpBy (Reg.TIC_EDGES i) 0).setTic i { u.tic i with cnt := (u.tic i).cnt + 0 };
        exec (.tinFreqGate dt i extra) s = .next ((if ((u.tic i).gate + 1) * v.gateLen i ≤ v.now16 ∧ ((u.tic i).e1.isSome = true ∨ (u.tic i).cnt + 0 < 2)
          then v.freqClose i none else v).keeping s))) ∧
    (u.ticIdle i = true → u.domainOn 3 = true → let v := if (u.tic i).kept.isSome then u.ticForce i else u
      ((v.tic i).nextBins = none → exec (.tinSettingApply dt i) s = .next (v.keeping s)) ∧
      (∀ l widest, (v.tic i).nextBins = some (l, widest) → exec (.tinSettingApply dt i) s = .next ((v.ticTable i l widest).keeping s))) ∧
    (u.ticIdle i = true → u.domainOn 3 = true → (u.tic i).kept = none → ∀ l widest, (u.tic i).nextBins = some (l, widest) → l ≠ [] →
      ∃ t, exec (.tinSettingApply dt i) s = .next t ∧ (t.tic i).bins = some l ∧ (t.tic i).nextBins = none ∧ (t.tic i).tableAt = u.clk ∧
        t.flag (Fld.TIC_STATUS_FACTORY_TABLE i) = false ∧ t.flag (Fld.TIC_STATUS_CAL_PENDING i) = false ∧
        t.reg (Reg.TIC_MAX_BIN i) = BitVec.ofNat 32 widest ∧
        (∀ off, off ≠ Reg.TIC_MAX_BIN i → off ≠ Reg.TIC_STATUS i → t.reg off = u.reg off) ∧ (∀ j, j ≠ i → t.tic j = u.tic j) ∧ t.evt = u.evt) ∧
    (u.ticIdle i = false → exec (.tinSettingApply dt i) s = .next (u.keeping s)) ∧
    (∀ r : CalRun, u.domainOn 3 = true → Store.get (fun _ => none) u.cal.runs i = some r → r.ext = false → (u.tic i).seenAt = none →
      (u.tic i).opened = none → (u.tic i).launchAt + 25 ≤ u.clk →
      exec (.tinCalLaunch dt i) s = .next (((u.setTic i { u.tic i with launchAt := u.clk }).bump (Reg.TIC_CAL_HITS i)).keeping s)) ∧
    (u.clk < (u.tic i).launchAt + 25 → exec (.tinCalLaunch dt i) s = .next (u.keeping s))

/-- For a run j in progress: an interpolator run stops outside the line, with the external reference's faults, or past its
time limit; with 2^(HITS_LOG2 - 2) hits over the 640 taps and 2^HITS_LOG2 over the 512 bins, a bin wider than 6.25 ps
is a failure, else the taps chosen and the new bin centres are kept, in force from the next idle period of the input
or converter on (at once where it is idle). A phase detector run with 2^18 samples, 40 dither steps and 64 blocks
passed for each sample keeps the 32 cells chosen and writes its table; past its time it fails. An output run on an
output in no use ends with result 5; an external one without an edge in three periods, or any past its time, fails; a
trim beyond 100 ps of the factory value is discarded, else it moves the output from the next boundary of R261 on.
Without a run in progress nothing changes. Completion: interpCalDone, phaseDetCalDone and outputCalDone (a run of the
instance in progress, of the type named) each answer the next state given here. (R283, R291, R294, R300, R301) -/
def Obligations.CalibrationRunsEnd : Prop :=
  ∀ (s u : State) (dt j : Nat), u = s.advance dt → j < 203 →
    (u.calRun j = none → ∀ fault taps hits samples steps table,
      exec (.interpCalDone dt j fault taps hits) s = .next (u.keeping s) ∧
      exec (.phaseDetCalDone dt j samples steps table) s = .next (u.keeping s)) ∧
    (∀ r, u.calRun j = some r →
      (calType j = 1 ∨ calType j = 2 → ∀ taps hits,
        (exec (.interpCalDone dt j 1 taps hits) s = .next ((u.runFailed j r (if r.ext then 4 else 1) 1 0).keeping s)) ∧
        (r.ext = true → exec (.interpCalDone dt j 5 taps hits) s = .next ((u.runFailed j r 4 5 0).keeping s) ∧
          exec (.interpCalDone dt j 6 taps hits) s = .next ((u.runFailed j r 4 6 0).keeping s)) ∧
        (u.overdue j r = true → exec (.interpCalDone dt j 4 taps hits) s = .next ((u.runFailed j r 3 4 (taps.sum + hits.sum)).keeping s)) ∧
        (u.overdue j r = false → taps.length = 640 → hits.length = 512 → 4 * taps.sum = 2 ^ u.hitsLog2 j → hits.sum = 2 ^ u.hitsLog2 j →
          let l := binCentres (2 ^ u.hitsLog2 j) 0 hits
          let v := u.pickCells j 0 (chooseTaps taps)
          (binTooWide hits = true → exec (.interpCalDone dt j 0 taps hits) s = .next ((u.runFailed j r 1 2 (widestBin hits)).keeping s)) ∧
          (binTooWide hits = false → j < 16 → exec (.interpCalDone dt j 0 taps hits) s = .next
            ((((v.setTic j { v.tic j with nextBins := some (l, widestBin hits) }).ticApply j).runDone j r (widestBin hits)).keeping s)) ∧
          (binTooWide hits = false → 16 ≤ j → exec (.interpCalDone dt j 0 taps hits) s = .next
            (((({ v with cal := { v.cal with refNext := Store.set (fun _ => none) v.cal.refNext j (some l) } } : State).refTable j).runDone
              j r (widestBin hits)).keeping s)))) ∧
      (calType j = 3 → ∀ samples steps table,
        (u.overdue j r = true → exec (.phaseDetCalDone dt j samples steps table) s = .next ((u.runFailed j r 3 4 samples).keeping s)) ∧
        (u.overdue j r = false → 2 ^ 18 ≤ samples → steps.length = 40 → 8 * 64 * samples ≤ u.blocksSince j r →
          let v := u.pickCells j 0 (chooseDither steps)
          exec (.phaseDetCalDone dt j samples steps table) s = .next
            ((State.runDone { v with cal := { v.cal with linear := Store.set (fun _ => none) v.cal.linear (j - 32) (some table) } } j r (largestOf table)).keeping s)) ∧
        (u.overdue j r = false → samples < 2 ^ 18 ∨ steps.length ≠ 40 ∨ u.blocksSince j r < 8 * 64 * samples →
          exec (.phaseDetCalDone dt j samples steps table) s = .next (u.keeping s)))) ∧
    (∀ k r errs cells, k < 8 → u.calRun (192 + k) = some r →
      let seen := if r.ext then Store.get (fun _ => []) u.cal.extErrs k else errs
      let change := trimChange (seen.take (u.trimEdges k))
      let new := u.trimNow k + change
      let off := new - u.figureNow (192 + k) (figTrim k) 0;
      (u.calUseless (192 + k) r.ext = true → exec (.outputCalDone dt k errs cells) s = .next ((u.endRun (192 + k) r 5).keeping s)) ∧
      (u.calUseless (192 + k) r.ext = false →
        (r.ext = true → seen = [] → 3 * Config.ticksPerS ≤ (u.clk - r.since) * u.edgeRate k →
          exec (.outputCalDone dt k errs cells) s = .next ((u.runFailed (192 + k) r 4 6 0).keeping s)) ∧
        ((r.ext = false ∨ seen ≠ []) → u.overdue (192 + k) r = true →
          exec (.outputCalDone dt k errs cells) s = .next ((u.runFailed (192 + k) r 3 4 seen.length).keeping s)) ∧
        ((r.ext = false ∨ seen ≠ []) → u.overdue (192 + k) r = false → u.trimEdges k ≤ seen.length → chosen 64 80 cells = true →
          (1000 < off.natAbs → exec (.outputCalDone dt k errs cells) s = .next ((u.runFailed (192 + k) r 1 3 (off * 100)).keeping s)) ∧
          (off.natAbs ≤ 1000 →
            let v := u.setReg (Reg.CAL_OUT_TRIM k) (BitVec.ofNat 32 (unsigned 16 (u.trimNow k)))
            let v := v.setOut k { v.out k with newTrim := some (v.boundary k, new) }
            exec (.outputCalDone dt k errs cells) s = .next (((v.pickCells (192 + k) 0 cells).runDone (192 + k) r (change * 100)).keeping s)))))

/-- An internal port run whose new delays both stay within 100 ps of the factory values writes them, and raises event 75
with both differences; beyond, they are discarded with event 94 and the run is due again after 60 s. A port that is
down (in a run without an external loop), or a warning, abandons its run. In the main domain an oscillator with its
voltage outside 30 to 70 per cent swaps one element, up below 50 and down from it; inside the range nothing changes. A
die sensor's new temperature shows in CAL_SENSOR; a core sensor's shows in PWR_CORE_TEMP. Completion: portCalDone (an
internal run in progress), portCalAbandon (the port down or a warning), portCalRetry (60 s passed), oscRecentre (the
main domain on), calTempTrigger (sensors 0 to 11) each answer the next state given here. (R290, R292, R293, R295) -/
def Obligations.PortDelaysRecentringAndSensors : Prop :=
  ∀ (s u : State) (dt n i k : Nat), u = s.advance dt → n < 64 → i < 3 → k < 12 →
    (∀ r (sum trip : Int) (rxCells txCells : List Nat), u.calRun (128 + n) = some r → r.since ≤ u.clk →
      (u.overdue (128 + n) r = true → exec (.portCalDone dt n sum trip rxCells txCells) s = .next ((u.runFailed (128 + n) r 3 4 0).keeping s)) ∧
      (u.overdue (128 + n) r = false → r.ext = true →
        let out := trip - (u.reg Reg.CAL_PORT_EXT_LOOP).toNat - sum
        let v := (u.setReg Reg.CAL_PORT_EXT_RESULT (BitVec.ofNat 32 (unsigned 32 out))).endRun (128 + n) r 0
        exec (.portCalDone dt n sum trip rxCells txCells) s = .next ((v.raise 75 n [(24, 1, r.trigger), (25, 1, v.f (Fld.PRT_CFG_FEC n)),
          (26, 1, if r.forced then 1 else 0), (36, 2, r.temp), (38, 2, v.usSince r.since)]).keeping s)) ∧
      (u.overdue (128 + n) r = false → r.ext = false → chosen 64 96 rxCells = true → chosen 64 96 txCells = true →
        let ds := sum - u.loopFactory n
        let rx := ratio (ds * u.shareRx n) 65536
        let tx := ratio (ds * (65536 - u.shareRx n)) 65536
        let offRx := u.delayBase n 0 + rx - u.delayNow n 0
        let offTx := u.delayBase n 1 + tx - u.delayNow n 1;
        (beyond100ps offRx = false → beyond100ps offTx = false →
          let v := (((u.pickCells (128 + n) 0 rxCells).pickCells (128 + n) 1 txCells).putDelays n rx tx).endRun (128 + n) r 0
          exec (.portCalDone dt n sum trip rxCells txCells) s = .next ((v.raise 75 n [(24, 1, r.trigger), (25, 1, v.f (Fld.PRT_CFG_FEC n)),
            (26, 1, if r.forced then 1 else 0), (28, 4, unsigned 32 (u.delayBase n 0 + rx - u.planeDelay n 0)),
            (32, 4, unsigned 32 (u.delayBase n 1 + tx - u.planeDelay n 1)), (36, 2, r.temp), (38, 2, v.usSince r.since)]).keeping s)) ∧
        (beyond100ps offRx = true ∨ beyond100ps offTx = true →
          let v := u.runFailed (128 + n) r 1 3 (ratio ((if offRx.natAbs < offTx.natAbs then offTx else offRx) * 1000000) 65536)
          exec (.portCalDone dt n sum trip rxCells txCells) s = .next (State.keeping { v with cal := { v.cal with
            retry := Store.set (fun _ => none) v.cal.retry (128 + n) (some (v.clk, r.trigger)) } } s)))) ∧
    ((u.portUp n = false ∧ (∀ r, u.calRun (128 + n) = some r → r.ext = false)) ∨ u.supplyWarn = true → exec (.portCalAbandon dt n) s = .next ((u.abandonPort n).keeping s)) ∧
    (u.portUp n = true → u.supplyWarn = false → exec (.portCalAbandon dt n) s = .next (u.keeping s)) ∧
    (∀ t trig, Store.get (fun _ => none) u.cal.retry (128 + n) = some (t, trig) →
      (u.clk < t + 60 * Config.ticksPerS → exec (.portCalRetry dt n) s = .next (u.keeping s)) ∧
      (t + 60 * Config.ticksPerS ≤ u.clk → u.calDue (128 + n) = none → u.calRun (128 + n) = none → ∃ v : State,
        v = { u with cal := { u.cal with retry := Store.set (fun _ => none) u.cal.retry (128 + n) none } } ∧
        exec (.portCalRetry dt n) s = .next (((v.setCalDue (128 + n) (some (v.dueNow (128 + n) trig))).showCal (128 + n)).keeping s))) ∧
    (∀ volt, (u.domainOn 2 = false → exec (.oscRecentre dt i volt) s = .next (u.keeping s)) ∧
      (u.domainOn 2 = true → u.calRun (200 + i) = none →
        (30 ≤ volt → volt ≤ 70 → exec (.oscRecentre dt i volt) s = .next (u.keeping s)) ∧
        (volt < 30 → exec (.oscRecentre dt i volt) s = .next ((u.runDone (200 + i) ⟨4, false, false, u.clk, u.calTemp (200 + i), none⟩ 1).keeping s)) ∧
        (70 < volt → exec (.oscRecentre dt i volt) s = .next ((u.runDone (200 + i) ⟨4, false, false, u.clk, u.calTemp (200 + i), none⟩ (-1)).keeping s)))) ∧
    (∀ temp, (k < 8 → exec (.calTempTrigger dt k temp) s = .next ((u.calTempTrigger k temp).readTj.keeping s)) ∧
      (8 ≤ k → exec (.calTempTrigger dt k temp) s = .next ((u.setF (Fld.PWR_CORE_TEMP_TEMP (k - 8)) temp).readTj.keeping s)))

/-- Hot at step 0 takes step 1 at once; hot held for 1 s since the last change takes step 2, step 3 with THROTTLE 1, then
one more eighth up to 8, each with event 3 and its count. Cool held for 1 s takes back one eighth, the last with the
step; held for 10 s it takes step 2 to 1, and step 1 to 0 with event 4. Each change leaves GOV_STEP and THROTTLE as
named. THERM_WARN follows T_j with its hysteresis. A period's start holds the enabled ports that are up; m/8 of it, or
THROTTLE 0, lets them go. A trip needs 10 ms at 120 °C; its restart all eleven sensors below 95 °C. Completion:
thermHot, thermCool, thermWarn, throttlePeriod, thermalTrip, thermalTripRestart (under the conditions named). (R340,
R341, R342, R343) -/
def Obligations.TheGovernorStepsThrottlesAndTrips : Prop :=
  ∀ (s u : State) (dt : Nat), u = s.advance dt →
    let st := u.f Fld.PWR_STATUS_GOV_STEP
    let th := u.f Fld.PWR_STATUS_THROTTLE
    let up := fun (a b : Nat) => (u.setGov a b).limitEvent.keeping s
    let d := [(24, 1, u.f Fld.PWR_THERM_STATUS_SENSOR), (26, 2, u.f Fld.PWR_THERM_STATUS_TJ), (28, 2, u.f Fld.PWR_TALLY_LAST_TOTAL)]
    let held := u.heldFor u.pwr.hotSince 1
    let cool := fun (n : Nat) => u.heldFor u.pwr.coolSince n
    let release := (List.range 64).foldl (fun (v : State) n => if (v.port n).throttle = 0 then v else v.throttleSet n 0) u
    let upPorts := (List.range 64).filter (fun n => u.flag (Fld.PRT_CFG_ENABLE n) && u.portUp n);
    (∀ a b, a < 4 → b < 16 → (up a b).f Fld.PWR_STATUS_GOV_STEP = a ∧ (up a b).f Fld.PWR_STATUS_THROTTLE = b ∧
      ((u.setGov a b).keeping s).f Fld.PWR_STATUS_GOV_STEP = a ∧ ((u.setGov a b).keeping s).f Fld.PWR_STATUS_THROTTLE = b) ∧
    (st = 0 → u.hot = true → exec (.thermHot dt) s = .next (up 1 0)) ∧
    (st = 0 → u.hot = false → exec (.thermHot dt) s = .next (u.keeping s)) ∧
    (st ≠ 0 → held = false → exec (.thermHot dt) s = .next (u.keeping s)) ∧
    (st = 1 → held = true → exec (.thermHot dt) s = .next (up 2 0)) ∧
    (st = 2 → held = true → exec (.thermHot dt) s = .next (up 3 1)) ∧
    (st = 3 → held = true → th < 8 → exec (.thermHot dt) s = .next (up 3 (th + 1))) ∧
    (st = 3 → held = true → 8 ≤ th → exec (.thermHot dt) s = .next (u.keeping s)) ∧
    (st = 3 → cool 1 = true → 1 < th → exec (.thermCool dt) s = .next ((u.setGov 3 (th - 1)).keeping s)) ∧
    (st = 3 → cool 1 = true → th ≤ 1 → exec (.thermCool dt) s = .next ((u.setGov 2 0).keeping s)) ∧
    (st = 2 → cool 10 = true → exec (.thermCool dt) s = .next ((u.setGov 1 0).keeping s)) ∧
    (st = 1 → cool 10 = true → exec (.thermCool dt) s = .next (((u.setGov 0 0).raise 4 moduleScope
      [(24, 1, u.pwr.govTop), (26, 2, unsigned 16 u.pwr.topTemp), (28, 4, u.msSince u.pwr.govAt)]).keeping s)) ∧
    (st = 0 ∨ (st = 3 ∧ cool 1 = false) ∨ (st ≠ 3 ∧ cool 10 = false) → exec (.thermCool dt) s = .next (u.keeping s)) ∧
    (u.flag Fld.PWR_STATUS_THERM_WARN = false → ((u.f Fld.PWR_THERM_CFG_WARN_C * 16 : Nat) : Int) ≤ u.tj →
      exec (.thermWarn dt) s = .next (((u.setFlag Fld.PWR_STATUS_THERM_WARN true).raise 2 moduleScope d).keeping s)) ∧
    (u.flag Fld.PWR_STATUS_THERM_WARN = true →
      u.tj < ((u.f Fld.PWR_THERM_CFG_WARN_C * 16 : Nat) : Int) - ((u.f Fld.PWR_THERM_CFG_HYST_K * 16 : Nat) : Int) →
      exec (.thermWarn dt) s = .next (((u.setFlag Fld.PWR_STATUS_THERM_WARN false).raiseEnd 2 moduleScope d).keeping s)) ∧
    (th = 0 → exec (.throttlePeriod dt) s = .next (release.keeping s)) ∧
    (th ≠ 0 → u.passed u.pwr.periodAt 1 Config.ticksPerMs = true → exec (.throttlePeriod dt) s = .next
      ((upPorts.foldl (fun (v : State) n => v.throttleSet n 15) { u with pwr := { u.pwr with periodAt := u.clk } }).keeping s)) ∧
    (th ≠ 0 → th < 8 → u.passed u.pwr.periodAt 1 Config.ticksPerMs = false → u.passed u.pwr.periodAt th (Config.ticksPerMs / 8) = true →
      exec (.throttlePeriod dt) s = .next (release.keeping s)) ∧
    (∀ t, u.pwr.tripSince = some t → u.pwr.tripped = false → u.passed t 10 Config.ticksPerMs = true → u.f Fld.GEN_BOOT_STATUS_STAGE ≠ 0 →
      ∃ v : State, v = (u.setFlag Fld.PWR_STATUS_TRIP_LAST true).fullReset 2 [1, 2, 3, 4, 5, 6, 7, 8, 9, 10, 11, 12] ∧
        exec (.thermalTrip dt) s = .next (State.keeping { v with pwr := { v.pwr with tripped := true } } s)) ∧
    (∀ temps, u.pwr.tripped = true → temps.length = 11 →
      (temps.all (fun t => decide (signed 16 (t % 65536) < 95 * 16)) = true → ∃ v : State,
        v = { u with pwr := { u.pwr with tripped := false, tripSince := none } } ∧
        exec (.thermalTripRestart dt temps) s = .next (v.startUp.keeping s)) ∧
      (temps.all (fun t => decide (signed 16 (t % 65536) < 95 * 16)) = false → exec (.thermalTripRestart dt temps) s = .next (u.keeping s)))

/-- With no warning in force a rail below 11.0 V or 3.1 V sets its warning bit, counts in PWR_WARN_CNT, raises event 0,
abandons calibration runs and holds a commit in progress; both above, only the readings and minima change. A rail is
back once it has been above 11.3 V (MAIN12) or 3.15 V (AUX3) for 100 us: with one back its own warning bit clears
while the other warns; with both, both bits are clear, event 1 is raised, held commands and runs go on. A failed meter
leaves its domain on with event 7; causes 0, 1 and 4 switch it off, and a fault of PD0 is a cold start. A domain that
is off or a cause outside the table leaves all as it is. A domain comes back at its restore time with AUTO_RESTORE
set, and not otherwise. Completion: supplyWarn and supplyRecovered (any state), domainFault (domain 0..12),
domainRestore (domain 0..12). (R333, R345, R346, R347, R349, R365) -/
def Obligations.SupplyWarningsAndDomainFaultsTakeHold : Prop :=
  ∀ (s u : State) (dt : Nat), u = s.advance dt →
    (∀ main aux, let v := u.readRails main aux
      let low := decide (main < 11000)
      let rail := if low then 0 else 1
      let mv := if low then main else aux
      let d := [(24, 1, rail), (26, 2, mv), (28, 1, if v.flashRunning then 1 else 0), (30, 2, v.tagsOpen)];
      (11000 ≤ main → 3100 ≤ aux → exec (.supplyWarn dt main aux) s = .next (v.keeping s)) ∧
      (main < 11000 ∨ aux < 3100 → v.supplyWarn = false →
        let a := if main < 11000 then v.setFlag Fld.PWR_STATUS_MAIN_WARN true else v
        let b := if aux < 3100 then a.setFlag Fld.PWR_STATUS_AUX_WARN true else a
        let c := State.bump { b with pwr := { b.pwr with warnAt := some b.clk, warnRail := rail, warnLow := mv } } Reg.PWR_WARN_CNT;
        exec (.supplyWarn dt main aux) s = .next ((((c.raise 0 moduleScope d).abandonAll (fun _ => true)).holdCommit).keeping s)) ∧
      (v.pwr.warnAt = none → exec (.supplyRecovered dt main aux) s = .next (v.keeping s)) ∧
      let mOk := decide (11300 < main) && v.passed v.pwr.mainLow 100 Config.ticksPerUs
      let aOk := decide (3150 < aux) && v.passed v.pwr.auxLow 100 Config.ticksPerUs
      let mW := v.flag Fld.PWR_STATUS_MAIN_WARN
      let aW := v.flag Fld.PWR_STATUS_AUX_WARN;
      (∀ t, v.pwr.warnAt = some t → mOk = false ∨ aOk = false → exec (.supplyRecovered dt main aux) s =
        .next (((v.setFlag Fld.PWR_STATUS_MAIN_WARN (mW && !(mOk && aW))).setFlag Fld.PWR_STATUS_AUX_WARN (aW && !(aOk && mW))).keeping s)) ∧
      (∀ t, v.pwr.warnAt = some t → mOk = true → aOk = true →
        let us := min (v.usSince t) 0xFFFFFFFF
        let runs := (v.cal.due.filter (fun e => match e.2 with | some c => c.tag.isSome | none => false)).length
        let late := v.lateHeld v.heldCommands
        let x := ((v.setReg Reg.PWR_WARN_MAX_US (BitVec.ofNat 32 (max us (v.reg Reg.PWR_WARN_MAX_US).toNat))).setFlag
          Fld.PWR_STATUS_MAIN_WARN false).setFlag Fld.PWR_STATUS_AUX_WARN false
        let p := { x.pwr with warnAt := none }
        let h := { x.hif with supplyHeld := v.heldCommands.map (fun (e : Nat × JEntry) => e.1) }
        let y := { x with pwr := p, hif := h };
        exec (.supplyRecovered dt main aux) s = .next (((y.raise 1 moduleScope
          [(24, 1, x.pwr.warnRail), (26, 2, x.pwr.warnLow), (28, 4, us), (32, 2, v.heldCommands.length + runs), (34, 2, late)]).releaseHeldRuns).keeping s) ∧
        x.flag Fld.PWR_STATUS_MAIN_WARN = false ∧ x.flag Fld.PWR_STATUS_AUX_WARN = false)) ∧
    (∀ d cause mv ma, d < 13 →
      (u.domainOn d = false ∨ ¬ cause ∈ [0, 1, 2, 4] → exec (.domainFault dt d cause mv ma) s = .next (u.keeping s)) ∧
      (u.domainOn d = true →
        (exec (.domainFault dt d 2 mv ma) s = .next (((State.raise { u with pwr := { u.pwr with meterFail := setBit u.pwr.meterFail d true } } 7 d
          [(24, 1, 2), (25, 1, 0), (28, 2, mv), (30, 2, ma)])).keeping s)) ∧
        (cause ∈ [0, 1, 4] → d ≠ 0 → exec (.domainFault dt d cause mv ma) s = .next ((u.switchOff d cause mv ma).keeping s)) ∧
        (cause ∈ [0, 1, 4] → d = 0 → exec (.domainFault dt d cause mv ma) s = .next (u.coldStart.keeping s)))) ∧
    (∀ d t, d < 13 → Store.get (fun _ => none) u.pwr.restoreAt d = some t →
      (t ≤ u.clk → u.flag Fld.GEN_DOMAIN_CTRL_AUTO_RESTORE = true → exec (.domainRestore dt d) s = .next ((u.restoreDomain d).keeping s)) ∧
      (u.clk < t ∨ u.flag Fld.GEN_DOMAIN_CTRL_AUTO_RESTORE = false → exec (.domainRestore dt d) s = .next (u.keeping s)))

/-- Before 6,250,000 ticks have passed since the last boundary an ENERGY_TALLY changes nothing; from then on it makes the
next tally: the boundary moves by exactly one tally and the charged background starts from 0. A flash unit that was
not started changes nothing; a started one leaves the list, a failure raises event 12 with its area and address, a
control value record keeps the newest value, one of the boot configuration TXN_BOOT_CFG. A pipeline whose capacity is
below the load of its image's ports, with PD6 on, opens an episode with event 63; in an episode its fill is noted and
flow control follows; at or above that load nothing changes. Nominal voltage with no episode open changes nothing;
with one it sets 800 mV and closes them all. Completion: energyTally and coreRailNominal (any state),
flashHousekeepingUnit (kind 0..4), pipelineSlow (pipeline 0..3). (R18, R251, R334, R335, R336, R339) -/
def Obligations.EnergyTalliesHousekeepingAndTheRail : Prop :=
  ∀ (s u : State) (dt : Nat), u = s.advance dt →
    (∀ meters core rings oven flash,
      (u.clk < u.pwr.tallyAt + 6250000 → exec (.energyTally dt meters core rings oven flash) s = .next (u.keeping s)) ∧
      (u.pwr.tallyAt + 6250000 ≤ u.clk →
        let charged := u.pwr.charged
        let total := min 65535 (ratio (((List.range 13).map (u.drawn meters)).sum : Nat) 10).toNat
        let a := ((List.range 13).foldl (fun (v : State) d => v.meter meters d) u).bump Reg.PWR_TALLY_SEQ
        let b := (a.setF Fld.PWR_TALLY_LAST_TOTAL total).setF Fld.PWR_TALLY_LAST_SPARE a.pwr.spare
        let c := (b.setF Fld.PWR_TALLY_BG_CHARGED charged).setF Fld.PWR_TALLY_BG_DEFERRED b.pwr.deferred
        let env := c.f Fld.PWR_ENVELOPE_BEADS
        let overran := decide (env < total)
        let e := if overran then c.bump Reg.PWR_OVER_CNT else c
        let short := if !e.flag Fld.PWR_STATUS_SHORT then 0 else if overran then e.pwr.shortOver + 1 else e.pwr.shortOver
        let p := { e.pwr with tallyAt := e.pwr.tallyAt + 6250000, charged := 0, shortOver := short }
        let g := (List.range 4).foldl (fun (v : State) k => v.setF (Fld.PWR_CORE_TEMP_TEMP k) (core.getD k 0)) { e with pwr := p }
        let h := (g.readTj.setF Fld.PWR_OSC_OVEN_MW (min 5000 oven)).railTally rings
        let w := [0, 1, 2].foldl (fun (v : State) k => v.scheduleTask k 64) h;
        exec (.energyTally dt meters core rings oven flash) s = .next (((w.flashDue flash).lamplighter ((env : Int) - ((total : Int) - (charged : Int))).toNat).keeping s))) ∧
    (∀ kind ok addr retries, kind < 5 →
      (u.takeUnit 4 kind = none → exec (.flashHousekeepingUnit dt kind ok addr retries) s = .next (u.keeping s)) ∧
      (∀ v, u.takeUnit 4 kind = some v →
        (exec (.flashHousekeepingUnit dt kind false addr retries) s = .next ((v.raise 12 moduleScope
          [(24, 1, if kind = 0 then 2 else 1), (25, 1, if kind = 4 then 4 else 3), (28, 4, addr), (32, 1, retries)]).keeping s)) ∧
        (kind ≠ 3 → kind ≠ 4 → exec (.flashHousekeepingUnit dt kind true addr retries) s = .next (v.keeping s)) ∧
        (kind = 4 → exec (.flashHousekeepingUnit dt kind true addr retries) s =
          .next (State.keeping { v with img := { v.img with bootCfg := (v.reg Reg.TXN_BOOT_CFG).toNat } } s)) ∧
        (kind = 3 → ∀ t cv seen rest, v.ref.hist = (t, cv, seen) :: rest →
          exec (.flashHousekeepingUnit dt kind true addr retries) s = .next (State.keeping { v with ref := { v.ref with flashCv := some cv } } s)))) ∧
    (∀ p cap fill, p < 4 → let floor := u.floorLoad p
      (floor ≤ cap ∨ u.domainOn 6 = false → exec (.pipelineSlow dt p cap fill) s = .next (u.keeping s)) ∧
      (cap < floor → u.domainOn 6 = true → let f := u.noteFill p fill
        (∀ x, Store.get (fun _ => none) f.pwr.slow p = some x → exec (.pipelineSlow dt p cap fill) s = .next (f.flow.keeping s)) ∧
        (Store.get (fun _ => none) f.pwr.slow p = none →
          let hot := ((List.range 4).map (fun c => f.f (Fld.PWR_CORE_TEMP_TEMP c))).foldl
            (fun a b => if signed 16 a < signed 16 b then b else a) (f.f (Fld.PWR_CORE_TEMP_TEMP 0))
          let x : Slow := ⟨f.clk, floor, f.f Fld.PWR_CORE_RAIL_MV, hot, kib fill, (f.reg (Reg.BUF_ELASTIC_OVF_CNT p)).toNat⟩
          let v := { f with pwr := { f.pwr with slow := Store.set (fun _ => none) f.pwr.slow p (some x) } };
          exec (.pipelineSlow dt p cap fill) s = .next ((v.flow.raise 63 p
            [(24, 4, cap), (28, 4, floor), (32, 2, x.mv), (34, 2, kib fill), (44, 2, hot)]).keeping s)))) ∧
    (∀ caps fills, (u.pwr.slow = [] → exec (.coreRailNominal dt caps fills) s = .next (u.keeping s)) ∧
      (u.pwr.slow ≠ [] → ∃ t, exec (.coreRailNominal dt caps fills) s = .next t ∧ t.pwr.slow = []))

/-- Power-good at stage 0 of an untripped module starts the timeline with both contacts low, as it does, after a full
reset with cause 8, on a module whose contacts had gone high; else it changes nothing. Outside a supply warning the
preferred slot's image is taken where it verifies; else, with fallback enabled, the other's, with FALLBACK_USED; with
neither and no active image the stage is 6. Domains come on at stage 3 only, lanes trained act at stage 4 only. MAIN12
below 10 V is a supply reset of every domain but PD0. A write that GEN_RESET_CTRL takes starts its reset; a core reset
ends; the watchdog restarts the controller with cause 5, the host with 6. After a cold start every register but
MIR_CLAIM and the two oscillator registers reads its reset value. Completion: powerGood, startUpDomainsOn,
startUpLanesTrained, supplyReset, controllerWatchdog, controllerRestartEnd, coreResetEnd, coldStart (any state),
bootImageLoad (as named), moduleReset, coreReset, controllerRestart (a write that GEN_RESET_CTRL takes). (R69, R351,
R352, R355, R357, R358, R27, R48) -/
def Obligations.StartUpAndTheResetKindsRunTheirCourse : Prop :=
  ∀ (s u : State) (dt : Nat), u = s.advance dt →
    let stage := u.f Fld.GEN_BOOT_STATUS_STAGE
    let pulled := stage = 7 ∧ u.f Fld.GEN_HOTPLUG_PRES ≠ 3
    let all := [1, 2, 3, 4, 5, 6, 7, 8, 9, 10, 11, 12]
    let w := fun (v : Word) => (u.written Reg.GEN_RESET_CTRL v 0xFFFFFFFF).setReg Reg.GEN_RESET_CTRL 0;
    (∀ bad, (stage = 0 → u.pwr.tripped = false → exec (.powerGood dt bad) s =
        .next ((State.setF { u with cal := { u.cal with badTables := bad } } Fld.GEN_HOTPLUG_PRES 3).startUp.keeping s)) ∧
      (pulled → u.pwr.tripped = false → exec (.powerGood dt bad) s =
        .next ((State.setF { u.fullReset 8 all with cal := { (u.fullReset 8 all).cal with badTables := bad } } Fld.GEN_HOTPLUG_PRES 3).startUp.keeping s)) ∧
      ((stage ≠ 0 ∧ ¬pulled) ∨ u.pwr.tripped = true → exec (.powerGood dt bad) s = .next (u.keeping s))) ∧
    (∀ ok0 ok1 bad0 bad1, (u.domainOn 4 = false ∨ u.supplyWarn = true ∨ ¬ ((stage = 1 ∧ u.img.active = none) ∨ u.rst.reload = true) →
        exec (.bootImageLoad dt ok0 ok1 bad0 bad1) s = .next (u.keeping s)) ∧
      (u.domainOn 4 = true → u.supplyWarn = false → (stage = 1 ∧ u.img.active = none) ∨ u.rst.reload = true →
        let p := u.img.bootCfg % 2
        let read := fun (k : Nat) => if k = 0 then ok0 else ok1
        let place := fun (k : Nat) => if k = 0 then bad0 else bad1
        let v := { u with rst := { u.rst with reload := false } };
        (∀ a i, v.readSlot p (read p) (place p) = (a, some i) →
          exec (.bootImageLoad dt ok0 ok1 bad0 bad1) s = .next (((a.takeImage i p true).setFlag Fld.GEN_BOOT_STATUS_FALLBACK_USED false).keeping s)) ∧
        (∀ a, v.readSlot p (read p) (place p) = (a, none) →
          (a.img.bootCfg.testBit 1 = true → ∀ b i, a.readSlot (1 - p) (read (1 - p)) (place (1 - p)) = (b, some i) →
            exec (.bootImageLoad dt ok0 ok1 bad0 bad1) s = .next (((b.takeImage i (1 - p) true).setFlag Fld.GEN_BOOT_STATUS_FALLBACK_USED true).keeping s)) ∧
          (a.img.bootCfg.testBit 1 = false → a.img.active = none →
            exec (.bootImageLoad dt ok0 ok1 bad0 bad1) s = .next ((a.setF Fld.GEN_BOOT_STATUS_STAGE 6).keeping s))))) ∧
    (stage ≠ 3 ∨ u.pwr.oscLost = true → exec (.startUpDomainsOn dt) s = .next (u.keeping s)) ∧
    (∀ i, stage = 3 → u.pwr.oscLost = false → u.img.active = some i → ∃ v : State,
      v = ((List.range 13).filter (fun d => i.planOn d && !u.domainOn d && !(u.f Fld.GEN_DOMAIN_GIVEN_UP_DOMAINS).testBit d)).foldl
        (fun (x : State) d => (x.clearDomain d).bringUp d) u ∧
      exec (.startUpDomainsOn dt) s = .next (((v.setF Fld.GEN_BOOT_STATUS_STAGE 4).healthCheck).keeping s)) ∧
    (stage ≠ 4 → exec (.startUpLanesTrained dt) s = .next (u.keeping s)) ∧
    (stage = 4 → exec (.startUpLanesTrained dt) s =
      .next (((List.range 64).foldl (fun (x : State) n => x.waitUp n) (u.setF Fld.GEN_BOOT_STATUS_STAGE 5)).keeping s)) ∧
    (∀ main, (10000 ≤ main ∨ stage = 0 → exec (.supplyReset dt main) s = .next (u.keeping s)) ∧
      (main < 10000 → stage ≠ 0 → exec (.supplyReset dt main) s =
        .next (((u.readRails main (u.f Fld.PWR_SUPPLY_AUX3_MV)).fullReset 1 all).keeping s))) ∧
    (u.takesWrite Reg.GEN_RESET_CTRL 0x5A01 0xFFFFFFFF = true → exec (.moduleReset dt) s =
      .next ((((w 0x5A01).fullReset 3 [2, 3, 4, 5, 6, 7, 8, 9, 10, 11, 12]).startUp).rewrite.keeping s)) ∧
    (u.takesWrite Reg.GEN_RESET_CTRL 0x5A02 0xFFFFFFFF = true → exec (.coreReset dt) s = .next ((w 0x5A02).coreReset.rewrite.keeping s)) ∧
    (u.takesWrite Reg.GEN_RESET_CTRL 0x5A04 0xFFFFFFFF = true → exec (.controllerRestart dt) s = .next (((w 0x5A04).controllerRestart 6).rewrite.keeping s)) ∧
    (exec (.controllerWatchdog dt) s = .next ((u.controllerRestart 5).keeping s)) ∧
    (exec (.controllerRestartEnd dt) s = .next (State.keeping { u with rst := { u.rst with controller := false } } s)) ∧
    (exec (.coreResetEnd dt) s = .next (State.keeping { u with rst := { u.rst with core := none } } s)) ∧
    (∃ t, exec (.coldStart dt) s = .next t ∧ t.clk = 0 ∧ t.hif = State.reset.hif ∧ t.tbl = State.reset.tbl ∧ t.img.flash = u.img.flash ∧
      t.reg Reg.REF_AGING = u.reg Reg.REF_AGING ∧ t.reg Reg.REF_TEMPCO = u.reg Reg.REF_TEMPCO ∧
      (∀ off, off ≠ Reg.REF_AGING → off ≠ Reg.REF_TEMPCO → off ≠ Reg.MIR_CLAIM → t.reg off = State.reset.reg off))

/-- The latch sets EJECT_REQ and begins a removal with source 0, an EJECT that its write takes one with source 2; one that
runs, or a module at stage 0, is as it was. The drain ends at empty queues or EJECT_DRAIN_MS, once: what still waits
is flushed and every port is held down; event 9 then needs no flash write, and sets READY with EJECTING clear; before
the drain ends nothing changes. A contact that rises without event 8 squelches every transmitter, drops the drivers
and keeps event 8. A latch closed after READY restarts with cause 8; closed in a removal before it, it does so at
event 9; else only the request clears. The oven is warm after 30 s without a fault, once, with event 10; event 11
needs its cause's condition, and another fault shows the time base as warming while an output lost stops the clocks.
Completion: ejectLatch, hotplugReady, ejectCancel (any state), ejectHost (a write that GEN_HOTPLUG takes),
surpriseRemoval (contacts 0..3), oscWarm, oscFault (PD1 on, no output lost). (R348, R359, R360, R362, R363, R367,
R369) -/
def Obligations.RemovalAndTheOscillatorTakeTheirCourse : Prop :=
  ∀ (s u : State) (dt : Nat), u = s.advance dt →
    let stage := u.f Fld.GEN_BOOT_STATUS_STAGE
    let begin_ := fun (v : State) (src : Nat) =>
      let a := ((v.raise 8 moduleScope (v.ejectDetail src)).setFlag Fld.GEN_HOTPLUG_EJECTING true).setF Fld.GEN_BOOT_STATUS_STAGE 7
      State.healthCheck { a with rst := { a.rst with ejectAt := some a.clk } }
    let cancel := fun (v : State) => (v.fullReset 8 [1, 2, 3, 4, 5, 6, 7, 8, 9, 10, 11, 12]).startUp
    let report := fun (v : State) (t left : Nat) (late : Bool) =>
      if v.flag Fld.GEN_HOTPLUG_READY = true ∨ v.flashRunning = true then v
      else
        let a := v.raise 9 moduleScope [(24, 4, v.usSince t), (28, 4, left), (32, 2, v.tagsInFlight), (34, 1, if late then 1 else 0)]
        let b := ((a.setFlag Fld.GEN_HOTPLUG_EJECTING false).setFlag Fld.GEN_HOTPLUG_READY true).healthCheck
        if b.rst.closed then cancel b else b
    let req := u.setFlag Fld.GEN_HOTPLUG_EJECT_REQ true
    let open_ := { req with rst := { req.rst with closed := false } }
    let shut := u.setFlag Fld.GEN_HOTPLUG_EJECT_REQ false
    let wr := u.written Reg.GEN_HOTPLUG 0x100 0xFF00;
    (u.rst.ejectAt = none → stage ≠ 0 → exec (.ejectLatch dt) s = .next ((begin_ open_ 0).keeping s)) ∧
    (u.rst.ejectAt ≠ none ∨ stage = 0 → exec (.ejectLatch dt) s = .next (open_.keeping s)) ∧
    (u.takesWrite Reg.GEN_HOTPLUG 0x100 0xFF00 = true →
      (wr.rst.ejectAt = none → wr.f Fld.GEN_BOOT_STATUS_STAGE ≠ 0 → exec (.ejectHost dt) s = .next ((begin_ wr 2).rewrite.keeping s)) ∧
      (wr.rst.ejectAt ≠ none ∨ wr.f Fld.GEN_BOOT_STATUS_STAGE = 0 → exec (.ejectHost dt) s = .next (wr.rewrite.keeping s))) ∧
    (u.rst.ejectAt = none ∨ u.rst.surprise = true → exec (.hotplugReady dt) s = .next (u.keeping s)) ∧
    (∀ t, u.rst.ejectAt = some t → u.rst.surprise = false →
      let empty := (List.range 65).all (fun p => u.waiting p == 0 && (u.port p).tx.isNone && (u.port p).cut.isEmpty)
      let limit := u.passed t (u.f Fld.GEN_HOTPLUG_EJECT_DRAIN_MS) Config.ticksPerMs;
      (∀ left late, u.rst.drained = some (left, late) → exec (.hotplugReady dt) s = .next ((report u t left late).keeping s)) ∧
      (u.rst.drained = none → empty = false → limit = false → exec (.hotplugReady dt) s = .next (u.keeping s)) ∧
      (u.rst.drained = none → empty = true ∨ limit = true →
        let left := ((List.range 65).map u.waiting).sum
        let b := (List.range 64).foldl (fun (v : State) p => if v.speed p = 0 then v else v.portOff p) u
        let a := if b.waiting 64 = 0 then b else b.flushPort 64 1;
        exec (.hotplugReady dt) s = .next ((report { a with rst := { a.rst with drained := some (left, limit && !empty) } } t left (limit && !empty)).keeping s))) ∧
    (∀ pres, pres < 4 →
      (u.rst.ejectAt ≠ none ∨ pres = 3 ∨ stage = 0 → exec (.surpriseRemoval dt pres) s = .next ((u.setF Fld.GEN_HOTPLUG_PRES pres).keeping s)) ∧
      (u.rst.ejectAt = none → pres ≠ 3 → stage ≠ 0 →
        let l := u.setF Fld.GEN_HOTPLUG_PRES pres
        let r : EvtRec := ⟨8, moduleScope, l.commonFlags, l.now16, mkDetail (l.ejectDetail 1)⟩
        let a := l.setF Fld.GEN_BOOT_STATUS_STAGE 7
        let b := { a with rst := { a.rst with surprise := true, ejectAt := some a.clk, kept := a.rst.kept ++ [r] } }
        let c := (List.range 64).foldl (fun (v : State) p =>
          if v.speed p = 0 then v else (((v.loseTx p).setFlag (Fld.PRT_LINK_STATUS_UP p) false).receiverOff p).lanLinkDown p) b;
        exec (.surpriseRemoval dt pres) s = .next (c.dropDrivers.healthCheck.keeping s))) ∧
    (shut.flag Fld.GEN_HOTPLUG_READY = true → exec (.ejectCancel dt) s = .next ((cancel shut).keeping s)) ∧
    (shut.flag Fld.GEN_HOTPLUG_READY = false → u.rst.ejectAt ≠ none →
      exec (.ejectCancel dt) s = .next (State.keeping { shut with rst := { shut.rst with closed := true } } s)) ∧
    (shut.flag Fld.GEN_HOTPLUG_READY = false → u.rst.ejectAt = none → exec (.ejectCancel dt) s = .next (shut.keeping s)) ∧
    (∀ oven temp, u.domainOn 1 = true → u.pwr.oscLost = false →
      (u.flag Fld.PWR_OSC_WARM = false → u.pwr.oscFault = false → u.passed u.pwr.oscAt 30 Config.ticksPerS = true →
        let sec := u.sSince u.pwr.oscAt
        let a := ((u.setFlag Fld.PWR_OSC_WARM true).setReg Reg.PWR_OSC_WARM_S (BitVec.ofNat 32 sec)).setF Fld.PWR_OSC_OVEN_MW (min 5000 oven);
        exec (.oscWarm dt oven temp) s = .next (((a.setFlag Fld.TIM_STATUS_WARMING false).raise 10 moduleScope
          [(28, 4, sec), (32, 2, min 5000 oven), (34, 2, temp)]).keeping s)) ∧
      (u.flag Fld.PWR_OSC_WARM = true ∨ u.pwr.oscFault = true ∨ u.passed u.pwr.oscAt 30 Config.ticksPerS = false →
        exec (.oscWarm dt oven temp) s = .next (u.keeping s)) ∧
      (∀ cause, let a := (u.setF Fld.PWR_OSC_OVEN_MW (min 5000 oven)).raise 11 moduleScope [(24, 1, cause), (26, 2, min 5000 oven), (28, 2, temp)]
        let late := u.passed u.pwr.oscAt 600 Config.ticksPerS && !u.flag Fld.PWR_OSC_WARM;
        (cause = 2 → exec (.oscFault dt cause oven temp) s = .next (a.oscGone.healthCheck.keeping s)) ∧
        ((cause = 1 ∧ u.pwr.heaterFault = false) ∨ (cause = 0 ∧ late = true ∧ u.pwr.oscFault = false) →
          let b := { a with pwr := { a.pwr with oscFault := true, heaterFault := a.pwr.heaterFault || cause == 1 } };
          exec (.oscFault dt cause oven temp) s =
            .next ((b.setFlag Fld.TIM_STATUS_WARMING true).healthCheck.keeping s)) ∧
        (2 < cause ∨ (cause = 1 ∧ u.pwr.heaterFault = true) ∨ (cause = 0 ∧ (late = false ∨ u.pwr.oscFault = true)) →
          exec (.oscFault dt cause oven temp) s = .next (u.keeping s))))

/-- For each of the thirteen message kinds: with the Emulug link off nothing changes; with it on, a message with a bad
FCS, or one whose session is the current one of a heard partner and whose SEQ is not ahead of the last taken, only
counts in MIR_MSG_BAD; any other is taken: MIR_MSG_RX counts it, its session and SEQ become the last taken, and it has
the effect of its kind. Taking the same message again within the same session while the partner is heard never
succeeds. Completion: claimMsg, syncData, syncDone, txnPrepare, txnVote, txnDecision, changeMsg, handleReq, timeState,
frerWindow, journalMark, exchange, exchangeAck (any state and operands). (R313, R314, R315) -/
def Obligations.EmulugMessagesAreTakenOnceOrCounted : Prop :=
  ∀ (s u : State) (dt session seq : Nat) (good : Bool), u = s.advance dt →
    let new := match u.mir.taken with
      | none => true
      | some (ses, q) => decide (ses ≠ session) || !u.heard || (decide (q ≠ seq) && decide ((seq + 2 ^ 32 - q) % 2 ^ 32 < 2 ^ 31))
    let taken := { u.bump Reg.MIR_MSG_RX with mir := { u.mir with taken := some (session, seq) } }
    let run := fun (f : State → State) =>
      if u.mirOn = false then u else if good = true ∧ new = true then f taken else u.bump Reg.MIR_MSG_BAD;
    (taken.heard = true → taken.mayTake session seq = false) ∧
    (∀ claim roles state age take image epoch, exec (.claimMsg dt session seq good claim roles state age take image epoch) s = .next ((run (fun v => v.claimMsg claim roles state age take image epoch)).keeping s)) ∧
    (∀ items, exec (.syncData dt session seq good items) s = .next ((run (fun v => v.syncData items)).keeping s)) ∧
    (∀ instant epoch, exec (.syncDone dt session seq good instant epoch) s = .next ((run (fun v => v.syncDone instant epoch)).keeping s)) ∧
    (∀ id tag epoch instant at96 items, exec (.txnPrepare dt session seq good id tag epoch instant at96 items) s = .next ((run (fun v => v.prepareIn id tag epoch instant at96 items)).keeping s)) ∧
    (∀ id yes, exec (.txnVote dt session seq good id yes) s = .next ((run (fun v => v.voteIn id yes)).keeping s)) ∧
    (∀ id yes, exec (.txnDecision dt session seq good id yes) s = .next ((run (fun v => v.decisionIn id yes)).keeping s)) ∧
    (∀ item, exec (.changeMsg dt session seq good item) s = .next ((run (fun v => v.changeIn item)).keeping s)) ∧
    (∀ code pick data, exec (.handleReq dt session seq good code pick data) s = .next ((run (fun v => v.handleReq code pick data)).keeping s)) ∧
    (∀ dpll fsel tsel ho warm wick entry host, exec (.timeState dt session seq good dpll fsel tsel ho warm wick entry host) s = .next ((run (fun v => v.timeStateIn dpll fsel tsel ho warm wick entry host)).keeping s)) ∧
    (∀ i recov hist, exec (.frerWindow dt session seq good i recov hist) s = .next ((run (fun v => v.frerIn i recov hist)).keeping s)) ∧
    (∀ tag st ring opcode cookie, exec (.journalMark dt session seq good tag st ring opcode cookie) s = .next ((run (fun v => v.journalIn tag st ring opcode cookie)).keeping s)) ∧
    (∀ instant pref, exec (.exchange dt session seq good instant pref) s = .next ((run (fun v => v.exchangeIn instant pref)).keeping s)) ∧
    (∀ cause, exec (.exchangeAck dt session seq good cause) s = .next ((run (fun v => v.exchangeAckIn cause)).keeping s))

/-- On a shared carrier, and before an image, a valid word received twice within 480 ns is taken, its own-slot form read
as 0xFFFF; a bad word changes nothing; 480 ns of silence clear the partner's claim; the wires' levels show in
MIR_STATUS and the roles follow. A new raw score is published at once when 0, or once it has held HEALTH_HOLD_MS;
until then RAW and CAUSES alone change. CLAIM goes out where the link runs and 20 µs have passed. A partner silent for
100 µs ends synchronisation or service as LOST with event 81, and a split pair's unit takes the roles; a dual-active
window that is open is yielded first; nothing happens while it is heard. ENABLE starts or ends the link; a lane's
change shows, with event 80 or 81. Completion: claimWordReceive, claimWireSilence, claimWireChange, healthPublish,
claimSend, partnerSilent (any state), mirEnable, mirDisable (a write that MIR_CFG takes), mirLaneChange (lane 0 or 1).
(R306, R310, R311, R313, R314, R316, R317) -/
def Obligations.ClaimsHealthAndSilenceMoveTheRoles : Prop :=
  ∀ (s u : State) (dt : Nat), u = s.advance dt →
    (∀ word, (u.wired = false ∨ claimIn word = none → exec (.claimWordReceive dt word) s = .next (u.keeping s)) ∧
      (∀ c, u.wired = true → claimIn word = some c →
        let v := { u with mir := { u.mir with word := some c, wordAt := u.clk } };
        (u.mir.word = some c → u.clk < u.mir.wordAt + 300 → exec (.claimWordReceive dt word) s =
          .next (((v.setF Fld.MIR_CLAIM_PARTNER (u.takenClaim c)).arbitrate u.roleCause).keeping s)) ∧
        (u.mir.word ≠ some c ∨ u.mir.wordAt + 300 ≤ u.clk → exec (.claimWordReceive dt word) s = .next (v.keeping s)))) ∧
    (u.wired = true → u.mir.wordAt + 300 ≤ u.clk → exec (.claimWireSilence dt) s =
      .next (((State.setF { u with mir := { u.mir with word := none } } Fld.MIR_CLAIM_PARTNER 0).arbitrate 1).keeping s)) ∧
    (u.wired = false ∨ u.clk < u.mir.wordAt + 300 → exec (.claimWireSilence dt) s = .next (u.keeping s)) ∧
    (∀ ready hold nets, let fell := u.rst.wires.testBit 1 && !hold
      let a := { u with rst := { u.rst with wires := (if ready then 1 else 0) + (if hold then 2 else 0), nets := if fell then nets % 4096 else u.rst.nets } };
      (u.wired = true → ∃ v : State, v = (a.setFlag Fld.MIR_STATUS_READY_IN ready).setFlag Fld.MIR_STATUS_HOLD_IN hold ∧
        exec (.claimWireChange dt ready hold nets) s = .next ((v.arbitrate a.roleCause).exchangeCheck.keeping s)) ∧
      (u.wired = false → exec (.claimWireChange dt ready hold nets) s = .next (a.keeping s))) ∧
    (let raw := u.rawScore
      let holds := if raw = u.rawHeld.1 then u.passed u.rawHeld.2 (u.f Fld.MIR_TIMER_HEALTH_HOLD_MS) Config.ticksPerMs
        else u.f Fld.MIR_TIMER_HEALTH_HOLD_MS == 0
      let b := (u.setF Fld.MIR_HEALTH_RAW raw).setF Fld.MIR_HEALTH_CAUSES u.healthCauses;
      (raw = b.f Fld.MIR_HEALTH_SCORE → exec (.healthPublish dt) s = .next (b.keeping s)) ∧
      (raw ≠ b.f Fld.MIR_HEALTH_SCORE → raw = 0 ∨ holds = true →
        exec (.healthPublish dt) s = .next ((b.setF Fld.MIR_HEALTH_SCORE raw).setClaim.keeping s)) ∧
      (raw ≠ 0 → holds = false →
        exec (.healthPublish dt) s = .next (b.keeping s))) ∧
    (∀ value be v m, m = Fld.MIR_CFG_ENABLE.select be → u.takesWrite Reg.MIR_CFG v m = true →
      let w := u.written Reg.MIR_CFG v m
      let was := Fld.MIR_CFG_ENABLE.of ((u.atWrite Reg.MIR_CFG v m).reg Reg.MIR_CFG) != 0
      let on := w.flag Fld.MIR_CFG_ENABLE
      let p := if m &&& 0xF0 = 0 then w else w.prefWritten
      let out := if on && !was then p.mirEnable else if was && !on then p.mirDisable else p;
      (v = Fld.MIR_CFG_ENABLE.into value 1 → exec (.mirEnable dt value be) s = .next (out.rewrite.keeping s)) ∧
      (v = Fld.MIR_CFG_ENABLE.into value 0 → exec (.mirDisable dt value be) s = .next (out.rewrite.keeping s))) ∧
    (∀ lane up, lane < 2 →
      let old := u.f Fld.MIR_STATUS_LANES_UP
      let v := u.setF Fld.MIR_STATUS_LANES_UP (setBit old lane up);
      (u.mirOn = false ∨ old.testBit lane = up → exec (.mirLaneChange dt lane up) s = .next (u.keeping s)) ∧
      (u.mirOn = true → old.testBit lane ≠ up →
        exec (.mirLaneChange dt lane up) s = .next ((if up then (v.lanMirUp lane).mirUp (old != 0) else v.mirDown 1).keeping s))) ∧
    (u.mir.dual = none → u.yieldDual = u) ∧
    (∀ y, y = u.yieldDual → (y.mirOn = true → y.mir.claimSent + 20 * Config.ticksPerUs ≤ y.clk → ∃ v : State, v = { y with mir := { y.mir with claimSent := y.clk } } ∧
      exec (.claimSend dt) s = .next ((v.sendMir 0x01 [v.ownClaim, v.roles, v.pairState, min v.heardAge 65535, time96 v.mir.takeTime,
        v.imageId, (v.reg Reg.TXN_EPOCH).toNat]).keeping s)) ∧
      (y.mirOn = false ∨ y.clk < y.mir.claimSent + 20 * Config.ticksPerUs → exec (.claimSend dt) s = .next (y.keeping s))) ∧
    (u.heard = true ∨ u.flag Fld.MIR_CFG_ENABLE = false ∨ u.pairConfig = 0 ∨ u.passed u.mir.silentFrom 100 Config.ticksPerUs = false →
      exec (.partnerSilent dt) s = .next (u.keeping s)) ∧
    (u.heard = false → u.flag Fld.MIR_CFG_ENABLE = true → u.pairConfig ≠ 0 → u.passed u.mir.silentFrom 100 Config.ticksPerUs = true →
      let y := u.yieldDual
      let had := y.pairState = 1 ∨ y.pairState = 2 ∨ y.pairState = 4
      let d := if had then y.mirDown 0 else y
      let c := if d.pairConfig = 2 then d.setF Fld.MIR_CLAIM_PARTNER 0 else d
      let w := if had then (c.setPairState 3).validate else c;
      (w.pairConfig ≠ 2 ∨ w.img.active = none → exec (.partnerSilent dt) s = .next (w.keeping s)) ∧
      (w.pairConfig = 2 → w.img.active ≠ none → ∃ x : State, x = { w with mir := { w.mir with ready := true } } ∧
        exec (.partnerSilent dt) s = .next ((x.takeRoles 7 1).exchangeCheck.keeping s)))

/-- At its instant in SYNCING or in service the owner takes the epoch, with a doubt resolved first, and waits for its
partner's CLAIM; the other unit takes the whole state or fails; before it, or otherwise, nothing changes. 2 s in
SYNCING without SYNC_DONE is a failure. TIME_STATE goes out every 10 ms while the link runs and is not DIVERGED, the
changed recovery windows every 10 µs; not earlier. An exchange's holder whose single-homed queues are empty sends
EXCHANGE with the instant 250 µs ahead and the preference above both; past EXCH_DRAIN_US the partner is told and it
ends with BUSY. At the instant an accepted exchange marks its command and takes the new preference, one not accepted
ends with BUSY; before it nothing changes. Completion: syncApply, syncTimeout, timeStateSend, frerWindowSend,
exchangeDrainDone, exchangeDrainTimeout, exchangeApply (as named). (R320, R324, R326, R328) -/
def Obligations.SynchronisationShadowsAndTheExchangeRun : Prop :=
  ∀ (s u : State) (dt : Nat), u = s.advance dt →
    (∀ instant epoch, u.mir.syncApply = some (instant, epoch) →
      ((u.pairState ≠ psSyncing ∧ u.inService = false) ∨ reached instant u.now16 = false →
        exec (.syncApply dt) s = .next (u.keeping s)) ∧
      (u.pairState = psSyncing ∨ u.inService = true → reached instant u.now16 = true →
        (u.holds roleOwner = true → let a := if u.txn.remote.any (fun r => r.doubt) then u.resolveDoubt else u;
          let b := a.setEpoch epoch instant
          exec (.syncApply dt) s = .next (State.keeping { b with mir := { b.mir with syncApply := none, await := true, syncedAt := b.clk } } s)) ∧
        (u.holds roleOwner = false →
          (u.takeState epoch instant = none → exec (.syncApply dt) s = .next (u.syncFail.keeping s)) ∧
          (∀ t, u.takeState epoch instant = some t → exec (.syncApply dt) s =
            .next (((t.syncedCommit (epoch - 1)).resolveDoubt.settle).enterService.keeping s))))) ∧
    (u.mir.syncApply = none → exec (.syncApply dt) s = .next (u.keeping s) ∧
      (u.pairState = psSyncing → u.mir.syncAt + 2 * Config.ticksPerS ≤ u.clk → exec (.syncTimeout dt) s = .next (u.syncFail.keeping s))) ∧
    (u.pairState ≠ psSyncing ∨ u.mir.syncApply ≠ none ∨ u.clk < u.mir.syncAt + 2 * Config.ticksPerS → exec (.syncTimeout dt) s = .next (u.keeping s)) ∧
    (u.mirrors = true → u.mir.stateSent + 10 * Config.ticksPerMs ≤ u.clk → exec (.timeStateSend dt) s =
      .next ((State.sendMir { u with mir := { u.mir with stateSent := u.clk } } 0x20 u.timeStateBody).keeping s)) ∧
    (u.mirrors = false ∨ u.clk < u.mir.stateSent + 10 * Config.ticksPerMs → exec (.timeStateSend dt) s = .next (u.keeping s)) ∧
    (u.mirrors = true → u.mir.frerSent + 10 * Config.ticksPerUs ≤ u.clk → u.changedWindows = [] →
      exec (.frerWindowSend dt) s = .next (State.keeping { u with mir := { u.mir with frerSent := u.clk } } s)) ∧
    (∀ w, u.mirrors = true → u.mir.frerSent + 10 * Config.ticksPerUs ≤ u.clk → u.changedWindows = [w] →
      let v := State.sendMir { u with mir := { u.mir with frerSent := u.clk } } 0x21 [w.1, w.2.1, w.2.2];
      exec (.frerWindowSend dt) s = .next (State.keeping { v with mir := { v.mir with
        frerShown := Store.set (fun _ => none) v.mir.frerShown w.1 (some w.2) } } s)) ∧
    (u.mirrors = false ∨ u.clk < u.mir.frerSent + 10 * Config.ticksPerUs → exec (.frerWindowSend dt) s = .next (u.keeping s)) ∧
    (u.mir.exch = none → exec (.exchangeDrainDone dt) s = .next (u.keeping s) ∧ exec (.exchangeDrainTimeout dt) s = .next (u.keeping s) ∧
      exec (.exchangeApply dt) s = .next (u.keeping s)) ∧
    (∀ x, u.mir.exch = some x →
      (x.holder = true → x.apply = none →
        (u.singleEmpty = true →
          let top := max 1 (max (u.f Fld.MIR_CFG_PREFERENCE) (u.partnerClaim / 4096));
          exec (.exchangeDrainDone dt) s = .next ((State.sendMir { u with mir := { u.mir with
            exch := some { x with apply := some (u.now16 + us250, top - 1) } } } 0x30 [u.now16 + us250, top]).keeping s)) ∧
        (u.singleEmpty = false → exec (.exchangeDrainDone dt) s = .next (u.keeping s)) ∧
        (u.passed x.since (u.f Fld.MIR_TIMER_EXCH_DRAIN_US) Config.ticksPerUs = true → exec (.exchangeDrainTimeout dt) s =
          .next ((if x.tag.isSome then u.sendMir 0x30 [0, 0] else u.sendMir 0x31 [1]).endExchange stBusy |>.keeping s)) ∧
        (u.passed x.since (u.f Fld.MIR_TIMER_EXCH_DRAIN_US) Config.ticksPerUs = false → exec (.exchangeDrainTimeout dt) s = .next (u.keeping s))) ∧
      (∀ instant pref, x.apply = some (instant, pref) →
        (x.moved = true ∨ reached instant u.now16 = false → exec (.exchangeApply dt) s = .next (u.keeping s)) ∧
        (x.moved = false → reached instant u.now16 = true →
          (x.acked = false → exec (.exchangeApply dt) s = .next ((u.endExchange stBusy).keeping s)) ∧
          (x.acked = true → let a := match x.tag with | some tag => u.mark tag | none => u;
            exec (.exchangeApply dt) s = .next (((State.setF { a with mir := { a.mir with exch := some { x with moved := true } } }
              Fld.MIR_CFG_PREFERENCE pref).setClaim.exchangeCheck).keeping s)))))

/-- Once a block has ended on every Emulug lane, and its peer summary has come or 2 ms have passed, the report averages
the lanes whose blocks are full enough and in bounds: VALID says that there was one, NEW is set, offset and delay take
the means, and a unit that follows answers as its settings say; with no such lane the old offset stays. Before that
nothing changes. A read of MIR_OFFSET_SEQ returns the header as it was, clears NEW and freezes the words that belong
to it. A write to the last MIR_HOST_STATE word sends TIME_STATE after it. Completion: mirOffsetReport (any state),
mirOffsetRead (PD4 and PD5 on in a pair, or PD4 off), mirHostStateSend (a write that is taken). (R228, R324, R325,
R388) -/
def Obligations.OffsetReportsAndHostStateCrossTheLink : Prop :=
  ∀ (s u : State) (dt : Nat), u = s.advance dt →
    (let lanes := u.mirLanes
      let k := (u.lanPick (lanes.headD 64)).k
      let rs := lanes.map (fun n => (u.lanPick n).report 4 (u.lanSum n k))
      let good := rs.filter (fun r => r.valid)
      let v := (State.setFlag ((lanes.foldl (fun (x : State) n => x.lanAdvance n) u).setF Fld.MIR_OFFSET_SEQ_BLOCK (k % 2 ^ 16))
        Fld.MIR_OFFSET_SEQ_VALID (!good.isEmpty)).setFlag Fld.MIR_OFFSET_SEQ_NEW true
      let th := ratio (good.map (·.res.theta)).sum good.length
      let d := ratio (good.map (·.res.d)).sum good.length;
      (u.mirReady lanes = false → exec (.mirOffsetReport dt) s = .next (u.keeping s)) ∧
      (u.mirReady lanes = true → good = [] → exec (.mirOffsetReport dt) s = .next (v.keeping s)) ∧
      (u.mirReady lanes = true → good ≠ [] → exec (.mirOffsetReport dt) s = .next
        ((((v.setPair48 Reg.MIR_OFFSET_LO Reg.MIR_OFFSET_HI th).setPair48 Reg.MIR_DELAY_LO Reg.MIR_DELAY_HI d).follow th).keeping s))) ∧
    (u.domainOn 4 = true → u.domainOn 5 = true → u.pairConfig ≠ 0 →
      ∃ t, exec (.mirOffsetRead dt) s = .next t ∧ t.outbox = .read Reg.MIR_OFFSET_SEQ (u.reg Reg.MIR_OFFSET_SEQ) :: u.outbox ∧
        t.flag Fld.MIR_OFFSET_SEQ_NEW = false ∧ (∀ off, off ≠ Reg.MIR_OFFSET_SEQ → t.reg off = u.reg off) ∧ t.mir = u.mir ∧ t.evt = u.evt ∧
        (∀ o ∈ [Reg.MIR_OFFSET_LO, Reg.MIR_OFFSET_HI, Reg.MIR_DELAY_LO, Reg.MIR_DELAY_HI], Store.get (fun _ => none) t.latched o = some (u.reg o))) ∧
    (u.domainOn 4 = false → exec (.mirOffsetRead dt) s = .next (u.keeping s)) ∧
    (∀ value be, u.takesWrite (Reg.MIR_HOST_STATE 63) value (byteMask be) = true → ∃ v : State,
      v = u.written (Reg.MIR_HOST_STATE 63) value (byteMask be) ∧
      exec (.mirHostStateSend dt value be) s = .next ((v.sendMir 0x20 v.timeStateBody).rewrite.keeping s))

/-- For every module time of fewer than 2^48 seconds, the word that a record or register pair holds has the seconds in
[95:48], zero in [47:46], the nanoseconds, from 0 to 999,999,999, in [45:16] and the fraction in units of 2^-16 ns in
[15:0]; it fits 96 bits; reading it back gives the time; and a word of that layout is the word of the time that it
reads as. One nanosecond more than 999,999,999 carries into the seconds. (R8) -/
def Obligations.ModuleTimeOccupiesNinetySixBits : Prop :=
  (∀ t, t < 2 ^ 48 * (1000000000 * 65536) →
    let w := time96 t;
    w < 2 ^ 96 ∧ w / 2 ^ 48 = t / (1000000000 * 65536) ∧ w / 2 ^ 46 % 4 = 0 ∧
    w / 2 ^ 16 % 2 ^ 30 = t / 65536 % 1000000000 ∧ w / 2 ^ 16 % 2 ^ 30 ≤ 999999999 ∧ w % 2 ^ 16 = t % 65536 ∧ ofTime96 w = t) ∧
  (∀ w, w / 2 ^ 46 % 4 = 0 → w / 2 ^ 16 % 2 ^ 30 ≤ 999999999 → time96 (ofTime96 w) = w) ∧
  (∀ s, time96 (s * (1000000000 * 65536) + 999999999 * 65536 + 65536) = (s + 1) * 2 ^ 48)

/-- Clearing PD2, whether or not it stays on, leaves module time at 0 s, 0 ns with the active increment 0x199_9999_999A in
units of 2^-40 ns and no slew, whatever they were; TIM_INC_ACTIVE shows that increment; after any number of ticks of
the SYS clock the time is that many times the nominal increment; and the nominal increment exceeds 1.6 ns by 0.4 of
its unit. (R197) -/
def Obligations.ClearingTheMainDomainStartsTimeAtTheEpoch : Prop :=
  ∀ (s : State) (k : Nat),
    ((s.clearDomain 2).time.now = 0 ∧ (s.clearDomain 2).time.inc = 0x1999999999A ∧ (s.clearDomain 2).time.slew = none ∧
      (s.clearDomain 2).time.incNext = none ∧ time96 (s.clearDomain 2).now16 = 0) ∧
    (s.domainOff 2).time = (s.clearDomain 2).time ∧
    ((s.clearDomain 2).reg Reg.TIM_INC_ACTIVE_LO = 0x9999999A ∧ (s.clearDomain 2).reg Reg.TIM_INC_ACTIVE_HI = 0x199) ∧
    ((s.clearDomain 2).time.run k).now = k * 0x1999999999A ∧
    10 * 0x1999999999A = 16 * 2 ^ 40 + 4

/-- For every offset, read by the host or by CMD_REG_READ, which make the same change: where no register lies, or the
register is none of the listed ones, the state is as before. A read of TIM_TSF[n]_W0 removes at most the oldest entry
of that FIFO; one of PHS[n]_RPT_SEQ or MIR_OFFSET_SEQ clears NEW and freezes the report; a lowest word latches the
words above it; each where its domain is on and its resource provided, and none where not. (R388) -/
def Obligations.OnlyTheListedReadsChangeTheModule : Prop :=
  ∀ (s : State) (off : Nat),
    (findReg off = none → (s.hostRead off).2 = s) ∧
    (∀ r n k, findReg off = some (r, n, k) →
      (r.base ≠ Reg.TIM_TSF_W0 0 → r.base ≠ Reg.PHS_RPT_SEQ 0 → r.base ≠ Reg.MIR_OFFSET_SEQ → (r.latches = false ∨ r.word ≠ 0) → (s.hostRead off).2 = s) ∧
      (s.domainOn (regDomain off) = false ∨ s.regProvided r n k = false → (s.hostRead off).2 = s) ∧
      (s.domainOn (regDomain off) = true → s.regProvided r n k = true →
        (r.base = Reg.TIM_TSF_W0 0 → (s.hostRead off).2 = (s.readTsf n).2 ∧ (s.hostRead off).2.tsf n = (s.tsf n).tail) ∧
        (r.base = Reg.PHS_RPT_SEQ 0 → ((s.hostRead off).2 = (s.readReport n).2 ∧ (s.hostRead off).2.flag (Fld.PHS_RPT_SEQ_NEW n) = false ∧
          (s.hostRead off).2.reg (Reg.PHS_RPT_COUNT n) = BitVec.ofNat 32 ((s.lant n).latest.2.2.1 + (s.lant n).latest.2.2.2 * 65536))) ∧
        (r.base = Reg.MIR_OFFSET_SEQ → ((s.hostRead off).2 = s.latchOffset.setFlag Fld.MIR_OFFSET_SEQ_NEW false ∧ (s.hostRead off).2.flag Fld.MIR_OFFSET_SEQ_NEW = false ∧
          Store.get (fun _ => none) (s.hostRead off).2.latched Reg.MIR_OFFSET_LO = some (s.reg Reg.MIR_OFFSET_LO) ∧
          Store.get (fun _ => none) (s.hostRead off).2.latched Reg.MIR_DELAY_LO = some (s.reg Reg.MIR_DELAY_LO))) ∧
        (r.base ≠ Reg.TIM_TSF_W0 0 → r.base ≠ Reg.PHS_RPT_SEQ 0 → r.base ≠ Reg.MIR_OFFSET_SEQ → r.base ≠ Reg.MIR_PJ_COOKIE_LO →
          r.base ≠ Reg.MIR_PJ_COOKIE_HI → r.latches = true → r.word = 0 → (s.hostRead off).2 = s.latchWords r off))) ∧
    (∀ (dt tag : Nat) (e : JEntry) (r : RegRow × Nat × Nat), tag < 512 → (s.advance dt).startable tag 0x02 = some e → e.stagedRead = false →
      findReg (e.op 16 4) = some r → exec (.cmdRegRead dt tag) s =
        .next ((((s.advance dt).hostRead (e.op 16 4)).2.finish tag 0 ((s.advance dt).hostRead (e.op 16 4)).1.toNat 0).keeping s)) ∧
    (s.domainOn 4 = true → s.mmioRead off = (s.hostRead off).2.emit (.read off (s.hostRead off).1))
end

