-- ==== Sys2Proof/Laws/Store.lean ====
section
/-! SUPPORT. The laws of the sparse stores: reading after writing, and that every operation keeps the canonical form. -/

namespace Sys2Proof.Machine

@[simp] theorem Store.get_nil {α : Type} (d : Nat → α) (i : Nat) : Store.get d [] i = d i := rfl

theorem Store.get_cons {α : Type} (d : Nat → α) (k : Nat) (v : α) (m : Store α) (i : Nat) :
    Store.get d ((k, v) :: m) i = if i = k then v else Store.get d m i := rfl

theorem Store.get_put {α : Type} (d : Nat → α) (m : Store α) (i : Nat) (v : α) (j : Nat) :
    Store.get d (Store.put m i v) j = if j = i then v else Store.get d m j := by
  induction m with
  | nil => simp [Store.put, Store.get]
  | cons p m ih =>
    obtain ⟨k, w⟩ := p
    simp only [Store.put]
    split
    · simp [Store.get]
    · split
      · subst_vars
        simp only [Store.get]
        split <;> rfl
      · simp only [Store.get, ih]
        split
        · have : j ≠ i := by omega
          simp [this]
        · rfl

theorem Store.get_erase {α : Type} (d : Nat → α) (m : Store α) (i j : Nat) :
    Store.get d (Store.erase m i) j = if j = i then d j else Store.get d m j := by
  induction m with
  | nil => simp [Store.erase, Store.get]
  | cons p m ih =>
    obtain ⟨k, w⟩ := p
    unfold Store.erase at ih ⊢
    by_cases hk : k = i
    · subst hk
      simp only [List.filter_cons, ne_eq, not_true_eq_false, decide_false, Bool.false_eq_true, ite_false, ih, Store.get]
      split <;> rfl
    · simp only [List.filter_cons, ne_eq, hk, not_false_eq_true, decide_true, ite_true, Store.get, ih]
      split
      · have : j ≠ i := by omega
        simp [this]
      · rfl

/-- Read after write: the key written reads as what was written, every other key as before. -/
theorem Store.get_set {α : Type} [DecidableEq α] (d : Nat → α) (m : Store α) (i : Nat) (v : α) (j : Nat) :
    Store.get d (Store.set d m i v) j = if j = i then v else Store.get d m j := by
  unfold Store.set
  split
  · rename_i h
    rw [Store.get_erase]
    by_cases hj : j = i
    · rw [if_pos hj, if_pos hj, hj]; exact h.symm
    · rw [if_neg hj, if_neg hj]
  · exact Store.get_put d m i v j

@[simp] theorem Store.get_set_same {α : Type} [DecidableEq α] (d : Nat → α) (m : Store α) (i : Nat) (v : α) :
    Store.get d (Store.set d m i v) i = v := by simp [Store.get_set]

theorem Store.get_set_ne {α : Type} [DecidableEq α] (d : Nat → α) (m : Store α) (i : Nat) (v : α) (j : Nat) (h : j ≠ i) :
    Store.get d (Store.set d m i v) j = Store.get d m j := by simp [Store.get_set, h]

theorem Store.get_clear {α : Type} (d : Nat → α) (m : Store α) (p : Nat → Bool) (j : Nat) :
    Store.get d (Store.clear m p) j = if p j then d j else Store.get d m j := by
  induction m with
  | nil => simp [Store.clear, Store.get]
  | cons q m ih =>
    obtain ⟨k, w⟩ := q
    unfold Store.clear at ih ⊢
    by_cases hk : p k
    · simp only [List.filter_cons, hk, Bool.not_true, Bool.false_eq_true, ite_false, ih, Store.get]
      by_cases hj : j = k
      · subst hj; simp [hk]
      · simp [hj]
    · simp only [List.filter_cons, hk, Bool.not_false, ite_true, Store.get, ih]
      by_cases hj : j = k
      · subst hj; simp [hk]
      · simp [hj]

/-! ### The canonical form -/

@[simp] theorem Store.wf_nil {α : Type} [DecidableEq α] (d : Nat → α) : Store.wf d ([] : Store α) = true := rfl

theorem Store.wf_cons {α : Type} [DecidableEq α] (d : Nat → α) (k : Nat) (v : α) (m : Store α) :
    Store.wf d ((k, v) :: m) = true ↔ v ≠ d k ∧ (∀ e ∈ m, k < e.1) ∧ Store.wf d m = true := by
  simp [Store.wf, and_assoc]

theorem Store.wf_filter {α : Type} [DecidableEq α] (d : Nat → α) (m : Store α) (p : Nat × α → Bool) (h : Store.wf d m = true) :
    Store.wf d (m.filter p) = true := by
  induction m with
  | nil => rfl
  | cons q m ih =>
    obtain ⟨k, v⟩ := q
    obtain ⟨h1, h2, h3⟩ := (Store.wf_cons d k v m).1 h
    by_cases hp : p (k, v)
    · rw [List.filter_cons_of_pos hp]
      exact (Store.wf_cons d k v _).2 ⟨h1, fun e he => h2 e (List.mem_filter.1 he).1, ih h3⟩
    · rw [List.filter_cons_of_neg hp]
      exact ih h3

theorem Store.wf_erase {α : Type} [DecidableEq α] (d : Nat → α) (m : Store α) (i : Nat) (h : Store.wf d m = true) :
    Store.wf d (Store.erase m i) = true := Store.wf_filter d m _ h

theorem Store.wf_clear {α : Type} [DecidableEq α] (d : Nat → α) (m : Store α) (p : Nat → Bool) (h : Store.wf d m = true) :
    Store.wf d (Store.clear m p) = true := Store.wf_filter d m _ h

theorem Store.mem_put {α : Type} (m : Store α) (i : Nat) (v : α) (e : Nat × α) (h : e ∈ Store.put m i v) :
    e = (i, v) ∨ e ∈ m := by
  induction m with
  | nil => exact .inl (by simpa [Store.put] using h)
  | cons q m ih =>
    obtain ⟨k, w⟩ := q
    simp only [Store.put] at h
    split at h
    · simpa using h
    · split at h
      · rcases List.mem_cons.1 h with h | h
        · exact .inl h
        · exact .inr (List.mem_cons_of_mem _ h)
      · rcases List.mem_cons.1 h with h | h
        · exact .inr (by simp [h])
        · rcases ih h with h | h
          · exact .inl h
          · exact .inr (List.mem_cons_of_mem _ h)

theorem Store.wf_put {α : Type} [DecidableEq α] (d : Nat → α) (m : Store α) (i : Nat) (v : α) (hv : v ≠ d i)
    (h : Store.wf d m = true) : Store.wf d (Store.put m i v) = true := by
  induction m with
  | nil => simpa [Store.put, Store.wf] using hv
  | cons q m ih =>
    obtain ⟨k, w⟩ := q
    obtain ⟨h1, h2, h3⟩ := (Store.wf_cons d k w m).1 h
    simp only [Store.put]
    split
    · rename_i hk
      refine (Store.wf_cons d i v _).2 ⟨hv, fun e he => ?_, h⟩
      rcases List.mem_cons.1 he with he | he
      · subst he; exact hk
      · exact Nat.lt_trans hk (h2 e he)
    · split
      · rename_i hk
        subst hk
        exact (Store.wf_cons d i v m).2 ⟨hv, h2, h3⟩
      · rename_i h4 h5
        refine (Store.wf_cons d k w _).2 ⟨h1, fun e he => ?_, ih h3⟩
        rcases Store.mem_put m i v e he with he | he
        · subst he; show k < i; omega
        · exact h2 e he

/-- Every write keeps the canonical form. -/
theorem Store.wf_set {α : Type} [DecidableEq α] (d : Nat → α) (m : Store α) (i : Nat) (v : α) (h : Store.wf d m = true) :
    Store.wf d (Store.set d m i v) = true := by
  unfold Store.set
  split
  · exact Store.wf_erase d m i h
  · rename_i hv
    exact Store.wf_put d m i v hv h

theorem Store.wf_setAll {α : Type} [DecidableEq α] (d : Nat → α) (l : List (Nat × α)) (m : Store α) (h : Store.wf d m = true) :
    Store.wf d (Store.setAll d m l) = true := by
  induction l generalizing m with
  | nil => exact h
  | cons p l ih => exact ih _ (Store.wf_set d m p.1 p.2 h)

/-- Two stores in canonical form that read alike at every key are the same list. -/
theorem Store.ext_of_wf {α : Type} [DecidableEq α] (d : Nat → α) (m m' : Store α) (h : Store.wf d m = true)
    (h' : Store.wf d m' = true) (e : ∀ i, Store.get d m i = Store.get d m' i) : m = m' := by
  have low : ∀ (k : Nat) (l : Store α), (∀ x ∈ l, k < x.1) → Store.get d l k = d k := by
    intro k l hl
    induction l with
    | nil => rfl
    | cons q l ih =>
      obtain ⟨j, w⟩ := q
      have hj : k < j := hl (j, w) (by simp)
      rw [Store.get_cons, if_neg (by omega)]
      exact ih (fun x hx => hl x (List.mem_cons_of_mem _ hx))
  induction m generalizing m' with
  | nil =>
    cases m' with
    | nil => rfl
    | cons q m' =>
      obtain ⟨k, v⟩ := q
      obtain ⟨h1, -, -⟩ := (Store.wf_cons d k v m').1 h'
      exact absurd (by simpa [Store.get_cons] using (e k).symm) h1
  | cons p m ih =>
    obtain ⟨k, v⟩ := p
    obtain ⟨h1, h2, h3⟩ := (Store.wf_cons d k v m).1 h
    cases m' with
    | nil => exact absurd (by simpa [Store.get_cons] using e k) h1
    | cons q m' =>
      obtain ⟨k', v'⟩ := q
      obtain ⟨g1, g2, g3⟩ := (Store.wf_cons d k' v' m').1 h'
      have hk : k = k' := by
        rcases Nat.lt_trichotomy k k' with hl | hl | hl
        · exact absurd (by
            have := e k
            rw [Store.get_cons, if_pos rfl, low k ((k', v') :: m') (by
              intro x hx
              rcases List.mem_cons.1 hx with hx | hx
              · subst hx; exact hl
              · exact Nat.lt_trans hl (g2 x hx))] at this
            exact this) h1
        · exact hl
        · exact absurd (by
            have := e k'
            rw [Store.get_cons (i := k') (k := k'), if_pos rfl, low k' ((k, v) :: m) (by
              intro x hx
              rcases List.mem_cons.1 hx with hx | hx
              · subst hx; exact hl
              · exact Nat.lt_trans hl (h2 x hx))] at this
            exact this.symm) g1
      subst hk
      have hv : v = v' := by simpa [Store.get_cons] using e k
      subst hv
      congr 1
      refine ih m' h3 g3 (fun i => ?_)
      by_cases hi : i = k
      · subst hi
        rw [low i m h2, low i m' g2]
      · simpa [Store.get_cons, hi] using e i

end Sys2Proof.Machine
end

