-- ==== Sys2Proof/Laws/State.lean ====
section
/-! SUPPORT. One lemma per field of State per basic update, so that no proof unfolds a record update. -/

namespace Sys2Proof.Machine

/-! setReg -/

@[simp] theorem State.setReg_pending (s : State) (off : Nat) (v : Word) : (s.setReg off v).pending = s.pending := rfl
@[simp] theorem State.setReg_clk (s : State) (off : Nat) (v : Word) : (s.setReg off v).clk = s.clk := rfl
@[simp] theorem State.setReg_held (s : State) (off : Nat) (v : Word) : (s.setReg off v).held = s.held := rfl
@[simp] theorem State.setReg_latched (s : State) (off : Nat) (v : Word) : (s.setReg off v).latched = s.latched := rfl
@[simp] theorem State.setReg_slotA (s : State) (off : Nat) (v : Word) : (s.setReg off v).slotA = s.slotA := rfl
@[simp] theorem State.setReg_gradeEx (s : State) (off : Nat) (v : Word) : (s.setReg off v).gradeEx = s.gradeEx := rfl
@[simp] theorem State.setReg_time (s : State) (off : Nat) (v : Word) : (s.setReg off v).time = s.time := rfl
@[simp] theorem State.setReg_hif (s : State) (off : Nat) (v : Word) : (s.setReg off v).hif = s.hif := rfl
@[simp] theorem State.setReg_evt (s : State) (off : Nat) (v : Word) : (s.setReg off v).evt = s.evt := rfl
@[simp] theorem State.setReg_lanes (s : State) (off : Nat) (v : Word) : (s.setReg off v).lanes = s.lanes := rfl
@[simp] theorem State.setReg_links (s : State) (off : Nat) (v : Word) : (s.setReg off v).links = s.links := rfl
@[simp] theorem State.setReg_ports (s : State) (off : Nat) (v : Word) : (s.setReg off v).ports = s.ports := rfl
@[simp] theorem State.setReg_buf (s : State) (off : Nat) (v : Word) : (s.setReg off v).buf = s.buf := rfl
@[simp] theorem State.setReg_tbl (s : State) (off : Nat) (v : Word) : (s.setReg off v).tbl = s.tbl := rfl
@[simp] theorem State.setReg_gates (s : State) (off : Nat) (v : Word) : (s.setReg off v).gates = s.gates := rfl
@[simp] theorem State.setReg_img (s : State) (off : Nat) (v : Word) : (s.setReg off v).img = s.img := rfl
@[simp] theorem State.setReg_txn (s : State) (off : Nat) (v : Word) : (s.setReg off v).txn = s.txn := rfl
@[simp] theorem State.setReg_mir (s : State) (off : Nat) (v : Word) : (s.setReg off v).mir = s.mir := rfl
@[simp] theorem State.setReg_lan (s : State) (off : Nat) (v : Word) : (s.setReg off v).lan = s.lan := rfl
@[simp] theorem State.setReg_lanSec (s : State) (off : Nat) (v : Word) : (s.setReg off v).lanSec = s.lanSec := rfl
@[simp] theorem State.setReg_ref (s : State) (off : Nat) (v : Word) : (s.setReg off v).ref = s.ref := rfl
@[simp] theorem State.setReg_tin (s : State) (off : Nat) (v : Word) : (s.setReg off v).tin = s.tin := rfl
@[simp] theorem State.setReg_cal (s : State) (off : Nat) (v : Word) : (s.setReg off v).cal = s.cal := rfl
@[simp] theorem State.setReg_pwr (s : State) (off : Nat) (v : Word) : (s.setReg off v).pwr = s.pwr := rfl
@[simp] theorem State.setReg_rst (s : State) (off : Nat) (v : Word) : (s.setReg off v).rst = s.rst := rfl
@[simp] theorem State.setReg_rawHeld (s : State) (off : Nat) (v : Word) : (s.setReg off v).rawHeld = s.rawHeld := rfl
@[simp] theorem State.setReg_outbox (s : State) (off : Nat) (v : Word) : (s.setReg off v).outbox = s.outbox := rfl

/-! setF -/

@[simp] theorem State.setF_pending (s : State) (f : FieldRef) (v : Nat) : (s.setF f v).pending = s.pending := rfl
@[simp] theorem State.setF_clk (s : State) (f : FieldRef) (v : Nat) : (s.setF f v).clk = s.clk := rfl
@[simp] theorem State.setF_held (s : State) (f : FieldRef) (v : Nat) : (s.setF f v).held = s.held := rfl
@[simp] theorem State.setF_latched (s : State) (f : FieldRef) (v : Nat) : (s.setF f v).latched = s.latched := rfl
@[simp] theorem State.setF_slotA (s : State) (f : FieldRef) (v : Nat) : (s.setF f v).slotA = s.slotA := rfl
@[simp] theorem State.setF_gradeEx (s : State) (f : FieldRef) (v : Nat) : (s.setF f v).gradeEx = s.gradeEx := rfl
@[simp] theorem State.setF_time (s : State) (f : FieldRef) (v : Nat) : (s.setF f v).time = s.time := rfl
@[simp] theorem State.setF_hif (s : State) (f : FieldRef) (v : Nat) : (s.setF f v).hif = s.hif := rfl
@[simp] theorem State.setF_evt (s : State) (f : FieldRef) (v : Nat) : (s.setF f v).evt = s.evt := rfl
@[simp] theorem State.setF_lanes (s : State) (f : FieldRef) (v : Nat) : (s.setF f v).lanes = s.lanes := rfl
@[simp] theorem State.setF_links (s : State) (f : FieldRef) (v : Nat) : (s.setF f v).links = s.links := rfl
@[simp] theorem State.setF_ports (s : State) (f : FieldRef) (v : Nat) : (s.setF f v).ports = s.ports := rfl
@[simp] theorem State.setF_buf (s : State) (f : FieldRef) (v : Nat) : (s.setF f v).buf = s.buf := rfl
@[simp] theorem State.setF_tbl (s : State) (f : FieldRef) (v : Nat) : (s.setF f v).tbl = s.tbl := rfl
@[simp] theorem State.setF_gates (s : State) (f : FieldRef) (v : Nat) : (s.setF f v).gates = s.gates := rfl
@[simp] theorem State.setF_img (s : State) (f : FieldRef) (v : Nat) : (s.setF f v).img = s.img := rfl
@[simp] theorem State.setF_txn (s : State) (f : FieldRef) (v : Nat) : (s.setF f v).txn = s.txn := rfl
@[simp] theorem State.setF_mir (s : State) (f : FieldRef) (v : Nat) : (s.setF f v).mir = s.mir := rfl
@[simp] theorem State.setF_lan (s : State) (f : FieldRef) (v : Nat) : (s.setF f v).lan = s.lan := rfl
@[simp] theorem State.setF_lanSec (s : State) (f : FieldRef) (v : Nat) : (s.setF f v).lanSec = s.lanSec := rfl
@[simp] theorem State.setF_ref (s : State) (f : FieldRef) (v : Nat) : (s.setF f v).ref = s.ref := rfl
@[simp] theorem State.setF_tin (s : State) (f : FieldRef) (v : Nat) : (s.setF f v).tin = s.tin := rfl
@[simp] theorem State.setF_cal (s : State) (f : FieldRef) (v : Nat) : (s.setF f v).cal = s.cal := rfl
@[simp] theorem State.setF_pwr (s : State) (f : FieldRef) (v : Nat) : (s.setF f v).pwr = s.pwr := rfl
@[simp] theorem State.setF_rst (s : State) (f : FieldRef) (v : Nat) : (s.setF f v).rst = s.rst := rfl
@[simp] theorem State.setF_rawHeld (s : State) (f : FieldRef) (v : Nat) : (s.setF f v).rawHeld = s.rawHeld := rfl
@[simp] theorem State.setF_outbox (s : State) (f : FieldRef) (v : Nat) : (s.setF f v).outbox = s.outbox := rfl

/-! setFlag -/

@[simp] theorem State.setFlag_pending (s : State) (f : FieldRef) (b : Bool) : (s.setFlag f b).pending = s.pending := rfl
@[simp] theorem State.setFlag_clk (s : State) (f : FieldRef) (b : Bool) : (s.setFlag f b).clk = s.clk := rfl
@[simp] theorem State.setFlag_held (s : State) (f : FieldRef) (b : Bool) : (s.setFlag f b).held = s.held := rfl
@[simp] theorem State.setFlag_latched (s : State) (f : FieldRef) (b : Bool) : (s.setFlag f b).latched = s.latched := rfl
@[simp] theorem State.setFlag_slotA (s : State) (f : FieldRef) (b : Bool) : (s.setFlag f b).slotA = s.slotA := rfl
@[simp] theorem State.setFlag_gradeEx (s : State) (f : FieldRef) (b : Bool) : (s.setFlag f b).gradeEx = s.gradeEx := rfl
@[simp] theorem State.setFlag_time (s : State) (f : FieldRef) (b : Bool) : (s.setFlag f b).time = s.time := rfl
@[simp] theorem State.setFlag_hif (s : State) (f : FieldRef) (b : Bool) : (s.setFlag f b).hif = s.hif := rfl
@[simp] theorem State.setFlag_evt (s : State) (f : FieldRef) (b : Bool) : (s.setFlag f b).evt = s.evt := rfl
@[simp] theorem State.setFlag_lanes (s : State) (f : FieldRef) (b : Bool) : (s.setFlag f b).lanes = s.lanes := rfl
@[simp] theorem State.setFlag_links (s : State) (f : FieldRef) (b : Bool) : (s.setFlag f b).links = s.links := rfl
@[simp] theorem State.setFlag_ports (s : State) (f : FieldRef) (b : Bool) : (s.setFlag f b).ports = s.ports := rfl
@[simp] theorem State.setFlag_buf (s : State) (f : FieldRef) (b : Bool) : (s.setFlag f b).buf = s.buf := rfl
@[simp] theorem State.setFlag_tbl (s : State) (f : FieldRef) (b : Bool) : (s.setFlag f b).tbl = s.tbl := rfl
@[simp] theorem State.setFlag_gates (s : State) (f : FieldRef) (b : Bool) : (s.setFlag f b).gates = s.gates := rfl
@[simp] theorem State.setFlag_img (s : State) (f : FieldRef) (b : Bool) : (s.setFlag f b).img = s.img := rfl
@[simp] theorem State.setFlag_txn (s : State) (f : FieldRef) (b : Bool) : (s.setFlag f b).txn = s.txn := rfl
@[simp] theorem State.setFlag_mir (s : State) (f : FieldRef) (b : Bool) : (s.setFlag f b).mir = s.mir := rfl
@[simp] theorem State.setFlag_lan (s : State) (f : FieldRef) (b : Bool) : (s.setFlag f b).lan = s.lan := rfl
@[simp] theorem State.setFlag_lanSec (s : State) (f : FieldRef) (b : Bool) : (s.setFlag f b).lanSec = s.lanSec := rfl
@[simp] theorem State.setFlag_ref (s : State) (f : FieldRef) (b : Bool) : (s.setFlag f b).ref = s.ref := rfl
@[simp] theorem State.setFlag_tin (s : State) (f : FieldRef) (b : Bool) : (s.setFlag f b).tin = s.tin := rfl
@[simp] theorem State.setFlag_cal (s : State) (f : FieldRef) (b : Bool) : (s.setFlag f b).cal = s.cal := rfl
@[simp] theorem State.setFlag_pwr (s : State) (f : FieldRef) (b : Bool) : (s.setFlag f b).pwr = s.pwr := rfl
@[simp] theorem State.setFlag_rst (s : State) (f : FieldRef) (b : Bool) : (s.setFlag f b).rst = s.rst := rfl
@[simp] theorem State.setFlag_rawHeld (s : State) (f : FieldRef) (b : Bool) : (s.setFlag f b).rawHeld = s.rawHeld := rfl
@[simp] theorem State.setFlag_outbox (s : State) (f : FieldRef) (b : Bool) : (s.setFlag f b).outbox = s.outbox := rfl

/-! bumpBy -/

@[simp] theorem State.bumpBy_pending (s : State) (off n : Nat) : (s.bumpBy off n).pending = s.pending := rfl
@[simp] theorem State.bumpBy_clk (s : State) (off n : Nat) : (s.bumpBy off n).clk = s.clk := rfl
@[simp] theorem State.bumpBy_held (s : State) (off n : Nat) : (s.bumpBy off n).held = s.held := rfl
@[simp] theorem State.bumpBy_latched (s : State) (off n : Nat) : (s.bumpBy off n).latched = s.latched := rfl
@[simp] theorem State.bumpBy_slotA (s : State) (off n : Nat) : (s.bumpBy off n).slotA = s.slotA := rfl
@[simp] theorem State.bumpBy_gradeEx (s : State) (off n : Nat) : (s.bumpBy off n).gradeEx = s.gradeEx := rfl
@[simp] theorem State.bumpBy_time (s : State) (off n : Nat) : (s.bumpBy off n).time = s.time := rfl
@[simp] theorem State.bumpBy_hif (s : State) (off n : Nat) : (s.bumpBy off n).hif = s.hif := rfl
@[simp] theorem State.bumpBy_evt (s : State) (off n : Nat) : (s.bumpBy off n).evt = s.evt := rfl
@[simp] theorem State.bumpBy_lanes (s : State) (off n : Nat) : (s.bumpBy off n).lanes = s.lanes := rfl
@[simp] theorem State.bumpBy_links (s : State) (off n : Nat) : (s.bumpBy off n).links = s.links := rfl
@[simp] theorem State.bumpBy_ports (s : State) (off n : Nat) : (s.bumpBy off n).ports = s.ports := rfl
@[simp] theorem State.bumpBy_buf (s : State) (off n : Nat) : (s.bumpBy off n).buf = s.buf := rfl
@[simp] theorem State.bumpBy_tbl (s : State) (off n : Nat) : (s.bumpBy off n).tbl = s.tbl := rfl
@[simp] theorem State.bumpBy_gates (s : State) (off n : Nat) : (s.bumpBy off n).gates = s.gates := rfl
@[simp] theorem State.bumpBy_img (s : State) (off n : Nat) : (s.bumpBy off n).img = s.img := rfl
@[simp] theorem State.bumpBy_txn (s : State) (off n : Nat) : (s.bumpBy off n).txn = s.txn := rfl
@[simp] theorem State.bumpBy_mir (s : State) (off n : Nat) : (s.bumpBy off n).mir = s.mir := rfl
@[simp] theorem State.bumpBy_lan (s : State) (off n : Nat) : (s.bumpBy off n).lan = s.lan := rfl
@[simp] theorem State.bumpBy_lanSec (s : State) (off n : Nat) : (s.bumpBy off n).lanSec = s.lanSec := rfl
@[simp] theorem State.bumpBy_ref (s : State) (off n : Nat) : (s.bumpBy off n).ref = s.ref := rfl
@[simp] theorem State.bumpBy_tin (s : State) (off n : Nat) : (s.bumpBy off n).tin = s.tin := rfl
@[simp] theorem State.bumpBy_cal (s : State) (off n : Nat) : (s.bumpBy off n).cal = s.cal := rfl
@[simp] theorem State.bumpBy_pwr (s : State) (off n : Nat) : (s.bumpBy off n).pwr = s.pwr := rfl
@[simp] theorem State.bumpBy_rst (s : State) (off n : Nat) : (s.bumpBy off n).rst = s.rst := rfl
@[simp] theorem State.bumpBy_rawHeld (s : State) (off n : Nat) : (s.bumpBy off n).rawHeld = s.rawHeld := rfl
@[simp] theorem State.bumpBy_outbox (s : State) (off n : Nat) : (s.bumpBy off n).outbox = s.outbox := rfl

/-! bump -/

@[simp] theorem State.bump_pending (s : State) (off : Nat) : (s.bump off).pending = s.pending := rfl
@[simp] theorem State.bump_clk (s : State) (off : Nat) : (s.bump off).clk = s.clk := rfl
@[simp] theorem State.bump_held (s : State) (off : Nat) : (s.bump off).held = s.held := rfl
@[simp] theorem State.bump_latched (s : State) (off : Nat) : (s.bump off).latched = s.latched := rfl
@[simp] theorem State.bump_slotA (s : State) (off : Nat) : (s.bump off).slotA = s.slotA := rfl
@[simp] theorem State.bump_gradeEx (s : State) (off : Nat) : (s.bump off).gradeEx = s.gradeEx := rfl
@[simp] theorem State.bump_time (s : State) (off : Nat) : (s.bump off).time = s.time := rfl
@[simp] theorem State.bump_hif (s : State) (off : Nat) : (s.bump off).hif = s.hif := rfl
@[simp] theorem State.bump_evt (s : State) (off : Nat) : (s.bump off).evt = s.evt := rfl
@[simp] theorem State.bump_lanes (s : State) (off : Nat) : (s.bump off).lanes = s.lanes := rfl
@[simp] theorem State.bump_links (s : State) (off : Nat) : (s.bump off).links = s.links := rfl
@[simp] theorem State.bump_ports (s : State) (off : Nat) : (s.bump off).ports = s.ports := rfl
@[simp] theorem State.bump_buf (s : State) (off : Nat) : (s.bump off).buf = s.buf := rfl
@[simp] theorem State.bump_tbl (s : State) (off : Nat) : (s.bump off).tbl = s.tbl := rfl
@[simp] theorem State.bump_gates (s : State) (off : Nat) : (s.bump off).gates = s.gates := rfl
@[simp] theorem State.bump_img (s : State) (off : Nat) : (s.bump off).img = s.img := rfl
@[simp] theorem State.bump_txn (s : State) (off : Nat) : (s.bump off).txn = s.txn := rfl
@[simp] theorem State.bump_mir (s : State) (off : Nat) : (s.bump off).mir = s.mir := rfl
@[simp] theorem State.bump_lan (s : State) (off : Nat) : (s.bump off).lan = s.lan := rfl
@[simp] theorem State.bump_lanSec (s : State) (off : Nat) : (s.bump off).lanSec = s.lanSec := rfl
@[simp] theorem State.bump_ref (s : State) (off : Nat) : (s.bump off).ref = s.ref := rfl
@[simp] theorem State.bump_tin (s : State) (off : Nat) : (s.bump off).tin = s.tin := rfl
@[simp] theorem State.bump_cal (s : State) (off : Nat) : (s.bump off).cal = s.cal := rfl
@[simp] theorem State.bump_pwr (s : State) (off : Nat) : (s.bump off).pwr = s.pwr := rfl
@[simp] theorem State.bump_rst (s : State) (off : Nat) : (s.bump off).rst = s.rst := rfl
@[simp] theorem State.bump_rawHeld (s : State) (off : Nat) : (s.bump off).rawHeld = s.rawHeld := rfl
@[simp] theorem State.bump_outbox (s : State) (off : Nat) : (s.bump off).outbox = s.outbox := rfl

/-! bumpSat -/

@[simp] theorem State.bumpSat_pending (s : State) (off n : Nat) : (s.bumpSat off n).pending = s.pending := rfl
@[simp] theorem State.bumpSat_clk (s : State) (off n : Nat) : (s.bumpSat off n).clk = s.clk := rfl
@[simp] theorem State.bumpSat_held (s : State) (off n : Nat) : (s.bumpSat off n).held = s.held := rfl
@[simp] theorem State.bumpSat_latched (s : State) (off n : Nat) : (s.bumpSat off n).latched = s.latched := rfl
@[simp] theorem State.bumpSat_slotA (s : State) (off n : Nat) : (s.bumpSat off n).slotA = s.slotA := rfl
@[simp] theorem State.bumpSat_gradeEx (s : State) (off n : Nat) : (s.bumpSat off n).gradeEx = s.gradeEx := rfl
@[simp] theorem State.bumpSat_time (s : State) (off n : Nat) : (s.bumpSat off n).time = s.time := rfl
@[simp] theorem State.bumpSat_hif (s : State) (off n : Nat) : (s.bumpSat off n).hif = s.hif := rfl
@[simp] theorem State.bumpSat_evt (s : State) (off n : Nat) : (s.bumpSat off n).evt = s.evt := rfl
@[simp] theorem State.bumpSat_lanes (s : State) (off n : Nat) : (s.bumpSat off n).lanes = s.lanes := rfl
@[simp] theorem State.bumpSat_links (s : State) (off n : Nat) : (s.bumpSat off n).links = s.links := rfl
@[simp] theorem State.bumpSat_ports (s : State) (off n : Nat) : (s.bumpSat off n).ports = s.ports := rfl
@[simp] theorem State.bumpSat_buf (s : State) (off n : Nat) : (s.bumpSat off n).buf = s.buf := rfl
@[simp] theorem State.bumpSat_tbl (s : State) (off n : Nat) : (s.bumpSat off n).tbl = s.tbl := rfl
@[simp] theorem State.bumpSat_gates (s : State) (off n : Nat) : (s.bumpSat off n).gates = s.gates := rfl
@[simp] theorem State.bumpSat_img (s : State) (off n : Nat) : (s.bumpSat off n).img = s.img := rfl
@[simp] theorem State.bumpSat_txn (s : State) (off n : Nat) : (s.bumpSat off n).txn = s.txn := rfl
@[simp] theorem State.bumpSat_mir (s : State) (off n : Nat) : (s.bumpSat off n).mir = s.mir := rfl
@[simp] theorem State.bumpSat_lan (s : State) (off n : Nat) : (s.bumpSat off n).lan = s.lan := rfl
@[simp] theorem State.bumpSat_lanSec (s : State) (off n : Nat) : (s.bumpSat off n).lanSec = s.lanSec := rfl
@[simp] theorem State.bumpSat_ref (s : State) (off n : Nat) : (s.bumpSat off n).ref = s.ref := rfl
@[simp] theorem State.bumpSat_tin (s : State) (off n : Nat) : (s.bumpSat off n).tin = s.tin := rfl
@[simp] theorem State.bumpSat_cal (s : State) (off n : Nat) : (s.bumpSat off n).cal = s.cal := rfl
@[simp] theorem State.bumpSat_pwr (s : State) (off n : Nat) : (s.bumpSat off n).pwr = s.pwr := rfl
@[simp] theorem State.bumpSat_rst (s : State) (off n : Nat) : (s.bumpSat off n).rst = s.rst := rfl
@[simp] theorem State.bumpSat_rawHeld (s : State) (off n : Nat) : (s.bumpSat off n).rawHeld = s.rawHeld := rfl
@[simp] theorem State.bumpSat_outbox (s : State) (off n : Nat) : (s.bumpSat off n).outbox = s.outbox := rfl

/-! setPair -/

@[simp] theorem State.setPair_pending (s : State) (lo hi v : Nat) : (s.setPair lo hi v).pending = s.pending := rfl
@[simp] theorem State.setPair_clk (s : State) (lo hi v : Nat) : (s.setPair lo hi v).clk = s.clk := rfl
@[simp] theorem State.setPair_held (s : State) (lo hi v : Nat) : (s.setPair lo hi v).held = s.held := rfl
@[simp] theorem State.setPair_latched (s : State) (lo hi v : Nat) : (s.setPair lo hi v).latched = s.latched := rfl
@[simp] theorem State.setPair_slotA (s : State) (lo hi v : Nat) : (s.setPair lo hi v).slotA = s.slotA := rfl
@[simp] theorem State.setPair_gradeEx (s : State) (lo hi v : Nat) : (s.setPair lo hi v).gradeEx = s.gradeEx := rfl
@[simp] theorem State.setPair_time (s : State) (lo hi v : Nat) : (s.setPair lo hi v).time = s.time := rfl
@[simp] theorem State.setPair_hif (s : State) (lo hi v : Nat) : (s.setPair lo hi v).hif = s.hif := rfl
@[simp] theorem State.setPair_evt (s : State) (lo hi v : Nat) : (s.setPair lo hi v).evt = s.evt := rfl
@[simp] theorem State.setPair_lanes (s : State) (lo hi v : Nat) : (s.setPair lo hi v).lanes = s.lanes := rfl
@[simp] theorem State.setPair_links (s : State) (lo hi v : Nat) : (s.setPair lo hi v).links = s.links := rfl
@[simp] theorem State.setPair_ports (s : State) (lo hi v : Nat) : (s.setPair lo hi v).ports = s.ports := rfl
@[simp] theorem State.setPair_buf (s : State) (lo hi v : Nat) : (s.setPair lo hi v).buf = s.buf := rfl
@[simp] theorem State.setPair_tbl (s : State) (lo hi v : Nat) : (s.setPair lo hi v).tbl = s.tbl := rfl
@[simp] theorem State.setPair_gates (s : State) (lo hi v : Nat) : (s.setPair lo hi v).gates = s.gates := rfl
@[simp] theorem State.setPair_img (s : State) (lo hi v : Nat) : (s.setPair lo hi v).img = s.img := rfl
@[simp] theorem State.setPair_txn (s : State) (lo hi v : Nat) : (s.setPair lo hi v).txn = s.txn := rfl
@[simp] theorem State.setPair_mir (s : State) (lo hi v : Nat) : (s.setPair lo hi v).mir = s.mir := rfl
@[simp] theorem State.setPair_lan (s : State) (lo hi v : Nat) : (s.setPair lo hi v).lan = s.lan := rfl
@[simp] theorem State.setPair_lanSec (s : State) (lo hi v : Nat) : (s.setPair lo hi v).lanSec = s.lanSec := rfl
@[simp] theorem State.setPair_ref (s : State) (lo hi v : Nat) : (s.setPair lo hi v).ref = s.ref := rfl
@[simp] theorem State.setPair_tin (s : State) (lo hi v : Nat) : (s.setPair lo hi v).tin = s.tin := rfl
@[simp] theorem State.setPair_cal (s : State) (lo hi v : Nat) : (s.setPair lo hi v).cal = s.cal := rfl
@[simp] theorem State.setPair_pwr (s : State) (lo hi v : Nat) : (s.setPair lo hi v).pwr = s.pwr := rfl
@[simp] theorem State.setPair_rst (s : State) (lo hi v : Nat) : (s.setPair lo hi v).rst = s.rst := rfl
@[simp] theorem State.setPair_rawHeld (s : State) (lo hi v : Nat) : (s.setPair lo hi v).rawHeld = s.rawHeld := rfl
@[simp] theorem State.setPair_outbox (s : State) (lo hi v : Nat) : (s.setPair lo hi v).outbox = s.outbox := rfl

/-! setPair48 -/

@[simp] theorem State.setPair48_pending (s : State) (lo hi : Nat) (v : Int) : (s.setPair48 lo hi v).pending = s.pending := rfl
@[simp] theorem State.setPair48_clk (s : State) (lo hi : Nat) (v : Int) : (s.setPair48 lo hi v).clk = s.clk := rfl
@[simp] theorem State.setPair48_held (s : State) (lo hi : Nat) (v : Int) : (s.setPair48 lo hi v).held = s.held := rfl
@[simp] theorem State.setPair48_latched (s : State) (lo hi : Nat) (v : Int) : (s.setPair48 lo hi v).latched = s.latched := rfl
@[simp] theorem State.setPair48_slotA (s : State) (lo hi : Nat) (v : Int) : (s.setPair48 lo hi v).slotA = s.slotA := rfl
@[simp] theorem State.setPair48_gradeEx (s : State) (lo hi : Nat) (v : Int) : (s.setPair48 lo hi v).gradeEx = s.gradeEx := rfl
@[simp] theorem State.setPair48_time (s : State) (lo hi : Nat) (v : Int) : (s.setPair48 lo hi v).time = s.time := rfl
@[simp] theorem State.setPair48_hif (s : State) (lo hi : Nat) (v : Int) : (s.setPair48 lo hi v).hif = s.hif := rfl
@[simp] theorem State.setPair48_evt (s : State) (lo hi : Nat) (v : Int) : (s.setPair48 lo hi v).evt = s.evt := rfl
@[simp] theorem State.setPair48_lanes (s : State) (lo hi : Nat) (v : Int) : (s.setPair48 lo hi v).lanes = s.lanes := rfl
@[simp] theorem State.setPair48_links (s : State) (lo hi : Nat) (v : Int) : (s.setPair48 lo hi v).links = s.links := rfl
@[simp] theorem State.setPair48_ports (s : State) (lo hi : Nat) (v : Int) : (s.setPair48 lo hi v).ports = s.ports := rfl
@[simp] theorem State.setPair48_buf (s : State) (lo hi : Nat) (v : Int) : (s.setPair48 lo hi v).buf = s.buf := rfl
@[simp] theorem State.setPair48_tbl (s : State) (lo hi : Nat) (v : Int) : (s.setPair48 lo hi v).tbl = s.tbl := rfl
@[simp] theorem State.setPair48_gates (s : State) (lo hi : Nat) (v : Int) : (s.setPair48 lo hi v).gates = s.gates := rfl
@[simp] theorem State.setPair48_img (s : State) (lo hi : Nat) (v : Int) : (s.setPair48 lo hi v).img = s.img := rfl
@[simp] theorem State.setPair48_txn (s : State) (lo hi : Nat) (v : Int) : (s.setPair48 lo hi v).txn = s.txn := rfl
@[simp] theorem State.setPair48_mir (s : State) (lo hi : Nat) (v : Int) : (s.setPair48 lo hi v).mir = s.mir := rfl
@[simp] theorem State.setPair48_lan (s : State) (lo hi : Nat) (v : Int) : (s.setPair48 lo hi v).lan = s.lan := rfl
@[simp] theorem State.setPair48_lanSec (s : State) (lo hi : Nat) (v : Int) : (s.setPair48 lo hi v).lanSec = s.lanSec := rfl
@[simp] theorem State.setPair48_ref (s : State) (lo hi : Nat) (v : Int) : (s.setPair48 lo hi v).ref = s.ref := rfl
@[simp] theorem State.setPair48_tin (s : State) (lo hi : Nat) (v : Int) : (s.setPair48 lo hi v).tin = s.tin := rfl
@[simp] theorem State.setPair48_cal (s : State) (lo hi : Nat) (v : Int) : (s.setPair48 lo hi v).cal = s.cal := rfl
@[simp] theorem State.setPair48_pwr (s : State) (lo hi : Nat) (v : Int) : (s.setPair48 lo hi v).pwr = s.pwr := rfl
@[simp] theorem State.setPair48_rst (s : State) (lo hi : Nat) (v : Int) : (s.setPair48 lo hi v).rst = s.rst := rfl
@[simp] theorem State.setPair48_rawHeld (s : State) (lo hi : Nat) (v : Int) : (s.setPair48 lo hi v).rawHeld = s.rawHeld := rfl
@[simp] theorem State.setPair48_outbox (s : State) (lo hi : Nat) (v : Int) : (s.setPair48 lo hi v).outbox = s.outbox := rfl

/-! setTriple -/

@[simp] theorem State.setTriple_pending (s : State) (a b c v : Nat) : (s.setTriple a b c v).pending = s.pending := rfl
@[simp] theorem State.setTriple_clk (s : State) (a b c v : Nat) : (s.setTriple a b c v).clk = s.clk := rfl
@[simp] theorem State.setTriple_held (s : State) (a b c v : Nat) : (s.setTriple a b c v).held = s.held := rfl
@[simp] theorem State.setTriple_latched (s : State) (a b c v : Nat) : (s.setTriple a b c v).latched = s.latched := rfl
@[simp] theorem State.setTriple_slotA (s : State) (a b c v : Nat) : (s.setTriple a b c v).slotA = s.slotA := rfl
@[simp] theorem State.setTriple_gradeEx (s : State) (a b c v : Nat) : (s.setTriple a b c v).gradeEx = s.gradeEx := rfl
@[simp] theorem State.setTriple_time (s : State) (a b c v : Nat) : (s.setTriple a b c v).time = s.time := rfl
@[simp] theorem State.setTriple_hif (s : State) (a b c v : Nat) : (s.setTriple a b c v).hif = s.hif := rfl
@[simp] theorem State.setTriple_evt (s : State) (a b c v : Nat) : (s.setTriple a b c v).evt = s.evt := rfl
@[simp] theorem State.setTriple_lanes (s : State) (a b c v : Nat) : (s.setTriple a b c v).lanes = s.lanes := rfl
@[simp] theorem State.setTriple_links (s : State) (a b c v : Nat) : (s.setTriple a b c v).links = s.links := rfl
@[simp] theorem State.setTriple_ports (s : State) (a b c v : Nat) : (s.setTriple a b c v).ports = s.ports := rfl
@[simp] theorem State.setTriple_buf (s : State) (a b c v : Nat) : (s.setTriple a b c v).buf = s.buf := rfl
@[simp] theorem State.setTriple_tbl (s : State) (a b c v : Nat) : (s.setTriple a b c v).tbl = s.tbl := rfl
@[simp] theorem State.setTriple_gates (s : State) (a b c v : Nat) : (s.setTriple a b c v).gates = s.gates := rfl
@[simp] theorem State.setTriple_img (s : State) (a b c v : Nat) : (s.setTriple a b c v).img = s.img := rfl
@[simp] theorem State.setTriple_txn (s : State) (a b c v : Nat) : (s.setTriple a b c v).txn = s.txn := rfl
@[simp] theorem State.setTriple_mir (s : State) (a b c v : Nat) : (s.setTriple a b c v).mir = s.mir := rfl
@[simp] theorem State.setTriple_lan (s : State) (a b c v : Nat) : (s.setTriple a b c v).lan = s.lan := rfl
@[simp] theorem State.setTriple_lanSec (s : State) (a b c v : Nat) : (s.setTriple a b c v).lanSec = s.lanSec := rfl
@[simp] theorem State.setTriple_ref (s : State) (a b c v : Nat) : (s.setTriple a b c v).ref = s.ref := rfl
@[simp] theorem State.setTriple_tin (s : State) (a b c v : Nat) : (s.setTriple a b c v).tin = s.tin := rfl
@[simp] theorem State.setTriple_cal (s : State) (a b c v : Nat) : (s.setTriple a b c v).cal = s.cal := rfl
@[simp] theorem State.setTriple_pwr (s : State) (a b c v : Nat) : (s.setTriple a b c v).pwr = s.pwr := rfl
@[simp] theorem State.setTriple_rst (s : State) (a b c v : Nat) : (s.setTriple a b c v).rst = s.rst := rfl
@[simp] theorem State.setTriple_rawHeld (s : State) (a b c v : Nat) : (s.setTriple a b c v).rawHeld = s.rawHeld := rfl
@[simp] theorem State.setTriple_outbox (s : State) (a b c v : Nat) : (s.setTriple a b c v).outbox = s.outbox := rfl

/-! emit -/

@[simp] theorem State.emit_pending (s : State) (o : Output) : (s.emit o).pending = s.pending := rfl
@[simp] theorem State.emit_clk (s : State) (o : Output) : (s.emit o).clk = s.clk := rfl
@[simp] theorem State.emit_regs (s : State) (o : Output) : (s.emit o).regs = s.regs := rfl
@[simp] theorem State.emit_held (s : State) (o : Output) : (s.emit o).held = s.held := rfl
@[simp] theorem State.emit_latched (s : State) (o : Output) : (s.emit o).latched = s.latched := rfl
@[simp] theorem State.emit_slotA (s : State) (o : Output) : (s.emit o).slotA = s.slotA := rfl
@[simp] theorem State.emit_gradeEx (s : State) (o : Output) : (s.emit o).gradeEx = s.gradeEx := rfl
@[simp] theorem State.emit_time (s : State) (o : Output) : (s.emit o).time = s.time := rfl
@[simp] theorem State.emit_hif (s : State) (o : Output) : (s.emit o).hif = s.hif := rfl
@[simp] theorem State.emit_evt (s : State) (o : Output) : (s.emit o).evt = s.evt := rfl
@[simp] theorem State.emit_lanes (s : State) (o : Output) : (s.emit o).lanes = s.lanes := rfl
@[simp] theorem State.emit_links (s : State) (o : Output) : (s.emit o).links = s.links := rfl
@[simp] theorem State.emit_ports (s : State) (o : Output) : (s.emit o).ports = s.ports := rfl
@[simp] theorem State.emit_buf (s : State) (o : Output) : (s.emit o).buf = s.buf := rfl
@[simp] theorem State.emit_tbl (s : State) (o : Output) : (s.emit o).tbl = s.tbl := rfl
@[simp] theorem State.emit_gates (s : State) (o : Output) : (s.emit o).gates = s.gates := rfl
@[simp] theorem State.emit_img (s : State) (o : Output) : (s.emit o).img = s.img := rfl
@[simp] theorem State.emit_txn (s : State) (o : Output) : (s.emit o).txn = s.txn := rfl
@[simp] theorem State.emit_mir (s : State) (o : Output) : (s.emit o).mir = s.mir := rfl
@[simp] theorem State.emit_lan (s : State) (o : Output) : (s.emit o).lan = s.lan := rfl
@[simp] theorem State.emit_lanSec (s : State) (o : Output) : (s.emit o).lanSec = s.lanSec := rfl
@[simp] theorem State.emit_ref (s : State) (o : Output) : (s.emit o).ref = s.ref := rfl
@[simp] theorem State.emit_tin (s : State) (o : Output) : (s.emit o).tin = s.tin := rfl
@[simp] theorem State.emit_cal (s : State) (o : Output) : (s.emit o).cal = s.cal := rfl
@[simp] theorem State.emit_pwr (s : State) (o : Output) : (s.emit o).pwr = s.pwr := rfl
@[simp] theorem State.emit_rst (s : State) (o : Output) : (s.emit o).rst = s.rst := rfl
@[simp] theorem State.emit_rawHeld (s : State) (o : Output) : (s.emit o).rawHeld = s.rawHeld := rfl

/-! genRecord -/

@[simp] theorem State.genRecord_pending (s : State) (r : EvtRec) : (s.genRecord r).pending = s.pending := rfl
@[simp] theorem State.genRecord_clk (s : State) (r : EvtRec) : (s.genRecord r).clk = s.clk := rfl
@[simp] theorem State.genRecord_regs (s : State) (r : EvtRec) : (s.genRecord r).regs = s.regs := rfl
@[simp] theorem State.genRecord_held (s : State) (r : EvtRec) : (s.genRecord r).held = s.held := rfl
@[simp] theorem State.genRecord_latched (s : State) (r : EvtRec) : (s.genRecord r).latched = s.latched := rfl
@[simp] theorem State.genRecord_slotA (s : State) (r : EvtRec) : (s.genRecord r).slotA = s.slotA := rfl
@[simp] theorem State.genRecord_gradeEx (s : State) (r : EvtRec) : (s.genRecord r).gradeEx = s.gradeEx := rfl
@[simp] theorem State.genRecord_time (s : State) (r : EvtRec) : (s.genRecord r).time = s.time := rfl
@[simp] theorem State.genRecord_hif (s : State) (r : EvtRec) : (s.genRecord r).hif = s.hif := rfl
@[simp] theorem State.genRecord_lanes (s : State) (r : EvtRec) : (s.genRecord r).lanes = s.lanes := rfl
@[simp] theorem State.genRecord_links (s : State) (r : EvtRec) : (s.genRecord r).links = s.links := rfl
@[simp] theorem State.genRecord_ports (s : State) (r : EvtRec) : (s.genRecord r).ports = s.ports := rfl
@[simp] theorem State.genRecord_buf (s : State) (r : EvtRec) : (s.genRecord r).buf = s.buf := rfl
@[simp] theorem State.genRecord_tbl (s : State) (r : EvtRec) : (s.genRecord r).tbl = s.tbl := rfl
@[simp] theorem State.genRecord_gates (s : State) (r : EvtRec) : (s.genRecord r).gates = s.gates := rfl
@[simp] theorem State.genRecord_img (s : State) (r : EvtRec) : (s.genRecord r).img = s.img := rfl
@[simp] theorem State.genRecord_txn (s : State) (r : EvtRec) : (s.genRecord r).txn = s.txn := rfl
@[simp] theorem State.genRecord_mir (s : State) (r : EvtRec) : (s.genRecord r).mir = s.mir := rfl
@[simp] theorem State.genRecord_lan (s : State) (r : EvtRec) : (s.genRecord r).lan = s.lan := rfl
@[simp] theorem State.genRecord_lanSec (s : State) (r : EvtRec) : (s.genRecord r).lanSec = s.lanSec := rfl
@[simp] theorem State.genRecord_ref (s : State) (r : EvtRec) : (s.genRecord r).ref = s.ref := rfl
@[simp] theorem State.genRecord_tin (s : State) (r : EvtRec) : (s.genRecord r).tin = s.tin := rfl
@[simp] theorem State.genRecord_cal (s : State) (r : EvtRec) : (s.genRecord r).cal = s.cal := rfl
@[simp] theorem State.genRecord_pwr (s : State) (r : EvtRec) : (s.genRecord r).pwr = s.pwr := rfl
@[simp] theorem State.genRecord_rst (s : State) (r : EvtRec) : (s.genRecord r).rst = s.rst := rfl
@[simp] theorem State.genRecord_rawHeld (s : State) (r : EvtRec) : (s.genRecord r).rawHeld = s.rawHeld := rfl
@[simp] theorem State.genRecord_outbox (s : State) (r : EvtRec) : (s.genRecord r).outbox = s.outbox := rfl

/-! setLane -/

@[simp] theorem State.setLane_pending (s : State) (n : Nat) (x : Lane) : (s.setLane n x).pending = s.pending := rfl
@[simp] theorem State.setLane_clk (s : State) (n : Nat) (x : Lane) : (s.setLane n x).clk = s.clk := rfl
@[simp] theorem State.setLane_regs (s : State) (n : Nat) (x : Lane) : (s.setLane n x).regs = s.regs := rfl
@[simp] theorem State.setLane_held (s : State) (n : Nat) (x : Lane) : (s.setLane n x).held = s.held := rfl
@[simp] theorem State.setLane_latched (s : State) (n : Nat) (x : Lane) : (s.setLane n x).latched = s.latched := rfl
@[simp] theorem State.setLane_slotA (s : State) (n : Nat) (x : Lane) : (s.setLane n x).slotA = s.slotA := rfl
@[simp] theorem State.setLane_gradeEx (s : State) (n : Nat) (x : Lane) : (s.setLane n x).gradeEx = s.gradeEx := rfl
@[simp] theorem State.setLane_time (s : State) (n : Nat) (x : Lane) : (s.setLane n x).time = s.time := rfl
@[simp] theorem State.setLane_hif (s : State) (n : Nat) (x : Lane) : (s.setLane n x).hif = s.hif := rfl
@[simp] theorem State.setLane_evt (s : State) (n : Nat) (x : Lane) : (s.setLane n x).evt = s.evt := rfl
@[simp] theorem State.setLane_links (s : State) (n : Nat) (x : Lane) : (s.setLane n x).links = s.links := rfl
@[simp] theorem State.setLane_ports (s : State) (n : Nat) (x : Lane) : (s.setLane n x).ports = s.ports := rfl
@[simp] theorem State.setLane_buf (s : State) (n : Nat) (x : Lane) : (s.setLane n x).buf = s.buf := rfl
@[simp] theorem State.setLane_tbl (s : State) (n : Nat) (x : Lane) : (s.setLane n x).tbl = s.tbl := rfl
@[simp] theorem State.setLane_gates (s : State) (n : Nat) (x : Lane) : (s.setLane n x).gates = s.gates := rfl
@[simp] theorem State.setLane_img (s : State) (n : Nat) (x : Lane) : (s.setLane n x).img = s.img := rfl
@[simp] theorem State.setLane_txn (s : State) (n : Nat) (x : Lane) : (s.setLane n x).txn = s.txn := rfl
@[simp] theorem State.setLane_mir (s : State) (n : Nat) (x : Lane) : (s.setLane n x).mir = s.mir := rfl
@[simp] theorem State.setLane_lan (s : State) (n : Nat) (x : Lane) : (s.setLane n x).lan = s.lan := rfl
@[simp] theorem State.setLane_lanSec (s : State) (n : Nat) (x : Lane) : (s.setLane n x).lanSec = s.lanSec := rfl
@[simp] theorem State.setLane_ref (s : State) (n : Nat) (x : Lane) : (s.setLane n x).ref = s.ref := rfl
@[simp] theorem State.setLane_tin (s : State) (n : Nat) (x : Lane) : (s.setLane n x).tin = s.tin := rfl
@[simp] theorem State.setLane_cal (s : State) (n : Nat) (x : Lane) : (s.setLane n x).cal = s.cal := rfl
@[simp] theorem State.setLane_pwr (s : State) (n : Nat) (x : Lane) : (s.setLane n x).pwr = s.pwr := rfl
@[simp] theorem State.setLane_rst (s : State) (n : Nat) (x : Lane) : (s.setLane n x).rst = s.rst := rfl
@[simp] theorem State.setLane_rawHeld (s : State) (n : Nat) (x : Lane) : (s.setLane n x).rawHeld = s.rawHeld := rfl
@[simp] theorem State.setLane_outbox (s : State) (n : Nat) (x : Lane) : (s.setLane n x).outbox = s.outbox := rfl

/-! setLink -/

@[simp] theorem State.setLink_pending (s : State) (n : Nat) (x : Link) : (s.setLink n x).pending = s.pending := rfl
@[simp] theorem State.setLink_clk (s : State) (n : Nat) (x : Link) : (s.setLink n x).clk = s.clk := rfl
@[simp] theorem State.setLink_regs (s : State) (n : Nat) (x : Link) : (s.setLink n x).regs = s.regs := rfl
@[simp] theorem State.setLink_held (s : State) (n : Nat) (x : Link) : (s.setLink n x).held = s.held := rfl
@[simp] theorem State.setLink_latched (s : State) (n : Nat) (x : Link) : (s.setLink n x).latched = s.latched := rfl
@[simp] theorem State.setLink_slotA (s : State) (n : Nat) (x : Link) : (s.setLink n x).slotA = s.slotA := rfl
@[simp] theorem State.setLink_gradeEx (s : State) (n : Nat) (x : Link) : (s.setLink n x).gradeEx = s.gradeEx := rfl
@[simp] theorem State.setLink_time (s : State) (n : Nat) (x : Link) : (s.setLink n x).time = s.time := rfl
@[simp] theorem State.setLink_hif (s : State) (n : Nat) (x : Link) : (s.setLink n x).hif = s.hif := rfl
@[simp] theorem State.setLink_evt (s : State) (n : Nat) (x : Link) : (s.setLink n x).evt = s.evt := rfl
@[simp] theorem State.setLink_lanes (s : State) (n : Nat) (x : Link) : (s.setLink n x).lanes = s.lanes := rfl
@[simp] theorem State.setLink_ports (s : State) (n : Nat) (x : Link) : (s.setLink n x).ports = s.ports := rfl
@[simp] theorem State.setLink_buf (s : State) (n : Nat) (x : Link) : (s.setLink n x).buf = s.buf := rfl
@[simp] theorem State.setLink_tbl (s : State) (n : Nat) (x : Link) : (s.setLink n x).tbl = s.tbl := rfl
@[simp] theorem State.setLink_gates (s : State) (n : Nat) (x : Link) : (s.setLink n x).gates = s.gates := rfl
@[simp] theorem State.setLink_img (s : State) (n : Nat) (x : Link) : (s.setLink n x).img = s.img := rfl
@[simp] theorem State.setLink_txn (s : State) (n : Nat) (x : Link) : (s.setLink n x).txn = s.txn := rfl
@[simp] theorem State.setLink_mir (s : State) (n : Nat) (x : Link) : (s.setLink n x).mir = s.mir := rfl
@[simp] theorem State.setLink_lan (s : State) (n : Nat) (x : Link) : (s.setLink n x).lan = s.lan := rfl
@[simp] theorem State.setLink_lanSec (s : State) (n : Nat) (x : Link) : (s.setLink n x).lanSec = s.lanSec := rfl
@[simp] theorem State.setLink_ref (s : State) (n : Nat) (x : Link) : (s.setLink n x).ref = s.ref := rfl
@[simp] theorem State.setLink_tin (s : State) (n : Nat) (x : Link) : (s.setLink n x).tin = s.tin := rfl
@[simp] theorem State.setLink_cal (s : State) (n : Nat) (x : Link) : (s.setLink n x).cal = s.cal := rfl
@[simp] theorem State.setLink_pwr (s : State) (n : Nat) (x : Link) : (s.setLink n x).pwr = s.pwr := rfl
@[simp] theorem State.setLink_rst (s : State) (n : Nat) (x : Link) : (s.setLink n x).rst = s.rst := rfl
@[simp] theorem State.setLink_rawHeld (s : State) (n : Nat) (x : Link) : (s.setLink n x).rawHeld = s.rawHeld := rfl
@[simp] theorem State.setLink_outbox (s : State) (n : Nat) (x : Link) : (s.setLink n x).outbox = s.outbox := rfl

/-! setPort -/

@[simp] theorem State.setPort_pending (s : State) (n : Nat) (x : PortState) : (s.setPort n x).pending = s.pending := rfl
@[simp] theorem State.setPort_clk (s : State) (n : Nat) (x : PortState) : (s.setPort n x).clk = s.clk := rfl
@[simp] theorem State.setPort_regs (s : State) (n : Nat) (x : PortState) : (s.setPort n x).regs = s.regs := rfl
@[simp] theorem State.setPort_held (s : State) (n : Nat) (x : PortState) : (s.setPort n x).held = s.held := rfl
@[simp] theorem State.setPort_latched (s : State) (n : Nat) (x : PortState) : (s.setPort n x).latched = s.latched := rfl
@[simp] theorem State.setPort_slotA (s : State) (n : Nat) (x : PortState) : (s.setPort n x).slotA = s.slotA := rfl
@[simp] theorem State.setPort_gradeEx (s : State) (n : Nat) (x : PortState) : (s.setPort n x).gradeEx = s.gradeEx := rfl
@[simp] theorem State.setPort_time (s : State) (n : Nat) (x : PortState) : (s.setPort n x).time = s.time := rfl
@[simp] theorem State.setPort_hif (s : State) (n : Nat) (x : PortState) : (s.setPort n x).hif = s.hif := rfl
@[simp] theorem State.setPort_evt (s : State) (n : Nat) (x : PortState) : (s.setPort n x).evt = s.evt := rfl
@[simp] theorem State.setPort_lanes (s : State) (n : Nat) (x : PortState) : (s.setPort n x).lanes = s.lanes := rfl
@[simp] theorem State.setPort_links (s : State) (n : Nat) (x : PortState) : (s.setPort n x).links = s.links := rfl
@[simp] theorem State.setPort_buf (s : State) (n : Nat) (x : PortState) : (s.setPort n x).buf = s.buf := rfl
@[simp] theorem State.setPort_tbl (s : State) (n : Nat) (x : PortState) : (s.setPort n x).tbl = s.tbl := rfl
@[simp] theorem State.setPort_gates (s : State) (n : Nat) (x : PortState) : (s.setPort n x).gates = s.gates := rfl
@[simp] theorem State.setPort_img (s : State) (n : Nat) (x : PortState) : (s.setPort n x).img = s.img := rfl
@[simp] theorem State.setPort_txn (s : State) (n : Nat) (x : PortState) : (s.setPort n x).txn = s.txn := rfl
@[simp] theorem State.setPort_mir (s : State) (n : Nat) (x : PortState) : (s.setPort n x).mir = s.mir := rfl
@[simp] theorem State.setPort_lan (s : State) (n : Nat) (x : PortState) : (s.setPort n x).lan = s.lan := rfl
@[simp] theorem State.setPort_lanSec (s : State) (n : Nat) (x : PortState) : (s.setPort n x).lanSec = s.lanSec := rfl
@[simp] theorem State.setPort_ref (s : State) (n : Nat) (x : PortState) : (s.setPort n x).ref = s.ref := rfl
@[simp] theorem State.setPort_tin (s : State) (n : Nat) (x : PortState) : (s.setPort n x).tin = s.tin := rfl
@[simp] theorem State.setPort_cal (s : State) (n : Nat) (x : PortState) : (s.setPort n x).cal = s.cal := rfl
@[simp] theorem State.setPort_pwr (s : State) (n : Nat) (x : PortState) : (s.setPort n x).pwr = s.pwr := rfl
@[simp] theorem State.setPort_rst (s : State) (n : Nat) (x : PortState) : (s.setPort n x).rst = s.rst := rfl
@[simp] theorem State.setPort_rawHeld (s : State) (n : Nat) (x : PortState) : (s.setPort n x).rawHeld = s.rawHeld := rfl
@[simp] theorem State.setPort_outbox (s : State) (n : Nat) (x : PortState) : (s.setPort n x).outbox = s.outbox := rfl

/-! setGate -/

@[simp] theorem State.setGate_pending (s : State) (n : Nat) (x : Gate) : (s.setGate n x).pending = s.pending := rfl
@[simp] theorem State.setGate_clk (s : State) (n : Nat) (x : Gate) : (s.setGate n x).clk = s.clk := rfl
@[simp] theorem State.setGate_regs (s : State) (n : Nat) (x : Gate) : (s.setGate n x).regs = s.regs := rfl
@[simp] theorem State.setGate_held (s : State) (n : Nat) (x : Gate) : (s.setGate n x).held = s.held := rfl
@[simp] theorem State.setGate_latched (s : State) (n : Nat) (x : Gate) : (s.setGate n x).latched = s.latched := rfl
@[simp] theorem State.setGate_slotA (s : State) (n : Nat) (x : Gate) : (s.setGate n x).slotA = s.slotA := rfl
@[simp] theorem State.setGate_gradeEx (s : State) (n : Nat) (x : Gate) : (s.setGate n x).gradeEx = s.gradeEx := rfl
@[simp] theorem State.setGate_time (s : State) (n : Nat) (x : Gate) : (s.setGate n x).time = s.time := rfl
@[simp] theorem State.setGate_hif (s : State) (n : Nat) (x : Gate) : (s.setGate n x).hif = s.hif := rfl
@[simp] theorem State.setGate_evt (s : State) (n : Nat) (x : Gate) : (s.setGate n x).evt = s.evt := rfl
@[simp] theorem State.setGate_lanes (s : State) (n : Nat) (x : Gate) : (s.setGate n x).lanes = s.lanes := rfl
@[simp] theorem State.setGate_links (s : State) (n : Nat) (x : Gate) : (s.setGate n x).links = s.links := rfl
@[simp] theorem State.setGate_ports (s : State) (n : Nat) (x : Gate) : (s.setGate n x).ports = s.ports := rfl
@[simp] theorem State.setGate_buf (s : State) (n : Nat) (x : Gate) : (s.setGate n x).buf = s.buf := rfl
@[simp] theorem State.setGate_tbl (s : State) (n : Nat) (x : Gate) : (s.setGate n x).tbl = s.tbl := rfl
@[simp] theorem State.setGate_img (s : State) (n : Nat) (x : Gate) : (s.setGate n x).img = s.img := rfl
@[simp] theorem State.setGate_txn (s : State) (n : Nat) (x : Gate) : (s.setGate n x).txn = s.txn := rfl
@[simp] theorem State.setGate_mir (s : State) (n : Nat) (x : Gate) : (s.setGate n x).mir = s.mir := rfl
@[simp] theorem State.setGate_lan (s : State) (n : Nat) (x : Gate) : (s.setGate n x).lan = s.lan := rfl
@[simp] theorem State.setGate_lanSec (s : State) (n : Nat) (x : Gate) : (s.setGate n x).lanSec = s.lanSec := rfl
@[simp] theorem State.setGate_ref (s : State) (n : Nat) (x : Gate) : (s.setGate n x).ref = s.ref := rfl
@[simp] theorem State.setGate_tin (s : State) (n : Nat) (x : Gate) : (s.setGate n x).tin = s.tin := rfl
@[simp] theorem State.setGate_cal (s : State) (n : Nat) (x : Gate) : (s.setGate n x).cal = s.cal := rfl
@[simp] theorem State.setGate_pwr (s : State) (n : Nat) (x : Gate) : (s.setGate n x).pwr = s.pwr := rfl
@[simp] theorem State.setGate_rst (s : State) (n : Nat) (x : Gate) : (s.setGate n x).rst = s.rst := rfl
@[simp] theorem State.setGate_rawHeld (s : State) (n : Nat) (x : Gate) : (s.setGate n x).rawHeld = s.rawHeld := rfl
@[simp] theorem State.setGate_outbox (s : State) (n : Nat) (x : Gate) : (s.setGate n x).outbox = s.outbox := rfl

/-! setTable -/

@[simp] theorem State.setTable_pending (s : State) (n : Nat) (x : Table) : (s.setTable n x).pending = s.pending := rfl
@[simp] theorem State.setTable_clk (s : State) (n : Nat) (x : Table) : (s.setTable n x).clk = s.clk := rfl
@[simp] theorem State.setTable_regs (s : State) (n : Nat) (x : Table) : (s.setTable n x).regs = s.regs := rfl
@[simp] theorem State.setTable_held (s : State) (n : Nat) (x : Table) : (s.setTable n x).held = s.held := rfl
@[simp] theorem State.setTable_latched (s : State) (n : Nat) (x : Table) : (s.setTable n x).latched = s.latched := rfl
@[simp] theorem State.setTable_slotA (s : State) (n : Nat) (x : Table) : (s.setTable n x).slotA = s.slotA := rfl
@[simp] theorem State.setTable_gradeEx (s : State) (n : Nat) (x : Table) : (s.setTable n x).gradeEx = s.gradeEx := rfl
@[simp] theorem State.setTable_time (s : State) (n : Nat) (x : Table) : (s.setTable n x).time = s.time := rfl
@[simp] theorem State.setTable_hif (s : State) (n : Nat) (x : Table) : (s.setTable n x).hif = s.hif := rfl
@[simp] theorem State.setTable_evt (s : State) (n : Nat) (x : Table) : (s.setTable n x).evt = s.evt := rfl
@[simp] theorem State.setTable_lanes (s : State) (n : Nat) (x : Table) : (s.setTable n x).lanes = s.lanes := rfl
@[simp] theorem State.setTable_links (s : State) (n : Nat) (x : Table) : (s.setTable n x).links = s.links := rfl
@[simp] theorem State.setTable_ports (s : State) (n : Nat) (x : Table) : (s.setTable n x).ports = s.ports := rfl
@[simp] theorem State.setTable_buf (s : State) (n : Nat) (x : Table) : (s.setTable n x).buf = s.buf := rfl
@[simp] theorem State.setTable_gates (s : State) (n : Nat) (x : Table) : (s.setTable n x).gates = s.gates := rfl
@[simp] theorem State.setTable_img (s : State) (n : Nat) (x : Table) : (s.setTable n x).img = s.img := rfl
@[simp] theorem State.setTable_txn (s : State) (n : Nat) (x : Table) : (s.setTable n x).txn = s.txn := rfl
@[simp] theorem State.setTable_mir (s : State) (n : Nat) (x : Table) : (s.setTable n x).mir = s.mir := rfl
@[simp] theorem State.setTable_lan (s : State) (n : Nat) (x : Table) : (s.setTable n x).lan = s.lan := rfl
@[simp] theorem State.setTable_lanSec (s : State) (n : Nat) (x : Table) : (s.setTable n x).lanSec = s.lanSec := rfl
@[simp] theorem State.setTable_ref (s : State) (n : Nat) (x : Table) : (s.setTable n x).ref = s.ref := rfl
@[simp] theorem State.setTable_tin (s : State) (n : Nat) (x : Table) : (s.setTable n x).tin = s.tin := rfl
@[simp] theorem State.setTable_cal (s : State) (n : Nat) (x : Table) : (s.setTable n x).cal = s.cal := rfl
@[simp] theorem State.setTable_pwr (s : State) (n : Nat) (x : Table) : (s.setTable n x).pwr = s.pwr := rfl
@[simp] theorem State.setTable_rst (s : State) (n : Nat) (x : Table) : (s.setTable n x).rst = s.rst := rfl
@[simp] theorem State.setTable_rawHeld (s : State) (n : Nat) (x : Table) : (s.setTable n x).rawHeld = s.rawHeld := rfl
@[simp] theorem State.setTable_outbox (s : State) (n : Nat) (x : Table) : (s.setTable n x).outbox = s.outbox := rfl

/-! jput -/

@[simp] theorem State.jput_pending (s : State) (tag : Nat) (e : Option JEntry) : (s.jput tag e).pending = s.pending := rfl
@[simp] theorem State.jput_clk (s : State) (tag : Nat) (e : Option JEntry) : (s.jput tag e).clk = s.clk := rfl
@[simp] theorem State.jput_regs (s : State) (tag : Nat) (e : Option JEntry) : (s.jput tag e).regs = s.regs := rfl
@[simp] theorem State.jput_held (s : State) (tag : Nat) (e : Option JEntry) : (s.jput tag e).held = s.held := rfl
@[simp] theorem State.jput_latched (s : State) (tag : Nat) (e : Option JEntry) : (s.jput tag e).latched = s.latched := rfl
@[simp] theorem State.jput_slotA (s : State) (tag : Nat) (e : Option JEntry) : (s.jput tag e).slotA = s.slotA := rfl
@[simp] theorem State.jput_gradeEx (s : State) (tag : Nat) (e : Option JEntry) : (s.jput tag e).gradeEx = s.gradeEx := rfl
@[simp] theorem State.jput_time (s : State) (tag : Nat) (e : Option JEntry) : (s.jput tag e).time = s.time := rfl
@[simp] theorem State.jput_evt (s : State) (tag : Nat) (e : Option JEntry) : (s.jput tag e).evt = s.evt := rfl
@[simp] theorem State.jput_lanes (s : State) (tag : Nat) (e : Option JEntry) : (s.jput tag e).lanes = s.lanes := rfl
@[simp] theorem State.jput_links (s : State) (tag : Nat) (e : Option JEntry) : (s.jput tag e).links = s.links := rfl
@[simp] theorem State.jput_ports (s : State) (tag : Nat) (e : Option JEntry) : (s.jput tag e).ports = s.ports := rfl
@[simp] theorem State.jput_buf (s : State) (tag : Nat) (e : Option JEntry) : (s.jput tag e).buf = s.buf := rfl
@[simp] theorem State.jput_tbl (s : State) (tag : Nat) (e : Option JEntry) : (s.jput tag e).tbl = s.tbl := rfl
@[simp] theorem State.jput_gates (s : State) (tag : Nat) (e : Option JEntry) : (s.jput tag e).gates = s.gates := rfl
@[simp] theorem State.jput_img (s : State) (tag : Nat) (e : Option JEntry) : (s.jput tag e).img = s.img := rfl
@[simp] theorem State.jput_txn (s : State) (tag : Nat) (e : Option JEntry) : (s.jput tag e).txn = s.txn := rfl
@[simp] theorem State.jput_mir (s : State) (tag : Nat) (e : Option JEntry) : (s.jput tag e).mir = s.mir := rfl
@[simp] theorem State.jput_lan (s : State) (tag : Nat) (e : Option JEntry) : (s.jput tag e).lan = s.lan := rfl
@[simp] theorem State.jput_lanSec (s : State) (tag : Nat) (e : Option JEntry) : (s.jput tag e).lanSec = s.lanSec := rfl
@[simp] theorem State.jput_ref (s : State) (tag : Nat) (e : Option JEntry) : (s.jput tag e).ref = s.ref := rfl
@[simp] theorem State.jput_tin (s : State) (tag : Nat) (e : Option JEntry) : (s.jput tag e).tin = s.tin := rfl
@[simp] theorem State.jput_cal (s : State) (tag : Nat) (e : Option JEntry) : (s.jput tag e).cal = s.cal := rfl
@[simp] theorem State.jput_pwr (s : State) (tag : Nat) (e : Option JEntry) : (s.jput tag e).pwr = s.pwr := rfl
@[simp] theorem State.jput_rst (s : State) (tag : Nat) (e : Option JEntry) : (s.jput tag e).rst = s.rst := rfl
@[simp] theorem State.jput_rawHeld (s : State) (tag : Nat) (e : Option JEntry) : (s.jput tag e).rawHeld = s.rawHeld := rfl
@[simp] theorem State.jput_outbox (s : State) (tag : Nat) (e : Option JEntry) : (s.jput tag e).outbox = s.outbox := rfl

/-! setCommit -/

@[simp] theorem State.setCommit_pending (s : State) (c : Option Commit) : (s.setCommit c).pending = s.pending := rfl
@[simp] theorem State.setCommit_clk (s : State) (c : Option Commit) : (s.setCommit c).clk = s.clk := rfl
@[simp] theorem State.setCommit_regs (s : State) (c : Option Commit) : (s.setCommit c).regs = s.regs := rfl
@[simp] theorem State.setCommit_held (s : State) (c : Option Commit) : (s.setCommit c).held = s.held := rfl
@[simp] theorem State.setCommit_latched (s : State) (c : Option Commit) : (s.setCommit c).latched = s.latched := rfl
@[simp] theorem State.setCommit_slotA (s : State) (c : Option Commit) : (s.setCommit c).slotA = s.slotA := rfl
@[simp] theorem State.setCommit_gradeEx (s : State) (c : Option Commit) : (s.setCommit c).gradeEx = s.gradeEx := rfl
@[simp] theorem State.setCommit_time (s : State) (c : Option Commit) : (s.setCommit c).time = s.time := rfl
@[simp] theorem State.setCommit_hif (s : State) (c : Option Commit) : (s.setCommit c).hif = s.hif := rfl
@[simp] theorem State.setCommit_evt (s : State) (c : Option Commit) : (s.setCommit c).evt = s.evt := rfl
@[simp] theorem State.setCommit_lanes (s : State) (c : Option Commit) : (s.setCommit c).lanes = s.lanes := rfl
@[simp] theorem State.setCommit_links (s : State) (c : Option Commit) : (s.setCommit c).links = s.links := rfl
@[simp] theorem State.setCommit_ports (s : State) (c : Option Commit) : (s.setCommit c).ports = s.ports := rfl
@[simp] theorem State.setCommit_buf (s : State) (c : Option Commit) : (s.setCommit c).buf = s.buf := rfl
@[simp] theorem State.setCommit_tbl (s : State) (c : Option Commit) : (s.setCommit c).tbl = s.tbl := rfl
@[simp] theorem State.setCommit_gates (s : State) (c : Option Commit) : (s.setCommit c).gates = s.gates := rfl
@[simp] theorem State.setCommit_img (s : State) (c : Option Commit) : (s.setCommit c).img = s.img := rfl
@[simp] theorem State.setCommit_mir (s : State) (c : Option Commit) : (s.setCommit c).mir = s.mir := rfl
@[simp] theorem State.setCommit_lan (s : State) (c : Option Commit) : (s.setCommit c).lan = s.lan := rfl
@[simp] theorem State.setCommit_lanSec (s : State) (c : Option Commit) : (s.setCommit c).lanSec = s.lanSec := rfl
@[simp] theorem State.setCommit_ref (s : State) (c : Option Commit) : (s.setCommit c).ref = s.ref := rfl
@[simp] theorem State.setCommit_tin (s : State) (c : Option Commit) : (s.setCommit c).tin = s.tin := rfl
@[simp] theorem State.setCommit_cal (s : State) (c : Option Commit) : (s.setCommit c).cal = s.cal := rfl
@[simp] theorem State.setCommit_pwr (s : State) (c : Option Commit) : (s.setCommit c).pwr = s.pwr := rfl
@[simp] theorem State.setCommit_rst (s : State) (c : Option Commit) : (s.setCommit c).rst = s.rst := rfl
@[simp] theorem State.setCommit_rawHeld (s : State) (c : Option Commit) : (s.setCommit c).rawHeld = s.rawHeld := rfl
@[simp] theorem State.setCommit_outbox (s : State) (c : Option Commit) : (s.setCommit c).outbox = s.outbox := rfl

/-! setHeld -/

@[simp] theorem State.setHeld_pending (s : State) (off : Nat) (w : Option Word) : (s.setHeld off w).pending = s.pending := rfl
@[simp] theorem State.setHeld_clk (s : State) (off : Nat) (w : Option Word) : (s.setHeld off w).clk = s.clk := rfl
@[simp] theorem State.setHeld_regs (s : State) (off : Nat) (w : Option Word) : (s.setHeld off w).regs = s.regs := rfl
@[simp] theorem State.setHeld_latched (s : State) (off : Nat) (w : Option Word) : (s.setHeld off w).latched = s.latched := rfl
@[simp] theorem State.setHeld_slotA (s : State) (off : Nat) (w : Option Word) : (s.setHeld off w).slotA = s.slotA := rfl
@[simp] theorem State.setHeld_gradeEx (s : State) (off : Nat) (w : Option Word) : (s.setHeld off w).gradeEx = s.gradeEx := rfl
@[simp] theorem State.setHeld_time (s : State) (off : Nat) (w : Option Word) : (s.setHeld off w).time = s.time := rfl
@[simp] theorem State.setHeld_hif (s : State) (off : Nat) (w : Option Word) : (s.setHeld off w).hif = s.hif := rfl
@[simp] theorem State.setHeld_evt (s : State) (off : Nat) (w : Option Word) : (s.setHeld off w).evt = s.evt := rfl
@[simp] theorem State.setHeld_lanes (s : State) (off : Nat) (w : Option Word) : (s.setHeld off w).lanes = s.lanes := rfl
@[simp] theorem State.setHeld_links (s : State) (off : Nat) (w : Option Word) : (s.setHeld off w).links = s.links := rfl
@[simp] theorem State.setHeld_ports (s : State) (off : Nat) (w : Option Word) : (s.setHeld off w).ports = s.ports := rfl
@[simp] theorem State.setHeld_buf (s : State) (off : Nat) (w : Option Word) : (s.setHeld off w).buf = s.buf := rfl
@[simp] theorem State.setHeld_tbl (s : State) (off : Nat) (w : Option Word) : (s.setHeld off w).tbl = s.tbl := rfl
@[simp] theorem State.setHeld_gates (s : State) (off : Nat) (w : Option Word) : (s.setHeld off w).gates = s.gates := rfl
@[simp] theorem State.setHeld_img (s : State) (off : Nat) (w : Option Word) : (s.setHeld off w).img = s.img := rfl
@[simp] theorem State.setHeld_txn (s : State) (off : Nat) (w : Option Word) : (s.setHeld off w).txn = s.txn := rfl
@[simp] theorem State.setHeld_mir (s : State) (off : Nat) (w : Option Word) : (s.setHeld off w).mir = s.mir := rfl
@[simp] theorem State.setHeld_lan (s : State) (off : Nat) (w : Option Word) : (s.setHeld off w).lan = s.lan := rfl
@[simp] theorem State.setHeld_lanSec (s : State) (off : Nat) (w : Option Word) : (s.setHeld off w).lanSec = s.lanSec := rfl
@[simp] theorem State.setHeld_ref (s : State) (off : Nat) (w : Option Word) : (s.setHeld off w).ref = s.ref := rfl
@[simp] theorem State.setHeld_tin (s : State) (off : Nat) (w : Option Word) : (s.setHeld off w).tin = s.tin := rfl
@[simp] theorem State.setHeld_cal (s : State) (off : Nat) (w : Option Word) : (s.setHeld off w).cal = s.cal := rfl
@[simp] theorem State.setHeld_pwr (s : State) (off : Nat) (w : Option Word) : (s.setHeld off w).pwr = s.pwr := rfl
@[simp] theorem State.setHeld_rst (s : State) (off : Nat) (w : Option Word) : (s.setHeld off w).rst = s.rst := rfl
@[simp] theorem State.setHeld_rawHeld (s : State) (off : Nat) (w : Option Word) : (s.setHeld off w).rawHeld = s.rawHeld := rfl
@[simp] theorem State.setHeld_outbox (s : State) (off : Nat) (w : Option Word) : (s.setHeld off w).outbox = s.outbox := rfl

/-! keeping -/

@[simp] theorem State.keeping_clk (s : State) (s' : State) : (s.keeping s').clk = s.clk := rfl
@[simp] theorem State.keeping_regs (s : State) (s' : State) : (s.keeping s').regs = s.regs := rfl
@[simp] theorem State.keeping_held (s : State) (s' : State) : (s.keeping s').held = s.held := rfl
@[simp] theorem State.keeping_latched (s : State) (s' : State) : (s.keeping s').latched = s.latched := rfl
@[simp] theorem State.keeping_time (s : State) (s' : State) : (s.keeping s').time = s.time := rfl
@[simp] theorem State.keeping_hif (s : State) (s' : State) : (s.keeping s').hif = s.hif := rfl
@[simp] theorem State.keeping_evt (s : State) (s' : State) : (s.keeping s').evt = s.evt := rfl
@[simp] theorem State.keeping_lanes (s : State) (s' : State) : (s.keeping s').lanes = s.lanes := rfl
@[simp] theorem State.keeping_links (s : State) (s' : State) : (s.keeping s').links = s.links := rfl
@[simp] theorem State.keeping_ports (s : State) (s' : State) : (s.keeping s').ports = s.ports := rfl
@[simp] theorem State.keeping_buf (s : State) (s' : State) : (s.keeping s').buf = s.buf := rfl
@[simp] theorem State.keeping_tbl (s : State) (s' : State) : (s.keeping s').tbl = s.tbl := rfl
@[simp] theorem State.keeping_gates (s : State) (s' : State) : (s.keeping s').gates = s.gates := rfl
@[simp] theorem State.keeping_img (s : State) (s' : State) : (s.keeping s').img = s.img := rfl
@[simp] theorem State.keeping_txn (s : State) (s' : State) : (s.keeping s').txn = s.txn := rfl
@[simp] theorem State.keeping_mir (s : State) (s' : State) : (s.keeping s').mir = s.mir := rfl
@[simp] theorem State.keeping_lan (s : State) (s' : State) : (s.keeping s').lan = s.lan := rfl
@[simp] theorem State.keeping_lanSec (s : State) (s' : State) : (s.keeping s').lanSec = s.lanSec := rfl
@[simp] theorem State.keeping_ref (s : State) (s' : State) : (s.keeping s').ref = s.ref := rfl
@[simp] theorem State.keeping_tin (s : State) (s' : State) : (s.keeping s').tin = s.tin := rfl
@[simp] theorem State.keeping_cal (s : State) (s' : State) : (s.keeping s').cal = s.cal := rfl
@[simp] theorem State.keeping_pwr (s : State) (s' : State) : (s.keeping s').pwr = s.pwr := rfl
@[simp] theorem State.keeping_rst (s : State) (s' : State) : (s.keeping s').rst = s.rst := rfl
@[simp] theorem State.keeping_outbox (s : State) (s' : State) : (s.keeping s').outbox = s.outbox := rfl

@[simp] theorem State.keeping_pending' (t s : State) : (t.keeping s).pending = s.pending := rfl
@[simp] theorem State.keeping_slotA' (t s : State) : (t.keeping s).slotA = s.slotA := rfl
@[simp] theorem State.keeping_gradeEx' (t s : State) : (t.keeping s).gradeEx = s.gradeEx := rfl
@[simp] theorem State.keeping_rawHeld' (t s : State) : (t.keeping s).rawHeld = t.rawNow := rfl

/-! A coalesced or generated record changes the event logic alone. -/

@[simp] theorem State.coalesce_pending (s : State) (r : EvtRec) : (s.coalesce r).pending = s.pending := by
  unfold State.coalesce; split
  · rfl
  · dsimp only; split <;> rfl
@[simp] theorem State.coalesce_clk (s : State) (r : EvtRec) : (s.coalesce r).clk = s.clk := by
  unfold State.coalesce; split
  · rfl
  · dsimp only; split <;> rfl
@[simp] theorem State.coalesce_regs (s : State) (r : EvtRec) : (s.coalesce r).regs = s.regs := by
  unfold State.coalesce; split
  · rfl
  · dsimp only; split <;> rfl
@[simp] theorem State.coalesce_held (s : State) (r : EvtRec) : (s.coalesce r).held = s.held := by
  unfold State.coalesce; split
  · rfl
  · dsimp only; split <;> rfl
@[simp] theorem State.coalesce_latched (s : State) (r : EvtRec) : (s.coalesce r).latched = s.latched := by
  unfold State.coalesce; split
  · rfl
  · dsimp only; split <;> rfl
@[simp] theorem State.coalesce_slotA (s : State) (r : EvtRec) : (s.coalesce r).slotA = s.slotA := by
  unfold State.coalesce; split
  · rfl
  · dsimp only; split <;> rfl
@[simp] theorem State.coalesce_gradeEx (s : State) (r : EvtRec) : (s.coalesce r).gradeEx = s.gradeEx := by
  unfold State.coalesce; split
  · rfl
  · dsimp only; split <;> rfl
@[simp] theorem State.coalesce_time (s : State) (r : EvtRec) : (s.coalesce r).time = s.time := by
  unfold State.coalesce; split
  · rfl
  · dsimp only; split <;> rfl
@[simp] theorem State.coalesce_hif (s : State) (r : EvtRec) : (s.coalesce r).hif = s.hif := by
  unfold State.coalesce; split
  · rfl
  · dsimp only; split <;> rfl
@[simp] theorem State.coalesce_lanes (s : State) (r : EvtRec) : (s.coalesce r).lanes = s.lanes := by
  unfold State.coalesce; split
  · rfl
  · dsimp only; split <;> rfl
@[simp] theorem State.coalesce_links (s : State) (r : EvtRec) : (s.coalesce r).links = s.links := by
  unfold State.coalesce; split
  · rfl
  · dsimp only; split <;> rfl
@[simp] theorem State.coalesce_ports (s : State) (r : EvtRec) : (s.coalesce r).ports = s.ports := by
  unfold State.coalesce; split
  · rfl
  · dsimp only; split <;> rfl
@[simp] theorem State.coalesce_buf (s : State) (r : EvtRec) : (s.coalesce r).buf = s.buf := by
  unfold State.coalesce; split
  · rfl
  · dsimp only; split <;> rfl
@[simp] theorem State.coalesce_tbl (s : State) (r : EvtRec) : (s.coalesce r).tbl = s.tbl := by
  unfold State.coalesce; split
  · rfl
  · dsimp only; split <;> rfl
@[simp] theorem State.coalesce_gates (s : State) (r : EvtRec) : (s.coalesce r).gates = s.gates := by
  unfold State.coalesce; split
  · rfl
  · dsimp only; split <;> rfl
@[simp] theorem State.coalesce_img (s : State) (r : EvtRec) : (s.coalesce r).img = s.img := by
  unfold State.coalesce; split
  · rfl
  · dsimp only; split <;> rfl
@[simp] theorem State.coalesce_txn (s : State) (r : EvtRec) : (s.coalesce r).txn = s.txn := by
  unfold State.coalesce; split
  · rfl
  · dsimp only; split <;> rfl
@[simp] theorem State.coalesce_mir (s : State) (r : EvtRec) : (s.coalesce r).mir = s.mir := by
  unfold State.coalesce; split
  · rfl
  · dsimp only; split <;> rfl
@[simp] theorem State.coalesce_lan (s : State) (r : EvtRec) : (s.coalesce r).lan = s.lan := by
  unfold State.coalesce; split
  · rfl
  · dsimp only; split <;> rfl
@[simp] theorem State.coalesce_lanSec (s : State) (r : EvtRec) : (s.coalesce r).lanSec = s.lanSec := by
  unfold State.coalesce; split
  · rfl
  · dsimp only; split <;> rfl
@[simp] theorem State.coalesce_ref (s : State) (r : EvtRec) : (s.coalesce r).ref = s.ref := by
  unfold State.coalesce; split
  · rfl
  · dsimp only; split <;> rfl
@[simp] theorem State.coalesce_tin (s : State) (r : EvtRec) : (s.coalesce r).tin = s.tin := by
  unfold State.coalesce; split
  · rfl
  · dsimp only; split <;> rfl
@[simp] theorem State.coalesce_cal (s : State) (r : EvtRec) : (s.coalesce r).cal = s.cal := by
  unfold State.coalesce; split
  · rfl
  · dsimp only; split <;> rfl
@[simp] theorem State.coalesce_pwr (s : State) (r : EvtRec) : (s.coalesce r).pwr = s.pwr := by
  unfold State.coalesce; split
  · rfl
  · dsimp only; split <;> rfl
@[simp] theorem State.coalesce_rst (s : State) (r : EvtRec) : (s.coalesce r).rst = s.rst := by
  unfold State.coalesce; split
  · rfl
  · dsimp only; split <;> rfl
@[simp] theorem State.coalesce_rawHeld (s : State) (r : EvtRec) : (s.coalesce r).rawHeld = s.rawHeld := by
  unfold State.coalesce; split
  · rfl
  · dsimp only; split <;> rfl
@[simp] theorem State.coalesce_outbox (s : State) (r : EvtRec) : (s.coalesce r).outbox = s.outbox := by
  unfold State.coalesce; split
  · rfl
  · dsimp only; split <;> rfl

/-! An event changes registers and the event logic alone. -/

@[simp] theorem State.raiseRec_pending (s : State) (r : EvtRec) : (s.raiseRec r).pending = s.pending := by
  unfold State.raiseRec; dsimp only; (repeat' split) <;> simp
@[simp] theorem State.raiseRec_clk (s : State) (r : EvtRec) : (s.raiseRec r).clk = s.clk := by
  unfold State.raiseRec; dsimp only; (repeat' split) <;> simp
@[simp] theorem State.raiseRec_held (s : State) (r : EvtRec) : (s.raiseRec r).held = s.held := by
  unfold State.raiseRec; dsimp only; (repeat' split) <;> simp
@[simp] theorem State.raiseRec_latched (s : State) (r : EvtRec) : (s.raiseRec r).latched = s.latched := by
  unfold State.raiseRec; dsimp only; (repeat' split) <;> simp
@[simp] theorem State.raiseRec_slotA (s : State) (r : EvtRec) : (s.raiseRec r).slotA = s.slotA := by
  unfold State.raiseRec; dsimp only; (repeat' split) <;> simp
@[simp] theorem State.raiseRec_gradeEx (s : State) (r : EvtRec) : (s.raiseRec r).gradeEx = s.gradeEx := by
  unfold State.raiseRec; dsimp only; (repeat' split) <;> simp
@[simp] theorem State.raiseRec_time (s : State) (r : EvtRec) : (s.raiseRec r).time = s.time := by
  unfold State.raiseRec; dsimp only; (repeat' split) <;> simp
@[simp] theorem State.raiseRec_hif (s : State) (r : EvtRec) : (s.raiseRec r).hif = s.hif := by
  unfold State.raiseRec; dsimp only; (repeat' split) <;> simp
@[simp] theorem State.raiseRec_lanes (s : State) (r : EvtRec) : (s.raiseRec r).lanes = s.lanes := by
  unfold State.raiseRec; dsimp only; (repeat' split) <;> simp
@[simp] theorem State.raiseRec_links (s : State) (r : EvtRec) : (s.raiseRec r).links = s.links := by
  unfold State.raiseRec; dsimp only; (repeat' split) <;> simp
@[simp] theorem State.raiseRec_ports (s : State) (r : EvtRec) : (s.raiseRec r).ports = s.ports := by
  unfold State.raiseRec; dsimp only; (repeat' split) <;> simp
@[simp] theorem State.raiseRec_buf (s : State) (r : EvtRec) : (s.raiseRec r).buf = s.buf := by
  unfold State.raiseRec; dsimp only; (repeat' split) <;> simp
@[simp] theorem State.raiseRec_tbl (s : State) (r : EvtRec) : (s.raiseRec r).tbl = s.tbl := by
  unfold State.raiseRec; dsimp only; (repeat' split) <;> simp
@[simp] theorem State.raiseRec_gates (s : State) (r : EvtRec) : (s.raiseRec r).gates = s.gates := by
  unfold State.raiseRec; dsimp only; (repeat' split) <;> simp
@[simp] theorem State.raiseRec_img (s : State) (r : EvtRec) : (s.raiseRec r).img = s.img := by
  unfold State.raiseRec; dsimp only; (repeat' split) <;> simp
@[simp] theorem State.raiseRec_txn (s : State) (r : EvtRec) : (s.raiseRec r).txn = s.txn := by
  unfold State.raiseRec; dsimp only; (repeat' split) <;> simp
@[simp] theorem State.raiseRec_mir (s : State) (r : EvtRec) : (s.raiseRec r).mir = s.mir := by
  unfold State.raiseRec; dsimp only; (repeat' split) <;> simp
@[simp] theorem State.raiseRec_lan (s : State) (r : EvtRec) : (s.raiseRec r).lan = s.lan := by
  unfold State.raiseRec; dsimp only; (repeat' split) <;> simp
@[simp] theorem State.raiseRec_lanSec (s : State) (r : EvtRec) : (s.raiseRec r).lanSec = s.lanSec := by
  unfold State.raiseRec; dsimp only; (repeat' split) <;> simp
@[simp] theorem State.raiseRec_ref (s : State) (r : EvtRec) : (s.raiseRec r).ref = s.ref := by
  unfold State.raiseRec; dsimp only; (repeat' split) <;> simp
@[simp] theorem State.raiseRec_tin (s : State) (r : EvtRec) : (s.raiseRec r).tin = s.tin := by
  unfold State.raiseRec; dsimp only; (repeat' split) <;> simp
@[simp] theorem State.raiseRec_cal (s : State) (r : EvtRec) : (s.raiseRec r).cal = s.cal := by
  unfold State.raiseRec; dsimp only; (repeat' split) <;> simp
@[simp] theorem State.raiseRec_pwr (s : State) (r : EvtRec) : (s.raiseRec r).pwr = s.pwr := by
  unfold State.raiseRec; dsimp only; (repeat' split) <;> simp
@[simp] theorem State.raiseRec_rst (s : State) (r : EvtRec) : (s.raiseRec r).rst = s.rst := by
  unfold State.raiseRec; dsimp only; (repeat' split) <;> simp
@[simp] theorem State.raiseRec_rawHeld (s : State) (r : EvtRec) : (s.raiseRec r).rawHeld = s.rawHeld := by
  unfold State.raiseRec; dsimp only; (repeat' split) <;> simp
@[simp] theorem State.raiseRec_outbox (s : State) (r : EvtRec) : (s.raiseRec r).outbox = s.outbox := by
  unfold State.raiseRec; dsimp only; (repeat' split) <;> simp
@[simp] theorem State.raise_pending (s : State) (src scope : Nat) (d : List (Nat × Nat × Nat)) : (s.raise src scope d).pending = s.pending := by
  simp [State.raise]
@[simp] theorem State.raise_clk (s : State) (src scope : Nat) (d : List (Nat × Nat × Nat)) : (s.raise src scope d).clk = s.clk := by
  simp [State.raise]
@[simp] theorem State.raise_held (s : State) (src scope : Nat) (d : List (Nat × Nat × Nat)) : (s.raise src scope d).held = s.held := by
  simp [State.raise]
@[simp] theorem State.raise_latched (s : State) (src scope : Nat) (d : List (Nat × Nat × Nat)) : (s.raise src scope d).latched = s.latched := by
  simp [State.raise]
@[simp] theorem State.raise_slotA (s : State) (src scope : Nat) (d : List (Nat × Nat × Nat)) : (s.raise src scope d).slotA = s.slotA := by
  simp [State.raise]
@[simp] theorem State.raise_gradeEx (s : State) (src scope : Nat) (d : List (Nat × Nat × Nat)) : (s.raise src scope d).gradeEx = s.gradeEx := by
  simp [State.raise]
@[simp] theorem State.raise_time (s : State) (src scope : Nat) (d : List (Nat × Nat × Nat)) : (s.raise src scope d).time = s.time := by
  simp [State.raise]
@[simp] theorem State.raise_hif (s : State) (src scope : Nat) (d : List (Nat × Nat × Nat)) : (s.raise src scope d).hif = s.hif := by
  simp [State.raise]
@[simp] theorem State.raise_lanes (s : State) (src scope : Nat) (d : List (Nat × Nat × Nat)) : (s.raise src scope d).lanes = s.lanes := by
  simp [State.raise]
@[simp] theorem State.raise_links (s : State) (src scope : Nat) (d : List (Nat × Nat × Nat)) : (s.raise src scope d).links = s.links := by
  simp [State.raise]
@[simp] theorem State.raise_ports (s : State) (src scope : Nat) (d : List (Nat × Nat × Nat)) : (s.raise src scope d).ports = s.ports := by
  simp [State.raise]
@[simp] theorem State.raise_buf (s : State) (src scope : Nat) (d : List (Nat × Nat × Nat)) : (s.raise src scope d).buf = s.buf := by
  simp [State.raise]
@[simp] theorem State.raise_tbl (s : State) (src scope : Nat) (d : List (Nat × Nat × Nat)) : (s.raise src scope d).tbl = s.tbl := by
  simp [State.raise]
@[simp] theorem State.raise_gates (s : State) (src scope : Nat) (d : List (Nat × Nat × Nat)) : (s.raise src scope d).gates = s.gates := by
  simp [State.raise]
@[simp] theorem State.raise_img (s : State) (src scope : Nat) (d : List (Nat × Nat × Nat)) : (s.raise src scope d).img = s.img := by
  simp [State.raise]
@[simp] theorem State.raise_txn (s : State) (src scope : Nat) (d : List (Nat × Nat × Nat)) : (s.raise src scope d).txn = s.txn := by
  simp [State.raise]
@[simp] theorem State.raise_mir (s : State) (src scope : Nat) (d : List (Nat × Nat × Nat)) : (s.raise src scope d).mir = s.mir := by
  simp [State.raise]
@[simp] theorem State.raise_lan (s : State) (src scope : Nat) (d : List (Nat × Nat × Nat)) : (s.raise src scope d).lan = s.lan := by
  simp [State.raise]
@[simp] theorem State.raise_lanSec (s : State) (src scope : Nat) (d : List (Nat × Nat × Nat)) : (s.raise src scope d).lanSec = s.lanSec := by
  simp [State.raise]
@[simp] theorem State.raise_ref (s : State) (src scope : Nat) (d : List (Nat × Nat × Nat)) : (s.raise src scope d).ref = s.ref := by
  simp [State.raise]
@[simp] theorem State.raise_tin (s : State) (src scope : Nat) (d : List (Nat × Nat × Nat)) : (s.raise src scope d).tin = s.tin := by
  simp [State.raise]
@[simp] theorem State.raise_cal (s : State) (src scope : Nat) (d : List (Nat × Nat × Nat)) : (s.raise src scope d).cal = s.cal := by
  simp [State.raise]
@[simp] theorem State.raise_pwr (s : State) (src scope : Nat) (d : List (Nat × Nat × Nat)) : (s.raise src scope d).pwr = s.pwr := by
  simp [State.raise]
@[simp] theorem State.raise_rst (s : State) (src scope : Nat) (d : List (Nat × Nat × Nat)) : (s.raise src scope d).rst = s.rst := by
  simp [State.raise]
@[simp] theorem State.raise_rawHeld (s : State) (src scope : Nat) (d : List (Nat × Nat × Nat)) : (s.raise src scope d).rawHeld = s.rawHeld := by
  simp [State.raise]
@[simp] theorem State.raise_outbox (s : State) (src scope : Nat) (d : List (Nat × Nat × Nat)) : (s.raise src scope d).outbox = s.outbox := by
  simp [State.raise]
@[simp] theorem State.raiseEnd_pending (s : State) (src scope : Nat) (d : List (Nat × Nat × Nat)) : (s.raiseEnd src scope d).pending = s.pending := by
  simp [State.raiseEnd]
@[simp] theorem State.raiseEnd_clk (s : State) (src scope : Nat) (d : List (Nat × Nat × Nat)) : (s.raiseEnd src scope d).clk = s.clk := by
  simp [State.raiseEnd]
@[simp] theorem State.raiseEnd_held (s : State) (src scope : Nat) (d : List (Nat × Nat × Nat)) : (s.raiseEnd src scope d).held = s.held := by
  simp [State.raiseEnd]
@[simp] theorem State.raiseEnd_latched (s : State) (src scope : Nat) (d : List (Nat × Nat × Nat)) : (s.raiseEnd src scope d).latched = s.latched := by
  simp [State.raiseEnd]
@[simp] theorem State.raiseEnd_slotA (s : State) (src scope : Nat) (d : List (Nat × Nat × Nat)) : (s.raiseEnd src scope d).slotA = s.slotA := by
  simp [State.raiseEnd]
@[simp] theorem State.raiseEnd_gradeEx (s : State) (src scope : Nat) (d : List (Nat × Nat × Nat)) : (s.raiseEnd src scope d).gradeEx = s.gradeEx := by
  simp [State.raiseEnd]
@[simp] theorem State.raiseEnd_time (s : State) (src scope : Nat) (d : List (Nat × Nat × Nat)) : (s.raiseEnd src scope d).time = s.time := by
  simp [State.raiseEnd]
@[simp] theorem State.raiseEnd_hif (s : State) (src scope : Nat) (d : List (Nat × Nat × Nat)) : (s.raiseEnd src scope d).hif = s.hif := by
  simp [State.raiseEnd]
@[simp] theorem State.raiseEnd_lanes (s : State) (src scope : Nat) (d : List (Nat × Nat × Nat)) : (s.raiseEnd src scope d).lanes = s.lanes := by
  simp [State.raiseEnd]
@[simp] theorem State.raiseEnd_links (s : State) (src scope : Nat) (d : List (Nat × Nat × Nat)) : (s.raiseEnd src scope d).links = s.links := by
  simp [State.raiseEnd]
@[simp] theorem State.raiseEnd_ports (s : State) (src scope : Nat) (d : List (Nat × Nat × Nat)) : (s.raiseEnd src scope d).ports = s.ports := by
  simp [State.raiseEnd]
@[simp] theorem State.raiseEnd_buf (s : State) (src scope : Nat) (d : List (Nat × Nat × Nat)) : (s.raiseEnd src scope d).buf = s.buf := by
  simp [State.raiseEnd]
@[simp] theorem State.raiseEnd_tbl (s : State) (src scope : Nat) (d : List (Nat × Nat × Nat)) : (s.raiseEnd src scope d).tbl = s.tbl := by
  simp [State.raiseEnd]
@[simp] theorem State.raiseEnd_gates (s : State) (src scope : Nat) (d : List (Nat × Nat × Nat)) : (s.raiseEnd src scope d).gates = s.gates := by
  simp [State.raiseEnd]
@[simp] theorem State.raiseEnd_img (s : State) (src scope : Nat) (d : List (Nat × Nat × Nat)) : (s.raiseEnd src scope d).img = s.img := by
  simp [State.raiseEnd]
@[simp] theorem State.raiseEnd_txn (s : State) (src scope : Nat) (d : List (Nat × Nat × Nat)) : (s.raiseEnd src scope d).txn = s.txn := by
  simp [State.raiseEnd]
@[simp] theorem State.raiseEnd_mir (s : State) (src scope : Nat) (d : List (Nat × Nat × Nat)) : (s.raiseEnd src scope d).mir = s.mir := by
  simp [State.raiseEnd]
@[simp] theorem State.raiseEnd_lan (s : State) (src scope : Nat) (d : List (Nat × Nat × Nat)) : (s.raiseEnd src scope d).lan = s.lan := by
  simp [State.raiseEnd]
@[simp] theorem State.raiseEnd_lanSec (s : State) (src scope : Nat) (d : List (Nat × Nat × Nat)) : (s.raiseEnd src scope d).lanSec = s.lanSec := by
  simp [State.raiseEnd]
@[simp] theorem State.raiseEnd_ref (s : State) (src scope : Nat) (d : List (Nat × Nat × Nat)) : (s.raiseEnd src scope d).ref = s.ref := by
  simp [State.raiseEnd]
@[simp] theorem State.raiseEnd_tin (s : State) (src scope : Nat) (d : List (Nat × Nat × Nat)) : (s.raiseEnd src scope d).tin = s.tin := by
  simp [State.raiseEnd]
@[simp] theorem State.raiseEnd_cal (s : State) (src scope : Nat) (d : List (Nat × Nat × Nat)) : (s.raiseEnd src scope d).cal = s.cal := by
  simp [State.raiseEnd]
@[simp] theorem State.raiseEnd_pwr (s : State) (src scope : Nat) (d : List (Nat × Nat × Nat)) : (s.raiseEnd src scope d).pwr = s.pwr := by
  simp [State.raiseEnd]
@[simp] theorem State.raiseEnd_rst (s : State) (src scope : Nat) (d : List (Nat × Nat × Nat)) : (s.raiseEnd src scope d).rst = s.rst := by
  simp [State.raiseEnd]
@[simp] theorem State.raiseEnd_rawHeld (s : State) (src scope : Nat) (d : List (Nat × Nat × Nat)) : (s.raiseEnd src scope d).rawHeld = s.rawHeld := by
  simp [State.raiseEnd]
@[simp] theorem State.raiseEnd_outbox (s : State) (src scope : Nat) (d : List (Nat × Nat × Nat)) : (s.raiseEnd src scope d).outbox = s.outbox := by
  simp [State.raiseEnd]

end Sys2Proof.Machine
end

