-- ==== Sys2Proof/Laws/Regs.lean ====
section
/-! SUPPORT. The laws of registers and fields: what a register or a field reads as after a write of a register or a field,
and that every write keeps the register store in canonical form. -/

namespace Sys2Proof.Machine

/-- Nothing divided is nothing, whatever the rounding. -/
theorem ratio_zero (den : Nat) : ratio 0 den = 0 := by
  unfold ratio
  split
  · rfl
  · rw [if_pos (Int.zero_emod _)]
    exact Int.zero_ediv _

theorem State.reg_setReg (s : State) (off : Nat) (v : Word) (o : Nat) :
    (s.setReg off v).reg o = if o = off then v else s.reg o := Store.get_set _ _ _ _ _

@[simp] theorem State.reg_setReg_same (s : State) (off : Nat) (v : Word) : (s.setReg off v).reg off = v := by
  simp [State.reg_setReg]

theorem State.reg_setReg_ne (s : State) (off : Nat) (v : Word) (o : Nat) (h : o ≠ off) :
    (s.setReg off v).reg o = s.reg o := by simp [State.reg_setReg, h]

theorem State.reg_setF_ne (s : State) (f : FieldRef) (v : Nat) (o : Nat) (h : o ≠ f.off) :
    (s.setF f v).reg o = s.reg o := State.reg_setReg_ne _ _ _ _ h

theorem State.reg_bumpBy (s : State) (off n o : Nat) :
    (s.bumpBy off n).reg o = if o = off then s.reg off + BitVec.ofNat 32 n else s.reg o := State.reg_setReg _ _ _ _

theorem State.reg_bump (s : State) (off o : Nat) :
    (s.bump off).reg o = if o = off then s.reg off + 1 else s.reg o := State.reg_setReg _ _ _ _

theorem State.reg_congr {s t : State} (h : s.regs = t.regs) (o : Nat) : s.reg o = t.reg o := by
  unfold State.reg; rw [h]

theorem State.f_congr {s t : State} (h : s.regs = t.regs) (f : FieldRef) : s.f f = t.f f := by
  unfold State.f; rw [State.reg_congr h]

/-- The bits of a field's value are the register's bits from its lowest on. -/
theorem FieldRef.testBit_of (f : FieldRef) (w : Word) (i : Nat) :
    (f.of w).testBit i = (decide (i < f.width) && w.toNat.testBit (f.lo + i)) := by
  simp [FieldRef.of, Nat.testBit_mod_two_pow, Nat.testBit_shiftRight]

theorem FieldRef.of_lt (f : FieldRef) (w : Word) : f.of w < 2 ^ f.width :=
  Nat.mod_lt _ (Nat.two_pow_pos _)

theorem FieldRef.getLsbD_mask (f : FieldRef) (i : Nat) (hi : i < 32) :
    f.mask.getLsbD i = (decide (f.lo ≤ i) && decide (i < f.lo + f.width)) := by
  simp only [FieldRef.mask, BitVec.getLsbD_ofNat, hi, decide_true, Bool.true_and, Nat.testBit_shiftLeft, Nat.testBit_two_pow_sub_one]
  by_cases h : f.lo ≤ i
  · simp only [h, decide_true, Bool.true_and]
    congr 1
    simp only [eq_iff_iff]
    omega
  · simp [h]

theorem FieldRef.getLsbD_into (f : FieldRef) (w : Word) (v i : Nat) (hi : i < 32) :
    (f.into w v).getLsbD i = if f.lo ≤ i ∧ i < f.lo + f.width then v.testBit (i - f.lo) else w.getLsbD i := by
  simp only [FieldRef.into, BitVec.getLsbD_or, BitVec.getLsbD_and, BitVec.getLsbD_not, hi, decide_true, Bool.true_and,
    FieldRef.getLsbD_mask f i hi, BitVec.getLsbD_ofNat, Nat.testBit_shiftLeft, Nat.testBit_mod_two_pow]
  by_cases h1 : f.lo ≤ i <;> by_cases h2 : i < f.lo + f.width
  · have : i - f.lo < f.width := by omega
    simp [h1, h2, this]
  · have : ¬ i - f.lo < f.width := by omega
    simp [h1, h2, this]
  · simp [h1]
  · simp [h1]

/-- A field reads as what was put into it, cut to its width. -/
theorem FieldRef.of_into_same (f : FieldRef) (w : Word) (v : Nat) (h : f.lo + f.width ≤ 32) :
    f.of (f.into w v) = v % 2 ^ f.width := by
  apply Nat.eq_of_testBit_eq
  intro i
  rw [FieldRef.testBit_of, Nat.testBit_mod_two_pow]
  by_cases hi : i < f.width
  · have h1 : f.lo + i < 32 := by omega
    have h2 := FieldRef.getLsbD_into f w v (f.lo + i) h1
    rw [BitVec.getLsbD] at h2
    simp only [hi, decide_true, Bool.true_and, h2]
    have : f.lo ≤ f.lo + i ∧ f.lo + i < f.lo + f.width := by omega
    rw [if_pos this]
    congr 1
    omega
  · simp [hi]

/-- A field whose bits lie apart reads as before. -/
theorem FieldRef.of_into_apart (f g : FieldRef) (w : Word) (v : Nat) (h : f.lo + f.width ≤ g.lo ∨ g.lo + g.width ≤ f.lo)
    (hg : g.lo + g.width ≤ 32) : g.of (f.into w v) = g.of w := by
  apply Nat.eq_of_testBit_eq
  intro i
  rw [FieldRef.testBit_of, FieldRef.testBit_of]
  by_cases hi : i < g.width
  · have h1 : g.lo + i < 32 := by omega
    have h2 := FieldRef.getLsbD_into f w v (g.lo + i) h1
    have h3 : ¬(f.lo ≤ g.lo + i ∧ g.lo + i < f.lo + f.width) := by omega
    rw [if_neg h3, BitVec.getLsbD, BitVec.getLsbD] at h2
    rw [h2]
  · simp [hi]

theorem State.f_setF_same (s : State) (f : FieldRef) (v : Nat) (h : f.lo + f.width ≤ 32) :
    (s.setF f v).f f = v % 2 ^ f.width := by
  simp [State.f, State.setF, FieldRef.of_into_same f _ v h]

theorem State.f_setF_off (s : State) (f g : FieldRef) (v : Nat) (h : g.off ≠ f.off) : (s.setF f v).f g = s.f g := by
  simp [State.f, State.reg_setF_ne s f v g.off h]

theorem State.f_setF_apart (s : State) (f g : FieldRef) (v : Nat) (ho : g.off = f.off)
    (h : f.lo + f.width ≤ g.lo ∨ g.lo + g.width ≤ f.lo) (hg : g.lo + g.width ≤ 32) : (s.setF f v).f g = s.f g := by
  simp [State.f, State.setF, ho, FieldRef.of_into_apart f g _ v h hg]

theorem State.flag_setFlag_same (s : State) (f : FieldRef) (b : Bool) (h : f.lo + f.width ≤ 32) (hw : 0 < f.width) :
    (s.setFlag f b).flag f = b := by
  have h2 : 1 % 2 ^ f.width = 1 := Nat.mod_eq_of_lt (by
    calc 1 < 2 ^ 1 := by decide
      _ ≤ 2 ^ f.width := Nat.pow_le_pow_right (by decide) hw)
  unfold State.flag State.setFlag
  rw [State.f_setF_same s f _ h]
  cases b
  · simp
  · simp [h2]

theorem State.f_setReg_off (s : State) (off : Nat) (v : Word) (g : FieldRef) (h : g.off ≠ off) :
    (s.setReg off v).f g = s.f g := by
  simp [State.f, State.reg_setReg_ne s off v g.off h]

/-! ### The canonical form of the register store -/

/-- The register store is in canonical form. -/
def State.RegsWf (s : State) : Prop := Store.wf regReset s.regs = true

theorem State.RegsWf.congr {s t : State} (h : s.RegsWf) (e : t.regs = s.regs) : t.RegsWf := by
  unfold State.RegsWf at h ⊢; rw [e]; exact h

theorem State.RegsWf.setReg {s : State} (h : s.RegsWf) (off : Nat) (v : Word) : (s.setReg off v).RegsWf :=
  Store.wf_set _ _ _ _ h

theorem State.RegsWf.setF {s : State} (h : s.RegsWf) (f : FieldRef) (v : Nat) : (s.setF f v).RegsWf := h.setReg _ _

end Sys2Proof.Machine
end

