-- ==== Sys2Proof/Laws/Journal.lean ====
section
/-! SUPPORT. What the operations of the command journal leave unchanged, and what they leave in the journal (R43, R45, R46). -/

namespace Sys2Proof.Machine

/-! sendMir -/

@[simp] theorem State.sendMir_pending (s : State) (k : Nat) (b : List Nat) : (s.sendMir k b).pending = s.pending := by
  unfold State.sendMir; split <;> simp
@[simp] theorem State.sendMir_clk (s : State) (k : Nat) (b : List Nat) : (s.sendMir k b).clk = s.clk := by
  unfold State.sendMir; split <;> simp
@[simp] theorem State.sendMir_held (s : State) (k : Nat) (b : List Nat) : (s.sendMir k b).held = s.held := by
  unfold State.sendMir; split <;> simp
@[simp] theorem State.sendMir_latched (s : State) (k : Nat) (b : List Nat) : (s.sendMir k b).latched = s.latched := by
  unfold State.sendMir; split <;> simp
@[simp] theorem State.sendMir_slotA (s : State) (k : Nat) (b : List Nat) : (s.sendMir k b).slotA = s.slotA := by
  unfold State.sendMir; split <;> simp
@[simp] theorem State.sendMir_gradeEx (s : State) (k : Nat) (b : List Nat) : (s.sendMir k b).gradeEx = s.gradeEx := by
  unfold State.sendMir; split <;> simp
@[simp] theorem State.sendMir_time (s : State) (k : Nat) (b : List Nat) : (s.sendMir k b).time = s.time := by
  unfold State.sendMir; split <;> simp
@[simp] theorem State.sendMir_hif (s : State) (k : Nat) (b : List Nat) : (s.sendMir k b).hif = s.hif := by
  unfold State.sendMir; split <;> simp
@[simp] theorem State.sendMir_evt (s : State) (k : Nat) (b : List Nat) : (s.sendMir k b).evt = s.evt := by
  unfold State.sendMir; split <;> simp
@[simp] theorem State.sendMir_lanes (s : State) (k : Nat) (b : List Nat) : (s.sendMir k b).lanes = s.lanes := by
  unfold State.sendMir; split <;> simp
@[simp] theorem State.sendMir_links (s : State) (k : Nat) (b : List Nat) : (s.sendMir k b).links = s.links := by
  unfold State.sendMir; split <;> simp
@[simp] theorem State.sendMir_ports (s : State) (k : Nat) (b : List Nat) : (s.sendMir k b).ports = s.ports := by
  unfold State.sendMir; split <;> simp
@[simp] theorem State.sendMir_buf (s : State) (k : Nat) (b : List Nat) : (s.sendMir k b).buf = s.buf := by
  unfold State.sendMir; split <;> simp
@[simp] theorem State.sendMir_tbl (s : State) (k : Nat) (b : List Nat) : (s.sendMir k b).tbl = s.tbl := by
  unfold State.sendMir; split <;> simp
@[simp] theorem State.sendMir_gates (s : State) (k : Nat) (b : List Nat) : (s.sendMir k b).gates = s.gates := by
  unfold State.sendMir; split <;> simp
@[simp] theorem State.sendMir_img (s : State) (k : Nat) (b : List Nat) : (s.sendMir k b).img = s.img := by
  unfold State.sendMir; split <;> simp
@[simp] theorem State.sendMir_txn (s : State) (k : Nat) (b : List Nat) : (s.sendMir k b).txn = s.txn := by
  unfold State.sendMir; split <;> simp
@[simp] theorem State.sendMir_lan (s : State) (k : Nat) (b : List Nat) : (s.sendMir k b).lan = s.lan := by
  unfold State.sendMir; split <;> simp
@[simp] theorem State.sendMir_lanSec (s : State) (k : Nat) (b : List Nat) : (s.sendMir k b).lanSec = s.lanSec := by
  unfold State.sendMir; split <;> simp
@[simp] theorem State.sendMir_ref (s : State) (k : Nat) (b : List Nat) : (s.sendMir k b).ref = s.ref := by
  unfold State.sendMir; split <;> simp
@[simp] theorem State.sendMir_tin (s : State) (k : Nat) (b : List Nat) : (s.sendMir k b).tin = s.tin := by
  unfold State.sendMir; split <;> simp
@[simp] theorem State.sendMir_cal (s : State) (k : Nat) (b : List Nat) : (s.sendMir k b).cal = s.cal := by
  unfold State.sendMir; split <;> simp
@[simp] theorem State.sendMir_pwr (s : State) (k : Nat) (b : List Nat) : (s.sendMir k b).pwr = s.pwr := by
  unfold State.sendMir; split <;> simp
@[simp] theorem State.sendMir_rst (s : State) (k : Nat) (b : List Nat) : (s.sendMir k b).rst = s.rst := by
  unfold State.sendMir; split <;> simp
@[simp] theorem State.sendMir_rawHeld (s : State) (k : Nat) (b : List Nat) : (s.sendMir k b).rawHeld = s.rawHeld := by
  unfold State.sendMir; split <;> simp

/-! markPartner -/

@[simp] theorem State.markPartner_pending (s : State) (a b : Nat) (e : JEntry) : (s.markPartner a b e).pending = s.pending := by
  unfold State.markPartner; split <;> simp
@[simp] theorem State.markPartner_clk (s : State) (a b : Nat) (e : JEntry) : (s.markPartner a b e).clk = s.clk := by
  unfold State.markPartner; split <;> simp
@[simp] theorem State.markPartner_held (s : State) (a b : Nat) (e : JEntry) : (s.markPartner a b e).held = s.held := by
  unfold State.markPartner; split <;> simp
@[simp] theorem State.markPartner_latched (s : State) (a b : Nat) (e : JEntry) : (s.markPartner a b e).latched = s.latched := by
  unfold State.markPartner; split <;> simp
@[simp] theorem State.markPartner_slotA (s : State) (a b : Nat) (e : JEntry) : (s.markPartner a b e).slotA = s.slotA := by
  unfold State.markPartner; split <;> simp
@[simp] theorem State.markPartner_gradeEx (s : State) (a b : Nat) (e : JEntry) : (s.markPartner a b e).gradeEx = s.gradeEx := by
  unfold State.markPartner; split <;> simp
@[simp] theorem State.markPartner_time (s : State) (a b : Nat) (e : JEntry) : (s.markPartner a b e).time = s.time := by
  unfold State.markPartner; split <;> simp
@[simp] theorem State.markPartner_hif (s : State) (a b : Nat) (e : JEntry) : (s.markPartner a b e).hif = s.hif := by
  unfold State.markPartner; split <;> simp
@[simp] theorem State.markPartner_evt (s : State) (a b : Nat) (e : JEntry) : (s.markPartner a b e).evt = s.evt := by
  unfold State.markPartner; split <;> simp
@[simp] theorem State.markPartner_lanes (s : State) (a b : Nat) (e : JEntry) : (s.markPartner a b e).lanes = s.lanes := by
  unfold State.markPartner; split <;> simp
@[simp] theorem State.markPartner_links (s : State) (a b : Nat) (e : JEntry) : (s.markPartner a b e).links = s.links := by
  unfold State.markPartner; split <;> simp
@[simp] theorem State.markPartner_ports (s : State) (a b : Nat) (e : JEntry) : (s.markPartner a b e).ports = s.ports := by
  unfold State.markPartner; split <;> simp
@[simp] theorem State.markPartner_buf (s : State) (a b : Nat) (e : JEntry) : (s.markPartner a b e).buf = s.buf := by
  unfold State.markPartner; split <;> simp
@[simp] theorem State.markPartner_tbl (s : State) (a b : Nat) (e : JEntry) : (s.markPartner a b e).tbl = s.tbl := by
  unfold State.markPartner; split <;> simp
@[simp] theorem State.markPartner_gates (s : State) (a b : Nat) (e : JEntry) : (s.markPartner a b e).gates = s.gates := by
  unfold State.markPartner; split <;> simp
@[simp] theorem State.markPartner_img (s : State) (a b : Nat) (e : JEntry) : (s.markPartner a b e).img = s.img := by
  unfold State.markPartner; split <;> simp
@[simp] theorem State.markPartner_txn (s : State) (a b : Nat) (e : JEntry) : (s.markPartner a b e).txn = s.txn := by
  unfold State.markPartner; split <;> simp
@[simp] theorem State.markPartner_lan (s : State) (a b : Nat) (e : JEntry) : (s.markPartner a b e).lan = s.lan := by
  unfold State.markPartner; split <;> simp
@[simp] theorem State.markPartner_lanSec (s : State) (a b : Nat) (e : JEntry) : (s.markPartner a b e).lanSec = s.lanSec := by
  unfold State.markPartner; split <;> simp
@[simp] theorem State.markPartner_ref (s : State) (a b : Nat) (e : JEntry) : (s.markPartner a b e).ref = s.ref := by
  unfold State.markPartner; split <;> simp
@[simp] theorem State.markPartner_tin (s : State) (a b : Nat) (e : JEntry) : (s.markPartner a b e).tin = s.tin := by
  unfold State.markPartner; split <;> simp
@[simp] theorem State.markPartner_cal (s : State) (a b : Nat) (e : JEntry) : (s.markPartner a b e).cal = s.cal := by
  unfold State.markPartner; split <;> simp
@[simp] theorem State.markPartner_pwr (s : State) (a b : Nat) (e : JEntry) : (s.markPartner a b e).pwr = s.pwr := by
  unfold State.markPartner; split <;> simp
@[simp] theorem State.markPartner_rst (s : State) (a b : Nat) (e : JEntry) : (s.markPartner a b e).rst = s.rst := by
  unfold State.markPartner; split <;> simp
@[simp] theorem State.markPartner_rawHeld (s : State) (a b : Nat) (e : JEntry) : (s.markPartner a b e).rawHeld = s.rawHeld := by
  unfold State.markPartner; split <;> simp

/-! jmap -/

@[simp] theorem State.jmap_pending (s : State) (tag : Nat) (g : JEntry → JEntry) : (s.jmap tag g).pending = s.pending := by
  unfold State.jmap; split <;> simp
@[simp] theorem State.jmap_clk (s : State) (tag : Nat) (g : JEntry → JEntry) : (s.jmap tag g).clk = s.clk := by
  unfold State.jmap; split <;> simp
@[simp] theorem State.jmap_regs (s : State) (tag : Nat) (g : JEntry → JEntry) : (s.jmap tag g).regs = s.regs := by
  unfold State.jmap; split <;> simp
@[simp] theorem State.jmap_held (s : State) (tag : Nat) (g : JEntry → JEntry) : (s.jmap tag g).held = s.held := by
  unfold State.jmap; split <;> simp
@[simp] theorem State.jmap_latched (s : State) (tag : Nat) (g : JEntry → JEntry) : (s.jmap tag g).latched = s.latched := by
  unfold State.jmap; split <;> simp
@[simp] theorem State.jmap_slotA (s : State) (tag : Nat) (g : JEntry → JEntry) : (s.jmap tag g).slotA = s.slotA := by
  unfold State.jmap; split <;> simp
@[simp] theorem State.jmap_gradeEx (s : State) (tag : Nat) (g : JEntry → JEntry) : (s.jmap tag g).gradeEx = s.gradeEx := by
  unfold State.jmap; split <;> simp
@[simp] theorem State.jmap_time (s : State) (tag : Nat) (g : JEntry → JEntry) : (s.jmap tag g).time = s.time := by
  unfold State.jmap; split <;> simp
@[simp] theorem State.jmap_evt (s : State) (tag : Nat) (g : JEntry → JEntry) : (s.jmap tag g).evt = s.evt := by
  unfold State.jmap; split <;> simp
@[simp] theorem State.jmap_lanes (s : State) (tag : Nat) (g : JEntry → JEntry) : (s.jmap tag g).lanes = s.lanes := by
  unfold State.jmap; split <;> simp
@[simp] theorem State.jmap_links (s : State) (tag : Nat) (g : JEntry → JEntry) : (s.jmap tag g).links = s.links := by
  unfold State.jmap; split <;> simp
@[simp] theorem State.jmap_ports (s : State) (tag : Nat) (g : JEntry → JEntry) : (s.jmap tag g).ports = s.ports := by
  unfold State.jmap; split <;> simp
@[simp] theorem State.jmap_buf (s : State) (tag : Nat) (g : JEntry → JEntry) : (s.jmap tag g).buf = s.buf := by
  unfold State.jmap; split <;> simp
@[simp] theorem State.jmap_tbl (s : State) (tag : Nat) (g : JEntry → JEntry) : (s.jmap tag g).tbl = s.tbl := by
  unfold State.jmap; split <;> simp
@[simp] theorem State.jmap_gates (s : State) (tag : Nat) (g : JEntry → JEntry) : (s.jmap tag g).gates = s.gates := by
  unfold State.jmap; split <;> simp
@[simp] theorem State.jmap_img (s : State) (tag : Nat) (g : JEntry → JEntry) : (s.jmap tag g).img = s.img := by
  unfold State.jmap; split <;> simp
@[simp] theorem State.jmap_txn (s : State) (tag : Nat) (g : JEntry → JEntry) : (s.jmap tag g).txn = s.txn := by
  unfold State.jmap; split <;> simp
@[simp] theorem State.jmap_mir (s : State) (tag : Nat) (g : JEntry → JEntry) : (s.jmap tag g).mir = s.mir := by
  unfold State.jmap; split <;> simp
@[simp] theorem State.jmap_lan (s : State) (tag : Nat) (g : JEntry → JEntry) : (s.jmap tag g).lan = s.lan := by
  unfold State.jmap; split <;> simp
@[simp] theorem State.jmap_lanSec (s : State) (tag : Nat) (g : JEntry → JEntry) : (s.jmap tag g).lanSec = s.lanSec := by
  unfold State.jmap; split <;> simp
@[simp] theorem State.jmap_ref (s : State) (tag : Nat) (g : JEntry → JEntry) : (s.jmap tag g).ref = s.ref := by
  unfold State.jmap; split <;> simp
@[simp] theorem State.jmap_tin (s : State) (tag : Nat) (g : JEntry → JEntry) : (s.jmap tag g).tin = s.tin := by
  unfold State.jmap; split <;> simp
@[simp] theorem State.jmap_cal (s : State) (tag : Nat) (g : JEntry → JEntry) : (s.jmap tag g).cal = s.cal := by
  unfold State.jmap; split <;> simp
@[simp] theorem State.jmap_pwr (s : State) (tag : Nat) (g : JEntry → JEntry) : (s.jmap tag g).pwr = s.pwr := by
  unfold State.jmap; split <;> simp
@[simp] theorem State.jmap_rst (s : State) (tag : Nat) (g : JEntry → JEntry) : (s.jmap tag g).rst = s.rst := by
  unfold State.jmap; split <;> simp
@[simp] theorem State.jmap_rawHeld (s : State) (tag : Nat) (g : JEntry → JEntry) : (s.jmap tag g).rawHeld = s.rawHeld := by
  unfold State.jmap; split <;> simp
@[simp] theorem State.jmap_outbox (s : State) (tag : Nat) (g : JEntry → JEntry) : (s.jmap tag g).outbox = s.outbox := by
  unfold State.jmap; split <;> simp

/-! begin -/

@[simp] theorem State.begin_pending (s : State) (tag : Nat) : (s.begin tag).pending = s.pending := by
  simp [State.begin]
@[simp] theorem State.begin_clk (s : State) (tag : Nat) : (s.begin tag).clk = s.clk := by
  simp [State.begin]
@[simp] theorem State.begin_regs (s : State) (tag : Nat) : (s.begin tag).regs = s.regs := by
  simp [State.begin]
@[simp] theorem State.begin_held (s : State) (tag : Nat) : (s.begin tag).held = s.held := by
  simp [State.begin]
@[simp] theorem State.begin_latched (s : State) (tag : Nat) : (s.begin tag).latched = s.latched := by
  simp [State.begin]
@[simp] theorem State.begin_slotA (s : State) (tag : Nat) : (s.begin tag).slotA = s.slotA := by
  simp [State.begin]
@[simp] theorem State.begin_gradeEx (s : State) (tag : Nat) : (s.begin tag).gradeEx = s.gradeEx := by
  simp [State.begin]
@[simp] theorem State.begin_time (s : State) (tag : Nat) : (s.begin tag).time = s.time := by
  simp [State.begin]
@[simp] theorem State.begin_evt (s : State) (tag : Nat) : (s.begin tag).evt = s.evt := by
  simp [State.begin]
@[simp] theorem State.begin_lanes (s : State) (tag : Nat) : (s.begin tag).lanes = s.lanes := by
  simp [State.begin]
@[simp] theorem State.begin_links (s : State) (tag : Nat) : (s.begin tag).links = s.links := by
  simp [State.begin]
@[simp] theorem State.begin_ports (s : State) (tag : Nat) : (s.begin tag).ports = s.ports := by
  simp [State.begin]
@[simp] theorem State.begin_buf (s : State) (tag : Nat) : (s.begin tag).buf = s.buf := by
  simp [State.begin]
@[simp] theorem State.begin_tbl (s : State) (tag : Nat) : (s.begin tag).tbl = s.tbl := by
  simp [State.begin]
@[simp] theorem State.begin_gates (s : State) (tag : Nat) : (s.begin tag).gates = s.gates := by
  simp [State.begin]
@[simp] theorem State.begin_img (s : State) (tag : Nat) : (s.begin tag).img = s.img := by
  simp [State.begin]
@[simp] theorem State.begin_txn (s : State) (tag : Nat) : (s.begin tag).txn = s.txn := by
  simp [State.begin]
@[simp] theorem State.begin_mir (s : State) (tag : Nat) : (s.begin tag).mir = s.mir := by
  simp [State.begin]
@[simp] theorem State.begin_lan (s : State) (tag : Nat) : (s.begin tag).lan = s.lan := by
  simp [State.begin]
@[simp] theorem State.begin_lanSec (s : State) (tag : Nat) : (s.begin tag).lanSec = s.lanSec := by
  simp [State.begin]
@[simp] theorem State.begin_ref (s : State) (tag : Nat) : (s.begin tag).ref = s.ref := by
  simp [State.begin]
@[simp] theorem State.begin_tin (s : State) (tag : Nat) : (s.begin tag).tin = s.tin := by
  simp [State.begin]
@[simp] theorem State.begin_cal (s : State) (tag : Nat) : (s.begin tag).cal = s.cal := by
  simp [State.begin]
@[simp] theorem State.begin_pwr (s : State) (tag : Nat) : (s.begin tag).pwr = s.pwr := by
  simp [State.begin]
@[simp] theorem State.begin_rst (s : State) (tag : Nat) : (s.begin tag).rst = s.rst := by
  simp [State.begin]
@[simp] theorem State.begin_rawHeld (s : State) (tag : Nat) : (s.begin tag).rawHeld = s.rawHeld := by
  simp [State.begin]
@[simp] theorem State.begin_outbox (s : State) (tag : Nat) : (s.begin tag).outbox = s.outbox := by
  simp [State.begin]

/-! mark -/

@[simp] theorem State.mark_pending (s : State) (tag : Nat) : (s.mark tag).pending = s.pending := by
  unfold State.mark; split <;> simp
@[simp] theorem State.mark_clk (s : State) (tag : Nat) : (s.mark tag).clk = s.clk := by
  unfold State.mark; split <;> simp
@[simp] theorem State.mark_held (s : State) (tag : Nat) : (s.mark tag).held = s.held := by
  unfold State.mark; split <;> simp
@[simp] theorem State.mark_latched (s : State) (tag : Nat) : (s.mark tag).latched = s.latched := by
  unfold State.mark; split <;> simp
@[simp] theorem State.mark_slotA (s : State) (tag : Nat) : (s.mark tag).slotA = s.slotA := by
  unfold State.mark; split <;> simp
@[simp] theorem State.mark_gradeEx (s : State) (tag : Nat) : (s.mark tag).gradeEx = s.gradeEx := by
  unfold State.mark; split <;> simp
@[simp] theorem State.mark_time (s : State) (tag : Nat) : (s.mark tag).time = s.time := by
  unfold State.mark; split <;> simp
@[simp] theorem State.mark_evt (s : State) (tag : Nat) : (s.mark tag).evt = s.evt := by
  unfold State.mark; split <;> simp
@[simp] theorem State.mark_lanes (s : State) (tag : Nat) : (s.mark tag).lanes = s.lanes := by
  unfold State.mark; split <;> simp
@[simp] theorem State.mark_links (s : State) (tag : Nat) : (s.mark tag).links = s.links := by
  unfold State.mark; split <;> simp
@[simp] theorem State.mark_ports (s : State) (tag : Nat) : (s.mark tag).ports = s.ports := by
  unfold State.mark; split <;> simp
@[simp] theorem State.mark_buf (s : State) (tag : Nat) : (s.mark tag).buf = s.buf := by
  unfold State.mark; split <;> simp
@[simp] theorem State.mark_tbl (s : State) (tag : Nat) : (s.mark tag).tbl = s.tbl := by
  unfold State.mark; split <;> simp
@[simp] theorem State.mark_gates (s : State) (tag : Nat) : (s.mark tag).gates = s.gates := by
  unfold State.mark; split <;> simp
@[simp] theorem State.mark_img (s : State) (tag : Nat) : (s.mark tag).img = s.img := by
  unfold State.mark; split <;> simp
@[simp] theorem State.mark_txn (s : State) (tag : Nat) : (s.mark tag).txn = s.txn := by
  unfold State.mark; split <;> simp
@[simp] theorem State.mark_lan (s : State) (tag : Nat) : (s.mark tag).lan = s.lan := by
  unfold State.mark; split <;> simp
@[simp] theorem State.mark_lanSec (s : State) (tag : Nat) : (s.mark tag).lanSec = s.lanSec := by
  unfold State.mark; split <;> simp
@[simp] theorem State.mark_ref (s : State) (tag : Nat) : (s.mark tag).ref = s.ref := by
  unfold State.mark; split <;> simp
@[simp] theorem State.mark_tin (s : State) (tag : Nat) : (s.mark tag).tin = s.tin := by
  unfold State.mark; split <;> simp
@[simp] theorem State.mark_cal (s : State) (tag : Nat) : (s.mark tag).cal = s.cal := by
  unfold State.mark; split <;> simp
@[simp] theorem State.mark_pwr (s : State) (tag : Nat) : (s.mark tag).pwr = s.pwr := by
  unfold State.mark; split <;> simp
@[simp] theorem State.mark_rst (s : State) (tag : Nat) : (s.mark tag).rst = s.rst := by
  unfold State.mark; split <;> simp
@[simp] theorem State.mark_rawHeld (s : State) (tag : Nat) : (s.mark tag).rawHeld = s.rawHeld := by
  unfold State.mark; split <;> simp

/-! finish -/

@[simp] theorem State.finish_pending (s : State) (tag st a b : Nat) : (s.finish tag st a b).pending = s.pending := by
  unfold State.finish; split <;> simp
@[simp] theorem State.finish_clk (s : State) (tag st a b : Nat) : (s.finish tag st a b).clk = s.clk := by
  unfold State.finish; split <;> simp
@[simp] theorem State.finish_held (s : State) (tag st a b : Nat) : (s.finish tag st a b).held = s.held := by
  unfold State.finish; split <;> simp
@[simp] theorem State.finish_latched (s : State) (tag st a b : Nat) : (s.finish tag st a b).latched = s.latched := by
  unfold State.finish; split <;> simp
@[simp] theorem State.finish_slotA (s : State) (tag st a b : Nat) : (s.finish tag st a b).slotA = s.slotA := by
  unfold State.finish; split <;> simp
@[simp] theorem State.finish_gradeEx (s : State) (tag st a b : Nat) : (s.finish tag st a b).gradeEx = s.gradeEx := by
  unfold State.finish; split <;> simp
@[simp] theorem State.finish_time (s : State) (tag st a b : Nat) : (s.finish tag st a b).time = s.time := by
  unfold State.finish; split <;> simp
@[simp] theorem State.finish_evt (s : State) (tag st a b : Nat) : (s.finish tag st a b).evt = s.evt := by
  unfold State.finish; split <;> simp
@[simp] theorem State.finish_lanes (s : State) (tag st a b : Nat) : (s.finish tag st a b).lanes = s.lanes := by
  unfold State.finish; split <;> simp
@[simp] theorem State.finish_links (s : State) (tag st a b : Nat) : (s.finish tag st a b).links = s.links := by
  unfold State.finish; split <;> simp
@[simp] theorem State.finish_ports (s : State) (tag st a b : Nat) : (s.finish tag st a b).ports = s.ports := by
  unfold State.finish; split <;> simp
@[simp] theorem State.finish_buf (s : State) (tag st a b : Nat) : (s.finish tag st a b).buf = s.buf := by
  unfold State.finish; split <;> simp
@[simp] theorem State.finish_tbl (s : State) (tag st a b : Nat) : (s.finish tag st a b).tbl = s.tbl := by
  unfold State.finish; split <;> simp
@[simp] theorem State.finish_gates (s : State) (tag st a b : Nat) : (s.finish tag st a b).gates = s.gates := by
  unfold State.finish; split <;> simp
@[simp] theorem State.finish_img (s : State) (tag st a b : Nat) : (s.finish tag st a b).img = s.img := by
  unfold State.finish; split <;> simp
@[simp] theorem State.finish_txn (s : State) (tag st a b : Nat) : (s.finish tag st a b).txn = s.txn := by
  unfold State.finish; split <;> simp
@[simp] theorem State.finish_lan (s : State) (tag st a b : Nat) : (s.finish tag st a b).lan = s.lan := by
  unfold State.finish; split <;> simp
@[simp] theorem State.finish_lanSec (s : State) (tag st a b : Nat) : (s.finish tag st a b).lanSec = s.lanSec := by
  unfold State.finish; split <;> simp
@[simp] theorem State.finish_ref (s : State) (tag st a b : Nat) : (s.finish tag st a b).ref = s.ref := by
  unfold State.finish; split <;> simp
@[simp] theorem State.finish_tin (s : State) (tag st a b : Nat) : (s.finish tag st a b).tin = s.tin := by
  unfold State.finish; split <;> simp
@[simp] theorem State.finish_cal (s : State) (tag st a b : Nat) : (s.finish tag st a b).cal = s.cal := by
  unfold State.finish; split <;> simp
@[simp] theorem State.finish_pwr (s : State) (tag st a b : Nat) : (s.finish tag st a b).pwr = s.pwr := by
  unfold State.finish; split <;> simp
@[simp] theorem State.finish_rst (s : State) (tag st a b : Nat) : (s.finish tag st a b).rst = s.rst := by
  unfold State.finish; split <;> simp
@[simp] theorem State.finish_rawHeld (s : State) (tag st a b : Nat) : (s.finish tag st a b).rawHeld = s.rawHeld := by
  unfold State.finish; split <;> simp

/-! malformed -/

@[simp] theorem State.malformed_pending (s : State) (tag why at_ : Nat) : (s.malformed tag why at_).pending = s.pending := by
  unfold State.malformed; split <;> simp
@[simp] theorem State.malformed_clk (s : State) (tag why at_ : Nat) : (s.malformed tag why at_).clk = s.clk := by
  unfold State.malformed; split <;> simp
@[simp] theorem State.malformed_held (s : State) (tag why at_ : Nat) : (s.malformed tag why at_).held = s.held := by
  unfold State.malformed; split <;> simp
@[simp] theorem State.malformed_latched (s : State) (tag why at_ : Nat) : (s.malformed tag why at_).latched = s.latched := by
  unfold State.malformed; split <;> simp
@[simp] theorem State.malformed_slotA (s : State) (tag why at_ : Nat) : (s.malformed tag why at_).slotA = s.slotA := by
  unfold State.malformed; split <;> simp
@[simp] theorem State.malformed_gradeEx (s : State) (tag why at_ : Nat) : (s.malformed tag why at_).gradeEx = s.gradeEx := by
  unfold State.malformed; split <;> simp
@[simp] theorem State.malformed_time (s : State) (tag why at_ : Nat) : (s.malformed tag why at_).time = s.time := by
  unfold State.malformed; split <;> simp
@[simp] theorem State.malformed_lanes (s : State) (tag why at_ : Nat) : (s.malformed tag why at_).lanes = s.lanes := by
  unfold State.malformed; split <;> simp
@[simp] theorem State.malformed_links (s : State) (tag why at_ : Nat) : (s.malformed tag why at_).links = s.links := by
  unfold State.malformed; split <;> simp
@[simp] theorem State.malformed_ports (s : State) (tag why at_ : Nat) : (s.malformed tag why at_).ports = s.ports := by
  unfold State.malformed; split <;> simp
@[simp] theorem State.malformed_buf (s : State) (tag why at_ : Nat) : (s.malformed tag why at_).buf = s.buf := by
  unfold State.malformed; split <;> simp
@[simp] theorem State.malformed_tbl (s : State) (tag why at_ : Nat) : (s.malformed tag why at_).tbl = s.tbl := by
  unfold State.malformed; split <;> simp
@[simp] theorem State.malformed_gates (s : State) (tag why at_ : Nat) : (s.malformed tag why at_).gates = s.gates := by
  unfold State.malformed; split <;> simp
@[simp] theorem State.malformed_img (s : State) (tag why at_ : Nat) : (s.malformed tag why at_).img = s.img := by
  unfold State.malformed; split <;> simp
@[simp] theorem State.malformed_txn (s : State) (tag why at_ : Nat) : (s.malformed tag why at_).txn = s.txn := by
  unfold State.malformed; split <;> simp
@[simp] theorem State.malformed_lan (s : State) (tag why at_ : Nat) : (s.malformed tag why at_).lan = s.lan := by
  unfold State.malformed; split <;> simp
@[simp] theorem State.malformed_lanSec (s : State) (tag why at_ : Nat) : (s.malformed tag why at_).lanSec = s.lanSec := by
  unfold State.malformed; split <;> simp
@[simp] theorem State.malformed_ref (s : State) (tag why at_ : Nat) : (s.malformed tag why at_).ref = s.ref := by
  unfold State.malformed; split <;> simp
@[simp] theorem State.malformed_tin (s : State) (tag why at_ : Nat) : (s.malformed tag why at_).tin = s.tin := by
  unfold State.malformed; split <;> simp
@[simp] theorem State.malformed_cal (s : State) (tag why at_ : Nat) : (s.malformed tag why at_).cal = s.cal := by
  unfold State.malformed; split <;> simp
@[simp] theorem State.malformed_pwr (s : State) (tag why at_ : Nat) : (s.malformed tag why at_).pwr = s.pwr := by
  unfold State.malformed; split <;> simp
@[simp] theorem State.malformed_rst (s : State) (tag why at_ : Nat) : (s.malformed tag why at_).rst = s.rst := by
  unfold State.malformed; split <;> simp
@[simp] theorem State.malformed_rawHeld (s : State) (tag why at_ : Nat) : (s.malformed tag why at_).rawHeld = s.rawHeld := by
  unfold State.malformed; split <;> simp

theorem State.jget_congr {s t : State} (h : s.hif = t.hif) (o : Nat) : s.jget o = t.jget o := by unfold State.jget; rw [h]

theorem State.jget_jput (s : State) (tag : Nat) (e : Option JEntry) (o : Nat) :
    (s.jput tag e).jget o = if o = tag then e else s.jget o := Store.get_set _ _ _ _ _

@[simp] theorem State.sendMir_jget (s : State) (k : Nat) (b : List Nat) (o : Nat) : (s.sendMir k b).jget o = s.jget o :=
  State.jget_congr (by simp) o

@[simp] theorem State.markPartner_jget (s : State) (a b : Nat) (e : JEntry) (o : Nat) : (s.markPartner a b e).jget o = s.jget o :=
  State.jget_congr (by simp) o

theorem State.jget_mark (s : State) (tag : Nat) (e : JEntry) (h : s.jget tag = some e) (o : Nat) :
    (s.mark tag).jget o = if o = tag then some { e with st := .marked } else s.jget o := by
  simp [State.mark, h, State.jget_jput]

theorem State.jget_begin (s : State) (tag : Nat) (e : JEntry) (h : s.jget tag = some e) (o : Nat) :
    (s.begin tag).jget o = if o = tag then some { e with started := true } else s.jget o := by
  simp [State.begin, State.jmap, h, State.jget_jput]

theorem State.jget_finish (s : State) (tag st a b : Nat) (e : JEntry) (h : s.jget tag = some e) (o : Nat) :
    (s.finish tag st a b).jget o = if o = tag then some { e with st := .done, comp := ⟨st, a, b, s.now16⟩ } else s.jget o := by
  unfold State.finish
  simp only [h, State.markPartner_jget]
  exact State.jget_jput s tag (some { e with st := .done, comp := ⟨st, a, b, s.now16⟩ }) o

theorem State.finish_doneQ (s : State) (tag st a b : Nat) (e : JEntry) (h : s.jget tag = some e) :
    (s.finish tag st a b).hif.doneQ = s.hif.doneQ ++ [tag] := by
  unfold State.finish
  simp only [h, State.markPartner_hif]
  rfl

/-- While nothing is mirrored nothing of the journal goes to a partner. -/
theorem State.markPartner_alone (s : State) (a b : Nat) (e : JEntry) (h : s.mirrors = false) : s.markPartner a b e = s := by
  simp [State.markPartner, h]

@[simp] theorem State.raiseRec_hif_jget (s : State) (r : EvtRec) (o : Nat) : (s.raiseRec r).jget o = s.jget o :=
  State.jget_congr (by simp) o

@[simp] theorem State.raise_jget (s : State) (a b : Nat) (d : List (Nat × Nat × Nat)) (o : Nat) : (s.raise a b d).jget o = s.jget o :=
  State.jget_congr (by simp) o

@[simp] theorem State.bump_jget (s : State) (off o : Nat) : (s.bump off).jget o = s.jget o := rfl
@[simp] theorem State.setReg_jget (s : State) (off : Nat) (v : Word) (o : Nat) : (s.setReg off v).jget o = s.jget o := rfl
@[simp] theorem State.setF_jget (s : State) (f : FieldRef) (v o : Nat) : (s.setF f v).jget o = s.jget o := rfl
@[simp] theorem State.setFlag_jget (s : State) (f : FieldRef) (b : Bool) (o : Nat) : (s.setFlag f b).jget o = s.jget o := rfl
@[simp] theorem State.keeping_jget (t s : State) (o : Nat) : (t.keeping s).jget o = t.jget o := rfl

@[simp] theorem State.now16_bump (s : State) (off : Nat) : (s.bump off).now16 = s.now16 := rfl
@[simp] theorem State.now16_setReg (s : State) (off : Nat) (v : Word) : (s.setReg off v).now16 = s.now16 := rfl
@[simp] theorem State.now16_setF (s : State) (f : FieldRef) (v : Nat) : (s.setF f v).now16 = s.now16 := rfl
theorem State.now16_congr {s t : State} (h : s.time = t.time) : s.now16 = t.now16 := by unfold State.now16; rw [h]
@[simp] theorem State.now16_raise (s : State) (a b : Nat) (d : List (Nat × Nat × Nat)) : (s.raise a b d).now16 = s.now16 :=
  State.now16_congr (by simp)
@[simp] theorem State.now16_mark (s : State) (tag : Nat) : (s.mark tag).now16 = s.now16 := State.now16_congr (by simp)
@[simp] theorem State.now16_finish (s : State) (tag st a b : Nat) : (s.finish tag st a b).now16 = s.now16 := State.now16_congr (by simp)

/-! ### What an event does to registers -/

@[simp] theorem State.reg_genRecord (s : State) (r : EvtRec) (o : Nat) : (s.genRecord r).reg o = s.reg o := rfl
@[simp] theorem State.reg_coalesce (s : State) (r : EvtRec) (o : Nat) : (s.coalesce r).reg o = s.reg o := State.reg_congr (by simp) o

/-- An event counts in its source's counter while PD4 is on, and changes no other register. -/
theorem State.reg_raiseRec (s : State) (r : EvtRec) (o : Nat) :
    (s.raiseRec r).reg o = if o = Reg.EVT_SRC_CNT r.source ∧ s.domainOn 4 = true then s.reg o + 1 else s.reg o := by
  unfold State.raiseRec
  by_cases h : s.domainOn 4 = true
  · simp only [h, ite_true, and_true]
    by_cases ho : o = Reg.EVT_SRC_CNT r.source
    · simp only [ho, ite_true]
      split
      · simp [State.reg_bump]
      · split <;> simp [State.reg_bump]
    · simp only [ho, ite_false]
      split
      · simp [State.reg_bump, ho]
      · split <;> simp [State.reg_bump, ho]
  · simp [h]

theorem State.reg_raise (s : State) (src scope : Nat) (d : List (Nat × Nat × Nat)) (o : Nat) :
    (s.raise src scope d).reg o = if o = Reg.EVT_SRC_CNT src ∧ s.domainOn 4 = true then s.reg o + 1 else s.reg o :=
  State.reg_raiseRec _ _ _

theorem State.reg_raise_ne (s : State) (src scope : Nat) (d : List (Nat × Nat × Nat)) (o : Nat) (h : o ≠ Reg.EVT_SRC_CNT src) :
    (s.raise src scope d).reg o = s.reg o := by simp [State.reg_raise, h]

/-- A message to the partner counts in MIR_MSG_TX and changes no other register. -/
theorem State.reg_sendMir_ne (s : State) (k : Nat) (b : List Nat) (o : Nat) (h : o ≠ Reg.MIR_MSG_TX) : (s.sendMir k b).reg o = s.reg o := by
  unfold State.sendMir
  split
  · show Store.get regReset (Store.set regReset s.regs Reg.MIR_MSG_TX _) o = _
    rw [Store.get_set_ne _ _ _ _ _ h]; rfl
  · rfl

theorem State.reg_markPartner_ne (s : State) (a b : Nat) (e : JEntry) (o : Nat) (h : o ≠ Reg.MIR_MSG_TX) :
    (s.markPartner a b e).reg o = s.reg o := by
  unfold State.markPartner
  split
  · exact State.reg_sendMir_ne _ _ _ _ h
  · rfl

theorem State.reg_mark_ne (s : State) (tag o : Nat) (h : o ≠ Reg.MIR_MSG_TX) : (s.mark tag).reg o = s.reg o := by
  unfold State.mark
  split
  · rw [State.reg_markPartner_ne _ _ _ _ _ h]; rfl
  · rfl

theorem State.reg_finish_ne (s : State) (tag st a b o : Nat) (h : o ≠ Reg.MIR_MSG_TX) : (s.finish tag st a b).reg o = s.reg o := by
  unfold State.finish
  split
  · rfl
  · rw [State.reg_markPartner_ne _ _ _ _ _ h]; rfl

@[simp] theorem State.reg_jput (s : State) (tag : Nat) (e : Option JEntry) (o : Nat) : (s.jput tag e).reg o = s.reg o := rfl

end Sys2Proof.Machine
end

