-- ==== Sys2Proof/Laws/Fields.lean ====
section
/-! SUPPORT. What a field or a flag reads as after a write of another one, an event, or the end of a command. -/

namespace Sys2Proof.Machine

/-- A command whose operands are in range has its effect after its time has passed. -/
theorem after_pos (s : State) (dt : Nat) (ok : Bool) (f : State → State) (h : ok = true) : after s dt ok f = .next ((f (s.advance dt)).keeping s) := by
  unfold after; rw [if_pos h]

@[simp] theorem State.reg_keeping (t s : State) (o : Nat) : (t.keeping s).reg o = t.reg o := rfl
@[simp] theorem State.f_keeping (t s : State) (g : FieldRef) : (t.keeping s).f g = t.f g := rfl
@[simp] theorem State.flag_keeping (t s : State) (g : FieldRef) : (t.keeping s).flag g = t.flag g := rfl

@[simp] theorem State.reg_emit (s : State) (x : Output) (o : Nat) : (s.emit x).reg o = s.reg o := rfl
@[simp] theorem State.f_emit (s : State) (x : Output) (g : FieldRef) : (s.emit x).f g = s.f g := rfl
@[simp] theorem State.flag_emit (s : State) (x : Output) (g : FieldRef) : (s.emit x).flag g = s.flag g := rfl
@[simp] theorem State.reg_setPort (s : State) (n : Nat) (p : PortState) (o : Nat) : (s.setPort n p).reg o = s.reg o := rfl
@[simp] theorem State.reg_setLink (s : State) (n : Nat) (p : Link) (o : Nat) : (s.setLink n p).reg o = s.reg o := rfl
@[simp] theorem State.reg_setLane (s : State) (n : Nat) (p : Lane) (o : Nat) : (s.setLane n p).reg o = s.reg o := rfl
@[simp] theorem State.reg_setGate (s : State) (n : Nat) (p : Gate) (o : Nat) : (s.setGate n p).reg o = s.reg o := rfl
@[simp] theorem State.reg_setTable (s : State) (n : Nat) (p : Table) (o : Nat) : (s.setTable n p).reg o = s.reg o := rfl

theorem State.port_setPort (s : State) (n : Nat) (p : PortState) (m : Nat) : (s.setPort n p).port m = if m = n then p else s.port m := by
  unfold State.port State.setPort; simp [Store.get_set]

theorem State.link_setLink (s : State) (n : Nat) (p : Link) (m : Nat) : (s.setLink n p).link m = if m = n then p else s.link m := by
  unfold State.link State.setLink; simp [Store.get_set]

theorem State.lane_setLane (s : State) (n : Nat) (p : Lane) (m : Nat) : (s.setLane n p).lane m = if m = n then p else s.lane m := by
  unfold State.lane State.setLane; simp [Store.get_set]

theorem State.gate_setGate (s : State) (n : Nat) (p : Gate) (m : Nat) : (s.setGate n p).gate m = if m = n then p else s.gate m := by
  unfold State.gate State.setGate; simp [Store.get_set]

theorem State.table_setTable (s : State) (n : Nat) (p : Table) (m : Nat) : (s.setTable n p).table m = if m = n then p else s.table m := by
  unfold State.table State.setTable; simp [Store.get_set]

theorem State.f_setFlag_off (s : State) (f g : FieldRef) (b : Bool) (h : g.off ≠ f.off) : (s.setFlag f b).f g = s.f g :=
  State.f_setF_off s f g _ h

theorem State.f_setFlag_apart (s : State) (f g : FieldRef) (b : Bool) (ho : g.off = f.off)
    (h : f.lo + f.width ≤ g.lo ∨ g.lo + g.width ≤ f.lo) (hg : g.lo + g.width ≤ 32) : (s.setFlag f b).f g = s.f g :=
  State.f_setF_apart s f g _ ho h hg

theorem State.flag_setF_off (s : State) (f g : FieldRef) (v : Nat) (h : g.off ≠ f.off) : (s.setF f v).flag g = s.flag g := by
  unfold State.flag; rw [State.f_setF_off _ _ _ _ h]

theorem State.flag_setF_apart (s : State) (f g : FieldRef) (v : Nat) (ho : g.off = f.off)
    (h : f.lo + f.width ≤ g.lo ∨ g.lo + g.width ≤ f.lo) (hg : g.lo + g.width ≤ 32) : (s.setF f v).flag g = s.flag g := by
  unfold State.flag; rw [State.f_setF_apart _ _ _ _ ho h hg]

theorem State.flag_setFlag_off (s : State) (f g : FieldRef) (b : Bool) (h : g.off ≠ f.off) : (s.setFlag f b).flag g = s.flag g :=
  State.flag_setF_off s f g _ h

theorem State.flag_setFlag_apart (s : State) (f g : FieldRef) (b : Bool) (ho : g.off = f.off)
    (h : f.lo + f.width ≤ g.lo ∨ g.lo + g.width ≤ f.lo) (hg : g.lo + g.width ≤ 32) : (s.setFlag f b).flag g = s.flag g :=
  State.flag_setF_apart s f g _ ho h hg

theorem State.reg_setFlag_ne (s : State) (f : FieldRef) (b : Bool) (o : Nat) (h : o ≠ f.off) : (s.setFlag f b).reg o = s.reg o :=
  State.reg_setF_ne s f _ o h

theorem State.f_raise (s : State) (src scope : Nat) (d : List (Nat × Nat × Nat)) (g : FieldRef)
    (h : g.off ≠ Reg.EVT_SRC_CNT src) : (s.raise src scope d).f g = s.f g := by
  unfold State.f; rw [State.reg_raise_ne _ _ _ _ _ h]

end Sys2Proof.Machine
end

