-- ==== Sys2Proof/Laws/Writes.lean ====
section
/-! SUPPORT. What a host write does, said once: the shape of a write that passes its checks, and of one that fails. -/

namespace Sys2Proof.Machine

/- One proof at a time: many at once, each with its own stack, pass the memory limit of the check. -/
set_option Elab.async false

/-- A write that reaches its register is carried out. -/
theorem State.mmioWrite_takes (s : State) (off : Nat) (value mask : Word) (h : s.takesWrite off value mask = true) :
    s.mmioWrite off value mask = s.dueFirst.writeDone off value mask := by
  simp only [State.takesWrite, Bool.and_eq_true, Option.isNone_iff_eq_none] at h
  simp [State.mmioWrite, h.1, h.2]

/-- Nothing arrives while the endpoint's domain is off. -/
theorem State.mmioWrite_off (s : State) (off : Nat) (value mask : Word) (h : s.domainOn 4 = false) :
    s.mmioWrite off value mask = s := by
  simp [State.mmioWrite, h]

/-- The words of a write go into their registers in the state that the write finds, then take effect. -/
theorem State.writeDone_words (s : State) (off : Nat) (value mask : Word) (r : RegRow) (n k : Nat)
    (h : findReg off = some (r, n, k)) (hw : r.waits = false) :
    s.dueFirst.writeDone off value mask = (((s.atWrite off value mask).applyRegs (s.dueFirst.writeList off value mask)).farEffects
      (s.atWrite off value mask) (s.dueFirst.writeList off value mask)).rewrite := by
  simp [State.writeDone, State.atWrite, State.writeList, h, hw, State.writeWords]

theorem State.writeList_single (s : State) (off : Nat) (value mask : Word) (r : RegRow) (n k : Nat)
    (h : findReg off = some (r, n, k)) (hw : r.word = 0) :
    s.writeList off value mask = [(off, ⟨s.reach r n mask, value⟩)] := by
  simp [State.writeList, h, hw, State.writeSet]

/-- A write of a register that holds a whole value. -/
theorem State.writeDone_single (s : State) (off : Nat) (value mask : Word) (r : RegRow) (n k : Nat)
    (h : findReg off = some (r, n, k)) (hw : r.word = 0) (hx : r.waits = false) :
    s.dueFirst.writeDone off value mask =
      (let new := r.merge ((s.atWrite off value mask).reg off) value (s.dueFirst.reach r n mask)
       let set := value &&& s.dueFirst.reach r n mask &&& r.w1s
       (((((s.atWrite off value mask).beforeWrite r n new).setReg off new).regEffect r n k ((s.atWrite off value mask).reg off)
          (s.dueFirst.reach r n mask) set).farEffect r n ((s.atWrite off value mask).reg off) (s.dueFirst.reach r n mask) set).rewrite) := by
  rw [State.writeDone_words s off value mask r n k h hx, State.writeList_single s.dueFirst off value mask r n k h hw]
  simp [State.applyRegs, State.putWords, State.putEffects, State.farEffects, h]

end Sys2Proof.Machine
end

