-- ==== Sys2Proof/Laws/Map.lean ====
section
/-! SUPPORT. The row of the register map that each register of a command has, at every instance, and what a write of that register does. -/

namespace Sys2Proof.Machine

/-- The row of HIF_SQ_TAIL. -/
def Row.HIF_SQ_TAIL : RegRow :=
  ⟨"HIF_SQ_TAIL", 0x2010C, 0x20, 0, 4, 0x0, 1, 0, 1, [⟨"TAIL", 0, 12, .rw, .val 0, none⟩]⟩

theorem findReg_HIF_SQ_TAIL (n : Nat) (h : n < 4) : findReg (Reg.HIF_SQ_TAIL n) = some (Row.HIF_SQ_TAIL, n, 0) := by
  revert h; revert n; decide +kernel

theorem regEffect_HIF_SQ_TAIL (s : State) (n : Nat) (old hit pulse : Word) :
    s.regEffect Row.HIF_SQ_TAIL n 0 old hit pulse =
      s := rfl

theorem farEffect_HIF_SQ_TAIL (s : State) (n : Nat) (old hit pulse : Word) :
    s.farEffect Row.HIF_SQ_TAIL n old hit pulse =
      s := rfl

theorem beforeWrite_HIF_SQ_TAIL (s : State) (n : Nat) (v : Word) : s.beforeWrite Row.HIF_SQ_TAIL n v = s := rfl

/-- What a write that reaches HIF_SQ_TAIL does. -/
theorem mmioWrite_HIF_SQ_TAIL (s : State) (n : Nat) (h : n < 4) (v m : Word) (ht : s.takesWrite (Reg.HIF_SQ_TAIL n) v m = true) :
    s.mmioWrite (Reg.HIF_SQ_TAIL n) v m =
      (((s.written (Reg.HIF_SQ_TAIL n) v m).regEffect Row.HIF_SQ_TAIL n 0 ((s.atWrite (Reg.HIF_SQ_TAIL n) v m).reg (Reg.HIF_SQ_TAIL n)) (s.dueFirst.reach Row.HIF_SQ_TAIL n m)
        (s.pulsed (Reg.HIF_SQ_TAIL n) v m)).farEffect Row.HIF_SQ_TAIL n ((s.atWrite (Reg.HIF_SQ_TAIL n) v m).reg (Reg.HIF_SQ_TAIL n)) (s.dueFirst.reach Row.HIF_SQ_TAIL n m)
          (s.pulsed (Reg.HIF_SQ_TAIL n) v m)).rewrite := by
  rw [State.mmioWrite_takes _ _ _ _ ht, State.writeDone_single _ _ _ _ _ _ _ (findReg_HIF_SQ_TAIL n h) rfl rfl]
  dsimp only
  rw [beforeWrite_HIF_SQ_TAIL]
  simp [State.written, State.writtenWord, State.pulsed, findReg_HIF_SQ_TAIL n h]

/-- The row of HIF_CPU_TX_TAIL. -/
def Row.HIF_CPU_TX_TAIL : RegRow :=
  ⟨"HIF_CPU_TX_TAIL", 0x2030C, 0x0, 0, 1, 0x0, 1, 0, 1, [⟨"TAIL", 0, 12, .rw, .val 0, none⟩]⟩

theorem findReg_HIF_CPU_TX_TAIL : findReg Reg.HIF_CPU_TX_TAIL = some (Row.HIF_CPU_TX_TAIL, 0, 0) := by decide +kernel

theorem regEffect_HIF_CPU_TX_TAIL (s : State) (n : Nat) (old hit pulse : Word) :
    s.regEffect Row.HIF_CPU_TX_TAIL n 0 old hit pulse =
      s := rfl

theorem farEffect_HIF_CPU_TX_TAIL (s : State) (n : Nat) (old hit pulse : Word) :
    s.farEffect Row.HIF_CPU_TX_TAIL n old hit pulse =
      s := rfl

theorem beforeWrite_HIF_CPU_TX_TAIL (s : State) (n : Nat) (v : Word) : s.beforeWrite Row.HIF_CPU_TX_TAIL n v = s := rfl

/-- What a write that reaches HIF_CPU_TX_TAIL does. -/
theorem mmioWrite_HIF_CPU_TX_TAIL (s : State) (v m : Word) (ht : s.takesWrite Reg.HIF_CPU_TX_TAIL v m = true) :
    s.mmioWrite Reg.HIF_CPU_TX_TAIL v m =
      (((s.written Reg.HIF_CPU_TX_TAIL v m).regEffect Row.HIF_CPU_TX_TAIL 0 0 ((s.atWrite Reg.HIF_CPU_TX_TAIL v m).reg Reg.HIF_CPU_TX_TAIL) (s.dueFirst.reach Row.HIF_CPU_TX_TAIL 0 m)
        (s.pulsed Reg.HIF_CPU_TX_TAIL v m)).farEffect Row.HIF_CPU_TX_TAIL 0 ((s.atWrite Reg.HIF_CPU_TX_TAIL v m).reg Reg.HIF_CPU_TX_TAIL) (s.dueFirst.reach Row.HIF_CPU_TX_TAIL 0 m)
          (s.pulsed Reg.HIF_CPU_TX_TAIL v m)).rewrite := by
  rw [State.mmioWrite_takes _ _ _ _ ht, State.writeDone_single _ _ _ _ _ _ _ (findReg_HIF_CPU_TX_TAIL) rfl rfl]
  dsimp only
  rw [beforeWrite_HIF_CPU_TX_TAIL]
  simp [State.written, State.writtenWord, State.pulsed, findReg_HIF_CPU_TX_TAIL]

/-- The row of HIF_MSIX_CTRL. -/
def Row.HIF_MSIX_CTRL : RegRow :=
  ⟨"HIF_MSIX_CTRL", 0x2F00C, 0x10, 0, 8, 0x0, 1, 0, 1, [⟨"MASK", 0, 1, .rw, .val 1, none⟩]⟩

theorem findReg_HIF_MSIX_CTRL (n : Nat) (h : n < 8) : findReg (Reg.HIF_MSIX_CTRL n) = some (Row.HIF_MSIX_CTRL, n, 0) := by
  revert h; revert n; decide +kernel

theorem regEffect_HIF_MSIX_CTRL (s : State) (n : Nat) (old hit pulse : Word) :
    s.regEffect Row.HIF_MSIX_CTRL n 0 old hit pulse =
      s.unmaskVector n := rfl

theorem farEffect_HIF_MSIX_CTRL (s : State) (n : Nat) (old hit pulse : Word) :
    s.farEffect Row.HIF_MSIX_CTRL n old hit pulse =
      s := rfl

theorem beforeWrite_HIF_MSIX_CTRL (s : State) (n : Nat) (v : Word) : s.beforeWrite Row.HIF_MSIX_CTRL n v = s := rfl

/-- What a write that reaches HIF_MSIX_CTRL does. -/
theorem mmioWrite_HIF_MSIX_CTRL (s : State) (n : Nat) (h : n < 8) (v m : Word) (ht : s.takesWrite (Reg.HIF_MSIX_CTRL n) v m = true) :
    s.mmioWrite (Reg.HIF_MSIX_CTRL n) v m =
      (((s.written (Reg.HIF_MSIX_CTRL n) v m).regEffect Row.HIF_MSIX_CTRL n 0 ((s.atWrite (Reg.HIF_MSIX_CTRL n) v m).reg (Reg.HIF_MSIX_CTRL n)) (s.dueFirst.reach Row.HIF_MSIX_CTRL n m)
        (s.pulsed (Reg.HIF_MSIX_CTRL n) v m)).farEffect Row.HIF_MSIX_CTRL n ((s.atWrite (Reg.HIF_MSIX_CTRL n) v m).reg (Reg.HIF_MSIX_CTRL n)) (s.dueFirst.reach Row.HIF_MSIX_CTRL n m)
          (s.pulsed (Reg.HIF_MSIX_CTRL n) v m)).rewrite := by
  rw [State.mmioWrite_takes _ _ _ _ ht, State.writeDone_single _ _ _ _ _ _ _ (findReg_HIF_MSIX_CTRL n h) rfl rfl]
  dsimp only
  rw [beforeWrite_HIF_MSIX_CTRL]
  simp [State.written, State.writtenWord, State.pulsed, findReg_HIF_MSIX_CTRL n h]

/-- The row of LAN_TX_FIR. -/
def Row.LAN_TX_FIR : RegRow :=
  ⟨"LAN_TX_FIR", 0x80000, 0x400, 0, 64, 0x0, 1, 0, 1, [⟨"PRE", 0, 6, .rw, .val 4, none⟩, ⟨"MAIN", 8, 6, .rw, .val 50, some (24, 63)⟩, ⟨"POST", 16, 6, .rw, .val 9, none⟩]⟩

theorem findReg_LAN_TX_FIR (n : Nat) (h : n < 64) : findReg (Reg.LAN_TX_FIR n) = some (Row.LAN_TX_FIR, n, 0) := by
  revert h; revert n; decide +kernel

theorem regEffect_LAN_TX_FIR (s : State) (n : Nat) (old hit pulse : Word) :
    s.regEffect Row.LAN_TX_FIR n 0 old hit pulse =
      if old = s.reg (Reg.LAN_TX_FIR n) then s else s.firWritten n := rfl

theorem farEffect_LAN_TX_FIR (s : State) (n : Nat) (old hit pulse : Word) :
    s.farEffect Row.LAN_TX_FIR n old hit pulse =
      s := rfl

theorem beforeWrite_LAN_TX_FIR (s : State) (n : Nat) (v : Word) : s.beforeWrite Row.LAN_TX_FIR n v = s := rfl

/-- What a write that reaches LAN_TX_FIR does. -/
theorem mmioWrite_LAN_TX_FIR (s : State) (n : Nat) (h : n < 64) (v m : Word) (ht : s.takesWrite (Reg.LAN_TX_FIR n) v m = true) :
    s.mmioWrite (Reg.LAN_TX_FIR n) v m =
      (((s.written (Reg.LAN_TX_FIR n) v m).regEffect Row.LAN_TX_FIR n 0 ((s.atWrite (Reg.LAN_TX_FIR n) v m).reg (Reg.LAN_TX_FIR n)) (s.dueFirst.reach Row.LAN_TX_FIR n m)
        (s.pulsed (Reg.LAN_TX_FIR n) v m)).farEffect Row.LAN_TX_FIR n ((s.atWrite (Reg.LAN_TX_FIR n) v m).reg (Reg.LAN_TX_FIR n)) (s.dueFirst.reach Row.LAN_TX_FIR n m)
          (s.pulsed (Reg.LAN_TX_FIR n) v m)).rewrite := by
  rw [State.mmioWrite_takes _ _ _ _ ht, State.writeDone_single _ _ _ _ _ _ _ (findReg_LAN_TX_FIR n h) rfl rfl]
  dsimp only
  rw [beforeWrite_LAN_TX_FIR]
  simp [State.written, State.writtenWord, State.pulsed, findReg_LAN_TX_FIR n h]

/-- The row of LAN_PRBS_CFG. -/
def Row.LAN_PRBS_CFG : RegRow :=
  ⟨"LAN_PRBS_CFG", 0x80020, 0x400, 0, 64, 0x0, 1, 0, 1, [⟨"PATTERN", 0, 3, .rw, .val 0, some (0, 5)⟩, ⟨"GEN", 3, 1, .rw, .val 0, none⟩, ⟨"CHECK", 4, 1, .rw, .val 0, none⟩, ⟨"INJ_SINGLE", 8, 1, .w1s, .val 0, none⟩, ⟨"INJ_BURST", 9, 1, .w1s, .val 0, none⟩, ⟨"BURST_LEN", 16, 8, .rw, .val 1, some (1, 255)⟩]⟩

theorem findReg_LAN_PRBS_CFG (n : Nat) (h : n < 64) : findReg (Reg.LAN_PRBS_CFG n) = some (Row.LAN_PRBS_CFG, n, 0) := by
  revert h; revert n; decide +kernel

theorem regEffect_LAN_PRBS_CFG (s : State) (n : Nat) (old hit pulse : Word) :
    s.regEffect Row.LAN_PRBS_CFG n 0 old hit pulse =
      if (Fld.LAN_PRBS_CFG_INJ_BURST n).of pulse != 0 then
        (if (Fld.LAN_PRBS_CFG_INJ_SINGLE n).of pulse != 0 then (s.prbsChanged n old).askInject n true 1 else s.prbsChanged n old).askInject n false
          ((if (Fld.LAN_PRBS_CFG_INJ_SINGLE n).of pulse != 0 then (s.prbsChanged n old).askInject n true 1 else s.prbsChanged n old).f
            (Fld.LAN_PRBS_CFG_BURST_LEN n))
      else if (Fld.LAN_PRBS_CFG_INJ_SINGLE n).of pulse != 0 then (s.prbsChanged n old).askInject n true 1 else s.prbsChanged n old := rfl

theorem farEffect_LAN_PRBS_CFG (s : State) (n : Nat) (old hit pulse : Word) :
    s.farEffect Row.LAN_PRBS_CFG n old hit pulse =
      s := rfl

theorem beforeWrite_LAN_PRBS_CFG (s : State) (n : Nat) (v : Word) : s.beforeWrite Row.LAN_PRBS_CFG n v = s := rfl

/-- What a write that reaches LAN_PRBS_CFG does. -/
theorem mmioWrite_LAN_PRBS_CFG (s : State) (n : Nat) (h : n < 64) (v m : Word) (ht : s.takesWrite (Reg.LAN_PRBS_CFG n) v m = true) :
    s.mmioWrite (Reg.LAN_PRBS_CFG n) v m =
      (((s.written (Reg.LAN_PRBS_CFG n) v m).regEffect Row.LAN_PRBS_CFG n 0 ((s.atWrite (Reg.LAN_PRBS_CFG n) v m).reg (Reg.LAN_PRBS_CFG n)) (s.dueFirst.reach Row.LAN_PRBS_CFG n m)
        (s.pulsed (Reg.LAN_PRBS_CFG n) v m)).farEffect Row.LAN_PRBS_CFG n ((s.atWrite (Reg.LAN_PRBS_CFG n) v m).reg (Reg.LAN_PRBS_CFG n)) (s.dueFirst.reach Row.LAN_PRBS_CFG n m)
          (s.pulsed (Reg.LAN_PRBS_CFG n) v m)).rewrite := by
  rw [State.mmioWrite_takes _ _ _ _ ht, State.writeDone_single _ _ _ _ _ _ _ (findReg_LAN_PRBS_CFG n h) rfl rfl]
  dsimp only
  rw [beforeWrite_LAN_PRBS_CFG]
  simp [State.written, State.writtenWord, State.pulsed, findReg_LAN_PRBS_CFG n h]

/-- The row of PRT_CFG. -/
def Row.PRT_CFG : RegRow :=
  ⟨"PRT_CFG", 0xA0000, 0x800, 0, 65, 0x0, 1, 0, 1, [⟨"ENABLE", 0, 1, .rwt, .val 0, none⟩, ⟨"SPEED", 1, 3, .ro, .elsewhere, none⟩, ⟨"FEC", 4, 2, .rwt, .val 0, some (0, 2)⟩, ⟨"AN_EN", 6, 1, .rw, .val 1, none⟩]⟩

theorem findReg_PRT_CFG (n : Nat) (h : n < 65) : findReg (Reg.PRT_CFG n) = some (Row.PRT_CFG, n, 0) := by
  revert h; revert n; decide +kernel

theorem regEffect_PRT_CFG (s : State) (n : Nat) (old hit pulse : Word) :
    s.regEffect Row.PRT_CFG n 0 old hit pulse =
      (let t := if (Fld.PRT_CFG_FEC n).of old != s.f (Fld.PRT_CFG_FEC n) then s.fecChanged n else s
       let t := if (Fld.PRT_CFG_AN_EN n).of old != s.f (Fld.PRT_CFG_AN_EN n) && t.flag (Fld.PRT_CFG_AN_EN n) then t.anEnabled n else t
       if (Fld.PRT_CFG_ENABLE n).of old != s.f (Fld.PRT_CFG_ENABLE n) then t.enableChanged n else t).waitUp n := by
  unfold State.regEffect
  simp (decide := true) only [ite_false, ite_true]

theorem farEffect_PRT_CFG (s : State) (n : Nat) (old hit pulse : Word) :
    s.farEffect Row.PRT_CFG n old hit pulse =
      s := rfl

theorem beforeWrite_PRT_CFG (s : State) (n : Nat) (v : Word) : s.beforeWrite Row.PRT_CFG n v = s := rfl

/-- What a write that reaches PRT_CFG does. -/
theorem mmioWrite_PRT_CFG (s : State) (n : Nat) (h : n < 65) (v m : Word) (ht : s.takesWrite (Reg.PRT_CFG n) v m = true) :
    s.mmioWrite (Reg.PRT_CFG n) v m =
      (((s.written (Reg.PRT_CFG n) v m).regEffect Row.PRT_CFG n 0 ((s.atWrite (Reg.PRT_CFG n) v m).reg (Reg.PRT_CFG n)) (s.dueFirst.reach Row.PRT_CFG n m)
        (s.pulsed (Reg.PRT_CFG n) v m)).farEffect Row.PRT_CFG n ((s.atWrite (Reg.PRT_CFG n) v m).reg (Reg.PRT_CFG n)) (s.dueFirst.reach Row.PRT_CFG n m)
          (s.pulsed (Reg.PRT_CFG n) v m)).rewrite := by
  rw [State.mmioWrite_takes _ _ _ _ ht, State.writeDone_single _ _ _ _ _ _ _ (findReg_PRT_CFG n h) rfl rfl]
  dsimp only
  rw [beforeWrite_PRT_CFG]
  simp [State.written, State.writtenWord, State.pulsed, findReg_PRT_CFG n h]

/-- The row of TBL_FLUSH_CTRL. -/
def Row.TBL_FLUSH_CTRL : RegRow :=
  ⟨"TBL_FLUSH_CTRL", 0x100020, 0x0, 0, 1, 0x0, 1, 0, 1, [⟨"PORT", 0, 7, .rw, .val 0, some (0, 64)⟩, ⟨"BY_PORT", 8, 1, .rw, .val 0, none⟩, ⟨"BY_FID", 9, 1, .rw, .val 0, none⟩, ⟨"FID", 10, 12, .rw, .val 0, none⟩, ⟨"START", 31, 1, .w1s, .val 0, none⟩]⟩

theorem findReg_TBL_FLUSH_CTRL : findReg Reg.TBL_FLUSH_CTRL = some (Row.TBL_FLUSH_CTRL, 0, 0) := by decide +kernel

theorem regEffect_TBL_FLUSH_CTRL (s : State) (n : Nat) (old hit pulse : Word) :
    s.regEffect Row.TBL_FLUSH_CTRL n 0 old hit pulse =
      if Fld.TBL_FLUSH_CTRL_START.of pulse != 0 then s.flushStart else s := rfl

theorem farEffect_TBL_FLUSH_CTRL (s : State) (n : Nat) (old hit pulse : Word) :
    s.farEffect Row.TBL_FLUSH_CTRL n old hit pulse =
      s := rfl

theorem beforeWrite_TBL_FLUSH_CTRL (s : State) (n : Nat) (v : Word) : s.beforeWrite Row.TBL_FLUSH_CTRL n v = s := rfl

/-- What a write that reaches TBL_FLUSH_CTRL does. -/
theorem mmioWrite_TBL_FLUSH_CTRL (s : State) (v m : Word) (ht : s.takesWrite Reg.TBL_FLUSH_CTRL v m = true) :
    s.mmioWrite Reg.TBL_FLUSH_CTRL v m =
      (((s.written Reg.TBL_FLUSH_CTRL v m).regEffect Row.TBL_FLUSH_CTRL 0 0 ((s.atWrite Reg.TBL_FLUSH_CTRL v m).reg Reg.TBL_FLUSH_CTRL) (s.dueFirst.reach Row.TBL_FLUSH_CTRL 0 m)
        (s.pulsed Reg.TBL_FLUSH_CTRL v m)).farEffect Row.TBL_FLUSH_CTRL 0 ((s.atWrite Reg.TBL_FLUSH_CTRL v m).reg Reg.TBL_FLUSH_CTRL) (s.dueFirst.reach Row.TBL_FLUSH_CTRL 0 m)
          (s.pulsed Reg.TBL_FLUSH_CTRL v m)).rewrite := by
  rw [State.mmioWrite_takes _ _ _ _ ht, State.writeDone_single _ _ _ _ _ _ _ (findReg_TBL_FLUSH_CTRL) rfl rfl]
  dsimp only
  rw [beforeWrite_TBL_FLUSH_CTRL]
  simp [State.written, State.writtenWord, State.pulsed, findReg_TBL_FLUSH_CTRL]

/-- The row of SCH_GATE_CTRL. -/
def Row.SCH_GATE_CTRL : RegRow :=
  ⟨"SCH_GATE_CTRL", 0x140060, 0x1000, 0, 64, 0x0, 1, 0, 1, [⟨"ENABLE", 0, 1, .rwt, .val 0, none⟩, ⟨"CONFIG_CHANGE", 1, 1, .rwt, .val 0, none⟩, ⟨"STRICT_LATE", 2, 1, .rw, .val 0, none⟩, ⟨"ADMIN_GATES", 8, 8, .rwt, .val 255, none⟩, ⟨"ADMIN_LEN", 16, 11, .rwt, .val 1, some (1, 1024)⟩]⟩

theorem findReg_SCH_GATE_CTRL (n : Nat) (h : n < 64) : findReg (Reg.SCH_GATE_CTRL n) = some (Row.SCH_GATE_CTRL, n, 0) := by
  revert h; revert n; decide +kernel

theorem regEffect_SCH_GATE_CTRL (s : State) (n : Nat) (old hit pulse : Word) :
    s.regEffect Row.SCH_GATE_CTRL n 0 old hit pulse =
      s.gateWritten n old := rfl

theorem farEffect_SCH_GATE_CTRL (s : State) (n : Nat) (old hit pulse : Word) :
    s.farEffect Row.SCH_GATE_CTRL n old hit pulse =
      s := rfl

theorem beforeWrite_SCH_GATE_CTRL (s : State) (n : Nat) (v : Word) : s.beforeWrite Row.SCH_GATE_CTRL n v = s := rfl

/-- What a write that reaches SCH_GATE_CTRL does. -/
theorem mmioWrite_SCH_GATE_CTRL (s : State) (n : Nat) (h : n < 64) (v m : Word) (ht : s.takesWrite (Reg.SCH_GATE_CTRL n) v m = true) :
    s.mmioWrite (Reg.SCH_GATE_CTRL n) v m =
      (((s.written (Reg.SCH_GATE_CTRL n) v m).regEffect Row.SCH_GATE_CTRL n 0 ((s.atWrite (Reg.SCH_GATE_CTRL n) v m).reg (Reg.SCH_GATE_CTRL n)) (s.dueFirst.reach Row.SCH_GATE_CTRL n m)
        (s.pulsed (Reg.SCH_GATE_CTRL n) v m)).farEffect Row.SCH_GATE_CTRL n ((s.atWrite (Reg.SCH_GATE_CTRL n) v m).reg (Reg.SCH_GATE_CTRL n)) (s.dueFirst.reach Row.SCH_GATE_CTRL n m)
          (s.pulsed (Reg.SCH_GATE_CTRL n) v m)).rewrite := by
  rw [State.mmioWrite_takes _ _ _ _ ht, State.writeDone_single _ _ _ _ _ _ _ (findReg_SCH_GATE_CTRL n h) rfl rfl]
  dsimp only
  rw [beforeWrite_SCH_GATE_CTRL]
  simp [State.written, State.writtenWord, State.pulsed, findReg_SCH_GATE_CTRL n h]

/-- The row of TIM_SLEW_CTRL. -/
def Row.TIM_SLEW_CTRL : RegRow :=
  ⟨"TIM_SLEW_CTRL", 0x180024, 0x0, 0, 1, 0x0, 1, 0, 1, [⟨"START", 0, 1, .w1s, .val 0, none⟩, ⟨"CANCEL", 1, 1, .w1s, .val 0, none⟩]⟩

theorem findReg_TIM_SLEW_CTRL : findReg Reg.TIM_SLEW_CTRL = some (Row.TIM_SLEW_CTRL, 0, 0) := by decide +kernel

theorem regEffect_TIM_SLEW_CTRL (s : State) (n : Nat) (old hit pulse : Word) :
    s.regEffect Row.TIM_SLEW_CTRL n 0 old hit pulse =
      s.slewCtrl (Fld.TIM_SLEW_CTRL_START.of pulse != 0) (Fld.TIM_SLEW_CTRL_CANCEL.of pulse != 0) := rfl

theorem farEffect_TIM_SLEW_CTRL (s : State) (n : Nat) (old hit pulse : Word) :
    s.farEffect Row.TIM_SLEW_CTRL n old hit pulse =
      s := rfl

theorem beforeWrite_TIM_SLEW_CTRL (s : State) (n : Nat) (v : Word) : s.beforeWrite Row.TIM_SLEW_CTRL n v = s := rfl

/-- What a write that reaches TIM_SLEW_CTRL does. -/
theorem mmioWrite_TIM_SLEW_CTRL (s : State) (v m : Word) (ht : s.takesWrite Reg.TIM_SLEW_CTRL v m = true) :
    s.mmioWrite Reg.TIM_SLEW_CTRL v m =
      (((s.written Reg.TIM_SLEW_CTRL v m).regEffect Row.TIM_SLEW_CTRL 0 0 ((s.atWrite Reg.TIM_SLEW_CTRL v m).reg Reg.TIM_SLEW_CTRL) (s.dueFirst.reach Row.TIM_SLEW_CTRL 0 m)
        (s.pulsed Reg.TIM_SLEW_CTRL v m)).farEffect Row.TIM_SLEW_CTRL 0 ((s.atWrite Reg.TIM_SLEW_CTRL v m).reg Reg.TIM_SLEW_CTRL) (s.dueFirst.reach Row.TIM_SLEW_CTRL 0 m)
          (s.pulsed Reg.TIM_SLEW_CTRL v m)).rewrite := by
  rw [State.mmioWrite_takes _ _ _ _ ht, State.writeDone_single _ _ _ _ _ _ _ (findReg_TIM_SLEW_CTRL) rfl rfl]
  dsimp only
  rw [beforeWrite_TIM_SLEW_CTRL]
  simp [State.written, State.writtenWord, State.pulsed, findReg_TIM_SLEW_CTRL]

/-- The row of PHS_CFG. -/
def Row.PHS_CFG : RegRow :=
  ⟨"PHS_CFG", 0x190000, 0x100, 0, 64, 0x0, 1, 0, 1, [⟨"ENABLE", 0, 1, .rwt, .val 0, none⟩, ⟨"MIN_WORDS", 8, 8, .rw, .val 4, some (1, 16)⟩, ⟨"SUSPEND_S", 16, 12, .rw, .val 60, some (1, 3600)⟩]⟩

theorem findReg_PHS_CFG (n : Nat) (h : n < 64) : findReg (Reg.PHS_CFG n) = some (Row.PHS_CFG, n, 0) := by
  revert h; revert n; decide +kernel

theorem regEffect_PHS_CFG (s : State) (n : Nat) (old hit pulse : Word) :
    s.regEffect Row.PHS_CFG n 0 old hit pulse =
      if (Fld.PHS_CFG_ENABLE n).of old != s.f (Fld.PHS_CFG_ENABLE n) then (if s.flag (Fld.PHS_CFG_ENABLE n) then s.lanEnable n else s.lanDisable n) else s := rfl

theorem farEffect_PHS_CFG (s : State) (n : Nat) (old hit pulse : Word) :
    s.farEffect Row.PHS_CFG n old hit pulse =
      s := rfl

theorem beforeWrite_PHS_CFG (s : State) (n : Nat) (v : Word) : s.beforeWrite Row.PHS_CFG n v = s := rfl

/-- What a write that reaches PHS_CFG does. -/
theorem mmioWrite_PHS_CFG (s : State) (n : Nat) (h : n < 64) (v m : Word) (ht : s.takesWrite (Reg.PHS_CFG n) v m = true) :
    s.mmioWrite (Reg.PHS_CFG n) v m =
      (((s.written (Reg.PHS_CFG n) v m).regEffect Row.PHS_CFG n 0 ((s.atWrite (Reg.PHS_CFG n) v m).reg (Reg.PHS_CFG n)) (s.dueFirst.reach Row.PHS_CFG n m)
        (s.pulsed (Reg.PHS_CFG n) v m)).farEffect Row.PHS_CFG n ((s.atWrite (Reg.PHS_CFG n) v m).reg (Reg.PHS_CFG n)) (s.dueFirst.reach Row.PHS_CFG n m)
          (s.pulsed (Reg.PHS_CFG n) v m)).rewrite := by
  rw [State.mmioWrite_takes _ _ _ _ ht, State.writeDone_single _ _ _ _ _ _ _ (findReg_PHS_CFG n h) rfl rfl]
  dsimp only
  rw [beforeWrite_PHS_CFG]
  simp [State.written, State.writtenWord, State.pulsed, findReg_PHS_CFG n h]

/-- The row of PHS_SWAP_CTRL. -/
def Row.PHS_SWAP_CTRL : RegRow :=
  ⟨"PHS_SWAP_CTRL", 0x190030, 0x100, 0, 64, 0x0, 1, 0, 1, [⟨"CAPTURE_BEFORE", 0, 1, .w1s, .val 0, none⟩, ⟨"CAPTURE_AFTER", 1, 1, .w1s, .val 0, none⟩, ⟨"ABORT", 2, 1, .w1s, .val 0, none⟩, ⟨"REF_PORT", 8, 7, .rw, .val 127, none⟩, ⟨"AVG_S", 16, 6, .rw, .val 10, some (1, 60)⟩]⟩

theorem findReg_PHS_SWAP_CTRL (n : Nat) (h : n < 64) : findReg (Reg.PHS_SWAP_CTRL n) = some (Row.PHS_SWAP_CTRL, n, 0) := by
  revert h; revert n; decide +kernel

theorem regEffect_PHS_SWAP_CTRL (s : State) (n : Nat) (old hit pulse : Word) :
    s.regEffect Row.PHS_SWAP_CTRL n 0 old hit pulse =
      s.swapCtrl n ((Fld.PHS_SWAP_CTRL_CAPTURE_BEFORE n).of pulse != 0) ((Fld.PHS_SWAP_CTRL_CAPTURE_AFTER n).of pulse != 0)
        ((Fld.PHS_SWAP_CTRL_ABORT n).of pulse != 0) := rfl

theorem farEffect_PHS_SWAP_CTRL (s : State) (n : Nat) (old hit pulse : Word) :
    s.farEffect Row.PHS_SWAP_CTRL n old hit pulse =
      s := rfl

theorem beforeWrite_PHS_SWAP_CTRL (s : State) (n : Nat) (v : Word) : s.beforeWrite Row.PHS_SWAP_CTRL n v = s := rfl

/-- What a write that reaches PHS_SWAP_CTRL does. -/
theorem mmioWrite_PHS_SWAP_CTRL (s : State) (n : Nat) (h : n < 64) (v m : Word) (ht : s.takesWrite (Reg.PHS_SWAP_CTRL n) v m = true) :
    s.mmioWrite (Reg.PHS_SWAP_CTRL n) v m =
      (((s.written (Reg.PHS_SWAP_CTRL n) v m).regEffect Row.PHS_SWAP_CTRL n 0 ((s.atWrite (Reg.PHS_SWAP_CTRL n) v m).reg (Reg.PHS_SWAP_CTRL n)) (s.dueFirst.reach Row.PHS_SWAP_CTRL n m)
        (s.pulsed (Reg.PHS_SWAP_CTRL n) v m)).farEffect Row.PHS_SWAP_CTRL n ((s.atWrite (Reg.PHS_SWAP_CTRL n) v m).reg (Reg.PHS_SWAP_CTRL n)) (s.dueFirst.reach Row.PHS_SWAP_CTRL n m)
          (s.pulsed (Reg.PHS_SWAP_CTRL n) v m)).rewrite := by
  rw [State.mmioWrite_takes _ _ _ _ ht, State.writeDone_single _ _ _ _ _ _ _ (findReg_PHS_SWAP_CTRL n h) rfl rfl]
  dsimp only
  rw [beforeWrite_PHS_SWAP_CTRL]
  simp [State.written, State.writtenWord, State.pulsed, findReg_PHS_SWAP_CTRL n h]

/-- The row of REF_SLOT_CFG. -/
def Row.REF_SLOT_CFG : RegRow :=
  ⟨"REF_SLOT_CFG", 0x1A0100, 0x20, 0, 15, 0x0, 1, 0, 1, [⟨"ENABLE", 0, 1, .rwt, .val 0, none⟩, ⟨"PRIORITY", 4, 4, .rwt, .val 0, none⟩, ⟨"LANE", 8, 6, .rwt, .val 0, none⟩, ⟨"VALIDATE_S", 16, 8, .rwt, .val 10, some (1, 255)⟩]⟩

theorem findReg_REF_SLOT_CFG (n : Nat) (h : n < 15) : findReg (Reg.REF_SLOT_CFG n) = some (Row.REF_SLOT_CFG, n, 0) := by
  revert h; revert n; decide +kernel

theorem regEffect_REF_SLOT_CFG (s : State) (n : Nat) (old hit pulse : Word) :
    s.regEffect Row.REF_SLOT_CFG n 0 old hit pulse =
      s.slotWritten n ((Fld.REF_SLOT_CFG_ENABLE n).of old != 0)
        (decide (n < 8) && hit &&& (Fld.REF_SLOT_CFG_LANE n).mask != 0) := by
  unfold State.regEffect
  simp (decide := true) only [ite_false, ite_true]

theorem farEffect_REF_SLOT_CFG (s : State) (n : Nat) (old hit pulse : Word) :
    s.farEffect Row.REF_SLOT_CFG n old hit pulse =
      s := rfl

theorem beforeWrite_REF_SLOT_CFG (s : State) (n : Nat) (v : Word) : s.beforeWrite Row.REF_SLOT_CFG n v = s := rfl

/-- What a write that reaches REF_SLOT_CFG does. -/
theorem mmioWrite_REF_SLOT_CFG (s : State) (n : Nat) (h : n < 15) (v m : Word) (ht : s.takesWrite (Reg.REF_SLOT_CFG n) v m = true) :
    s.mmioWrite (Reg.REF_SLOT_CFG n) v m =
      (((s.written (Reg.REF_SLOT_CFG n) v m).regEffect Row.REF_SLOT_CFG n 0 ((s.atWrite (Reg.REF_SLOT_CFG n) v m).reg (Reg.REF_SLOT_CFG n)) (s.dueFirst.reach Row.REF_SLOT_CFG n m)
        (s.pulsed (Reg.REF_SLOT_CFG n) v m)).farEffect Row.REF_SLOT_CFG n ((s.atWrite (Reg.REF_SLOT_CFG n) v m).reg (Reg.REF_SLOT_CFG n)) (s.dueFirst.reach Row.REF_SLOT_CFG n m)
          (s.pulsed (Reg.REF_SLOT_CFG n) v m)).rewrite := by
  rw [State.mmioWrite_takes _ _ _ _ ht, State.writeDone_single _ _ _ _ _ _ _ (findReg_REF_SLOT_CFG n h) rfl rfl]
  dsimp only
  rw [beforeWrite_REF_SLOT_CFG]
  simp [State.written, State.writtenWord, State.pulsed, findReg_REF_SLOT_CFG n h]

/-- The row of REF_TSLOT_CFG. -/
def Row.REF_TSLOT_CFG : RegRow :=
  ⟨"REF_TSLOT_CFG", 0x1A0400, 0x20, 0, 8, 0x0, 1, 0, 1, [⟨"ENABLE", 0, 1, .rwt, .val 0, none⟩, ⟨"PRIORITY", 4, 4, .rwt, .val 0, none⟩, ⟨"PTP_PORT", 8, 7, .rwt, .val 0, some (0, 63)⟩, ⟨"VALID", 15, 1, .rw, .val 0, none⟩, ⟨"VALIDATE_S", 16, 8, .rwt, .val 10, some (1, 255)⟩]⟩

theorem findReg_REF_TSLOT_CFG (n : Nat) (h : n < 8) : findReg (Reg.REF_TSLOT_CFG n) = some (Row.REF_TSLOT_CFG, n, 0) := by
  revert h; revert n; decide +kernel

theorem regEffect_REF_TSLOT_CFG (s : State) (n : Nat) (old hit pulse : Word) :
    s.regEffect Row.REF_TSLOT_CFG n 0 old hit pulse =
      s.slotWritten (16 + n) ((Fld.REF_TSLOT_CFG_ENABLE n).of old != 0) false := by
  unfold State.regEffect
  simp (decide := true) only [ite_false, ite_true]

theorem farEffect_REF_TSLOT_CFG (s : State) (n : Nat) (old hit pulse : Word) :
    s.farEffect Row.REF_TSLOT_CFG n old hit pulse =
      s := rfl

theorem beforeWrite_REF_TSLOT_CFG (s : State) (n : Nat) (v : Word) : s.beforeWrite Row.REF_TSLOT_CFG n v = s := rfl

/-- What a write that reaches REF_TSLOT_CFG does. -/
theorem mmioWrite_REF_TSLOT_CFG (s : State) (n : Nat) (h : n < 8) (v m : Word) (ht : s.takesWrite (Reg.REF_TSLOT_CFG n) v m = true) :
    s.mmioWrite (Reg.REF_TSLOT_CFG n) v m =
      (((s.written (Reg.REF_TSLOT_CFG n) v m).regEffect Row.REF_TSLOT_CFG n 0 ((s.atWrite (Reg.REF_TSLOT_CFG n) v m).reg (Reg.REF_TSLOT_CFG n)) (s.dueFirst.reach Row.REF_TSLOT_CFG n m)
        (s.pulsed (Reg.REF_TSLOT_CFG n) v m)).farEffect Row.REF_TSLOT_CFG n ((s.atWrite (Reg.REF_TSLOT_CFG n) v m).reg (Reg.REF_TSLOT_CFG n)) (s.dueFirst.reach Row.REF_TSLOT_CFG n m)
          (s.pulsed (Reg.REF_TSLOT_CFG n) v m)).rewrite := by
  rw [State.mmioWrite_takes _ _ _ _ ht, State.writeDone_single _ _ _ _ _ _ _ (findReg_REF_TSLOT_CFG n h) rfl rfl]
  dsimp only
  rw [beforeWrite_REF_TSLOT_CFG]
  simp [State.written, State.writtenWord, State.pulsed, findReg_REF_TSLOT_CFG n h]

/-- The row of REF_TSLOT_QUAL. -/
def Row.REF_TSLOT_QUAL : RegRow :=
  ⟨"REF_TSLOT_QUAL", 0x1A0408, 0x20, 0, 8, 0x0, 1, 0, 1, [⟨"CLOCK_CLASS", 0, 8, .rwt, .val 248, none⟩, ⟨"CLOCK_ACCURACY", 8, 8, .rwt, .val 254, none⟩, ⟨"OSLV", 16, 16, .rwt, .val 65535, none⟩]⟩

theorem findReg_REF_TSLOT_QUAL (n : Nat) (h : n < 8) : findReg (Reg.REF_TSLOT_QUAL n) = some (Row.REF_TSLOT_QUAL, n, 0) := by
  revert h; revert n; decide +kernel

theorem regEffect_REF_TSLOT_QUAL (s : State) (n : Nat) (old hit pulse : Word) :
    s.regEffect Row.REF_TSLOT_QUAL n 0 old hit pulse =
      s.reselect := rfl

theorem farEffect_REF_TSLOT_QUAL (s : State) (n : Nat) (old hit pulse : Word) :
    s.farEffect Row.REF_TSLOT_QUAL n old hit pulse =
      s := rfl

theorem beforeWrite_REF_TSLOT_QUAL (s : State) (n : Nat) (v : Word) : s.beforeWrite Row.REF_TSLOT_QUAL n v = s := rfl

/-- What a write that reaches REF_TSLOT_QUAL does. -/
theorem mmioWrite_REF_TSLOT_QUAL (s : State) (n : Nat) (h : n < 8) (v m : Word) (ht : s.takesWrite (Reg.REF_TSLOT_QUAL n) v m = true) :
    s.mmioWrite (Reg.REF_TSLOT_QUAL n) v m =
      (((s.written (Reg.REF_TSLOT_QUAL n) v m).regEffect Row.REF_TSLOT_QUAL n 0 ((s.atWrite (Reg.REF_TSLOT_QUAL n) v m).reg (Reg.REF_TSLOT_QUAL n)) (s.dueFirst.reach Row.REF_TSLOT_QUAL n m)
        (s.pulsed (Reg.REF_TSLOT_QUAL n) v m)).farEffect Row.REF_TSLOT_QUAL n ((s.atWrite (Reg.REF_TSLOT_QUAL n) v m).reg (Reg.REF_TSLOT_QUAL n)) (s.dueFirst.reach Row.REF_TSLOT_QUAL n m)
          (s.pulsed (Reg.REF_TSLOT_QUAL n) v m)).rewrite := by
  rw [State.mmioWrite_takes _ _ _ _ ht, State.writeDone_single _ _ _ _ _ _ _ (findReg_REF_TSLOT_QUAL n h) rfl rfl]
  dsimp only
  rw [beforeWrite_REF_TSLOT_QUAL]
  simp [State.written, State.writtenWord, State.pulsed, findReg_REF_TSLOT_QUAL n h]

/-- The row of TIC_CTRL. -/
def Row.TIC_CTRL : RegRow :=
  ⟨"TIC_CTRL", 0x1B0014, 0x100, 0, 16, 0x0, 1, 0, 1, [⟨"ARM", 0, 1, .w1s, .val 0, none⟩, ⟨"DISARM", 1, 1, .w1s, .val 0, none⟩]⟩

theorem findReg_TIC_CTRL (n : Nat) (h : n < 16) : findReg (Reg.TIC_CTRL n) = some (Row.TIC_CTRL, n, 0) := by
  revert h; revert n; decide +kernel

theorem regEffect_TIC_CTRL (s : State) (n : Nat) (old hit pulse : Word) :
    s.regEffect Row.TIC_CTRL n 0 old hit pulse =
      if (Fld.TIC_CTRL_DISARM n).of pulse != 0 then (if (Fld.TIC_CTRL_ARM n).of pulse != 0 then s.ticArm n else s).ticDisarm n
      else if (Fld.TIC_CTRL_ARM n).of pulse != 0 then s.ticArm n else s := rfl

theorem farEffect_TIC_CTRL (s : State) (n : Nat) (old hit pulse : Word) :
    s.farEffect Row.TIC_CTRL n old hit pulse =
      s := rfl

theorem beforeWrite_TIC_CTRL (s : State) (n : Nat) (v : Word) : s.beforeWrite Row.TIC_CTRL n v = s := rfl

/-- What a write that reaches TIC_CTRL does. -/
theorem mmioWrite_TIC_CTRL (s : State) (n : Nat) (h : n < 16) (v m : Word) (ht : s.takesWrite (Reg.TIC_CTRL n) v m = true) :
    s.mmioWrite (Reg.TIC_CTRL n) v m =
      (((s.written (Reg.TIC_CTRL n) v m).regEffect Row.TIC_CTRL n 0 ((s.atWrite (Reg.TIC_CTRL n) v m).reg (Reg.TIC_CTRL n)) (s.dueFirst.reach Row.TIC_CTRL n m)
        (s.pulsed (Reg.TIC_CTRL n) v m)).farEffect Row.TIC_CTRL n ((s.atWrite (Reg.TIC_CTRL n) v m).reg (Reg.TIC_CTRL n)) (s.dueFirst.reach Row.TIC_CTRL n m)
          (s.pulsed (Reg.TIC_CTRL n) v m)).rewrite := by
  rw [State.mmioWrite_takes _ _ _ _ ht, State.writeDone_single _ _ _ _ _ _ _ (findReg_TIC_CTRL n h) rfl rfl]
  dsimp only
  rw [beforeWrite_TIC_CTRL]
  simp [State.written, State.writtenWord, State.pulsed, findReg_TIC_CTRL n h]

/-- The row of TIC_CFG. -/
def Row.TIC_CFG : RegRow :=
  ⟨"TIC_CFG", 0x1B0000, 0x100, 0, 16, 0x0, 1, 0, 1, [⟨"MODE", 0, 3, .rwt, .val 0, some (0, 4)⟩, ⟨"EDGE_SEL", 4, 2, .rwt, .val 0, some (0, 2)⟩, ⟨"STOP_EDGE", 6, 2, .rwt, .val 0, some (0, 2)⟩, ⟨"STOP_SRC", 8, 4, .rwt, .val 0, none⟩, ⟨"ARM_AUTO", 12, 1, .rwt, .val 1, none⟩, ⟨"DEST", 13, 1, .rwt, .val 0, none⟩, ⟨"TERM", 14, 1, .rw, .val 1, none⟩, ⟨"CAL_SRC", 15, 1, .rw, .val 0, none⟩, ⟨"PRESCALE", 16, 4, .rwt, .val 0, some (0, 8)⟩]⟩

theorem findReg_TIC_CFG (n : Nat) (h : n < 16) : findReg (Reg.TIC_CFG n) = some (Row.TIC_CFG, n, 0) := by
  revert h; revert n; decide +kernel

theorem regEffect_TIC_CFG (s : State) (n : Nat) (old hit pulse : Word) :
    s.regEffect Row.TIC_CFG n 0 old hit pulse =
      s.ticApply n := rfl

theorem farEffect_TIC_CFG (s : State) (n : Nat) (old hit pulse : Word) :
    s.farEffect Row.TIC_CFG n old hit pulse =
      s := rfl

theorem beforeWrite_TIC_CFG (s : State) (n : Nat) (v : Word) : s.beforeWrite Row.TIC_CFG n v = s.ticWriting n v := rfl

/-- The row of GEN_RESET_CTRL. -/
def Row.GEN_RESET_CTRL : RegRow :=
  ⟨"GEN_RESET_CTRL", 0x10, 0x0, 0, 1, 0x0, 1, 0, 1, [⟨"MODULE", 0, 1, .w1s, .val 0, none⟩, ⟨"CORE", 1, 1, .w1s, .val 0, none⟩, ⟨"CONTROLLER", 2, 1, .w1s, .val 0, none⟩, ⟨"KEY", 8, 8, .rw, .val 0, none⟩]⟩

theorem findReg_GEN_RESET_CTRL : findReg Reg.GEN_RESET_CTRL = some (Row.GEN_RESET_CTRL, 0, 0) := by decide +kernel

theorem regEffect_GEN_RESET_CTRL (s : State) (n : Nat) (old hit pulse : Word) :
    s.regEffect Row.GEN_RESET_CTRL n 0 old hit pulse =
      s := rfl

theorem farEffect_GEN_RESET_CTRL (s : State) (n : Nat) (old hit pulse : Word) :
    s.farEffect Row.GEN_RESET_CTRL n old hit pulse =
      if pulse.getLsbD 0 then (s.setReg Reg.GEN_RESET_CTRL 0).moduleReset
      else if pulse.getLsbD 1 then (s.setReg Reg.GEN_RESET_CTRL 0).coreReset
      else if pulse.getLsbD 2 then (s.setReg Reg.GEN_RESET_CTRL 0).controllerRestart 6 else s.setReg Reg.GEN_RESET_CTRL 0 := rfl

theorem beforeWrite_GEN_RESET_CTRL (s : State) (n : Nat) (v : Word) : s.beforeWrite Row.GEN_RESET_CTRL n v = s := rfl

/-- What a write that reaches GEN_RESET_CTRL does. -/
theorem mmioWrite_GEN_RESET_CTRL (s : State) (v m : Word) (ht : s.takesWrite Reg.GEN_RESET_CTRL v m = true) :
    s.mmioWrite Reg.GEN_RESET_CTRL v m =
      (((s.written Reg.GEN_RESET_CTRL v m).regEffect Row.GEN_RESET_CTRL 0 0 ((s.atWrite Reg.GEN_RESET_CTRL v m).reg Reg.GEN_RESET_CTRL) (s.dueFirst.reach Row.GEN_RESET_CTRL 0 m)
        (s.pulsed Reg.GEN_RESET_CTRL v m)).farEffect Row.GEN_RESET_CTRL 0 ((s.atWrite Reg.GEN_RESET_CTRL v m).reg Reg.GEN_RESET_CTRL) (s.dueFirst.reach Row.GEN_RESET_CTRL 0 m)
          (s.pulsed Reg.GEN_RESET_CTRL v m)).rewrite := by
  rw [State.mmioWrite_takes _ _ _ _ ht, State.writeDone_single _ _ _ _ _ _ _ (findReg_GEN_RESET_CTRL) rfl rfl]
  dsimp only
  rw [beforeWrite_GEN_RESET_CTRL]
  simp [State.written, State.writtenWord, State.pulsed, findReg_GEN_RESET_CTRL]

/-- The row of GEN_HOTPLUG. -/
def Row.GEN_HOTPLUG : RegRow :=
  ⟨"GEN_HOTPLUG", 0x24, 0x0, 0, 1, 0x0, 1, 0, 1, [⟨"EJECT_REQ", 0, 1, .ro, .val 0, none⟩, ⟨"PRES", 1, 2, .ro, .val 0, none⟩, ⟨"EJECTING", 3, 1, .ro, .val 0, none⟩, ⟨"READY", 4, 1, .ro, .val 0, none⟩, ⟨"EJECT", 8, 1, .w1s, .val 0, none⟩, ⟨"EJECT_DRAIN_MS", 16, 8, .rw, .val 10, some (1, 100)⟩]⟩

theorem findReg_GEN_HOTPLUG : findReg Reg.GEN_HOTPLUG = some (Row.GEN_HOTPLUG, 0, 0) := by decide +kernel

theorem regEffect_GEN_HOTPLUG (s : State) (n : Nat) (old hit pulse : Word) :
    s.regEffect Row.GEN_HOTPLUG n 0 old hit pulse =
      s := rfl

theorem farEffect_GEN_HOTPLUG (s : State) (n : Nat) (old hit pulse : Word) :
    s.farEffect Row.GEN_HOTPLUG n old hit pulse =
      if Fld.GEN_HOTPLUG_EJECT.of pulse = 1 then s.ejectBegin 2 else s := rfl

theorem beforeWrite_GEN_HOTPLUG (s : State) (n : Nat) (v : Word) : s.beforeWrite Row.GEN_HOTPLUG n v = s := rfl

/-- What a write that reaches GEN_HOTPLUG does. -/
theorem mmioWrite_GEN_HOTPLUG (s : State) (v m : Word) (ht : s.takesWrite Reg.GEN_HOTPLUG v m = true) :
    s.mmioWrite Reg.GEN_HOTPLUG v m =
      (((s.written Reg.GEN_HOTPLUG v m).regEffect Row.GEN_HOTPLUG 0 0 ((s.atWrite Reg.GEN_HOTPLUG v m).reg Reg.GEN_HOTPLUG) (s.dueFirst.reach Row.GEN_HOTPLUG 0 m)
        (s.pulsed Reg.GEN_HOTPLUG v m)).farEffect Row.GEN_HOTPLUG 0 ((s.atWrite Reg.GEN_HOTPLUG v m).reg Reg.GEN_HOTPLUG) (s.dueFirst.reach Row.GEN_HOTPLUG 0 m)
          (s.pulsed Reg.GEN_HOTPLUG v m)).rewrite := by
  rw [State.mmioWrite_takes _ _ _ _ ht, State.writeDone_single _ _ _ _ _ _ _ (findReg_GEN_HOTPLUG) rfl rfl]
  dsimp only
  rw [beforeWrite_GEN_HOTPLUG]
  simp [State.written, State.writtenWord, State.pulsed, findReg_GEN_HOTPLUG]

/-- The row of MIR_CFG. -/
def Row.MIR_CFG : RegRow :=
  ⟨"MIR_CFG", 0x1D0000, 0x0, 0, 1, 0x0, 1, 0, 1, [⟨"ENABLE", 0, 1, .rw, .val 0, none⟩, ⟨"PREFERENCE", 4, 4, .rw, .val 0, none⟩, ⟨"FOLLOW", 8, 1, .rw, .val 1, none⟩, ⟨"CONFIG", 12, 2, .ro, .elsewhere, none⟩, ⟨"LANE_SEL_GROUPS", 16, 4, .ro, .elsewhere, none⟩]⟩

theorem findReg_MIR_CFG : findReg Reg.MIR_CFG = some (Row.MIR_CFG, 0, 0) := by decide +kernel

theorem regEffect_MIR_CFG (s : State) (n : Nat) (old hit pulse : Word) :
    s.regEffect Row.MIR_CFG n 0 old hit pulse =
      s := rfl

theorem farEffect_MIR_CFG (s : State) (n : Nat) (old hit pulse : Word) :
    s.farEffect Row.MIR_CFG n old hit pulse =
      s.pairEffect Row.MIR_CFG n old hit pulse := rfl

theorem beforeWrite_MIR_CFG (s : State) (n : Nat) (v : Word) : s.beforeWrite Row.MIR_CFG n v = s := rfl

/-- What a write that reaches MIR_CFG does. -/
theorem mmioWrite_MIR_CFG (s : State) (v m : Word) (ht : s.takesWrite Reg.MIR_CFG v m = true) :
    s.mmioWrite Reg.MIR_CFG v m =
      (((s.written Reg.MIR_CFG v m).regEffect Row.MIR_CFG 0 0 ((s.atWrite Reg.MIR_CFG v m).reg Reg.MIR_CFG) (s.dueFirst.reach Row.MIR_CFG 0 m)
        (s.pulsed Reg.MIR_CFG v m)).farEffect Row.MIR_CFG 0 ((s.atWrite Reg.MIR_CFG v m).reg Reg.MIR_CFG) (s.dueFirst.reach Row.MIR_CFG 0 m)
          (s.pulsed Reg.MIR_CFG v m)).rewrite := by
  rw [State.mmioWrite_takes _ _ _ _ ht, State.writeDone_single _ _ _ _ _ _ _ (findReg_MIR_CFG) rfl rfl]
  dsimp only
  rw [beforeWrite_MIR_CFG]
  simp [State.written, State.writtenWord, State.pulsed, findReg_MIR_CFG]

/-- The row of MIR_HOST_STATE. -/
def Row.MIR_HOST_STATE : RegRow :=
  ⟨"MIR_HOST_STATE", 0x1D0100, 0x4, 0, 64, 0x0, 1, 0, 1, [⟨"DATA", 0, 32, .rw, .val 0, none⟩]⟩

theorem findReg_MIR_HOST_STATE (n : Nat) (h : n < 64) : findReg (Reg.MIR_HOST_STATE n) = some (Row.MIR_HOST_STATE, n, 0) := by
  revert h; revert n; decide +kernel

theorem regEffect_MIR_HOST_STATE (s : State) (n : Nat) (old hit pulse : Word) :
    s.regEffect Row.MIR_HOST_STATE n 0 old hit pulse =
      s := rfl

theorem farEffect_MIR_HOST_STATE (s : State) (n : Nat) (old hit pulse : Word) :
    s.farEffect Row.MIR_HOST_STATE n old hit pulse =
      if n = 63 then s.sendMir msgTimeState s.timeStateBody else s := rfl

theorem beforeWrite_MIR_HOST_STATE (s : State) (n : Nat) (v : Word) : s.beforeWrite Row.MIR_HOST_STATE n v = s := rfl

/-- What a write that reaches MIR_HOST_STATE does. -/
theorem mmioWrite_MIR_HOST_STATE (s : State) (n : Nat) (h : n < 64) (v m : Word) (ht : s.takesWrite (Reg.MIR_HOST_STATE n) v m = true) :
    s.mmioWrite (Reg.MIR_HOST_STATE n) v m =
      (((s.written (Reg.MIR_HOST_STATE n) v m).regEffect Row.MIR_HOST_STATE n 0 ((s.atWrite (Reg.MIR_HOST_STATE n) v m).reg (Reg.MIR_HOST_STATE n)) (s.dueFirst.reach Row.MIR_HOST_STATE n m)
        (s.pulsed (Reg.MIR_HOST_STATE n) v m)).farEffect Row.MIR_HOST_STATE n ((s.atWrite (Reg.MIR_HOST_STATE n) v m).reg (Reg.MIR_HOST_STATE n)) (s.dueFirst.reach Row.MIR_HOST_STATE n m)
          (s.pulsed (Reg.MIR_HOST_STATE n) v m)).rewrite := by
  rw [State.mmioWrite_takes _ _ _ _ ht, State.writeDone_single _ _ _ _ _ _ _ (findReg_MIR_HOST_STATE n h) rfl rfl]
  dsimp only
  rw [beforeWrite_MIR_HOST_STATE]
  simp [State.written, State.writtenWord, State.pulsed, findReg_MIR_HOST_STATE n h]

/-- The row of TIM_TSF_W0. -/
def Row.TIM_TSF_W0 : RegRow :=
  ⟨"TIM_TSF_W0", 0x181004, 0x20, 0, 64, 0x0, 1, 0, 1, [⟨"ENTRY", 0, 32, .ro, .val 0, none⟩]⟩

theorem findReg_TIM_TSF_W0 (n : Nat) (h : n < 64) : findReg (Reg.TIM_TSF_W0 n) = some (Row.TIM_TSF_W0, n, 0) := by
  revert h; revert n; decide +kernel

/-- The row of PHS_RPT_SEQ. -/
def Row.PHS_RPT_SEQ : RegRow :=
  ⟨"PHS_RPT_SEQ", 0x190050, 0x100, 0, 64, 0x0, 1, 0, 1, [⟨"BLOCK", 0, 16, .ro, .val 0, none⟩, ⟨"VALID", 16, 1, .ro, .val 0, none⟩, ⟨"SPARSE", 17, 1, .ro, .val 0, none⟩, ⟨"CAL_PENDING", 18, 1, .ro, .val 0, none⟩, ⟨"SUPPLY_DISTURBED", 19, 1, .ro, .val 0, none⟩, ⟨"STEP", 20, 1, .ro, .val 0, none⟩, ⟨"PEER_HOLDOVER", 21, 1, .ro, .val 0, none⟩, ⟨"PEER_WARMING", 22, 1, .ro, .val 0, none⟩, ⟨"COARSE", 23, 1, .ro, .val 0, none⟩, ⟨"NEW", 24, 1, .ro, .val 0, none⟩]⟩

theorem findReg_PHS_RPT_SEQ (n : Nat) (h : n < 64) : findReg (Reg.PHS_RPT_SEQ n) = some (Row.PHS_RPT_SEQ, n, 0) := by
  revert h; revert n; decide +kernel

/-- The row of MIR_OFFSET_SEQ. -/
def Row.MIR_OFFSET_SEQ : RegRow :=
  ⟨"MIR_OFFSET_SEQ", 0x1D0024, 0x0, 0, 1, 0x0, 1, 0, 1, [⟨"BLOCK", 0, 16, .ro, .val 0, none⟩, ⟨"VALID", 16, 1, .ro, .val 0, none⟩, ⟨"NEW", 24, 1, .ro, .val 0, none⟩]⟩

theorem findReg_MIR_OFFSET_SEQ : findReg Reg.MIR_OFFSET_SEQ = some (Row.MIR_OFFSET_SEQ, 0, 0) := by decide +kernel

/-- The row of SCH_GCL_ENTRY_LO. -/
def Row.SCH_GCL_ENTRY_LO : RegRow :=
  ⟨"SCH_GCL_ENTRY_LO", 0x1400B4, 0x1000, 0, 64, 0x0, 1, 0, 1, [⟨"INTERVAL_NS", 0, 32, .rw, .val 0, none⟩]⟩

theorem findReg_SCH_GCL_ENTRY_LO (n : Nat) (h : n < 64) : findReg (Reg.SCH_GCL_ENTRY_LO n) = some (Row.SCH_GCL_ENTRY_LO, n, 0) := by
  revert h; revert n; decide +kernel

/-- The row of SCH_GCL_ENTRY_HI. -/
def Row.SCH_GCL_ENTRY_HI : RegRow :=
  ⟨"SCH_GCL_ENTRY_HI", 0x1400B8, 0x1000, 0, 64, 0x0, 1, 0, 1, [⟨"GATES_OP", 0, 10, .rw, .val 0, none⟩]⟩

theorem findReg_SCH_GCL_ENTRY_HI (n : Nat) (h : n < 64) : findReg (Reg.SCH_GCL_ENTRY_HI n) = some (Row.SCH_GCL_ENTRY_HI, n, 0) := by
  revert h; revert n; decide +kernel

/-- The row of PHS_ASYM_CFG. -/
def Row.PHS_ASYM_CFG : RegRow :=
  ⟨"PHS_ASYM_CFG", 0x190008, 0x100, 0, 64, 0x0, 1, 0, 1, [⟨"SOURCE", 0, 2, .rwt, .val 0, none⟩]⟩

theorem findReg_PHS_ASYM_CFG (n : Nat) (h : n < 64) : findReg (Reg.PHS_ASYM_CFG n) = some (Row.PHS_ASYM_CFG, n, 0) := by
  revert h; revert n; decide +kernel

/-- The row of REF_VIRT_FREQ_LO. -/
def Row.REF_VIRT_FREQ_LO : RegRow :=
  ⟨"REF_VIRT_FREQ_LO", 0x1A0050, 0x0, 0, 1, 0x0, 1, 0, 2, [⟨"FREQ", 0, 32, .rw, .val 0, none⟩]⟩

theorem findReg_REF_VIRT_FREQ_LO : findReg Reg.REF_VIRT_FREQ_LO = some (Row.REF_VIRT_FREQ_LO, 0, 0) := by decide +kernel

/-- The row of REF_VIRT_FREQ_HI. -/
def Row.REF_VIRT_FREQ_HI : RegRow :=
  ⟨"REF_VIRT_FREQ_HI", 0x1A0054, 0x0, 0, 1, 0x0, 1, 1, 2, [⟨"FREQ", 0, 16, .rw, .val 0, none⟩]⟩

theorem findReg_REF_VIRT_FREQ_HI : findReg Reg.REF_VIRT_FREQ_HI = some (Row.REF_VIRT_FREQ_HI, 0, 0) := by decide +kernel

/-- The row of REF_XPPS_DECL_LO. -/
def Row.REF_XPPS_DECL_LO : RegRow :=
  ⟨"REF_XPPS_DECL_LO", 0x1A0070, 0x8, 0, 2, 0x0, 1, 0, 2, [⟨"SEC", 0, 32, .rw, .val 0, none⟩]⟩

theorem findReg_REF_XPPS_DECL_LO (n : Nat) (h : n < 2) : findReg (Reg.REF_XPPS_DECL_LO n) = some (Row.REF_XPPS_DECL_LO, n, 0) := by
  revert h; revert n; decide +kernel

/-- The row of REF_XPPS_DECL_HI. -/
def Row.REF_XPPS_DECL_HI : RegRow :=
  ⟨"REF_XPPS_DECL_HI", 0x1A0074, 0x8, 0, 2, 0x0, 1, 1, 2, [⟨"SEC", 0, 16, .rw, .val 0, none⟩]⟩

theorem findReg_REF_XPPS_DECL_HI (n : Nat) (h : n < 2) : findReg (Reg.REF_XPPS_DECL_HI n) = some (Row.REF_XPPS_DECL_HI, n, 0) := by
  revert h; revert n; decide +kernel

/-- The row of REF_OUT_START_W0. -/
def Row.REF_OUT_START_W0 : RegRow :=
  ⟨"REF_OUT_START_W0", 0x1A0818, 0x40, 0, 8, 0x0, 1, 0, 3, [⟨"START", 0, 32, .rwt, .val 0, none⟩]⟩

theorem findReg_REF_OUT_START_W0 (n : Nat) (h : n < 8) : findReg (Reg.REF_OUT_START_W0 n) = some (Row.REF_OUT_START_W0, n, 0) := by
  revert h; revert n; decide +kernel

/-- The row of REF_OUT_START_W1. -/
def Row.REF_OUT_START_W1 : RegRow :=
  ⟨"REF_OUT_START_W1", 0x1A081C, 0x40, 0, 8, 0x0, 1, 1, 3, [⟨"START", 0, 32, .rwt, .val 0, none⟩]⟩

theorem findReg_REF_OUT_START_W1 (n : Nat) (h : n < 8) : findReg (Reg.REF_OUT_START_W1 n) = some (Row.REF_OUT_START_W1, n, 0) := by
  revert h; revert n; decide +kernel

/-- The row of REF_OUT_START_W2. -/
def Row.REF_OUT_START_W2 : RegRow :=
  ⟨"REF_OUT_START_W2", 0x1A0820, 0x40, 0, 8, 0x0, 1, 2, 3, [⟨"START", 0, 32, .rwt, .val 0, none⟩]⟩

theorem findReg_REF_OUT_START_W2 (n : Nat) (h : n < 8) : findReg (Reg.REF_OUT_START_W2 n) = some (Row.REF_OUT_START_W2, n, 0) := by
  revert h; revert n; decide +kernel

/-- What a write that reaches TIC_CFG does: the open measurement is settled before the word changes (R276). -/
theorem mmioWrite_TIC_CFG (s : State) (n : Nat) (h : n < 16) (v m : Word) (ht : s.takesWrite (Reg.TIC_CFG n) v m = true) :
    s.mmioWrite (Reg.TIC_CFG n) v m =
      ((((s.atWrite (Reg.TIC_CFG n) v m).ticWriting n (s.writtenWord (Reg.TIC_CFG n) v m)).setReg (Reg.TIC_CFG n)
        (s.writtenWord (Reg.TIC_CFG n) v m)).ticApply n).rewrite := by
  rw [State.mmioWrite_takes _ _ _ _ ht, State.writeDone_single _ _ _ _ _ _ _ (findReg_TIC_CFG n h) rfl rfl]
  dsimp only
  rw [beforeWrite_TIC_CFG, regEffect_TIC_CFG, farEffect_TIC_CFG]
  simp [State.writtenWord, findReg_TIC_CFG n h]

end Sys2Proof.Machine
end

