-- ==== Sys2Proof/Laws/Signals.lean ====
section
/-! SUPPORT. What signalling an MSI-X vector can do (R34, R390), said once. -/

namespace Sys2Proof.Machine

/- One proof at a time: many at once, each with its own stack, pass the memory limit of the check. -/
set_option Elab.async false

/-- Signalling a vector counts the entry, and sends its message or does not. -/
theorem State.signal_cases (s : State) (v : Nat) :
    ∃ x, s.signal v = (s.setVec v x).sendMsix v ∨ s.signal v = s.setVec v x := by
  unfold State.signal
  by_cases h : (s.vec v).count = 0
  · simp only [h, ite_true]
    split
    · exact ⟨_, .inl rfl⟩
    · exact ⟨_, .inr rfl⟩
  · simp only [h, ite_false]
    split
    · exact ⟨_, .inl rfl⟩
    · exact ⟨_, .inr rfl⟩

/-- A message goes, or its pending bit is set, and the vector's count starts again; or nothing happens while MSI-X Enable is clear. -/
theorem State.sendMsix_cases (s : State) (v : Nat) :
    s.sendMsix v = s.setVec v {} ∨ s.sendMsix v = s ∨ s.sendMsix v = (s.setVec v {}).setPba v true ∨ s.sendMsix v = (s.setVec v {}).emit (.msix v) := by
  unfold State.sendMsix
  dsimp only
  split
  · exact .inl rfl
  · split
    · exact .inr (.inl rfl)
    · split
      · exact .inr (.inr (.inl rfl))
      · exact .inr (.inr (.inr rfl))

/-- Signalling changes at most the pending bits, the counts of the vectors and the outbox. -/
theorem State.signal_frame (s : State) (v : Nat) :
    (∀ o, o ∈ s.outbox → o ∈ (s.signal v).outbox) ∧ (s.signal v).hif.doneQ = s.hif.doneQ ∧ (∀ o, (s.signal v).jget o = s.jget o) ∧
    (∀ f : FieldRef, f.off ≠ Reg.HIF_MSIX_PBA_LO → (s.signal v).f f = s.f f) ∧ (s.signal v).tbl = s.tbl ∧ (s.signal v).buf = s.buf ∧
    (s.signal v).txn = s.txn ∧ (s.signal v).evt = s.evt ∧ (s.signal v).time = s.time ∧ (s.signal v).ports = s.ports ∧
    (s.signal v).clk = s.clk := by
  obtain ⟨x, h | h⟩ := s.signal_cases v
  · obtain h2 | h2 | h2 | h2 := (s.setVec v x).sendMsix_cases v
    · rw [h, h2]; exact ⟨fun _ h => h, rfl, fun _ => rfl, fun _ _ => rfl, rfl, rfl, rfl, rfl, rfl, rfl, rfl⟩
    · rw [h, h2]; exact ⟨fun _ h => h, rfl, fun _ => rfl, fun _ _ => rfl, rfl, rfl, rfl, rfl, rfl, rfl, rfl⟩
    · rw [h, h2]
      exact ⟨fun _ h => h, rfl, fun _ => rfl, fun f hf => State.f_setF_off _ _ _ _ hf, rfl, rfl, rfl, rfl, rfl, rfl, rfl⟩
    · rw [h, h2]; exact ⟨fun _ h => List.mem_cons_of_mem _ h, rfl, fun _ => rfl, fun _ _ => rfl, rfl, rfl, rfl, rfl, rfl, rfl, rfl⟩
  · rw [h]; exact ⟨fun _ h => h, rfl, fun _ => rfl, fun _ _ => rfl, rfl, rfl, rfl, rfl, rfl, rfl, rfl⟩

end Sys2Proof.Machine
end

