-- ==== Sys2Proof/Laws/Steps.lean ====
section
/-! SUPPORT. Time that passes with nothing being sent, slews that add up, and the few registers whose written bits start a reset,
a removal or the mirror link. -/

namespace Sys2Proof.Machine

/- One proof at a time: many at once, each with its own stack, pass the memory limit of the check. -/
set_option Elab.async false

/-! ### Time -/

/-- Where the increment is in range and the slew's rate is allowed, a slew never takes module time below 0. -/
theorem TimeBase.run_nonneg (T : TimeBase) (hi : incOk T.inc = true) (w : Slew) (h1 : w.done ≤ w.n) (h2 : slewRateOk w.amt w.n = true) (k : Nat) :
    0 ≤ ((T.now + T.inc * k : Nat) : Int) + (slewSum w.amt w.n (w.run k).done - slewSum w.amt w.n w.done) := by
  unfold slewRateOk at h2
  have h2 := of_decide_eq_true h2
  unfold incOk at hi
  rw [Bool.and_eq_true] at hi
  have hi1 := of_decide_eq_true hi.1
  induction k with
  | zero =>
    have : (w.run 0).done = w.done := by unfold Slew.run; simp; omega
    rw [this]; omega
  | succ k ih =>
    have key : slewSum w.amt w.n (w.run k).done - 1759218606 ≤ slewSum w.amt w.n (w.run (k + 1)).done := by
      by_cases hlt : w.done + k < w.n
      · have e1 : (w.run k).done = w.done + k := by unfold Slew.run; simp; omega
        have e2 : (w.run (k + 1)).done = w.done + k + 1 := by unfold Slew.run; simp; omega
        rw [e1, e2]
        unfold slewSum
        have hn : (0 : Int) < (w.n : Int) := by omega
        have x1 := Int.ediv_mul_le (((w.done + k : Nat) : Int) * w.amt * 2 ^ 24) (by omega : (w.n : Int) ≠ 0)
        have e3 : ((w.done + k + 1 : Nat) : Int) * w.amt * 2 ^ 24 = ((w.done + k : Nat) : Int) * w.amt * 2 ^ 24 + w.amt * 2 ^ 24 := by
          rw [show ((w.done + k + 1 : Nat) : Int) = ((w.done + k : Nat) : Int) + 1 from by omega, Int.add_mul, Int.add_mul, Int.one_mul]
        rw [e3, Int.le_ediv_iff_mul_le hn, Int.sub_mul]
        have x2 : -(1759218606 * (w.n : Int)) ≤ w.amt * 2 ^ 24 := by omega
        omega
      · have e1 : (w.run k).done = w.n := by unfold Slew.run; simp; omega
        have e2 : (w.run (k + 1)).done = w.n := by unfold Slew.run; simp; omega
        rw [e1, e2]; omega
    rw [show T.inc * (k + 1) = T.inc * k + T.inc from Nat.mul_succ _ _]
    omega

theorem TimeBase.run_add (T : TimeBase) (hi : incOk T.inc = true) (hw : ∀ w, T.slew = some w → w.done ≤ w.n ∧ slewRateOk w.amt w.n = true) (k : Nat) :
    (T.run k).run 1 = T.run (k + 1) := by
  obtain ⟨now, inc, incNext, slew, l, st, sn, tsf⟩ := T
  cases slew with
  | none =>
    simp only [TimeBase.run]
    rw [Nat.mul_add, Nat.mul_one, Nat.add_assoc]
  | some w =>
    obtain ⟨h1, h2⟩ := hw w rfl
    have hk := TimeBase.run_nonneg ⟨now, inc, incNext, some w, l, st, sn, tsf⟩ hi w h1 h2 k
    have hk1 := TimeBase.run_nonneg ⟨now, inc, incNext, some w, l, st, sn, tsf⟩ hi w h1 h2 (k + 1)
    have hr : (w.run k).run 1 = w.run (k + 1) := by
      unfold Slew.run; simp; omega
    have ha : (w.run k).amt = w.amt := rfl
    have hn : (w.run k).n = w.n := rfl
    simp only [TimeBase.run, hr, ha, hn]
    have e : inc * (k + 1) = inc * k + inc := Nat.mul_succ _ _
    dsimp only at hk hk1
    rw [e] at hk1 ⊢
    have : ((((((now + inc * k : Nat) : Int) + (slewSum w.amt w.n (w.run k).done - slewSum w.amt w.n w.done)).toNat + inc * 1 : Nat) : Int) +
      (slewSum w.amt w.n (w.run (k + 1)).done - slewSum w.amt w.n (w.run k).done)).toNat =
      (((now + (inc * k + inc) : Nat) : Int) + (slewSum w.amt w.n (w.run (k + 1)).done - slewSum w.amt w.n w.done)).toNat := by omega
    rw [this]

theorem TimeBase.run_zero (T : TimeBase) (hw : ∀ w, T.slew = some w → w.done ≤ w.n) : T.run 0 = T := by
  obtain ⟨now, inc, incNext, slew, l, st, sn, tsf⟩ := T
  cases slew with
  | none => simp [TimeBase.run]
  | some w =>
    have := hw w rfl
    have : w.run 0 = w := by unfold Slew.run; cases w; simp at *; omega
    simp [TimeBase.run, this]

/-- A tick in which nothing is being sent and no record waits for the ring. -/
theorem State.advance_one (x : State) (h : x.sending = []) (hr : ringWaiting x.tin = 0) :
    x.advance 1 = { x with clk := x.clk + 1, time := if x.domainOn 2 then x.time.run 1 else x.time } := by
  have e0 : State.sending { x with clk := x.clk + 1, time := if x.domainOn 2 then x.time.run 1 else x.time } = [] := h
  simp only [State.advance, e0, State.settleTx, hr, State.drainRing]

/-! ### Commands and messages -/

theorem State.startable_jget {s : State} {tag op : Nat} {e : JEntry} (h : s.startable tag op = some e) : s.jget tag = some e := by
  unfold State.startable at h
  cases hj : s.jget tag with
  | none => rw [hj] at h; cases h
  | some d =>
    rw [hj] at h; dsimp only at h
    exact (Option.ite_none_right_eq_some.mp h).2

theorem State.outbox_markPartner (y : State) (a b : Nat) (e : JEntry) (o : Output) (h : o ∈ y.outbox) : o ∈ (y.markPartner a b e).outbox := by
  unfold State.markPartner State.sendMir
  split
  · split
    · exact List.mem_cons_of_mem _ (List.mem_cons_of_mem _ h)
    · exact h
  · exact h

/-! ### Written bits -/


theorem missing_RESET_CTRL (u : State) : u.missingBits Row.GEN_RESET_CTRL 0 = 0 := by
  unfold State.missingBits; dsimp only
  rw [if_neg (by decide), if_neg (by decide), if_neg (by decide), if_neg (by decide), if_neg (by decide), if_neg (by decide), if_neg (by decide), if_neg (by decide), if_neg (by decide)]

theorem missing_HOTPLUG (u : State) : u.missingBits Row.GEN_HOTPLUG 0 = 0 := by
  unfold State.missingBits; dsimp only
  rw [if_neg (by decide), if_neg (by decide), if_neg (by decide), if_neg (by decide), if_neg (by decide), if_neg (by decide), if_neg (by decide), if_neg (by decide), if_neg (by decide)]

theorem pulsed_RESET_CTRL (u : State) (v : Word) : u.pulsed Reg.GEN_RESET_CTRL v 0xFFFFFFFF = v &&& 7 := by
  unfold State.pulsed; rw [findReg_GEN_RESET_CTRL]; dsimp only
  unfold State.reach
  rw [show u.dueFirst.ignored Row.GEN_RESET_CTRL 0 = false from rfl, if_neg (by decide), missing_RESET_CTRL, show fixedBits Row.GEN_RESET_CTRL 0 = 0 from by unfold fixedBits; rw [if_neg (by decide)],
    show Row.GEN_RESET_CTRL.bits = 0xFF07#32 from by decide, show Row.GEN_RESET_CTRL.w1s = 7 from by decide]
  rw [BitVec.and_assoc]; rfl

theorem pulsed_HOTPLUG (u : State) : u.pulsed Reg.GEN_HOTPLUG 0x100 0xFF00 = 0x100 := by
  unfold State.pulsed; rw [findReg_GEN_HOTPLUG]; dsimp only
  unfold State.reach
  rw [show u.dueFirst.ignored Row.GEN_HOTPLUG 0 = false from rfl, if_neg (by decide), missing_HOTPLUG, show fixedBits Row.GEN_HOTPLUG 0 = 0 from by unfold fixedBits; rw [if_neg (by decide)],
    show Row.GEN_HOTPLUG.bits = 0xFF011F#32 from by decide, show Row.GEN_HOTPLUG.w1s = 0x100 from by decide]
  rfl

theorem missing_MIR_CFG (u : State) : u.missingBits Row.MIR_CFG 0 = 0 := by
  unfold State.missingBits; dsimp only
  rw [if_neg (by decide), if_neg (by decide), if_neg (by decide), if_neg (by decide), if_neg (by decide), if_neg (by decide), if_neg (by decide), if_neg (by decide), if_neg (by decide)]

theorem reach_MIR_CFG (u : State) (m : Word) : u.reach Row.MIR_CFG 0 m &&& Fld.MIR_CFG_PREFERENCE.mask = m &&& 0xF0 := by
  unfold State.reach
  rw [show u.ignored Row.MIR_CFG 0 = false from rfl, if_neg (by decide), missing_MIR_CFG, show fixedBits Row.MIR_CFG 0 = 0 from by unfold fixedBits; rw [if_neg (by decide)],
    show Fld.MIR_CFG_PREFERENCE.mask = 0xF0#32 from by decide, show Row.MIR_CFG.bits = 0xF31F1#32 from by decide,
    show ~~~(0 : Word) = 0xFFFFFFFF#32 from by decide, BitVec.and_assoc, BitVec.and_assoc, BitVec.and_assoc]
  rfl

theorem pairEffect_MIR_CFG (s : State) (old hit pulse : Word) : s.pairEffect Row.MIR_CFG 0 old hit pulse =
    (if s.flag Fld.MIR_CFG_ENABLE && !(Fld.MIR_CFG_ENABLE.of old != 0) then (if hit &&& Fld.MIR_CFG_PREFERENCE.mask = 0 then s else s.prefWritten).mirEnable
      else if (Fld.MIR_CFG_ENABLE.of old != 0) && !s.flag Fld.MIR_CFG_ENABLE then (if hit &&& Fld.MIR_CFG_PREFERENCE.mask = 0 then s else s.prefWritten).mirDisable
      else (if hit &&& Fld.MIR_CFG_PREFERENCE.mask = 0 then s else s.prefWritten)) := by
  unfold State.pairEffect; dsimp only; rw [if_pos (by rfl)]

/-! ### A step of module time -/

theorem State.swapStep_frame (s : State) (n : Nat) : (s.swapStep n).time = s.time ∧
    ∀ off, (∀ k, off ≠ Reg.PHS_SWAP_STATUS k) → (s.swapStep n).reg off = s.reg off := by
  unfold State.swapStep
  by_cases h : n < 64 ∧ s.swapping n = true
  · rw [if_pos h]; unfold State.swapFail
    refine ⟨by simp, fun off ho => ?_⟩
    rw [State.reg_setF_ne _ _ _ _ (ho n), State.reg_setF_ne _ _ _ _ (ho n)]
  · rw [if_neg h]; exact ⟨rfl, fun _ _ => rfl⟩

/-- What the lines do at a step leaves module time alone, and every register but the swaps' status. -/
theorem State.lanStep_frame (s : State) (was : Nat) : (s.lanStep was).time = s.time ∧
    ∀ off, (∀ k, off ≠ Reg.PHS_SWAP_STATUS k) → (s.lanStep was).reg off = s.reg off := by
  have step : ∀ (ns : List Nat) (x : State),
      (ns.foldl (fun (s : State) n => (s.setLant n (if s.lineLive n then s.lineStep n was else { s.lant n with asyms := [] })).swapStep n) x).time = x.time ∧
      ∀ off, (∀ k, off ≠ Reg.PHS_SWAP_STATUS k) →
        (ns.foldl (fun (s : State) n => (s.setLant n (if s.lineLive n then s.lineStep n was else { s.lant n with asyms := [] })).swapStep n) x).reg off = x.reg off := by
    intro ns
    induction ns with
    | nil => intro x; exact ⟨rfl, fun _ _ => rfl⟩
    | cons n l ih =>
      intro x
      rw [List.foldl_cons]
      obtain ⟨a, b⟩ := ih ((x.setLant n (if x.lineLive n then x.lineStep n was else { x.lant n with asyms := [] })).swapStep n)
      obtain ⟨c, d⟩ := State.swapStep_frame (x.setLant n (if x.lineLive n then x.lineStep n was else { x.lant n with asyms := [] })) n
      exact ⟨a.trans c, fun off ho => (b off ho).trans (d off ho)⟩
  unfold State.lanStep
  exact step _ s

end Sys2Proof.Machine
end

