-- ==== Sys2Proof/Tests/Slice0.lean ====
section
/-! SUPPORT. Tests of the model, each about one step or one function on a small state: ill-formed commands are refused by `Instr.wf`,
commands do what the spec says on chosen values, and every statement that has hypotheses has a state and operands that meet
them, clause by clause (`test_meets_<statement>`). Unless a state must be another, it is one that 1 tick has brought (`u = s.advance 1`). -/

open Sys2Proof Sys2Proof.Machine

namespace Sys2Proof.Tests

set_option Elab.async false

/-! ### States -/

/-- A P-384 public key, and a signature by its private key over the bytes of `bytes0 0x1FFF` before it: r, then s. -/
def key0 : Nat × Nat :=
  (0xb751e90e65799664303398e25c38b5c7a0f404b0c616a83efc6abbcd6cc3020d153d2f8bbab447b98b7de68538e94a81,
   0xc29c5340b31621b18da0be8a9f356df319ce33bb782f1559d7bcdedc9118e950636fb5eb4d635758bcbce2c7c83191d)

def sig0 : List Byte :=
  (toLe 48 0x7ae9e1db1160794c70c1ef071be5191f6c66240f4608fbe8a44ecd36c3ed5db97500f2e4d84e3fb45850fd6f4303302b).reverse ++
    (toLe 48 0xdf9034f590132d12549e4c3e395f660dea23b2306033fe3b8ec4f5254489c7e1cea47adfc2bdd1802bf439940d606d88).reverse

/-- The bytes of an image (R64) of nine sections of four zero bytes, one of each type from 1 to 9, with a domain plan: version 7, rollback 63. -/
def bytes0 (plan : Nat) : List Byte :=
  toLe 4 0x4C504C53 ++ toLe 2 1 ++ [0x42, 1] ++ toLe 4 7 ++ [63, 0] ++ toLe 2 9 ++ toLe 4 532 ++ toLe 2 plan ++ List.replicate 234 0
    ++ (List.range 9).flatMap (fun k => toLe 4 (k + 1) ++ toLe 4 (400 + 4 * k) ++ toLe 4 4 ++ toLe 4 (crc32c 0xFFFFFFFF [0, 0, 0, 0]))
    ++ List.replicate 36 0 ++ sig0

/-- An image that verifies: required sections 1 to 9, ports 0 (25G, single lane) and 63, inputs 0 (EDGE) and 15, outputs 0 (CLOCK) and 7. -/
def img0 : Image where
  bytes := bytes0 0x1FFF
  readable := true
  speeds := [(0, 1), (63, 1)]
  graphs := [0, 0, 0, 0]
  partition := ⟨10, 8, [64, 64, 64, 64, 64, 64, 64, 64, 64, 64, 64, 64], [1, 1, 1, 1, 1, 1]⟩
  fourQueue := []
  tin := [(0, 1), (15, 2)]
  tout := [(0, 1), (7, 1)]
  slots := List.range 24
  pairConfig := 1
  laneSel := 0
  defaults := []
  keyRecord := []

/-- A module that runs `img0`, every domain on, at stage 5, 16 s after it came up. -/
def live : State :=
  let s := (State.reset.setF Fld.PWR_DOMAIN_ON_ON 0x1FFF).setF Fld.GEN_BOOT_STATUS_STAGE 5
  let s := ((s.fixGroup img0 0).fixGroup img0 3).fixModule img0
  { s with clk := 10000000000, img := { s.img with active := some img0, keys := [(1, .active key0.1 key0.2)] }, time := { s.time with now := 2 ^ 80 } }

/-- A journal entry received on ring 0: an opcode, and operands as (byte, value). -/
def ent (op : Nat) (fs : List (Nat × Nat)) : JEntry :=
  ⟨0, 0, BitVec.ofNat 512 (op + (fs.map (fun x => x.2 * 256 ^ x.1)).sum), [], .received, false, false, ⟨0, 0, 0, 0⟩⟩

/-- A state with a command under tag 511. -/
def has (s : State) (op : Nat) (fs : List (Nat × Nat)) : State := s.jput 511 (some (ent op fs))

/-- One tick later. -/
def tick (s : State) : State := s.advance 1

/-- A frame of 64 bytes, whose contents are some bytes. -/
def data0 : List Byte := withFcs ((List.range 60).map (BitVec.ofNat 8))

/-- A frame of class 0 from port 63 admitted to a port's queue. -/
def queued (s : State) (p : Nat) : State :=
  (s.admitFrame ⟨63, 0, data0, crc32c 0xFFFFFFFF data0, 0, 0, false, none, 0, [⟨p, {}, false, 0, 0, 64⟩], []⟩).2

/-- DMA allowed: Bus Master Enable and RUN set. -/
def dma (s : State) : State := { s.setFlag Fld.HIF_CTRL_RUN true with hif := { s.hif with busMaster := true } }

/-- A transaction open, number 1. -/
def opened (s : State) : State := (s.setOpen (some { id := 1 })).setTxnState 1

/-- Where nothing is being sent, no slew runs and no timing record waits for its ring, a state is itself after no tick: it is `s.advance 0` of itself, so that any such state
can be the `u` of a statement. -/
theorem test_no_time_passes (x : State) (h : x.sending = []) (h1 : x.time.slew = none) (h2 : ringWaiting x.tin = 0) : x.advance 0 = x := by
  have e : (if x.domainOn 2 then x.time.run 0 else x.time) = x.time := by
    split
    · exact TimeBase.run_zero _ (by simp [h1])
    · rfl
  have e0 : State.sending { x with clk := x.clk + 0, time := x.time } = [] := h
  simp only [State.advance, e, e0, State.settleTx, h2]; rfl

/-- Group 3 restructures. -/
def inRestr (s : State) (x : Restructure) : State := { s with img := { s.img with restr := [(3, some x)] } }

/-- The open transaction is being committed: at an instant (0: at once), from a state of TXN_STATUS on. -/
def committing (s : State) (st at96 instant : Nat) : State :=
  ((s.setOpen (some { id := 1 })).setTxnState st).setCommit (some ⟨some 511, at96, 0, 0, false, false, 1, instant, false, false, false⟩)

/-- Port 63 runs its link. -/
def runs : State := live.setFlag (Fld.PRT_CFG_ENABLE 63) true

/-- Port 63 is up. -/
def up63 : State := runs.setFlag (Fld.PRT_LINK_STATUS_UP 63) true

/-- Put a table's entries. -/
def withEntries (s : State) (t : Nat) (l : List Placed) : State := s.setTable t { s.table t with entries := l }

/-- An entry of an index, in a slot. -/
def at_ (index : Nat) (p : Payload) : Placed := ⟨⟨index, 0, p, 3, true, false, false, 0⟩, .slot index⟩

theorem test_meets_StepRunsFrontCommand :
    ({ live with pending := [.coldStart 0] } : State).pending = .coldStart 0 :: [] := rfl

theorem test_meets_AnIdleBlockOnlyCountsTimeAndSlewsInFull :
    let s : State := { live with time := { live.time with slew := some ⟨-104857, 1000, 0⟩ }, rawHeld := (live.rawScore, 0) }
    s.pending = [] ∧ s.sending = [] ∧ ringWaiting s.tin = 0 ∧ s.rawScore = s.rawHeld.1 ∧ incOk s.time.inc = true ∧ slewRateOk (-104857) 1000 = true ∧ slewRateOk 104858 1000 = false ∧
      s.domainOn 2 = true ∧ (live.time.slew = none ∧ live.pending = [] ∧ live.sending = [] ∧ live.domainOn 2 = true ∧ incOk live.time.inc = true) := by
  decide +kernel

theorem test_meets_StepKeepsQueueOrderStrapAndGrade :
    ({ live with pending := [.linkUp 0 63, .restructureLanesReady 0 3] } : State).queueOk = true := by decide

theorem test_meets_CommandBeginsOnlyWhenItsTurnHasCome :
    (live.jput 511 (some (ent 0xF0 []))).startable 511 0xF0 = some (ent 0xF0 []) ∧
      ((live.jput 511 (some (ent 0xF0 []))).jput 0 (some { ent 0xF0 [] with seq := 1 })).startable 0 0xF0 = none := by
  decide +kernel

theorem test_meets_EndOfCommandPreparesOneCompletion : (has live 0xF0 []).jget 511 = some (ent 0xF0 []) ∧ live.mirrors = false := by
  decide +kernel

theorem test_meets_RejectedCommandIsCountedAndCompletesMalformed : (has live 0x99 []).jget 511 = some (ent 0x99 []) ∧ live.domainOn 4 = true := by
  decide +kernel

theorem test_meets_RegisterCommandsComplete :
    let r := tick (has live 0x02 [(16, Reg.GEN_ID)])
    let w := tick (has live 0x01 [(16, Reg.PRT_LINK_CFG 63), (20, 1), (24, 0xFF)])
    let t := tick (opened (has live 0x01 [(4, 1), (16, Reg.PRT_HOLD_CFG 63), (20, 100), (24, 0x7F)]))
    (r.startable 511 0x02 = some (ent 0x02 [(16, Reg.GEN_ID)]) ∧ (findReg Reg.GEN_ID).isSome = true ∧ (ent 0x02 [(16, Reg.GEN_ID)]).stagedRead = false) ∧
    ((w.startable 511 0x01).isSome = true ∧ (ent 0x01 [(16, Reg.PRT_LINK_CFG 63), (20, 1), (24, 0xFF)]).txn = 0 ∧
      w.writeFault true (Reg.PRT_LINK_CFG 63) 1 0xFF = none) ∧
    ((t.startable 511 0x01).isSome = true ∧ t.txn.open_ = some { id := 1 } ∧ t.txnState = 1 ∧ t.stageFault (Reg.PRT_HOLD_CFG 63) 100 0x7F = none) := by
  decide +kernel

/-- A static MAC entry of FID 4095 to port 64. -/
def mac0 : Payload := .mac 0xFFFFFFFFFFFF 4095 64 0 true false false

/-- A module with `mac0` in the copies of the static entries. -/
def withMac : State := (live.insertEntry 0x10 0 visBoth noHandle mac0).s

theorem test_meets_TableCommandsComplete :
    let ins := [(16, 0x10), (18, 12), (32, 0xFFFFFFFFFFFF), (38, 4095), (40, 64)]
    let i := (tick (has live 0x10 ins)).dueFirst
    let v := i.noteHostTable 0x10 none (some mac0)
    let hd := ((i.insertEntry 0x10 0 visBoth noHandle mac0).handle)
    let d := (tick (has withMac 0x11 [(16, 0x10), (20, hd)])).dueFirst
    let l := tick (has withMac 0x12 [(16, 0x11), (18, 8), (32, 0xFFFFFFFFFFFF), (38, 4095)])
    let x := tick (has live 0x12 [(16, 0x31), (18, 16)])
    let r := tick (has withMac 0x13 [(16, 0x10), (20, hd)])
    let z := r.setTable 0 { r.table 0 with badMap := [hd % 2 ^ 20] }
    (i.startable 511 0x10 = some (ent 0x10 ins) ∧ (ent 0x10 ins).txn = 0 ∧ insertLen 0x10 ≠ 0 ∧ lengthOk (ent 0x10 ins) 12 = true ∧
      (match parseInsert i.now16 0x10 ((ent 0x10 ins).data 12) with | .ok p => decide (p = mac0) | .error _ => false) = true ∧
      v.insertFault 0 0 noHandle mac0 = none ∧ (v.asksOwner && (noHandle == noHandle || (v.byHandle 0x10 noHandle).isSome)) = false ∧ (v.insertEntry 0x10 0 visBoth noHandle mac0).status = 0) ∧
    ((d.startable 511 0x11).isSome = true ∧ hd ≠ noHandle ∧ (ent 0x11 [(16, 0x10), (20, hd)]).op 20 4 = hd ∧
      lengthOk (ent 0x11 [(16, 0x10), (20, hd)]) 0 = true ∧
      (((d.noteHostTable 0x10 (some (hd % 2 ^ 24)) none).deleteTarget 0x10 hd none).any (fun q => decide (d.refCount 0 q.entry.index = 0))) = true) ∧
    ((l.startable 511 0x12).isSome = true ∧ tableOf 0x11 = some 0 ∧ lookupLen 0x11 = 8 ∧
      (match l.lookupKey 0x11 0 ((ent 0x12 [(16, 0x11), (18, 8), (32, 0xFFFFFFFFFFFF), (38, 4095)]).data 8) with
        | .ok q => q.isSome | .error _ => false) = true) ∧
    ((x.startable 511 0x12).isSome = true ∧ lookupLen 0x31 = 16 ∧ lengthOk (ent 0x12 [(16, 0x31), (18, 16)]) 16 = true) ∧
    ((z.startable 511 0x13).isSome = true ∧ (z.byHandle 0x10 hd).any (fun q => z.mapBad 0 q.entry.index) = true) ∧
    ((r.startable 511 0x13).isSome = true ∧ tableOf 0x10 = some 0 ∧ (r.byHandle 0x10 hd).any (fun q => !r.mapBad 0 q.entry.index) = true) := by
  decide +kernel

theorem test_meets_TransactionCommandsComplete :
    let b := tick (has live 0x20 [])
    let r := tick (opened (has live 0x22 [(4, 1)]))
    let c := tick (opened (has live 0x21 [(4, 1)]))
    let v := ((((c.unhold 511).begin 511).setCommit (some ⟨some 511, 0, c.clk, c.clk, false, false, 0, 0, false, false, false⟩)).setTxnState 2).showAt 0
    ((b.startable 511 0x20).isSome = true ∧ b.txn.open_ = none) ∧
    ((r.startable 511 0x22).isSome = true ∧ r.txn.open_ = some { id := 1 } ∧ (ent 0x22 [(4, 1)]).txn = 1 ∧ r.txnState = 1 ∧ r.txn.commit = none) ∧
    ((c.startable 511 0x21).isSome = true ∧ c.heldTurn 511 = true ∧ c.hif.supplyHeld = [] ∧ c.txn.open_ = some { id := 1 } ∧ c.txnState = 1 ∧
      (ent 0x21 [(4, 1)]).op 16 12 = 0 ∧ v.commitFault { id := 1 } c.now16 = none ∧ v.olderFrames = 0 ∧ v.pairState ≠ 1 ∧ v.inService = false) := by
  decide +kernel

/-- Ring 3 with a command to fetch. -/
def ring3 (s : State) : State :=
  let s := (s.setFlag (Fld.HIF_SQ_CFG_ENABLE 3) true).setF (Fld.HIF_SQ_TAIL_TAIL 3) 1
  { s with hif := { s.hif with rrRing := 2 } }

theorem test_meets_FetchRecordsTheCommandUnderAFreeTag :
    let u := tick (ring3 (dma live))
    u.dmaOk = true ∧ u.rst.ejectAt = none ∧ u.tagsInFlight < 512 ∧ u.releasePending = false ∧ u.nextRing = some 3 ∧
      freeTag (fun t => (u.jget t).isSome) 511 512 = some 511 ∧ formatFault ⟨3, u.hif.fetchSeq, 0x20, [], .received, false, false, ⟨0, 0, 0, 0⟩⟩ = none := by
  decide +kernel

theorem test_meets_ServiceCommandsComplete :
    let im (t : Nat) := (tick (dma (has live 0x30 [(16, 532), (20, t)]))).dueFirst
    let c := tick (has live 0x40 [(16, 6), (18, 2)])
    let o := tick (has live 0x41 [(16, 0xFF)])
    let t := tick ((has live 0x42 [(16, 1), (24, 0xFFFF)]).setFlag Fld.TIM_CFG_STEP_EN true)
    let w := tick (queued ((has live 0x42 [(16, 1)]).setFlag Fld.TIM_CFG_STEP_EN true |>.setFlag (Fld.PRT_LINK_STATUS_UP 0) true) 0)
    let w := w.setF Fld.TIM_STATUS_STEP_GEN 1
    let x := tick (((has live 0x50 []).setF Fld.MIR_STATUS_PAIR_STATE 2).setF Fld.MIR_CLAIM_PARTNER 0x10)
    let p := tick (has live 0x60 [(16, 2 ^ 63 + 1), (24, 5), (25, 3), (27, 1)])
    ([0, 1, 2, 3].all (fun k => ((im k).startable 511 0x30).isSome && (im k).heldTurn 511 && decide (((im k).unhold 511).img.write = none) &&
      decide (((im k).unhold 511).verify img0 true = none)) = true ∧ (im 0).rst.controller = false ∧ img0.totalLength = 532 ∧ (im 2).rst.ejectAt = none) ∧
    ((c.startable 511 0x40).isSome = true ∧ calInst 6 2 = some 202 ∧ c.calExists 202 = true ∧ c.calRun 202 = none ∧ c.cal.queue = [] ∧
      c.calUseless 202 false = false ∧ (c.dropDue 202).supplyWarn = false) ∧
    (o.startable 511 0x41).isSome = true ∧
    ((t.startable 511 0x42).isSome = true ∧ t.time.step = none ∧ t.stepFault (ent 0x42 [(16, 1), (24, 0xFFFF)]).stepAmount = none ∧ t.olderGenFrames = 0) ∧
    ((w.startable 511 0x42).isSome = true ∧ w.time.step = none ∧ w.stepFault (ent 0x42 [(16, 1)]).stepAmount = none ∧ w.olderGenFrames ≠ 0) ∧
    ((x.startable 511 0x50).isSome = true ∧ x.inService = true ∧ x.partnerClaim / 16 % 256 ≠ 0 ∧ x.mir.exch = none) ∧
    ((p.startable 511 0x60).isSome = true ∧ ([0, 63].all (fun l => p.domainOn (portDomain l) && p.prbsAllowed l)) = true) ∧
    ((tick (has live 0xF0 [])).startable 511 0xF0).isSome = true := by
  decide +kernel

theorem test_meets_HostWritesReachTheirRegister :
    let p := live.written (Reg.HIF_MSIX_CTRL 7) 0 0xFFFFFFFF
    let m : State := { live with hif := { live.hif with msixEnable := true } }
    let q := (m.setPba 7 true).written (Reg.HIF_MSIX_CTRL 7) 0 0xFFFFFFFF
    live.takesWrite (Reg.HIF_SQ_TAIL 3) (w32 15) 0xFFFFFFFF = true ∧ live.takesWrite Reg.HIF_CPU_TX_TAIL (w32 63) 0xFFFFFFFF = true ∧
    live.takesWrite (Reg.HIF_MSIX_CTRL 7) 0 0xFFFFFFFF = true ∧ p.pba.testBit 7 = false ∧
    ((m.setPba 7 true).takesWrite (Reg.HIF_MSIX_CTRL 7) 0 0xFFFFFFFF = true ∧ q.pba.testBit 7 = true ∧ q.hif.msixEnable = true ∧ q.hif.msixFuncMask = false ∧
      q.flag (Fld.HIF_MSIX_CTRL_MASK 7) = false) ∧
    live.takesWrite Reg.PWR_ENVELOPE 780 (byteMask 15) = true := by
  decide +kernel

theorem test_meets_CompletionsAndErrorsOfTheRings :
    let c := tick ((dma (has live 0xF0 [])).finish 511 0 0 0 |>.setFlag Fld.HIF_CQ_CFG_ENABLE true)
    let f := c.setF Fld.HIF_CQ_HEAD_HEAD 1
    let v : State := { live with hif := { live.hif with msixEnable := true, vecs := [(0, ⟨1, 0⟩)] } }
    (c.hif.doneQ = [511] ∧ c.dmaOk = true ∧ c.flag Fld.HIF_CQ_CFG_ENABLE = true ∧ (c.jget 511).isSome = true ∧ c.cqFull = false) ∧
    (f.hif.doneQ = [511] ∧ f.dmaOk = true ∧ f.cqFull = true) ∧ live.domainOn 4 = true ∧
    ((v.vec 0).count ≠ 0 ∧ (v.vec 0).since + v.f (Fld.HIF_MSIX_MOD_HOLDOFF_US 0) * 625 ≤ v.clk ∧ v.hif.msixFuncMask = false ∧
      (v.setFlag (Fld.HIF_MSIX_CTRL_MASK 0) false).flag (Fld.HIF_MSIX_CTRL_MASK 0) = false ∧ v.hif.msixEnable = true ∧ live.hif.msixEnable = false) := by
  decide +kernel

theorem test_meets_EventsLeaveInOrderOrAreHeld :
    let r : EvtRec := ⟨95, 0, 0, 0, 0⟩
    let q := tick ((dma (live.setFlag Fld.EVT_Q_CFG_ENABLE true)).setF Fld.EVT_Q_CFG_SIZE_LOG2 8)
    let g : State := { q with evt := { q.evt with gen := [r] } }
    let n : State := { live with evt := { live.evt with gen := [r] } }
    let o : State := { q with evt := { q.evt with overflow := some ⟨0, 1, 0, true⟩ } }
    let h : State := { q with evt := { q.evt with held := [(0, r)] } }
    let w : State := { live with evt := { live.evt with windows := [⟨95, 0, live.clk - 625000, 1, 0, 0, r⟩] } }
    (g.evt.gen = [r] ∧ g.evtWritable = true ∧ g.evt.held = [] ∧ 2 ≤ g.evtFree ∧ g.evt.overflow = none) ∧
    (n.evt.gen = [r] ∧ n.evtWritable = false ∧ n.evt.held.length < 256) ∧
    (o.evtWritable = true ∧ o.evt.held = [] ∧ 2 ≤ o.evtFree) ∧ (h.evtWritable = true ∧ 2 ≤ h.evtFree ∧ h.evt.overflow = none) ∧
    ((w.evt.windows.find? (fun w => w.source == 95 && w.scope == 0)).any (fun x => decide (x.since + 625000 ≤ w.clk) && decide (x.gathered ≠ 0)) = true ∧
      w.masked 95 = false) := by
  decide +kernel

theorem test_meets_FunctionResetClearsItsRegistersAndKeepsTheJournal : (tick live).domainOn 4 = true := by decide +kernel

theorem test_meets_ConfigurationBitsAndIdentityRecord : (tick live).domainOn 4 = true ∧ live.hif.unwritten = [] ∧ (0x4A : Nat) ≠ (if live.slotA = true then 0x4A else 0x4B) := by
  decide +kernel

/-- A transmit descriptor of 64 bytes for a port, directed. -/
def desc0 (port : Nat) : BitVec 256 := BitVec.ofNat 256 (64 * 2 ^ 64 + 2 * 2 ^ 80 + port * 2 ^ 96)

theorem test_meets_CpuPortFramesAreTakenAndDelivered :
    let t := tick ((dma (live.setFlag Fld.HIF_CPU_TX_CFG_ENABLE true)).setF Fld.HIF_CPU_TX_TAIL_TAIL 1)
    let x := tick (queued (dma (live.setFlag Fld.HIF_CPU_RX_CFG_ENABLE true)) 64)
    let y := x.setF Fld.HIF_CPU_RX_TAIL_TAIL 1
    let ready (v : State) := (v.choose 64).any (fun z => (v.head 64 z.1).any (fun h => (v.frame h.id).any (fun f => (f.copy 64).any (fun c =>
      v.rxNeed c.editLen == 1 && ((v.unlink f.id 64).readCopy f 64).1.isSome))))
    let posted (v : State) := (v.f Fld.HIF_CPU_RX_TAIL_TAIL + ringSize (v.f Fld.HIF_CPU_RX_CFG_SIZE_LOG2) - v.f Fld.HIF_CPU_RX_HEAD_HEAD) %
      ringSize (v.f Fld.HIF_CPU_RX_CFG_SIZE_LOG2)
    (t.dmaOk = true ∧ t.flag Fld.HIF_CPU_TX_CFG_ENABLE = true ∧ t.noDelivery = false ∧ moreOk [desc0 63] = true ∧
      [desc0 63].all txDescOk = true ∧ data0.length = ([desc0 63].map (fun x => descField x 8 2)).sum ∧
      1 ≤ (t.f Fld.HIF_CPU_TX_TAIL_TAIL + ringSize (t.f Fld.HIF_CPU_TX_CFG_SIZE_LOG2) - t.f Fld.HIF_CPU_TX_HEAD_HEAD) % ringSize (t.f Fld.HIF_CPU_TX_CFG_SIZE_LOG2) ∧
      (descField (desc0 64) 10 1).testBit 1 = true ∧ descField (desc0 64) 12 1 = 64) ∧
    (x.dmaOk = true ∧ x.canSend 64 = true ∧ ready x = true ∧ posted x = 0) ∧ (y.canSend 64 = true ∧ ready y = true ∧ posted y = 1) := by
  decide +kernel

theorem test_meets_FlashAndRestructureStepsComplete :
    let f : State := { live with img := { live.img with write := some ⟨511, 1, img0⟩ } }
    let a := inRestr live ⟨live.clk - 10 * 625000, false, false⟩
    let b := inRestr { live with img := { live.img with active := some { img0 with bytes := bytes0 0x0FFF, speeds := [(0, 1)] } } } ⟨0, true, false⟩
    let c := inRestr (live.setF Fld.PWR_DOMAIN_ON_ON 0x0FFF) ⟨0, true, false⟩
    f.img.write.isSome = true ∧ ((a.restr 3).any (fun x => decide (x.discarded = false) && decide (x.since + 10 * 625000 ≤ a.clk))) = true ∧
    (a.restr 3).any (fun x => !x.loaded) = true ∧ (b.restr 3 = some ⟨0, true, false⟩ ∧ b.domainOn 12 = true ∧ (b.img.active.any (fun i => !i.planOn 12)) = true) ∧
    (c.restr 3 = some ⟨0, true, false⟩ ∧ c.domainOn 12 = false ∧ (c.img.active.any (fun i => i.planOn 12)) = true ∧
      (c.f Fld.GEN_DOMAIN_GIVEN_UP_DOMAINS).testBit 12 = false ∧ c.pwr.oscLost = false) ∧
    ((inRestr live ⟨0, true, true⟩).restr 3).any (fun x => x.loaded) = true := by
  decide +kernel

theorem test_meets_CommitsDrainApplyOrMissTheirInstant :
    let now := live.now16
    let old := (queued (live.setFlag (Fld.PRT_LINK_STATUS_UP 0) true) 0).setReg Reg.TXN_EPOCH 1
    let late (st : Nat) := committing live st (time96 now) now
    let early := committing live tsDrain (time96 (now + 2 ^ 50)) (now + 2 ^ 50)
    let lim := (committing live tsDrain 0 0).setF Fld.TXN_CTRL_DRAIN_LIMIT_MS 1000
    old.olderFrames ≠ 0 ∧
    ([late tsDrain, early].all (fun v => decide (v.olderFrames = 0) && decide (v.settle.txn = v.txn) && decide (v.settle.txnState = tsDrain))) = true ∧
    ((late tsDrain).txn.commit.any ((late tsDrain).settle.tooLate) = true ∧ early.txn.commit.any (fun c => !early.settle.tooLate c) = true) ∧
    (lim.txnState = tsDrain ∧ lim.txn.commit.any (fun c => c.at96 == 0 && decide (lim.f Fld.TXN_CTRL_DRAIN_LIMIT_MS ≤ lim.msSince c.drainSince)) = true ∧
      lim.f Fld.TXN_CTRL_DRAIN_LIMIT_MS ≠ 0) ∧
    ([tsValidating, tsDrain, tsPrepare].all (fun st => (late st).txn.commit.any (late st).tooLate && decide ((late st).txnState = st))) = true ∧
    ((late tsWait).txn.remote = none ∧ (late tsWait).txnState = tsWait ∧ (late tsWait).txn.commit.any (fun c => c.due now) = true ∧
      (committing live tsWait (time96 (now + 1)) (now + 1)).txn.commit.any (fun c => !c.due now) = true) := by
  decide +kernel

theorem test_meets_WaitingTimeStepIsMadeOrRefused :
    let w (m : Bool) : State := (has live 0x42 [(16, 1)]).setStep (some ⟨511, m, true⟩)
    let en (s : State) : State := s.setFlag Fld.TIM_CFG_STEP_EN true
    let old := (queued ((w false).setFlag (Fld.PRT_LINK_STATUS_UP 0) true) 0).setF Fld.TIM_STATUS_STEP_GEN 1
    ((w true).time.step = some ⟨511, true, true⟩ ∧ ((w true).jget 511).isSome = true) ∧
    (old.time.step = some ⟨511, false, true⟩ ∧ old.olderGenFrames ≠ 0) ∧
    ((w false).olderGenFrames = 0 ∧ (w false).stepFault (ent 0x42 [(16, 1)]).stepAmount = some (5, 0)) ∧
    ((en (w false)).olderGenFrames = 0 ∧ (en (w false)).stepFault (ent 0x42 [(16, 1)]).stepAmount = none) ∧ live.time.step = none ∧
    (committing live tsDrain 1 0).txn.commit.any (fun c => c.tag == some 511 && c.at96 != 0) = true := by
  decide +kernel

theorem test_meets_LaneAndPortWritesTakeEffect :
    let fir := Reg.LAN_TX_FIR 63
    let cfg := Reg.LAN_PRBS_CFG 63
    let off := Reg.PRT_CFG 63
    let w0 := live.reg cfg
    let sgl := (Fld.LAN_PRBS_CFG_INJ_SINGLE 63).into w0 1
    let bst := (Fld.LAN_PRBS_CFG_INJ_BURST 63).into w0 1
    live.takesWrite fir (live.reg fir) (byteMask 15) = true ∧
    (live.takesWrite cfg w0 (byteMask 15) = true ∧ (Fld.LAN_PRBS_CFG_INJ_SINGLE 63).of (live.pulsed cfg w0 (byteMask 15)) = 0 ∧
      (Fld.LAN_PRBS_CFG_INJ_BURST 63).of (live.pulsed cfg w0 (byteMask 15)) = 0) ∧
    (live.takesWrite cfg sgl (byteMask 15) = true ∧ (Fld.LAN_PRBS_CFG_INJ_SINGLE 63).of (live.pulsed cfg sgl (byteMask 15)) ≠ 0 ∧
      (Fld.LAN_PRBS_CFG_INJ_BURST 63).of (live.pulsed cfg sgl (byteMask 15)) = 0) ∧
    (live.takesWrite cfg bst (byteMask 15) = true ∧ (Fld.LAN_PRBS_CFG_INJ_BURST 63).of (live.pulsed cfg bst (byteMask 15)) ≠ 0 ∧
      (Fld.LAN_PRBS_CFG_INJ_SINGLE 63).of (live.pulsed cfg bst (byteMask 15)) = 0) ∧
    live.takesWrite off ((Fld.PRT_CFG_ENABLE 63).into 0 1) ((Fld.PRT_CFG_ENABLE 63).select 0) = true ∧
    live.takesWrite off ((Fld.PRT_CFG_ENABLE 63).into 0 0) ((Fld.PRT_CFG_ENABLE 63).select 0) = true ∧
    live.takesWrite off ((Fld.PRT_CFG_FEC 63).into 0 0) ((Fld.PRT_CFG_FEC 63).select 0) = true := by
  decide +kernel

theorem test_meets_AdaptationAndSignalOfALane :
    let a := runs.setFlag (Fld.LAN_RX_STATUS_SIGNAL 63) true
    let w (s : State) (l : Nat) (on : Bool) := let w := (s.setFlag (Fld.LAN_RX_STATUS_SIGNAL l) on).readapt l
      if on = true then w else (w.setFlag (Fld.LAN_RX_STATUS_CDR_LOCK l) false).refLane l
    let p (l : Nat) := live.setF (Fld.LAN_PRBS_CFG_CHECK l) 1
    (a.receiverOn 63 = true ∧ a.flag (Fld.LAN_RX_STATUS_SIGNAL 63) = true ∧ a.flag (Fld.LAN_RX_STATUS_ADAPT_DONE 63) = false ∧
      (List.range 8).all (fun k => decide (a.f (Fld.REF_SLOT_CFG_LANE k) ≠ 63)) = true) ∧
    ((p 1).receiverOn 1 = true ∧ (w (p 1) 1 true).portOfLane 1 = none) ∧
    ((w runs 63 false).portOfLane 63 = some 63 ∧ (w runs 63 false).linkRuns 63 = true ∧ (w runs 63 true).linkRuns 63 = true ∧ (w runs 63 true).allSignal 63 = true) ∧
    live.receiverOn 63 = false := by
  decide +kernel

theorem test_meets_LinksGoDownAndComeUpByTheirConditions :
    let lk (s : State) (n : Nat) (l : Link) : State := s.setLink n l
    let d := lk up63 63 { faults := [(5, up63.clk - up63.f (Fld.PRT_LINK_CFG_DOWN_DEBOUNCE_US 63) * 625)] }
    let held (u : State) := ((u.link 63).faults.filter (fun f => u.passed f.2 (u.f (Fld.PRT_LINK_CFG_DOWN_DEBOUNCE_US 63)) 625)).map (·.1)
    let c := ((runs.setFlag (Fld.LAN_RX_STATUS_SIGNAL 63) true).setFlag (Fld.PRT_LINK_STATUS_BLOCK_LOCK 63) true).setFlag (Fld.PRT_LINK_STATUS_AN_DONE 63) true
    let c := lk c 63 { upSince := some (c.clk - c.f (Fld.PRT_LINK_STATUS_UP_WAIT_MS 63) * 625000) }
    let f := lk up63 63 { upAt := some 0, flaps := 1 }
    let f : State := { f with clk := 60 * 625000000 }
    let m := (((live.setF (Fld.PRT_CFG_SPEED 60) 4).setFlag (Fld.PRT_CFG_ENABLE 60) true).setFlag (Fld.PRT_LINK_STATUS_AM_LOCK 60) true)
    let a := runs.setFlag (Fld.PRT_CFG_AN_EN 63) true
    let r := lk runs 63 { deskewRetry := some (runs.clk - 10 * 625000) }
    (d.linkRuns 63 = true ∧ d.portUp 63 = true ∧ held d = [5]) ∧ (up63.linkRuns 63 = true ∧ held up63 = []) ∧
    (c.linkRuns 63 = true ∧ (c.link 63).upSince.any (fun t => decide (t + c.f (Fld.PRT_LINK_STATUS_UP_WAIT_MS 63) * 625000 ≤ c.clk)) = true ∧
      c.upConditions 63 = true ∧ c.portUp 63 = false) ∧
    (f.linkRuns 63 = true ∧ (f.link 63).upAt = some 0 ∧ f.portUp 63 = true ∧ (f.link 63).flaps ≠ 0 ∧ 0 + 60 * 625000000 ≤ f.clk) ∧
    (m.linkRuns 60 = true ∧ m.multiLane 60 = true ∧ m.flag (Fld.PRT_LINK_STATUS_AM_LOCK 60) = true) ∧
    (a.linkRuns 63 = true ∧ a.speed 63 = 1 ∧ a.flag (Fld.PRT_CFG_AN_EN 63) = true ∧ a.portUp 63 = false) ∧
    (r.linkRuns 63 = true ∧ (r.link 63).deskewRetry.any (fun t => decide (t + 10 * 625000 ≤ r.clk)) = true) := by
  decide +kernel

theorem test_meets_LinkConditionsAndTestPatternsAreRecorded :
    let c := live.setFlag (Fld.LAN_PRBS_CFG_CHECK 63) true
    let l := c.setFlag (Fld.LAN_PRBS_STATUS_LOCK 63) true
    let z := l.setLane 63 { prbsSince := c.clk - 625000000 }
    ((runs.countBlocks 63 {}).linkRuns 63 = true ∧ (runs.countBlocks 63 {}).speed 63 = 1) ∧ (live.countBlocks 63 {}).linkRuns 63 = false ∧
    (live.setFlag (Fld.LAN_PRBS_CFG_INJ_SINGLE 63) true).flag (Fld.LAN_PRBS_CFG_INJ_SINGLE 63) = true ∧
    (live.setFlag (Fld.LAN_PRBS_CFG_INJ_BURST 63) true).flag (Fld.LAN_PRBS_CFG_INJ_BURST 63) = true ∧
    (c.domainOn (portDomain 63) = true ∧ c.flag (Fld.LAN_PRBS_CFG_CHECK 63) = true ∧ c.flag (Fld.LAN_PRBS_STATUS_LOCK 63) = false) ∧
    (l.domainOn (portDomain 63) = true ∧ l.flag (Fld.LAN_PRBS_CFG_CHECK 63) = true ∧ l.flag (Fld.LAN_PRBS_STATUS_LOCK 63) = true) ∧
    (z.domainOn (portDomain 63) = true ∧ z.flag (Fld.LAN_PRBS_CFG_CHECK 63) = true ∧ (z.lane 63).prbsSince + 625000000 ≤ z.clk ∧
      ((z.prbsCount 63 0 100).lane 63).prbsErr = 0 ∧ ((z.prbsCount 63 0 100).lane 63).prbsLost = false ∧ ((z.prbsCount 63 1 100).lane 63).prbsErr ≠ 0) := by
  decide +kernel

/-- What a frame brings from the wire when nothing is wrong with it; the store holds some bytes. -/
def wire (fill : Nat) : Arrival := ⟨[], false, {}, fill, false, false, false, []⟩

theorem test_meets_FramesAreReceivedOrCountedAsR112Says :
    let w (s : State) (a : Arrival) := (s.upsetTables []).countBlocks 63 a.counts
    let core : State := { up63 with rst := { up63.rst with core := some 0 } }
    let held := up63.setF Fld.MIR_CFG_LANE_SEL_GROUPS 8
    let r := inRestr up63 ⟨0, false, false⟩
    let okTo (s : State) (a : Arrival) := !(w s a).noDelivery && !(w s a).laneWithheld 63 && ((w s a).restr 3).isNone && (w s a).portUp 63
    (live.upsetTables []).portUp 63 = false ∧ (up63.upsetTables []).portUp 63 = true ∧
    (w core (wire 0)).noDelivery = true ∧ ((w held (wire 0)).noDelivery = false ∧ (w held (wire 0)).laneWithheld 63 = true) ∧
    ((w r (wire 0)).noDelivery = false ∧ (w r (wire 0)).laneWithheld 63 = false ∧ ((w r (wire 0)).restr (groupOf 63)).isSome = true) ∧
    (okTo up63 (wire 65473) = true ∧ 65536 < 65473 + data0.length) ∧ (okTo up63 (wire 65472) = true ∧ 65472 + data0.length ≤ 65536) ∧
    (data0.tail.length < 64 ∧ 64 ≤ data0.length ∧ data0.length ≤ 9216 ∧ 9216 < (List.replicate 9217 (0 : Byte)).length) ∧
    (fcsOk data0 = true ∧ fcsOk (0 :: data0) = false) := by
  decide +kernel

/-- A transmission on port 63 of class 1, of 124 bytes, 60 of which have gone. -/
def tx0 : Tx := ⟨0, 1, 1, live.clk - 339, live.clk + 10000, 0, 0, false, List.replicate 124 0, 0⟩

theorem test_meets_SchedulerSendsOrCutsWhatItChose :
    let n (s : State) := (s.upset []).noteWaits 63 [7, 6, 5, 4, 3, 2, 1, 0]
    let w (s : State) := (n s).endVisit 63 (fun j h => (n s).headOpen 63 j h && (n s).fits 63 h.cls h.left)
    let q := queued up63 63
    let bad : State := { q with buf := { q.buf with words := q.buf.words.map (fun e => (e.1, e.2 ^^^ 0xFFFFFFFFFFFFFFFF)) } }
    let c := q.setPort 63 { q.port 63 with cut := [{ tx0 with frame := 0, cls := 0, queue := 0, sentBefore := 60 }] }
    let first (s : State) (p : Head → Bool) := ((w s).choose 63).any (fun z => ((w s).head 63 z.1).any p)
    let read (s : State) := first s (fun h => h.cut.isNone && ((w s).frame h.id).any (fun f => (f.copy 63).isSome && (((w s).unlink f.id 63).readCopy f 63).1.isSome))
    let t := tick ((((queued up63 63).setPort 63 { (queued up63 63).port 63 with tx := some tx0 }).setF (Fld.SCH_PREEMPT_STATUS_VERIFY 63) 2).setF
      (Fld.SCH_PREEMPT_CFG_EXPRESS 63) 1)
    (live.upset []).canSend 63 = false ∧ ((up63.upset []).canSend 63 = true ∧ (w up63).choose 63 = none) ∧
    ((q.upset []).canSend 63 = true ∧ read q = true) ∧ ((bad.upset []).canSend 63 = true ∧ first bad (fun h => h.cut.isNone) = true ∧ read bad = false) ∧
    ((c.upset []).canSend 63 = true ∧ first c (fun h => h.cut.isSome) = true) ∧
    ((t.port 63).tx = some tx0 ∧ t.cutPoint 63 tx0 = some 60 ∧ t.preemptActive 63 = true ∧ tx0.express = false ∧ tx0.sentBefore + 60 + 64 ≤ tx0.data.length) ∧ (live.port 63).tx = none := by
  decide +kernel

theorem test_meets_PauseIsTakenRepeatedAndEnded :
    let rx (s : State) (r : RxPause) : State := s.setRxPause 63 5 r
    let no := up63.setFlag (Fld.PRT_PFC_CFG_RX_EN 63) false
    let x (v told ago : Nat) := (up63.setF (Fld.PRT_PFC_STATUS_TX_XOFF 63) v).setPort 63 { told := told, xoffSent := up63.clk - ago }
    let q := up63.quantaTicks 63 0x8000
    let ready (s : State) := s.portUp 63 && (s.port 63).tx.isNone && !s.flag (Fld.PRT_PFC_STATUS_LLP_ACTIVE 63) && !(s.port 63).toldLlp
    let p := rx (queued up63 63) {}
    let p := p.setRxPause 63 0 { until_ := p.clk + 1, since := some (p.clk - 100 * 625000) }
    let s := rx up63 { storm := some 1, stormLast := up63.clk - 625000000 }
    let h (t : Nat) := up63.setPort 63 { hold := some t }
    (up63.portUp 63 = true ∧ up63.flag (Fld.PRT_PFC_CFG_RX_EN 63) = true ∧ no.portUp 63 = true ∧ no.flag (Fld.PRT_PFC_CFG_RX_EN 63) = false ∧
      ([(5, 65535)].any (fun x => decide (6 ≤ x.1) || (up63.rxPause 63 x.1).storm.isSome)) = false ∧
      ((List.range 6).all (fun k => (up63.rxPause 63 k).storm.isNone)) = true) ∧ live.portUp 63 = false ∧
    ([x 32 0 0, x 32 32 q, x 32 32 0, x 0 0 0].all ready = true ∧ (x 32 0 0).heldXoff 63 ≠ 0 ∧ (x 32 32 q).heldXoff 63 = 32 ∧
      ((x 32 32 q).port 63).xoffSent + q ≤ live.clk ∧ live.clk < ((x 32 32 0).port 63).xoffSent + q ∧ (x 0 0 0).heldXoff 63 = 0) ∧
    ((up63.rxPause 63 5).until_ ≤ up63.clk ∧ (up63.rxPause 63 5).storm = none) ∧ (s.rxPause 63 5).storm.isSome = true ∧
    ((p.rxPause 63 0).since = some (p.clk - 100 * 625000) ∧ p.paused 63 0 = true ∧ p.queueHolds 63 0 = true ∧ p.flag (Fld.PRT_PFC_CFG_RX_EN 63) = true ∧
      (p.clk - 100 * 625000) + 100 * 625000 ≤ p.clk) ∧
    ((s.rxPause 63 5).storm = some 1 ∧ (s.rxPause 63 5).stormLast + 625000000 ≤ s.clk) ∧
    (((h live.clk).port 63).hold = some live.clk ∧ live.clk ≤ (h live.clk).clk ∧ (h live.clk).linkUpAt 63 = none ∧ (h live.clk).clk < live.clk + 1) := by
  decide +kernel

theorem test_meets_LearningScrubbingAndMalformedRate :
    let q (s : State) : State := s.setTable 3 { s.table 3 with learnQ := [(1, 4095, 63)] }
    let own (s : State) := (s.entries 3).find? (fun x => isMac 1 4095 x.entry.payload && x.entry.vis.testBit s.parity)
    let met (s : State) := match own s with | some x => (if x.entry.bad then s.foundBad 3 x 0 else s) | none => s
    let after (s : State) : State := met ((q s).setTable 3 { (q s).table 3 with learnQ := [] })
    let new (w : State) (i : Nat) : Entry := ⟨i, w.genOf 3 i, .mac 1 4095 63 0 false true false, visBoth, false, false, false, (w.table 3).nextOrder⟩
    let learned := withEntries live 3 [at_ 0 (.mac 1 4095 0 0 false false false)]
    let static := withEntries live 3 [at_ 0 (.mac 1 4095 0 0 true false false)]
    let bad := withEntries live 3 [⟨{ (at_ 0 (.mac 1 4095 0 0 false false false)).entry with bad := true }, .slot 0⟩]
    let full := withEntries (live.setF (Fld.TBL_STAT_CAP_SLOTS 3) 0) 3 ((List.range (stashRoom 3)).map (fun k => at_ k (.mac k 0 0 0 true false false)))
    let spell (s : State) := s.setTable 3 { s.table 3 with full := some (1, 1, 1, 1) }
    (live.table 3).learnQ = [] ∧ ([learned, static, bad, live, full].all (fun s => decide (((q s).table 3).learnQ = [(1, 4095, 63)]))) = true ∧
    (own (after learned)).any (fun x => x.entry.payload.isLearned) = true ∧ (own (after static)).any (fun x => !x.entry.payload.isLearned) = true ∧
    (own bad).any (fun x => x.entry.bad) = true ∧
    ([live, bad].all (fun s => let w := after s
      decide (own w = none) && ((w.newIndex 3 0).any (fun i => (w.addEntry 3 (new w i)).isSome)))) = true ∧
    (own (after full) = none ∧ (after full).newIndex 3 0 = none ∧ ((after full).table 3).full = none ∧ ((after (spell full)).table 3).full.isSome = true) := by
  decide +kernel

theorem test_meets_LearningScrubbingAndMalformedRate_units :
    let unit (done : List Nat) : State := { live.setFlag Fld.BUF_SCRUB_CFG_ENABLE true with
      pwr := { live.pwr with started := [⟨1, 63, 0⟩] }
      buf := { live.buf with scrubbed := done } }
    let found (s : State) := (s.upset []).pwr.started.find? (fun x => x.task == 1 && x.unit == 63)
    let seen (s : State) := let t := ((s.upset []).scrubTargets 63).foldl (fun y c => y.scrubCell 1 c false) (s.upset [])
      if t.buf.scrubbed.contains 63 then t.buf.scrubbed else t.buf.scrubbed ++ [63]
    let errs (n : Nat) := live.setReg (Reg.PRT_RX_FCS_ERR 63) (BitVec.ofNat 32 n)
    let count (s : State) (off old : Nat) := ((s.reg off).toNat + 2 ^ 32 - old) % 2 ^ 32
    let bad (s : State) := count s (Reg.PRT_RX_PARSE_ERR 63) (s.port 63).secParse + count s (Reg.PRT_RX_LEN_ERR 63) (s.port 63).secLen +
      count s (Reg.PRT_RX_FCS_ERR 63) (s.port 63).secFcs
    (found (unit []) = some ⟨1, 63, 0⟩ ∧ ((unit []).upset []).flag Fld.BUF_SCRUB_CFG_ENABLE = true ∧ ((unit []).upset []).domainOn 7 = true) ∧
    ((seen (unit [])).length ≠ 64 ∧ (seen (unit (List.range 63))).length = 64) ∧ found live = none ∧
    (live.speed 1 = 0 ∧ live.speed 63 ≠ 0 ∧ live.now16 / unitsPerS ≠ (live.port 63).secMark) ∧
    (100 ≤ bad (errs 100) ∧ count (errs 100) (Reg.PRT_RX_FRAMES 63) ((errs 100).port 63).secFrames < bad (errs 100) * 100 ∧ bad (errs 99) < 100) := by
  decide +kernel

theorem test_meets_TableFlushRunsToItsCount :
    let v := Fld.TBL_FLUSH_CTRL_START.into 0 1
    let m := Fld.TBL_FLUSH_CTRL_START.select 0
    let f : State := { live with tbl := { live.tbl with flush := some (none, some 4095) } }
    (live.takesWrite Reg.TBL_FLUSH_CTRL v m = true ∧ Fld.TBL_FLUSH_CTRL_START.of (live.pulsed Reg.TBL_FLUSH_CTRL v m) ≠ 0) ∧
    f.tbl.flush.isSome = true ∧ live.tbl.flush = none := by
  decide +kernel

theorem test_meets_TableUpkeepUnitsWork :
    let unit (t u : Nat) : State := { live with pwr := { live.pwr with started := [⟨t, u, 0⟩] } }
    let run (s : State) (t u : Nat) := s.pwr.started.find? (fun x => x.task == t && x.unit == u)
    let st := withEntries live 4 [⟨(at_ 0 (.stream 1 2 0 0)).entry, .stash⟩]
    let bad := withEntries live 11 [⟨{ (at_ 63 (.vid 1 0 0 0 0)).entry with bad := true }, .slot 0⟩]
    let map := live.setTable 11 { live.table 11 with badMap := [63] }
    let trie : State := { live with tbl := { live.tbl with badTrie := [(true, 6, 1)] } }
    let able (e : Entry) := e.index == 63 && e.bad && !e.copyBad && e.host
    run live 0 3 = none ∧ (run (unit 0 3) 0 3).isSome = true ∧ run (live.upsetTables []) 2 11 = none ∧
    (run ((unit 2 11).upsetTables []) 2 11).isSome = true ∧ stashCandidate (live.entries 4) (live.bucketLog 4) = none ∧
    (stashCandidate (st.entries 4) (st.bucketLog 4)).isSome = true ∧ (live.entries 11).any (fun q => able q.entry) = false ∧
    (bad.entries 11).any (fun q => able q.entry) = true ∧ (map.table 11).badMap.contains 63 = true ∧ (live.table 11).badMap.contains 63 = false ∧
    trie.tbl.badTrie.contains (true, 6, 1) = true ∧ live.tbl.badTrie.contains (true, 6, 1) = false := by
  decide +kernel

theorem test_meets_SequenceRecoveryTimersRun :
    let f (st : FrerState) : State := withEntries live 5 [at_ 8191 (.frer 7 0 10 100 st)]
    let is (s : State) (p : FrerState → Bool) := (match s.frerOf 8191 with | some (_, _, 10, 100, st) => p st | _ => false)
    is (f { rogueCount := 1, rogueSince := live.clk - 625000000 }) (fun x => decide (x.rogueCount ≠ 0) && decide (x.rogueSince + 625000000 ≤ live.clk)) = true ∧
    is (f { rogueCount := 1, rogueSince := live.clk - 624999999 }) (fun x => decide (live.clk < x.rogueSince + 625000000)) = true ∧
    is (f { msSince := live.clk - 625000, msElim := 11 }) (fun x => decide (x.msSince + 625000 ≤ live.clk) && decide (x.msPassed + 10 < x.msElim) && !x.burst) = true ∧
    is (f { msElim := 10, burst := true }) (fun x => decide (x.msElim ≤ x.msPassed + 10) && x.burst) = true ∧
    is (f { msElim := 10 }) (fun x => decide (decide (x.msPassed + 10 < x.msElim) = x.burst)) = true ∧
    is (f { takeAny := false, lastTick := live.clk - 100 * 625000 }) (fun x => !x.takeAny && decide (x.lastTick + 100 * 625000 ≤ live.clk)) = true ∧
    is (f {}) (fun x => x.takeAny) = true := by
  decide +kernel

theorem test_meets_GateListsAreWrittenAndChanged :
    let off := Reg.SCH_GATE_CTRL 63
    let s := (live.setReg (Reg.SCH_GCL_ENTRY_LO 63) 1).setGate 63 { admin := [(0, (1000, 255, 0))] }
    s.takesWrite (Reg.SCH_GCL_ENTRY_HI 63) 0x2FF (byteMask 15) = true ∧
    s.takesWrite off ((Fld.SCH_GATE_CTRL_CONFIG_CHANGE 63).into 0 1) ((Fld.SCH_GATE_CTRL_CONFIG_CHANGE 63).select 0) = true ∧
    live.takesWrite off ((Fld.SCH_GATE_CTRL_ENABLE 63).into 0 1) ((Fld.SCH_GATE_CTRL_ENABLE 63).select 0) = true ∧
    live.takesWrite off ((Fld.SCH_GATE_CTRL_ENABLE 63).into 0 0) ((Fld.SCH_GATE_CTRL_ENABLE 63).select 0) = true := by
  decide +kernel

theorem test_meets_GatesStartAndVerificationProceeds :
    let g (t : Nat) := live.setGate 63 { pend := some ⟨⟨[(1000, 255, 0)], 1000, 0⟩, t, false⟩ }
    let v (c tries ago : Nat) (failed : Bool) := (live.setF (Fld.SCH_PREEMPT_STATUS_VERIFY 63) c).setPort 63
      { verifyTries := tries, verifyAt := live.clk - ago, verifyFailed := failed }
    let ms := live.f (Fld.SCH_PREEMPT_CFG_VERIFY_MS 63)
    (((g live.now16).gate 63).pend.any (fun p => reached p.start live.now16) = true ∧
      ((g (live.now16 + 1)).gate 63).pend.any (fun p => !reached p.start live.now16) = true) ∧
    ([2, 3].all (fun n => let s := v 1 n (ms * 625000) false; decide (s.f (Fld.SCH_PREEMPT_STATUS_VERIFY 63) = 1) &&
      decide ((s.port 63).verifyAt + s.f (Fld.SCH_PREEMPT_CFG_VERIFY_MS 63) * 625000 ≤ s.clk) && decide ((s.port 63).verifyTries = n))) = true ∧
    ((v 3 3 625000000 true).f (Fld.SCH_PREEMPT_STATUS_VERIFY 63) = 3 ∧ ((v 3 3 625000000 true).port 63).verifyAt + 625000000 ≤ live.clk) ∧
    (v 2 0 0 false).f (Fld.SCH_PREEMPT_STATUS_VERIFY 63) ≠ 1 ∧
    ([true, false].all (fun b => decide ((v 1 1 0 b).f (Fld.SCH_PREEMPT_STATUS_VERIFY 63) = 1) && decide (((v 1 1 0 b).port 63).verifyFailed = b))) = true := by
  decide +kernel

theorem test_meets_TheIncrementAndTheSlewTakeEffect :
    let i : State := { live with time := { live.time with incNext := some 0x1999999999B } }
    let sl (d : Nat) : State := tick { live with time := { live.time with slew := some ⟨-1, 5, d⟩ } }
    let off := Reg.TIM_SLEW_CTRL
    i.time.incNext = some 0x1999999999B ∧ live.time.incNext = none ∧
    live.takesWrite off (Fld.TIM_SLEW_CTRL_START.into 0 1) (Fld.TIM_SLEW_CTRL_START.select 0) = true ∧
    live.takesWrite off (Fld.TIM_SLEW_CTRL_CANCEL.into 0 1) (Fld.TIM_SLEW_CTRL_CANCEL.select 0) = true ∧
    ((sl 4).time.slew = some ⟨-1, 5, 5⟩ ∧ (sl 3).time.slew = some ⟨-1, 5, 4⟩) := by
  decide +kernel

theorem test_meets_SnapshotAndTimestampFifoReads :
    let s : State := { live with time := { live.time with snapReq := true } }
    let f := live.setTsf 63 [⟨1, false, 0, 2⟩]
    let off := live.setF Fld.PWR_DOMAIN_ON_ON 0x1FEF
    s.time.snapReq = true ∧ live.time.snapReq = false ∧
    (live.domainOn 4 = true ∧ live.domainOn 2 = true ∧ live.speed 63 ≠ 0 ∧ live.tsf 63 = []) ∧
    (f.domainOn 4 = true ∧ f.domainOn 2 = true ∧ f.speed 63 ≠ 0 ∧ f.tsf 63 = [⟨1, false, 0, 2⟩]) ∧ off.domainOn 4 = false := by
  decide +kernel

theorem test_meets_LanternEnableAndAsymmetryWrites :
    let s := live.setF (Fld.PRT_CFG_SPEED 63) 2
    let off := Reg.PHS_CFG 63
    s.takesWrite off ((Fld.PHS_CFG_ENABLE 63).into (s.reg off) 1) ((Fld.PHS_CFG_ENABLE 63).select 15) = true ∧
    s.takesWrite off ((Fld.PHS_CFG_ENABLE 63).into 0 0) ((Fld.PHS_CFG_ENABLE 63).select 0) = true ∧
    ([0, 1, 2, 3, 4, 5, 6].all (fun k => s.takesWrite (Reg.PHS_ASYM_CFG 63 + 4 * k) (s.reg (Reg.PHS_ASYM_CFG 63 + 4 * k)) (byteMask 15))) = true := by
  decide +kernel

/-- Port 63 is up and its lantern is in a state. -/
def lantern (st : Nat) : State :=
  ((up63.setF (Fld.PRT_CFG_SPEED 63) 2).setFlag (Fld.PHS_CFG_ENABLE 63) true).setF (Fld.PHS_STATUS_STATE 63) st

theorem test_meets_LanternSetsAreOfferedReceivedAndTimedOut :
    let made (s : State) (m : Nat) := (s.clk - (s.lant m).sendAt) * rateOf (s.lineSpeed m) / offerTicks
    let due (s : State) (m : Nat) := let v := s.lanSkip m
      decide (((v.lant m).offers + 1) * offerTicks ≤ (v.clk - (v.lant m).sendAt) * rateOf (v.lineSpeed m)) && v.lineIdle m
    let l (st : Nat) (x : Lantern) := (lantern st).setLant 63 x
    let d (w : List Nat) := l lsSeek { sendAt := up63.clk - 16384, word := w }
    let e := l lsSeek { sendAt := up63.clk - 16383 }
    let o := l lsSeek { sendAt := up63.clk - 3 * 16384 }
    let m (ago : Nat) := ((live.setFlag Fld.MIR_CFG_ENABLE true).setF Fld.MIR_STATUS_LANES_UP 2).setLant 65 { sendAt := live.clk - ago }
    let g := l lsUp { lastGood := up63.clk - 6250000 }
    let h := l lsUp { lastGood := up63.clk - 6249999 }
    let s := (l lsSuspended { suspendAt := 0 }).setF (Fld.PHS_CFG_SUSPEND_S 63) 16
    let z : State := { live with lanSec := live.now16 / unitsPerS }
    ([d [5], d [], e].all (fun s => decide (made s 63 ≤ (s.lant 63).offers + 1) && s.lineLive 63) = true ∧
      made o 63 = 3 ∧ (o.lant 63).offers = 0 ∧ made (m (3 * 8192)) 65 = 3 ∧ ((m (3 * 8192)).lant 65).offers = 0) ∧
    (due (d [5]) 63 = true ∧ ((d [5]).lanSkip 63 |>.lant 63).word ≠ [] ∧ due (d []) 63 = true ∧ ((d []).lanSkip 63 |>.lant 63).word = [] ∧
      due o 63 = true ∧ due e 63 = false) ∧
    ((m 8192).lineLive 65 = true ∧ due (m 8192) 65 = true ∧ due (m (3 * 8192)) 65 = true) ∧ live.lineLive 63 = false ∧ live.lineLive 65 = false ∧
    (blockSet (setBlock 0xABCDEF) = some 0xABCDEF ∧ blockSet 0 = none ∧ up63.domainOn (portDomain 63) = true ∧ live.domainOn 5 = true) ∧
    (g.lanState 63 = lsUp ∧ (g.lant 63).lastGood + 10 * 625000 ≤ g.clk) ∧ h.clk < (h.lant 63).lastGood + 10 * 625000 ∧
    (s.lanState 63 = lsSuspended ∧ (s.lant 63).suspendAt + s.f (Fld.PHS_CFG_SUSPEND_S 63) * 625000000 ≤ s.clk) ∧
    z.now16 / unitsPerS = z.lanSec ∧ live.now16 / unitsPerS ≠ live.lanSec := by
  decide +kernel

theorem test_meets_LanternBlocksReportAndSwapsProceed :
    let b := (lantern lsUp).setLant 63 { next := live.nowMs - 1, sums := [((live.nowMs - 1) % 65536, 0, 1, false)] }
    let p := (lantern lsUp).setLant 63 { next := live.nowMs - 3 }
    let off := Reg.PHS_SWAP_CTRL 63
    let w (st : Nat) (x : Swap) := (live.setLant 63 { swap := x }).setF (Fld.PHS_SWAP_STATUS_STATE 63) st
    let x : Swap := { since := live.clk - 10 * 625000000, avg := 10 }
    let y : Swap := { since := live.clk - 10 * 625000000 + 1, avg := 10 }
    let g := w swGap { ref := 64, gapAt := live.clk - 10 * 625000000 }
    (b.lanLive 63 = true ∧ (b.lanPick 63).ended = true ∧ (b.lanSum 63 (b.lanPick 63).k).isSome = true) ∧
    (p.lanLive 63 = true ∧ (p.lanPick 63).late = true ∧ (p.lanSum 63 (p.lanPick 63).k).isNone = true) ∧
    live.lanLive 63 = false ∧ (live.domainOn 4 = true ∧ live.domainOn (portDomain 63) = true ∧ live.speed 63 ≠ 0) ∧
    ([Fld.PHS_SWAP_CTRL_CAPTURE_BEFORE 63, Fld.PHS_SWAP_CTRL_CAPTURE_AFTER 63, Fld.PHS_SWAP_CTRL_ABORT 63].all (fun f =>
      live.takesWrite off (f.into 0 1) (f.select 0))) = true ∧
    ([swBefore, swAfter].all (fun st => decide ((w st x).swapState 63 = st) && decide (((w st x).lant 63).swap.since + 10 * 625000000 ≤ live.clk))) = true ∧
    live.clk < ((w swBefore y).lant 63).swap.since + ((w swBefore y).lant 63).swap.avg * 625000000 ∧
    (g.swapState 63 = swGap ∧ 64 ≤ (g.lant 63).swap.ref ∧ (g.lant 63).swap.gapAt + 10 * 625000000 ≤ g.clk) := by
  decide +kernel

theorem test_meets_ReferenceSettingsTakeEffect :
    let same (off : Nat) := live.takesWrite off (live.reg off) (byteMask 15)
    same (Reg.REF_SLOT_CFG 14) = true ∧ same (Reg.REF_TSLOT_CFG 7) = true ∧ same (Reg.REF_TSLOT_QUAL 7) = true ∧ same Reg.REF_VIRT_FREQ_HI = true ∧
    same (Reg.REF_XPPS_DECL_HI 1) = true ∧ same (Reg.REF_OUT_START_W2 7) = true := by
  decide +kernel

/-- A reference slot in a state. -/
def slotIn (s : State) (k st : Nat) : State := s.setF (pick k Fld.REF_SLOT_STATUS_STATE Fld.REF_TSLOT_STATUS_STATE) st

theorem test_meets_SlotsFaultValidateRestoreAndDisagree :
    let lim := live.f (Fld.REF_SLOT_LIMIT_LIMIT_PPB 9) * 1000
    let overran : Int := (lim + 1 : Nat)
    let w := live.setSlotFreq 9 overran
    let v (lost : Bool) (faults : List Nat) := (slotIn (live.setReg (Reg.REF_TSLOT_WTR 7) 1) 23 rsValidating).setSlot 23
      { lost := lost, faults := faults, nextSec := some 9, timerAt := live.clk - 2 * 625000000, timerS := 2 }
    let r (faults : List Nat) := (slotIn live 9 rsWaitRestore).setSlot 9 { faults := faults, timerAt := live.clk - 2 * 625000000, timerS := 2 }
    let q := (slotIn (slotIn ((live.setReg (Reg.REF_SLOT_WTR 13) 1).setReg (Reg.REF_SLOT_WTR 14) 2) 13 rsQualified) 14 rsQualified |>.setF (Fld.REF_SLOT_CFG_PRIORITY 13) 1).setF (Fld.REF_SLOT_CFG_PRIORITY 14) 1
    let d := live.disagreeLimit
    let w2 (x : Int) := (q.setSlotFreq 13 x).setSlotFreq 14 0
    let e (o : Nat) : State := { q with ref := { q.ref with disagree := [⟨13, 14, o, 0⟩] } }
    let clear (o k : Nat) := ((e o).ref.disagree.find? (fun x => x.a == 13 && x.b == 14)).any (fun x => x.outcome == o &&
      decide ((w2 d).slotWtr k * 625000000 ≤ min ((w2 d).slotWtr k * 625000000) ((w2 d).clk - x.since)))
    live.domainOn 2 = true ∧
    ((inputFaults 9).contains 1 = true ∧ lim < overran.natAbs ∧ w.f (Fld.REF_SLOT_LIMIT_LIMIT_PPB 9) * 1000 = lim ∧ (inputFaults 22).contains 2 = true ∧
      live.ppsWin 22 < live.ppsWin 22 + 1) ∧
    ((inputFaults 14).contains 4 = false ∧ (live.setSlotFreq 14 0).shownFault 14 = some 4 ∧ w.shownFault 9 = none ∧ (inputFaults 9).contains 3 = false ∧
      (lim : Int).natAbs ≤ lim) ∧
    ([true, false].all (fun l => decide ((v l []).slotState 23 = rsValidating) && decide (((v l []).slot 23).timerAt + ((v l []).slot 23).timerS * 625000000 ≤ live.clk) &&
      decide ((v l []).faultOf 23 = none) && decide (((v l []).slot 23).lost = l) && decide ((v l []).slotWtr 23 ≠ 0))) = true ∧
    (v false [0]).faultOf 23 ≠ none ∧
    ((r []).slotState 9 = rsWaitRestore ∧ ((r []).slot 9).timerAt + ((r []).slot 9).timerS * 625000000 ≤ (r []).clk ∧ (r []).faultOf 9 = none ∧ (r [0]).faultOf 9 ≠ none) ∧
    ((w2 (d + 1 : Nat)).slotPrio 13 = (w2 (d + 1 : Nat)).slotPrio 14 ∧ (w2 (d + 1 : Nat)).slotPrio 13 ≠ 0 ∧ (w2 (d + 1 : Nat)).slotState 13 = rsQualified ∧
      (w2 (d + 1 : Nat)).slotState 14 = rsQualified ∧ (w2 (d + 1 : Nat)).disagreeLimit < (((d + 1 : Nat) : Int) - 0).natAbs ∧ q.ref.disagree = []) ∧
    (clear 1 13 = true ∧ clear 2 14 = true ∧ clear 3 13 = true ∧ (((d : Nat) : Int) - 0).natAbs ≤ (w2 d).disagreeLimit) ∧
    live.ref.disagree.find? (fun x => x.a == 13 && x.b == 14) = none := by
  decide +kernel

theorem test_meets_SwitchesSteeringAndHoldoverProceed :
    let fs (t ago edges : Nat) : State := { slotIn live t rsQualified with ref := { live.ref with fsw := some ⟨0, t, live.clk - ago, dpLocked, true, edges, []⟩ } }
    let ts (t ago edges : Nat) : State := { slotIn live t rsQualified with ref := { live.ref with tsw := some ⟨0, t, live.clk - ago, dpLocked, true, edges, [3]⟩ } }
    let q (s : State) (w : Option Switch) (p : Switch → Bool) := w.any (fun w => s.slotState w.target == rsQualified && decide (w.ownState ≠ dpHoldover) && p w)
    let gone : State := { live with ref := { live.ref with fsw := some ⟨0, 9, 0, dpLocked, true, 0, []⟩, tsw := some ⟨0, 20, 0, dpLocked, true, 0, []⟩ } }
    let late (s : State) (w : Switch) := decide (w.since + 100 * 625000 ≤ s.clk)
    let lk := (live.setF Fld.REF_STATUS_DPLL_STATE dpLocked).setF Fld.REF_STATUS_FSEL 13
    let ho := live.setF Fld.REF_STATUS_DPLL_STATE dpHoldover
    let ho : State := { ho with ref := { ho.ref with ho := some ⟨0, 0, 0, 0, 0, 0, 1⟩, secAt := ho.clk - 625000000 } }
    let soon : State := { ho with ref := { ho.ref with secAt := ho.clk - 624999999 } }
    (q (fs 9 62500000 0) (fs 9 62500000 0).ref.fsw (fun w => clockType w.target && late live w) = true ∧
      q (fs 13 0 2) (fs 13 0 2).ref.fsw (fun w => !clockType w.target && w.edges == 2) = true ∧ gone.slotState 9 ≠ rsQualified) ∧
    (q (ts 16 62500000 0) (ts 16 62500000 0).ref.tsw (fun w => decide (w.target < 20) && late live w) = true ∧
      q (ts 20 0 2) (ts 20 0 2).ref.tsw (fun w => decide (20 ≤ w.target) && w.edges == 2) = true ∧ gone.slotState 20 ≠ rsQualified ∧
      (ts 20 0 2).ref.timeHo = none) ∧ live.ref.fsw = none ∧ live.ref.tsw = none ∧
    (live.dpll = dpFreerun ∧ lk.domainOn 2 = true ∧ lk.fsel < 14 ∧ lk.dpll = dpLocked) ∧ soon.clk < soon.ref.secAt + 625000000 ∧
    (ho.domainOn 2 = true ∧ ho.ref.secAt + 625000000 ≤ ho.clk ∧ ho.dpll = dpHoldover ∧ ho.ref.ho.isSome = true) := by
  decide +kernel

/-- Locked to slot 13. -/
def locked13 : State := (live.setF Fld.REF_STATUS_DPLL_STATE dpLocked).setF Fld.REF_STATUS_FSEL 13

/-- A cycle of it without phase error, where the loop's terms are `a` and `b`. -/
def cycle13 (a b : Int) : State :=
  let v := locked13.compare locked13.fsel 0
  let v : State := { v with ref := { v.ref with integ := v.ref.integ + a } }
  let v := v.steer (v.ref.integ + b)
  v.countCycle v.ref.err (v.f (Fld.REF_SLOT_LOCK_WIN_NS locked13.fsel))

/-- It stays locked, whatever the loop's rate. -/
theorem test_meets_SwitchesSteeringAndHoldoverProceed_cycle (omega : Nat) :
    let e := (locked13.compare locked13.fsel 0).ref.err
    (cycle13 (loopIntegral omega (cycleMs locked13.fsel) e) (loopProportional omega e)).dpll = dpLocked := by
  have e : (locked13.compare locked13.fsel 0).ref.err = 0 := by decide +kernel
  have h1 : loopIntegral omega (cycleMs locked13.fsel) 0 = 0 := by
    unfold loopIntegral
    rw [Int.zero_mul, Int.zero_mul]
    exact ratio_zero _
  have h2 : loopProportional omega 0 = 0 := by
    unfold loopProportional
    rw [Int.zero_mul, Int.zero_mul]
    exact ratio_zero _
  have h3 : (cycle13 0 0).dpll = dpLocked := by decide +kernel
  intro x
  rw [show x = 0 from e, h1, h2]
  exact h3

/-- The sentence $GPZDA,120000,01,01,2030,00,00. -/
def zda0 : List Byte := ([36, 71, 80, 90, 68, 65, 44, 49, 50, 48, 48, 48, 48, 44, 48, 49, 44, 48, 49, 44, 50, 48, 51, 48, 44, 48, 48, 44, 48, 48] : List Nat).map (BitVec.ofNat 8)

theorem test_meets_TimeSlotsAndOutputsActAtTheirEdges :
    let n := live.setSlot 23 { nextSec := some 5 }
    let bad : State := { live with ref := { live.ref with irigBad := 1 } }
    let st (t : Nat) := live.setOut 7 { start := some t }
    let ir := (st 0).setF (Fld.REF_OUT_K_CFG_FUNCTION 7) ofIrig
    let rr (s : State) (k : Nat) := match converterOf k with | some j => s.refEdge j | none => s
    let cl := (live.setFlag (Fld.REF_OUT_STATUS_MISALIGNED 7) true).setFlag (Fld.REF_OUT_K_CFG_CLK_AUTO 7) true
    let bd (t : Nat) := live.setOut 7 { boundary := some t }
    ([10, 13, 16, 19, 20, 23].all (fun k => (rr live k).domainOn 2)) = true ∧ (rr live 20).edgeSecond 20 = none ∧ (rr n 23).edgeSecond 23 = some 5 ∧ live.domainOn 2 = true ∧
    (nmeaSecond zda0 = some 1893499200 ∧ nmeaSecond zda0.tail = none) ∧
    (irigSecond 7 1970 (irigFrame 7 1893499200) = some 1893499200 ∧ irigSecond 7 1970 [] = none ∧ live.ref.irigBad = 0 ∧ bad.ref.irigBad ≠ 0) ∧
    (((st 0).out 7).start = some 0 ∧ reached ((st 0).idealEdge 7 0) live.now16 = true ∧ (st 0).outFn 7 ≠ ofIrig ∧ (ir.out 7).start = some 0 ∧ reached (ir.idealEdge 7 0) live.now16 = true ∧ ir.outFn 7 = ofIrig ∧
      reached ((st (2 ^ 57)).idealEdge 7 (2 ^ 57)) live.now16 = false) ∧
    (cl.autoClock 7 = true ∧ cl.flag (Fld.REF_OUT_STATUS_MISALIGNED 7) = true ∧ cl.below (cl.outM 7) = true) ∧
    (((bd 0).out 7).boundary = some 0 ∧ reached ((bd 0).alignEdge 7 (0 + us1)) live.now16 = true ∧ reached ((bd (2 ^ 57)).alignEdge 7 (2 ^ 57 + us1)) live.now16 = false) := by
  decide +kernel

/-- An input in a mode, rising edges. -/
def mode (i m : Nat) : State := live.setF (Fld.TIC_CFG_MODE i) m

theorem test_meets_EdgesOfTimingInputsAreCountedOrHeld :
    let v (s : State) (i : Nat) := let x := s.ticApply i; x.setTic i { x.tic i with seenAt := some x.clk }
    let own (s : State) (i : Nat) := decide ((v s i).ticMode i ≠ 0) && edgeFits ((v s i).ticEdgeSel i) true
    let cal := (live.setFlag (Fld.TIC_CFG_CAL_SRC 0) true)
    let cal : State := { cal with cal := { cal.cal with runs := [(0, some ⟨4, false, true, 0, 0, none⟩)] } }
    let w (s : State) (i : Nat) := ((v s i).prescale i).2
    let fr := (mode 15 4).setF (Fld.TIC_CFG_PRESCALE 15) 1
    let e := (w (mode 0 1) 0).edgeAt 0 511 true
    let after (s : State) (d : Int) := s.setTic 0 { s.tic 0 with last := some e, lastAt := (v s 0).edgePlace 0 511 - d }
    let hold (s : State) := ((w s 0).reg (Reg.TIC_HOLDOFF 0)).toNat * 1000 * 65536
    let h := (after (mode 0 1) 0).setReg (Reg.TIC_HOLDOFF 0) 1
    live.tinFn 1 = 0 ∧ (live.domainOn 3 = true ∧ cal.tinFn 0 ≠ 0 ∧ (v cal 0).calExt 0 = true) ∧
    ((v live 0).calExt 0 = false ∧ own live 0 = false ∧ (v live 0).stopUsers 0 true = []) ∧
    (fr.tinFn 15 ≠ 0 ∧ (v fr 15).calExt 15 = false ∧ own fr 15 = true ∧ ((v fr 15).prescale 15).1 = false) ∧
    ((v (mode 0 1) 0).calExt 0 = false ∧ own (mode 0 1) 0 = true ∧ ((v (mode 0 1) 0).prescale 0).1 = true ∧ ((w (mode 0 1) 0).tic 0).last = none) ∧
    (hold h ≠ 0 ∧ ((w h 0).tic 0).last.any (fun l => decide (l.stamp ≤ ((w h 0).edgeAt 0 511 true).stamp) && decide (((w h 0).edgeAt 0 511 true).stamp < l.stamp + hold h)) = true) ∧
    ([(0, true), (8 * 655360 - 1, true), (8 * 655360, false)].all (fun x => let s := after (mode 0 1) x.1;
      decide (hold s = 0) && ((w s 0).tic 0).last.isSome && decide ((v s 0).edgePlace 0 511 - ((w s 0).tic 0).lastAt < 8 * 655360) == x.2)) = true := by
  decide +kernel

theorem test_meets_TimingInputsAreArmedSetAndTimedOut :
    let off := Reg.TIC_CTRL 15
    let e : Edge := ⟨0, 0, true, 0⟩
    let due (s : State) (t : Nat) := t + max (s.settleTime 15) (s.settleTime (s.ticStopSrc 15))
    let op (t : Nat) := live.setTic 15 { opened := some (true, e, t) }
    let b := live.setTic 15 { nextBins := some ([1, 2], 3) }
    let k := live.setTic 15 { kept := some (0, 0) }
    let run : State := { live with cal := { live.cal with runs := [(15, some ⟨4, false, false, 0, 0, none⟩)] } }
    let l := run.setTic 15 { launchAt := run.clk - 25 }
    live.takesWrite off ((Fld.TIC_CTRL_ARM 15).into 0 1) ((Fld.TIC_CTRL_ARM 15).select 0) = true ∧
    live.takesWrite off ((Fld.TIC_CTRL_DISARM 15).into 0 1) ((Fld.TIC_CTRL_DISARM 15).select 0) = true ∧
    live.takesWrite (Reg.TIC_CFG 15) (live.reg (Reg.TIC_CFG 15)) (byteMask 15) = true ∧
    (((op 0).tic 15).opened = some (true, e, 0) ∧ reached (due (op 0) 0) live.now16 = true ∧ ((op live.now16).tic 15).opened.isSome = true ∧ reached (due (op live.now16) live.now16) live.now16 = false) ∧
    live.ticMode 15 ≠ 4 ∧ ((mode 15 4).ticMode 15 = 4 ∧ (mode 15 4).domainOn 3 = true ∧ ((mode 15 4).tic 15).gate ≤ live.now16 / (mode 15 4).gateLen 15 ∧
      ((mode 15 4).tic 15).e0 = none) ∧
    (b.ticIdle 15 = true ∧ b.domainOn 3 = true ∧ (b.tic 15).kept = none ∧ (b.tic 15).nextBins = some ([1, 2], 3) ∧ k.ticIdle 15 = true ∧ (k.tic 15).kept.isSome = true ∧ ((k.ticForce 15).tic 15).nextBins = none) ∧
    (op 0).ticIdle 15 = false ∧
    (l.domainOn 3 = true ∧ (Store.get (fun _ => none) l.cal.runs 15).any (fun r => !r.ext) = true ∧ (l.tic 15).seenAt = none ∧
      (l.tic 15).opened = none ∧ (l.tic 15).launchAt + 25 ≤ l.clk) ∧ l.clk < ((l.setTic 15 { launchAt := l.clk - 24 }).tic 15).launchAt + 25 := by
  decide +kernel

/-- A calibration run of an instance, begun now or some ticks ago. -/
def running (s : State) (j : Nat) (ext : Bool) (ago : Nat) : State :=
  { s with cal := { s.cal with runs := [(j, some ⟨2, false, ext, s.clk - ago, 0, none⟩)] } }

/-- Timing input 0 on an edge function in mode 1, named as output 7's external input. -/
def edges7 : State :=
  (live.setF (Fld.TIC_CFG_MODE 0) 1).setF (Fld.CAL_OUT_CFG_EXT_TIN 7) 0

theorem test_meets_CalibrationRunsEnd :
    let s (j : Nat) (ext : Bool) (ago : Nat) : State := running { live with clk := 10 ^ 11 } j ext (ago * 625000000)
    let run (j : Nat) (ext : Bool) (ago : Nat) (p : State → CalRun → Bool) : Bool := ((s j ext ago).calRun j).any (p (s j ext ago))
    let taps (n : Nat) := n :: List.replicate 639 0
    let even (h : Nat) := List.replicate 512 (2 ^ (h - 9))
    let wide (h : Nat) := 2 ^ h :: List.replicate 511 0
    live.calRun 202 = none ∧
    ([0, 21].all (fun j => decide (calType j = 1 ∨ calType j = 2) && run j true 0 (fun _ r => r.ext) &&
      run j true 11 (fun u r => u.overdue j r) && run j false 61 (fun u r => u.overdue j r) &&
      run j false 0 (fun u r => !u.overdue j r && let h := u.hitsLog2 j
        (taps (2 ^ (h - 2))).length == 640 && 4 * (taps (2 ^ (h - 2))).sum == 2 ^ h && (even h).length == 512 && (even h).sum == 2 ^ h &&
          !binTooWide (even h) && (wide h).length == 512 && (wide h).sum == 2 ^ h && binTooWide (wide h)))) = true ∧
    (calType 97 = 3 ∧ run 97 false 61 (fun u r => u.overdue 97 r) = true ∧
      run 97 false 59 (fun u r => !u.overdue 97 r && decide (8 * 64 * 2 ^ 18 ≤ u.blocksSince 97 r)) = true ∧
      run 97 false 0 (fun u r => !u.overdue 97 r && decide (u.blocksSince 97 r < 8 * 64 * 2 ^ 18)) = true) := by
  decide +kernel

theorem test_meets_CalibrationRunsEnd_outputs :
    let s (v : State) (ext : Bool) (ago : Nat) : State := running { v with clk := 10 ^ 11 } 199 ext (ago * 625000000)
    let run (v : State) (ext : Bool) (ago : Nat) (p : State → CalRun → Bool) : Bool := ((s v ext ago).calRun 199).any (p (s v ext ago))
    let gathered : State := { edges7 with cal := { edges7.cal with extErrs := [(7, [0])] } }
    let off (u : State) (errs : List Int) := u.trimNow 7 + trimChange (errs.take (u.trimEdges 7)) - u.figureNow 199 (figTrim 7) 0
    run live true 0 (fun u r => r.ext && u.calUseless 199 true) = true ∧
    run (live.setF (Fld.REF_OUT_K_CFG_FUNCTION 7) 0) false 0 (fun u r => !r.ext && u.calUseless 199 false) = true ∧
    run edges7 true 10 (fun u r => r.ext && !u.calUseless 199 true && (Store.get (fun _ => []) u.cal.extErrs 7).isEmpty &&
      decide (3 * Config.ticksPerS ≤ (u.clk - r.since) * u.edgeRate 7)) = true ∧
    run live false 21 (fun u r => !r.ext && !u.calUseless 199 false && u.overdue 199 r) = true ∧
    run gathered true 21 (fun u r => !u.calUseless 199 true && !(Store.get (fun _ => []) u.cal.extErrs 7).isEmpty && u.overdue 199 r) = true ∧
    run live false 10 (fun u r => !r.ext && !u.calUseless 199 false && !u.overdue 199 r && decide (u.trimEdges 7 ≤ 1024) &&
      chosen 64 80 (List.range 64) && decide ((off u (List.replicate 1024 (-100000))).natAbs ≤ 1000) &&
      decide (1000 < (off u (List.replicate 1024 (-100100))).natAbs)) = true := by
  decide +kernel

theorem test_meets_PortDelaysRecentringAndSensors_delays :
    let s (ext : Bool) (us : Nat) := running live 191 ext (us * 625)
    let run (ext : Bool) (us : Nat) (p : State → CalRun → Bool) : Bool := ((s ext us).calRun 191).any (fun r => decide (r.since ≤ (s ext us).clk) && p (s ext us) r)
    let offs (u : State) (sum : Int) := let ds := sum - u.loopFactory 63
      [u.delayBase 63 0 + ratio (ds * u.shareRx 63) 65536 - u.delayNow 63 0, u.delayBase 63 1 + ratio (ds * (65536 - u.shareRx 63)) 65536 - u.delayNow 63 1]
    run false 301 (fun u r => u.overdue 191 r) = true ∧ run true 20000 (fun u r => !u.overdue 191 r && r.ext) = true ∧
    run false 300 (fun u r => !u.overdue 191 r && !r.ext && chosen 64 96 (List.range 64) && (offs u 13106).all (fun x => !beyond100ps x) &&
      (offs u 13108).all beyond100ps) = true := by
  decide +kernel

theorem test_meets_PortDelaysRecentringAndSensors :
    let rt (t : Nat) : State := { live with cal := { live.cal with retry := [(191, some (t, 0))] } }
    let warn := up63.setFlag Fld.PWR_STATUS_MAIN_WARN true
    let now := live.clk
    (live.portUp 63 = false ∧ live.calRun 191 = none ∧ (running live 191 false 0).calRun 191 = some ⟨2, false, false, live.clk, 0, none⟩) ∧ warn.supplyWarn = true ∧ (up63.portUp 63 = true ∧ up63.supplyWarn = false) ∧
    (Store.get (fun _ => none) (rt now).cal.retry 191 = some (now, 0) ∧ (rt now).clk < now + 60 * Config.ticksPerS) ∧
    (let s : State := { rt 0 with clk := 60 * 625000000 }; Store.get (fun _ => none) s.cal.retry 191 = some (0, 0) ∧ 0 + 60 * Config.ticksPerS ≤ s.clk ∧
      s.calDue 191 = none ∧ s.calRun 191 = none) ∧
    (live.setF Fld.PWR_DOMAIN_ON_ON 0x1FFB).domainOn 2 = false ∧ (live.domainOn 2 = true ∧ live.calRun 202 = none) := by
  decide +kernel

/-- The governor at a step and a THROTTLE. -/
def gov (st th : Nat) : State := (live.setF Fld.PWR_STATUS_GOV_STEP st).setF Fld.PWR_STATUS_THROTTLE th
/-- Hot or cool for some seconds. -/
def warmth (s : State) (hot cool : Option Nat) : State :=
  { s with pwr := { s.pwr with hotSince := hot.map (s.clk - · * 625000000), coolSince := cool.map (s.clk - · * 625000000) } }

theorem test_meets_TheGovernorStepsThrottlesAndTrips :
    let tj (s : State) (t : Nat) := s.setF Fld.PWR_THERM_STATUS_TJ t
    let at_ (s : State) (st th : Nat) := decide (s.f Fld.PWR_STATUS_GOV_STEP = st) && decide (s.f Fld.PWR_STATUS_THROTTLE = th)
    let held (s : State) := s.heldFor s.pwr.hotSince 1
    let cool (s : State) (n : Nat) := s.heldFor s.pwr.coolSince n
    let warnC := live.f Fld.PWR_THERM_CFG_WARN_C
    let hystK := live.f Fld.PWR_THERM_CFG_HYST_K
    let per (th ago : Nat) : State := { gov 3 th with pwr := { live.pwr with periodAt := live.clk - ago } }
    let trip : State := { live with pwr := { live.pwr with tripSince := some (live.clk - 6250000) } }
    ([(1, 0), (2, 0), (3, 1), (3, 7), (3, 8)].all (fun x => let s := warmth (gov x.1 x.2) (some 1) none; at_ s x.1 x.2 && held s)) = true ∧
    ((tj (gov 0 0) 1760).hot = true ∧ (tj (gov 0 0) 1759).hot = false ∧ held (warmth (gov 1 0) (some 0) none) = false) ∧
    ([(3, 2, 1), (3, 1, 1), (2, 0, 10), (1, 0, 10)].all (fun x => let s := warmth (gov x.1 x.2.1) none (some x.2.2); at_ s x.1 x.2.1 && cool s x.2.2)) = true ∧
    (cool (warmth (gov 3 1) none (some 0)) 1 = false ∧ cool (warmth (gov 2 0) none (some 9)) 10 = false) ∧
    (live.flag Fld.PWR_STATUS_THERM_WARN = false ∧ ((warnC * 16 : Nat) : Int) ≤ (tj live (warnC * 16)).tj) ∧
    ((live.setFlag Fld.PWR_STATUS_THERM_WARN true).flag Fld.PWR_STATUS_THERM_WARN = true ∧
      (tj live ((warnC - hystK) * 16 - 1)).tj < ((warnC * 16 : Nat) : Int) - ((hystK * 16 : Nat) : Int)) ∧
    (at_ (gov 0 0) 0 0 = true ∧ at_ (per 8 625000) 3 8 = true ∧ (per 8 625000).passed (per 8 625000).pwr.periodAt 1 Config.ticksPerMs = true ∧
      at_ (per 7 546875) 3 7 = true ∧ (per 7 546875).passed (per 7 546875).pwr.periodAt 1 Config.ticksPerMs = false ∧
      (per 7 546875).passed (per 7 546875).pwr.periodAt 7 (Config.ticksPerMs / 8) = true) ∧
    (trip.pwr.tripSince.any (fun t => trip.passed t 10 Config.ticksPerMs) = true ∧ trip.pwr.tripped = false ∧ trip.f Fld.GEN_BOOT_STATUS_STAGE ≠ 0) ∧
    ((List.replicate 11 (95 * 16 - 1)).all (fun t => decide (signed 16 (t % 65536) < 95 * 16)) = true ∧
      (List.replicate 11 (95 * 16)).all (fun t => decide (signed 16 (t % 65536) < 95 * 16)) = false ∧ (List.replicate 11 (95 * 16)).length = 11) := by
  decide +kernel

theorem test_meets_SupplyWarningsAndDomainFaultsTakeHold :
    let w : State := { live with pwr := { live.pwr with warnAt := some 0 } }
    let back (x : Nat × Nat) : Bool × Bool := let v := w.readRails x.1 x.2
      (decide (11300 < x.1) && v.passed v.pwr.mainLow 100 Config.ticksPerUs, decide (3150 < x.2) && v.passed v.pwr.auxLow 100 Config.ticksPerUs)
    let off := live.setF Fld.PWR_DOMAIN_ON_ON 0x0FFF
    let rs (t : Nat) : State := { off with pwr := { off.pwr with restoreAt := [(12, some t)] } }
    (live.readRails 10999 3100).supplyWarn = false ∧ (live.readRails 11000 3099).supplyWarn = false ∧ (live.readRails 11301 3151).pwr.warnAt = none ∧
    ((w.readRails 11301 3151).pwr.warnAt = some 0 ∧ [(11301, 3151), (11300, 3151), (11301, 3150)].map back = [(true, true), (false, true), (true, false)]) ∧ off.domainOn 12 = false ∧ live.domainOn 12 = true ∧ live.domainOn 0 = true ∧
    ((rs live.clk).flag Fld.GEN_DOMAIN_CTRL_AUTO_RESTORE = true ∧ ((rs live.clk).setFlag Fld.GEN_DOMAIN_CTRL_AUTO_RESTORE false).flag Fld.GEN_DOMAIN_CTRL_AUTO_RESTORE = false) ∧
    (Store.get (fun _ => none) (rs live.clk).pwr.restoreAt 12 = some live.clk ∧ live.clk ≤ (rs live.clk).clk ∧
      Store.get (fun _ => none) (rs (live.clk + 1)).pwr.restoreAt 12 = some (live.clk + 1) ∧ (rs (live.clk + 1)).clk < live.clk + 1) := by
  decide +kernel

theorem test_meets_EnergyTalliesHousekeepingAndTheRail :
    let p (s : PwrState) : State := { live with pwr := s }
    let u (k : Nat) := p { live.pwr with started := [⟨4, k, 0⟩] }
    let h : State := { u 3 with ref := { live.ref with hist := [(0, 1, 2)] } }
    let sl := p { live.pwr with slow := [(3, some ⟨0, 1, 2, 3, 4, 5⟩)] }
    let two (s : State) : State := { s with img := { s.img with active := some { img0 with speeds := [(62, 2), (63, 2)] } } }
    ((p { live.pwr with tallyAt := live.clk - 6249999 }).clk < live.clk - 6249999 + 6250000 ∧ live.clk - 6250000 + 6250000 ≤ live.clk) ∧
    live.takeUnit 4 4 = none ∧ ([0, 1, 2, 4].all (fun k => ((u k).takeUnit 4 k).isSome)) = true ∧
    ((h.takeUnit 4 3).any (fun v => decide (v.ref.hist = [(0, 1, 2)]))) = true ∧
    ((live.setF Fld.PWR_DOMAIN_ON_ON 0x1FBF).domainOn 6 = false ∧ live.domainOn 6 = true) ∧
    ((two live).floorLoad 3 = 31250 ∧ (two live).domainOn 6 = true) ∧
    (Store.get (fun _ => none) ((two sl).noteFill 3 2048).pwr.slow 3).isSome = true ∧ Store.get (fun _ => none) ((two live).noteFill 3 2048).pwr.slow 3 = none ∧ live.pwr.slow = [] ∧ sl.pwr.slow ≠ [] := by
  decide +kernel

/-- A stage of GEN_BOOT_STATUS. -/
def stage (k : Nat) : State := live.setF Fld.GEN_BOOT_STATUS_STAGE k

theorem test_meets_StartUpAndTheResetKindsRunTheirCourse :
    let boot (fl : Store (Option Image)) (cfg : Nat) : State := { stage 1 with img := { live.img with active := none, flash := fl, bootCfg := cfg } }
    let good := boot [(1, some img0)] 3
    let other := boot [(1, some img0)] 2
    let none_ := boot [] 0
    let read (s : State) (k : Nat) := (s.readSlot k true (0, 0)).2
    let again : State := { live with rst := { live.rst with reload := true }, img := { live.img with flash := [(1, some img0)], bootCfg := 3 } }
    (State.reset.f Fld.GEN_BOOT_STATUS_STAGE = 0 ∧ State.reset.pwr.tripped = false) ∧ (let s := (stage 7).setF Fld.GEN_HOTPLUG_PRES 1; s.f Fld.GEN_BOOT_STATUS_STAGE = 7 ∧ s.f Fld.GEN_HOTPLUG_PRES ≠ 3 ∧ s.pwr.tripped = false) ∧ (stage 1).f Fld.GEN_BOOT_STATUS_STAGE ≠ 0 ∧
    (live.setF Fld.PWR_DOMAIN_ON_ON 0).domainOn 4 = false ∧
    (live.setFlag Fld.PWR_STATUS_MAIN_WARN true).supplyWarn = true ∧
    ([good, other, none_].all (fun s => s.domainOn 4 && !s.supplyWarn && decide (s.f Fld.GEN_BOOT_STATUS_STAGE = 1 ∧ s.img.active = none))) = true ∧
    (good.img.bootCfg % 2 = 1 ∧ read good 1 = some img0) ∧
    (other.img.bootCfg % 2 = 0 ∧ read other 0 = none ∧ (other.readSlot 0 true (0, 0)).1.img.bootCfg.testBit 1 = true ∧ read (other.readSlot 0 true (0, 0)).1 1 = some img0) ∧
    (read none_ 0 = none ∧ (none_.readSlot 0 true (0, 0)).1.img.bootCfg.testBit 1 = false ∧ (none_.readSlot 0 true (0, 0)).1.img.active = none) ∧
    ((stage 3).f Fld.GEN_BOOT_STATUS_STAGE = 3 ∧ (stage 3).img.active = some img0 ∧ (stage 4).f Fld.GEN_BOOT_STATUS_STAGE = 4) ∧
    (again.f Fld.GEN_BOOT_STATUS_STAGE = 5 ∧ again.rst.reload = true ∧ again.domainOn 4 = true ∧ read again 1 = some img0 ∧ live.rst.reload = false) ∧
    ((stage 3).pwr.oscLost = false ∧ ({ stage 3 with pwr := { live.pwr with oscLost := true } } : State).pwr.oscLost = true) ∧
    ([0x5A01, 0x5A02, 0x5A04].all (fun v => live.takesWrite Reg.GEN_RESET_CTRL v 0xFFFFFFFF)) = true := by
  decide +kernel

theorem test_meets_RemovalAndTheOscillatorTakeTheirCourse :
    let ej : State := { stage 7 with rst := { live.rst with ejectAt := some 0 } }
    let req := live.setFlag Fld.GEN_HOTPLUG_EJECT_REQ true
    let wr := live.written Reg.GEN_HOTPLUG 0x100 0xFF00
    let wrEj := ej.written Reg.GEN_HOTPLUG 0x100 0xFF00
    let empty (s : State) := (List.range 65).all (fun p => s.waiting p == 0 && (s.port p).tx.isNone && (s.port p).cut.isEmpty)
    let limit (s : State) := s.passed 0 (s.f Fld.GEN_HOTPLUG_EJECT_DRAIN_MS) Config.ticksPerMs
    let q := queued (ej.setFlag (Fld.PRT_LINK_STATUS_UP 0) true) 0
    let soon : State := { q with clk := 1 }
    let cold := live.setFlag Fld.PWR_OSC_WARM false
    let osc (s : State) : State := { s with pwr := { s.pwr with oscAt := s.clk - 625000000 * 10 } }
    let long : State := { cold with clk := 600 * 625000000 }
    let mid : State := { cold with clk := 30 * 625000000 }
    (live.rst.ejectAt = none ∧ req.f Fld.GEN_BOOT_STATUS_STAGE ≠ 0) ∧ ej.rst.ejectAt = some 0 ∧
    (live.takesWrite Reg.GEN_HOTPLUG 0x100 0xFF00 = true ∧ wr.rst.ejectAt = none ∧ wr.f Fld.GEN_BOOT_STATUS_STAGE ≠ 0) ∧
    (ej.takesWrite Reg.GEN_HOTPLUG 0x100 0xFF00 = true ∧ wrEj.rst.ejectAt ≠ none) ∧
    (empty soon = false ∧ limit soon = false ∧ soon.rst.ejectAt = some 0 ∧ soon.rst.drained = none) ∧
    (let d : State := { ej with rst := { ej.rst with drained := some (3, true) } }; d.rst.ejectAt = some 0 ∧ d.rst.surprise = false ∧ d.rst.drained = some (3, true)) ∧
    (let shut := (live.setFlag Fld.GEN_HOTPLUG_READY true).setFlag Fld.GEN_HOTPLUG_EJECT_REQ false; shut.flag Fld.GEN_HOTPLUG_READY = true) ∧
    ((ej.setFlag Fld.GEN_HOTPLUG_EJECT_REQ false).flag Fld.GEN_HOTPLUG_READY = false ∧ (live.setFlag Fld.GEN_HOTPLUG_EJECT_REQ false).flag Fld.GEN_HOTPLUG_READY = false) ∧
    (live.f Fld.GEN_BOOT_STATUS_STAGE ≠ 0 ∧ live.rst.ejectAt = none) ∧
    (ej.rst.drained = none ∧ ej.rst.surprise = false ∧ ej.flag Fld.GEN_HOTPLUG_READY = false ∧ ej.flashRunning = false ∧ empty ej = true) ∧
    (q.rst.drained = none ∧ q.rst.surprise = false ∧ q.flag Fld.GEN_HOTPLUG_READY = false ∧ q.flashRunning = false ∧ empty q = false ∧ limit q = true) ∧
    (live.setFlag Fld.GEN_HOTPLUG_READY true).flag Fld.GEN_HOTPLUG_READY = true ∧
    (mid.domainOn 1 = true ∧ mid.pwr.oscLost = false ∧ mid.flag Fld.PWR_OSC_WARM = false ∧ mid.pwr.oscFault = false ∧
      mid.passed mid.pwr.oscAt 30 Config.ticksPerS = true ∧ (osc cold).passed (osc cold).pwr.oscAt 30 Config.ticksPerS = false) ∧
    (long.domainOn 1 = true ∧ long.pwr.oscLost = false ∧ (live.setFlag Fld.PWR_OSC_WARM true).flag Fld.PWR_OSC_WARM = true ∧ long.pwr.heaterFault = false ∧
      ({ long with pwr := { long.pwr with heaterFault := true } } : State).pwr.heaterFault = true ∧ mid.passed mid.pwr.oscAt 600 Config.ticksPerS = false) ∧
    (long.passed long.pwr.oscAt 600 Config.ticksPerS = true ∧ long.flag Fld.PWR_OSC_WARM = false ∧ long.pwr.oscFault = false) := by
  decide +kernel

/-- The Emulug link runs. -/
def linked (s : State) : State := s.setFlag Fld.MIR_CFG_ENABLE true

theorem test_meets_EmulugMessagesAreTakenOnceOrCounted :
    let t : State := { linked live with mir := { live.mir with taken := some (3, 2 ^ 32 - 1), heardAt := some live.clk } }
    let taken : State := { t.bump Reg.MIR_MSG_RX with mir := { t.mir with taken := some (3, 0) } }
    (linked live).mirOn = true ∧ live.mirOn = false ∧ taken.heard = true ∧ t.mayTake 3 0 = true ∧ t.mayTake 3 (2 ^ 32 - 1) = false := by
  decide +kernel

theorem test_meets_ClaimsHealthAndSilenceMoveTheRoles :
    let m (s : State) (x : MirState) : State := { s with mir := x }
    let c := 0x1230
    let word := claimWordOf c
    let tw (at_ : Nat) := m live { live.mir with word := some c, wordAt := at_ }
    let raw (s : State) := (s.setF Fld.MIR_HEALTH_RAW s.rawScore).setF Fld.MIR_HEALTH_CAUSES s.healthCauses
    let holds (s : State) := if s.rawScore = s.rawHeld.1 then s.passed s.rawHeld.2 (s.f Fld.MIR_TIMER_HEALTH_HOLD_MS) Config.ticksPerMs
      else s.f Fld.MIR_TIMER_HEALTH_HOLD_MS == 0
    let same := live.setF Fld.MIR_HEALTH_SCORE live.rawScore
    let other := live.setF Fld.MIR_HEALTH_SCORE 254
    let kept : State := { other with rawHeld := (other.rawScore, 0) }
    let zero : State := { other with rst := { other.rst with surprise := true } }
    let split := (linked live).setF Fld.MIR_CFG_CONFIG 2
    let was := Fld.MIR_CFG_ENABLE
    claimIn word = some c ∧ live.wired = true ∧ claimIn (word + 1) = none ∧
    ((tw (live.clk - 299)).mir.word = some c ∧ live.clk < (tw (live.clk - 299)).mir.wordAt + 300 ∧ (tw (live.clk - 300)).mir.wordAt + 300 ≤ live.clk) ∧
    (live.setF Fld.MIR_CFG_CONFIG 0).wired = false ∧
    (same.rawScore = (raw same).f Fld.MIR_HEALTH_SCORE ∧ other.rawScore ≠ (raw other).f Fld.MIR_HEALTH_SCORE) ∧
    (kept.rawScore ≠ (raw kept).f Fld.MIR_HEALTH_SCORE ∧ holds kept = true ∧ kept.rawScore ≠ 0 ∧ other.rawScore ≠ 0 ∧ holds other = false ∧
      zero.rawScore = 0 ∧ zero.rawScore ≠ (raw zero).f Fld.MIR_HEALTH_SCORE) ∧
    (live.takesWrite Reg.MIR_CFG (was.into 0 1) (was.select 0) = true ∧ live.takesWrite Reg.MIR_CFG (was.into 0 0) (was.select 0) = true) ∧
    ((linked live).mirOn = true ∧ ((linked live).f Fld.MIR_STATUS_LANES_UP).testBit 1 = false) ∧
    (live.mir.dual = none ∧ (linked live).yieldDual.mirOn = true ∧ (linked live).yieldDual.mir.claimSent + 20 * Config.ticksPerUs ≤ (linked live).yieldDual.clk ∧
      live.yieldDual.mirOn = false) ∧
    ((linked live).heard = false ∧ (linked live).flag Fld.MIR_CFG_ENABLE = true ∧ (linked live).passed (linked live).mir.silentFrom 100 Config.ticksPerUs = true ∧
      split.heard = false ∧ split.flag Fld.MIR_CFG_ENABLE = true ∧ split.pairConfig = 2 ∧ split.yieldDual.pairState ≠ 1 ∧ split.img.active ≠ none ∧ (linked live).pairConfig = 1 ∧
      (split.setF Fld.MIR_STATUS_PAIR_STATE 1).pairState = 1 ∧ live.flag Fld.MIR_CFG_ENABLE = false ∧
      ({ linked live with clk := 0 } : State).passed 0 100 Config.ticksPerUs = false) ∧
    (m live { live.mir with heardAt := some live.clk }).heard = true := by
  decide +kernel

/-- A pair state. -/
def paired (st : Nat) : State := (linked live).setF Fld.MIR_STATUS_PAIR_STATE st

theorem test_meets_SynchronisationShadowsAndTheExchangeRun :
    let m (s : State) (x : MirState) : State := { s with mir := x }
    let now := live.now16
    let sy (s : State) (t : Nat) := m s { s.mir with syncApply := some (t, 1) }
    let own := sy ((paired psSyncing).setF Fld.MIR_STATUS_ROLES 7) now
    let fol := sy ((paired psSyncing).setF Fld.MIR_STATUS_ROLES 0) now
    let full := m fol { fol.mir with items := [.entry 0x99 0 []] }
    let fr := withEntries (paired psInService) 5 [at_ 8191 (.frer 7 0 10 100 { takeAny := false })]
    let ex (x : Exchange) := m live { live.mir with exch := some x }
    let x0 : Exchange := ⟨none, true, 0, none, false, false⟩
    let full0 := (queued (live.setFlag (Fld.PRT_LINK_STATUS_UP 0) true) 0).setReg Reg.MIR_SH_PORTS_LO 1
    let full0 := m full0 { full0.mir with exch := some x0 }
    let soon : State := { ex x0 with clk := 0 }
    ((sy live now).pairState ≠ psSyncing ∧ reached (now + 1) now = false) ∧ (own.pairState = psSyncing ∧ reached now now = true ∧ own.holds roleOwner = true) ∧
    (let serve := sy ((paired psInService).setF Fld.MIR_STATUS_ROLES 7) now; serve.inService = true ∧ serve.holds roleOwner = true ∧ serve.pairState ≠ psSyncing ∧ reached now serve.now16 = true) ∧
    (let idle := sy (paired psLost) now; idle.pairState ≠ psSyncing ∧ idle.inService = false) ∧
    (fol.holds roleOwner = false ∧ (fol.takeState 1 now).isSome = true ∧ full.takeState 1 now = none) ∧
    (live.mir.syncApply = none ∧ (paired psSyncing).pairState = psSyncing ∧ (paired psSyncing).mir.syncAt + 2 * Config.ticksPerS ≤ live.clk) ∧
    ((linked live).mirrors = true ∧ (linked live).mir.stateSent + 10 * Config.ticksPerMs ≤ live.clk) ∧
    ((paired psInService).mirrors = true ∧ (paired psInService).mir.frerSent + 10 * Config.ticksPerUs ≤ live.clk ∧ (paired psInService).changedWindows = []) ∧
    (fr.mirrors = true ∧ fr.changedWindows = [(8191, 0, 0)]) ∧ live.mirrors = false ∧ live.mir.exch = none ∧
    ((ex x0).singleEmpty = true ∧ full0.singleEmpty = false ∧ full0.mir.exch = some x0 ∧
      live.passed 0 (live.f Fld.MIR_TIMER_EXCH_DRAIN_US) Config.ticksPerUs = true ∧ soon.passed 0 (soon.f Fld.MIR_TIMER_EXCH_DRAIN_US) Config.ticksPerUs = false) ∧
    ((ex { x0 with apply := some (now, 1), acked := true }).mir.exch = some ⟨none, true, 0, some (now, 1), true, false⟩ ∧
      (ex { x0 with apply := some (now, 1) }).mir.exch = some ⟨none, true, 0, some (now, 1), false, false⟩) := by
  decide +kernel

theorem test_meets_OffsetReportsAndHostStateCrossTheLink :
    let k := live.nowMs - 1
    let one (n : Nat) : State := let s := (linked live).setF Fld.MIR_STATUS_LANES_UP 1
      { s with lan := [(64, { next := k, blks := [(k, { n := n })], sums := [(k % 65536, 4, 0, false)] })] }
    let good (s : State) := ((s.mirLanes.map (fun n => (s.lanPick n).report 4 (s.lanSum n (s.lanPick (s.mirLanes.headD 64)).k))).filter (fun r => r.valid)).length
    live.mirOn = false ∧ (linked live).mirOn = true ∧ (linked live).mirReady (linked live).mirLanes = false ∧
    ((one 3).mirReady (one 3).mirLanes = true ∧ good (one 3) = 0) ∧ ((one 4).mirReady (one 4).mirLanes = true ∧ good (one 4) = 1) ∧
    (live.domainOn 4 = true ∧ live.domainOn 5 = true ∧ live.pairConfig ≠ 0) ∧ (live.setF Fld.PWR_DOMAIN_ON_ON 0x1FEF).domainOn 4 = false ∧
    live.takesWrite (Reg.MIR_HOST_STATE 63) 0 (byteMask 15) = true := by
  decide +kernel

theorem test_meets_ModuleTimeOccupiesNinetySixBits :
    let t := 2 ^ 48 * (1000000000 * 65536) - 1
    let w := time96 t
    t < 2 ^ 48 * (1000000000 * 65536) ∧ w / 2 ^ 46 % 4 = 0 ∧ w / 2 ^ 16 % 2 ^ 30 ≤ 999999999 := by
  decide +kernel

theorem test_meets_OnlyTheListedReadsChangeTheModule :
    let at_ (off : Nat) (p : RegRow → Nat → Nat → Bool) := (findReg off).any (fun x => p x.1 x.2.1 x.2.2)
    let on (off : Nat) := live.domainOn (regDomain off) && at_ off (fun r n k => live.regProvided r n k)
    findReg 4 = none ∧ at_ Reg.GEN_ID (fun r _ _ => decide (r.base ≠ Reg.TIM_TSF_W0 0 ∧ r.base ≠ Reg.PHS_RPT_SEQ 0 ∧ r.base ≠ Reg.MIR_OFFSET_SEQ) && !r.latches) = true ∧
    at_ (Reg.TIM_TSF_W0 1) (fun r n k => !live.regProvided r n k) = true ∧
    (on (Reg.TIM_TSF_W0 63) && at_ (Reg.TIM_TSF_W0 63) (fun r _ _ => r.base == Reg.TIM_TSF_W0 0)) = true ∧
    (on (Reg.PHS_RPT_SEQ 63) && at_ (Reg.PHS_RPT_SEQ 63) (fun r _ _ => r.base == Reg.PHS_RPT_SEQ 0)) = true ∧
    (on Reg.MIR_OFFSET_SEQ && at_ Reg.MIR_OFFSET_SEQ (fun r _ _ => r.base == Reg.MIR_OFFSET_SEQ)) = true ∧
    (on Reg.TXN_AT_W0 && at_ Reg.TXN_AT_W0 (fun r _ _ => r.latches && r.word == 0)) = true ∧
    (tick (has live 0x02 [(16, Reg.GEN_ID)])).startable 511 0x02 = some (ent 0x02 [(16, Reg.GEN_ID)]) ∧ live.domainOn 4 = true := by
  decide +kernel

/-! ### Worked examples of the spec -/

/-- 7 s, 250,000,000 ns and half a nanosecond (00_scope.md). -/
theorem test_time96_example :
    let w := time96 (7 * unitsPerS + 250000000 * 65536 + 32768)
    w / 2 ^ 48 = 7 ∧ w / 2 ^ 16 % 2 ^ 32 = 0x0EE6B280 ∧ w % 2 ^ 16 = 0x8000 := by decide

/-- The worked addresses of 17_register_map.md. -/
theorem test_worked_addresses :
    Reg.BUF_RSV 422 = 0xE1698 ∧ Reg.PRT_PFC_THR 52 3 = 0xBA1A8 ∧ Reg.SCH_WIN 52 6 = 0x1740D8 ∧ Reg.REF_SLOT_CFG 8 = 0x1A0200 := by decide

/-- The reservations of a structure that provides all 65 ports and 520 queues, at reset (17_register_map.md). -/
theorem test_reservations_at_reset :
    ({ State.reset with regs := (List.range 64).map (fun n => (Reg.PRT_CFG n, (Fld.PRT_CFG_SPEED n).into 0 1)) } : State).rsvTotal = 0x69A0 := by
  decide +kernel

/-- The worked lookup of 06_tables.md. -/
theorem test_longest_prefix :
    let r (k a l d : Nat) := at_ k (.route4 a l d)
    let t := withEntries live 6 [r 0x101 0x0A000000 8 21, r 0x102 0x0A140000 16 22, r 0x103 0x0A141E00 24 23, r 0x104 0x0A141E80 25 24]
    t.trieFind false 0 0x0A141EC8 = .leaf 0x104 ∧ t.trieFind false 1 0x0A141E00 = .leaf 0x103 ∧
      t.trieFind false 0 0x0A15FFFF = .leaf 0x101 ∧ t.trieFind false 0 0x0B000000 = .miss := by decide +kernel

/-- The worked trace of 07_classes_and_gates.md: CIR 125, PIR 250, CBS 3,000, PBS 6,000, frames of 1,500 bytes. -/
theorem test_policer_trace :
    let ms := 1000000 * 65536
    let run := [0, 1, 2, 3, 4, 10, 20].foldl (fun (a : List (Colour × Nat × Nat) × Buckets) t =>
      let r := police 125 250 3000 6000 .green 1500 (t * ms) a.2
      (a.1 ++ [(r.1, r.2.tc / 65536, r.2.tp / 65536)], r.2)) ([], ⟨3000 * 65536, 6000 * 65536, 0⟩)
    run.1 = [(.green, 1500, 4500), (.green, 125, 3250), (.yellow, 250, 2000), (.yellow, 375, 750), (.red, 500, 1000), (.yellow, 1250, 1000),
      (.green, 1000, 2000)] := by decide +kernel

/-- The worked round of 07_classes_and_gates.md: after TC5's two frames its deficit 8 is too small for a third, and TC4 is visited with 1,542. -/
theorem test_deficit_round :
    let w (q : Nat) : Option Nat := if q = 5 then some 1020 else if q = 4 then some 1520 else if q = 0 then some 220 else none
    let quant (q : Nat) := if q = 5 then 2048 else if q = 4 then 1542 else 512
    drrVisit w quant 10 5 [] = some (5, [(5, 2048)]) ∧ drrVisit w quant 10 4 [(5, 8)] = some (4, [(4, 1542), (5, 8)]) ∧
      drrVisit w quant 10 5 [(0, 72), (4, 22), (5, 8)] = some (5, [(0, 72), (4, 22), (5, 2056)]) := by decide +kernel

/-- The worked case of 07_classes_and_gates.md: B = 1,000 s, C = 1 ms, now = 1,000 s + 3,400,500 ns: k = 4. -/
theorem test_late_base :
    startOf ⟨[(1000000, 255, 0)], 1000000, 1000 * unitsPerS⟩ (1000 * unitsPerS + 3400500 * 65536) = (4, 1000 * unitsPerS + 4000000 * 65536) := by
  decide +kernel

/-- The worked ingress stamp of 08_time_base.md: 25GBASE-R, φ = 0.7312 ns, p = 2 UI, D = 112.3 ns. -/
theorem test_ingress_stamp :
    stampOf (1000 * unitsPerS * 2 ^ 24 + 123456789 * 2 ^ 40 + 6 * 2 ^ 40 / 10) (7312 * 2 ^ 40 / 10000) 3 2 (-(1123 * 65536 / 10)) =
      1000 * unitsPerS + 0x075BCCA4 * 65536 + 0xA57A := by decide +kernel

/-- The worked correction of 08_time_base.md: the gain of the correction field and the trailer. -/
theorem test_checksum_trailer :
    (514 * 65536 + 65536 / 4 = 0x02024000) ∧ wordGain [(0, 0), (0, 0), (0, 0x0202), (0, 0x4000)] = 0x4202 ∧ newChecksum 0xFFFF 0x4202 = 0xBDFD := by
  decide +kernel

/-- The worked case of 10_references.md: d8 = +0.3 ppb, d9 = −2.6 ppb, DISAGREE = 2.0 ppb: slot 9 is outvoted, outcome 2. -/
theorem test_disagreement_outvotes :
    let q := slotIn (slotIn (live.setF Fld.REF_CTRL_DISAGREE 20) 8 rsQualified) 9 rsQualified
    let q := (q.setF (Fld.REF_SLOT_CFG_PRIORITY 8) 2).setF (Fld.REF_SLOT_CFG_PRIORITY 9) 2
    let q := q.setFlag Fld.TIM_STATUS_WARMING false
    (match exec (.refDisagreeDetect 0 8 9 300 (-2600)) q with
      | .next t => t.ref.disagree.map (·.outcome) == [2] && t.outvoted 9 && !t.outvoted 8
      | _ => false) = true := by decide +kernel

/-- The worked realignment of 10_references.md: a PPS of 100 ms, 37 ns early; the next pulse ends at 1,004.099 999 963 s, and resumes at 1,005 s. -/
theorem test_realignment_boundary :
    let s := live.setF (Fld.REF_OUT_K_CFG_FUNCTION 2) ofPps
    let s := (s.setReg (Reg.REF_OUT_WIDTH 2) 100000000).setPair48 (Reg.REF_OUT_MISALIGN_LO 2) (Reg.REF_OUT_MISALIGN_HI 2) (-37 * 65536)
    let s : State := { s with time := { s.time with now := (1003 * unitsPerS + 200000000 * 65536) * 2 ^ 24 } }
    s.boundary 2 = 1004 * unitsPerS + 99999963 * 65536 ∧ s.alignEdge 2 (s.boundary 2 + us1) = 1005 * unitsPerS := by decide +kernel

/-- FIPS 180-4's example of SHA-384: the digest of the bytes "abc". -/
theorem test_sha384 :
    beAt (sha384 [97, 98, 99]) 0 48 = 0xCB00753F45A35E8BB5A03D699AC65007272C32AB0EDED1631A8B605A43FF5BED8086072BA1E7CC2358BAECA134C825A7 := by
  decide +kernel

/-- RFC 6979, A.2.6: the signature of "sample" with SHA-384; with another s it does not verify. -/
theorem test_ecdsa :
    let x := 0xEC3A4E415B4E19A4568618029F427FA5DA9A8BC4AE92E02E06AAE5286B300C64DEF8F0EA9055866064A254515480BC13
    let y := 0x8015D9B72D7D57244EA8EF9AC0C621896708A59367F9DFB9F54CA84B3F1C9DB1288B231C3AE0D4FE7344FD2533264720
    let d := beAt (sha384 [115, 97, 109, 112, 108, 101]) 0 48
    let r := 0x94EDBB92A5ECB8AAD4736E56C691916B3F88140666CE9FA73D64C4EA95AD133C81A648152E44ACF96E36DD1E80FABE46
    let s := 0x99EF4AEB15F178CEA1FE40DB2603138F130E740A19624526203B6351D0A3A94FA329C145786E679E7B82C71A38628AC8
    ecdsaOk x y d r s = true ∧ ecdsaOk x y d r (s + 1) = false := by decide +kernel

/-- A ZDA sentence for 20:15:30 UTC on 4 July 2002 names the second 1,025,813,730; with another checksum it names none. -/
theorem test_nmea :
    let b (c : Nat) : List Byte := ([36, 71, 80, 90, 68, 65, 44, 50, 48, 49, 53, 51, 48, 46, 48, 48, 44, 48, 52, 44, 48, 55, 44, 50, 48, 48, 50, 44, 48, 48,
      44, 48, 48, 42, 54, c] : List Nat).map (BitVec.ofNat 8)
    nmeaSecond (b 48) = some 1025813730 ∧ nmeaSecond (b 49) = none := by decide +kernel

/-- The same second in IRIG-B, with the year and without: day 185; a frame with a lost marker names no second. -/
theorem test_irig :
    irigSecond 4 0 (irigFrame 4 1025813730) = some 1025813730 ∧ irigSecond 0 2002 (irigFrame 0 1025813730) = some 1025813730 ∧
      ((irigFrame 4 1025813730).drop 30).take 13 = [1, 0, 1, 0, 0, 0, 0, 0, 1, 2, 1, 0, 0] ∧ irigSecond 4 0 ((irigFrame 4 1025813730).set 9 1) = none := by
  decide +kernel

/-! ### Single steps -/

/-- What a command leaves, where it answers a next state. -/
def after (c : Instr) (s : State) (p : State → Bool) : Bool := match exec c s with | .next t => p t | _ => false

/-- An idle step is one tick (log 1); a waiting command is taken from the front (log 1). -/
theorem test_steps :
    (match step live with | .next t => decide (t.clk = live.clk + 1 ∧ t.pending = []) | _ => false) = true ∧
    (match step { live with pending := [.txnDrainDone 5, .claimSend 0] } with | .next t => decide (t.clk = live.clk + 5 ∧ t.pending = [.claimSend 0]) | _ => false) = true := by
  decide +kernel

/-- No word spells a command: the table gives no row bits, so nothing is put in the queue. -/
theorem test_no_words : decodeTableWord 0 0 = none ∧ (live.withFetchWord 8 255).pending = [] := by decide +kernel

/-- R351, R355: power-good at stage 0 goes to stage 1 with PD4 on (no key in slot 0, whose fingerprint is an open constant). -/
theorem test_powerGood : after (.powerGood 0 []) { State.reset with img := { State.reset.img with keys := [(0, .empty)] } } (fun t => t.f Fld.GEN_BOOT_STATUS_STAGE == 1 && t.domainOn 4 && !t.domainOn 9) = true := by
  decide +kernel

/-- R357: a reset is taken only with the key 0x5A, and one at a time. -/
theorem test_reset_key :
    after (.registerWrite 0 Reg.GEN_RESET_CTRL 0x5B01 15) live (fun t => t.f Fld.GEN_BOOT_STATUS_STAGE == 5 && t.reg Reg.GEN_RESET_CNT == 0) = true ∧
    live.takesWrite Reg.GEN_RESET_CTRL 0x5A01 0xFFFFFFFF = true ∧ live.takesWrite Reg.GEN_RESET_CTRL 0x5A03 0xFFFFFFFF = false := by decide +kernel

/-- R50, R35: a tail outside its ring changes nothing; ring 3 of size 16 takes 15. -/
theorem test_sqDoorbell :
    after (.sqDoorbell 0 3 16) live (fun t => t.f (Fld.HIF_SQ_TAIL_TAIL 3) == 0) = true ∧
    after (.sqDoorbell 0 3 15) live (fun t => t.f (Fld.HIF_SQ_TAIL_TAIL 3) == 15) = true := by decide +kernel

/-- R36, R42: a command of an unknown opcode is fetched under the tag picked and completes MALFORMED, reason 1. -/
theorem test_commandFetch :
    after (.commandFetch 0 0x99 511 []) (ring3 (dma live)) (fun t => (t.jget 511).any (fun e => e.st == .done && e.comp.status == 0x10 && e.comp.resA == 1)
      && t.hif.doneQ == [511] && t.f (Fld.HIF_SQ_HEAD_HEAD 3) == 1) = true := by decide +kernel

/-- R74: TXN_ID 0xFFFFFFFF is followed by 1. -/
theorem test_cmdTxnBegin :
    let s : State := { has live 0x20 [] with txn := { live.txn with lastId := 2 ^ 32 - 1 } }
    after (.cmdTxnBegin 0 511) s (fun t => t.txn.lastId == 1 && t.f Fld.TXN_STATUS_STATE == 1) = true := by decide +kernel

/-- R112: a frame with a bad FCS is counted and not forwarded; one of 63 bytes is a length error. -/
theorem test_frameReceive :
    after (.frameReceive 0 63 (data0.set 63 0) (wire 0) []) up63 (fun t => t.reg (Reg.PRT_RX_FCS_ERR 63) == 1 && t.buf.frames.isEmpty) = true ∧
    after (.frameReceive 0 63 data0.tail (wire 0) []) up63 (fun t => t.reg (Reg.PRT_RX_LEN_ERR 63) == 1 && t.reg (Reg.PRT_RX_FCS_ERR 63) == 0) = true := by
  decide +kernel

/-- The worked case of 04_lanes_and_ports.md: a link that came up 3 s ago and loses block lock for 10 µs goes down with cause 1; it is a flap, and
the up-suppression time becomes 4 ms. -/
theorem test_linkDown :
    let s := ((up63.setF (Fld.PRT_LINK_CFG_DOWN_DEBOUNCE_US 63) 10).setF (Fld.PRT_LINK_STATUS_UP_WAIT_MS 63) 2).setFlag (Fld.PRT_LINK_CFG_FLAP_EN 63) true
    let s := s.setLink 63 { faults := [(1, s.clk - 6250)], upAt := some (s.clk - 3 * 625000000) }
    after (.linkDown 0 63) s (fun t => !t.portUp 63 && t.f (Fld.PRT_LINK_STATUS_UP_WAIT_MS 63) == 4 && t.reg (Reg.PRT_FLAP_CNT 63) == 1
      && (t.port 63).hold.isSome) = true ∧
    after (.linkDown 0 63) (s.setLink 63 { faults := [(1, s.clk - 6249)], upAt := some 0 }) (fun t => t.portUp 63) = true := by decide +kernel

/-- The worked storm of 16_violations_and_faults.md: priority 2 paused for 100 ms with a copy waiting. -/
theorem test_pauseStormStart :
    let s := queued up63 63
    let s := s.setRxPause 63 0 { until_ := s.clk + 1, since := some (s.clk - 62500000) }
    after (.pauseStormStart 0 63 0) s (fun t => (t.rxPause 63 0).storm.isSome && t.evt.gen.any (fun r => r.source == 76)) = true := by decide +kernel

/-- R199: a slew faster than 1,000 ppm is rejected, one at the limit is loaded. -/
theorem test_slewStart :
    let s (a : Int) := (live.setPair48 Reg.TIM_SLEW_AMT_LO Reg.TIM_SLEW_AMT_HI a).setReg Reg.TIM_SLEW_TICKS 1000
    after (.slewStart 0 0 0) (s 104858) (fun t => t.flag Fld.TIM_STATUS_SLEW_REJECTED && t.time.slew.isNone) = true ∧
    after (.slewStart 0 0 0) (s (-104857)) (fun t => t.time.slew == some ⟨-104857, 1000, 0⟩) = true := by decide +kernel

/-- R340: at 110 °C the governor takes step 1 at once. -/
theorem test_thermHot :
    after (.thermHot 0) ((gov 0 0).setF Fld.PWR_THERM_STATUS_TJ 1760) (fun t => t.f Fld.PWR_STATUS_GOV_STEP == 1) = true ∧
    after (.thermHot 0) ((gov 0 0).setF Fld.PWR_THERM_STATUS_TJ 1759) (fun t => t.f Fld.PWR_STATUS_GOV_STEP == 0) = true := by decide +kernel

/-- R17: a port that the image does not give adds nothing to its pipeline's load: one of 100 Gb/s in pipeline 3 needs 156,250,000 frames a second. -/
theorem test_floorLoad :
    let s : State := { live with img := { live.img with active := some { img0 with speeds := [(60, 6)] } } }
    s.floorLoad 3 = 156250 ∧ s.floorLoad 0 = 0 := by decide +kernel

/-- R65: the image of the tests verifies with its key; with one byte of a section, or of the signature, changed it does not. -/
theorem test_verify :
    live.verify img0 true = none ∧ live.verify { img0 with bytes := img0.bytes.set 420 1 } true = some 4 ∧
      live.verify { img0 with bytes := img0.bytes.set 531 0 } true = some 4 ∧ live.verify { img0 with readable := false } true = some 1 := by decide +kernel

/-- R310: a claim is taken from the second of two consecutive valid words; a word whose CRC-4 is wrong is not valid. The CRC-4 of 0x0001 is that of
x^4 mod x^4 + x + 1, 3. -/
theorem test_claimWordReceive :
    claimWordOf 1 = 0xE00013 ∧
    after (.claimWordReceive 0 0xE00013) live (fun t => t.f Fld.MIR_CLAIM_PARTNER == 0 && t.mir.word == some 1) = true ∧
    after (.claimWordReceive 0 0xE00012) live (fun t => t.mir.word == none) = true := by decide +kernel

/-- R267: the first edge of an input is counted; one 4 ticks (6.4 ns) later is missed, one 5 ticks (8 ns) later is captured. -/
theorem test_tinEdge :
    after (.tinEdge 0 0 true 0) (mode 0 1) (fun t => t.reg (Reg.TIC_EDGES 0) == 1 &&
      after (.tinEdge 4 0 true 0) t (fun r => r.reg (Reg.TIC_EDGES 0) == 1 && r.reg (Reg.TIC_MISSED 0) == 1) &&
      after (.tinEdge 5 0 true 0) t (fun r => r.reg (Reg.TIC_EDGES 0) == 2 && r.reg (Reg.TIC_MISSED 0) == 0)) = true := by decide +kernel

/-! ### Ill-formed commands -/

/-- Every term of a list is refused. -/
def refused (l : List Instr) : Bool := l.all (fun i => !i.wf)

/-- Each check against 2 refuses the first operand out of range. -/
theorem test_refuses_2 : refused (
      [.xppsDeclArm 0 2 0 0, .mirLaneChange 0 2 false]) = true := by decide +kernel

/-- Each check against 3 refuses the first operand out of range. -/
theorem test_refuses_3 : refused (
      [.oscRecentre 0 3 0]) = true := by decide +kernel

/-- Each check against 4 refuses the first operand out of range. -/
theorem test_refuses_4 : refused (
      [.sqDoorbell 0 4 0, .restructureQueueDiscard 0 4, .restructurePipelineLoaded 0 4, .restructureLanesReady 0 4, .learnInsert 0 4 0 false,
       .portFecChange 0 0 4 0 0, .ageSweepUnit 0 4, .pipelineSlow 0 4 0 0, .surpriseRemoval 0 4]) = true := by decide +kernel

/-- Each check against 5 refuses the first operand out of range. -/
theorem test_refuses_5 : refused (
      [.stashMove 0 5, .flashHousekeepingUnit 0 5 false 0 0]) = true := by decide +kernel

/-- Each check against 6 refuses the first operand out of range. -/
theorem test_refuses_6 : refused (
      [.pauseExpiry 0 0 6, .pauseStormStart 0 0 6, .pauseStormEnd 0 0 6]) = true := by decide +kernel

/-- Each check against 7 refuses the first operand out of range. -/
theorem test_refuses_7 : refused (
      [.phsAsymWrite 0 0 7 0 0]) = true := by decide +kernel

/-- Each check against 8 refuses the first operand out of range. -/
theorem test_refuses_8 : refused (
      [.msixHoldoffExpiry 0 8, .msixVectorUnmask 0 8, .irigFrame 0 8 [], .outStartRequest 0 8 0 0, .outStart 0 8, .outClockAutoRealigned 0 8,
       .outRealignEdge 0 8, .outputCalDone 0 8 [] []]) = true := by decide +kernel

/-- Each check against 10 refuses the first operand out of range. -/
theorem test_refuses_10 : refused (
      [.dmaError 0 10 0 0 0 0 0 0]) = true := by decide +kernel

/-- Each check against 12 refuses the first operand out of range. -/
theorem test_refuses_12 : refused (
      [.tblScrubUnit 0 12 [], .calTempTrigger 0 12 0]) = true := by decide +kernel

/-- Each check against 13 refuses the first operand out of range. -/
theorem test_refuses_13 : refused (
      [.domainFault 0 13 0 0 0, .domainRestore 0 13]) = true := by decide +kernel

/-- Each check against 15 refuses the first operand out of range. -/
theorem test_refuses_15 : refused (
      [.refDisagreeDetect 0 15 0 0 0, .refDisagreeDetect 0 0 15 0 0, .refDisagreeClear 0 15 0 0 0 0, .refDisagreeClear 0 0 15 0 0 0]) = true := by decide +kernel

/-- Each check against 16 refuses the first operand out of range. -/
theorem test_refuses_16 : refused (
      [.lanTxFirWrite 0 0 0 16, .portEnable 0 0 0 16, .portDisable 0 0 0 16, .portFecChange 0 0 0 0 16, .lanPrbsCfgWrite 0 0 0 16, .tblFlush 0 0 16,
       .gclEntryWrite 0 0 0 16, .gateConfigChange 0 0 0 16, .gateEnable 0 0 0 16, .gateDisable 0 0 0 16, .slewStart 0 0 16, .slewCancel 0 0 16] ++
      [.lanternEnable 0 0 0 16, .lanternDisable 0 0 0 16, .phsAsymWrite 0 0 0 0 16, .swapCaptureBefore 0 0 0 16, .swapCaptureAfter 0 0 0 16,
       .swapAbort 0 0 0 16, .refSlotCfgWrite 0 0 false 0 16, .virtFreqWrite 0 0 16, .xppsDeclArm 0 0 0 16, .outStartRequest 0 0 0 16,
       .tinEdge 0 16 false 0, .tinIntervalTimeout 0 16] ++
      [.tinFreqGate 0 16 0, .tinArm 0 16 0 0, .tinArm 0 0 0 16, .tinDisarm 0 16 0 0, .tinDisarm 0 0 0 16, .ticCfgWrite 0 16 0 0,
       .ticCfgWrite 0 0 0 16, .tinSettingApply 0 16, .tinCalLaunch 0 16, .mirEnable 0 0 16, .mirDisable 0 0 16, .mirHostStateSend 0 0 16] ++
      [.registerWrite 0 0 0 16]) = true := by decide +kernel

/-- Each check against 24 refuses the first operand out of range. -/
theorem test_refuses_24 : refused (
      [.refSlotCfgWrite 0 24 false 0 0, .refSlotFault 0 24 0 0 0, .refSlotFaultEnd 0 24 0 0, .refValidateExpiry 0 24 0, .refWtrExpiry 0 24 0,
       .timeSlotEdge 0 24 0 0]) = true := by decide +kernel

/-- Each check against 64 refuses the first operand out of range. -/
theorem test_refuses_64 : refused (
      [.frameReceive 0 64 [] (wire 0) [], .frameTransmit 0 64 [] false [], .framePreempt 0 64, .portHoldExpiry 0 64, .pfcXoffRefresh 0 64 0,
       .pfcFrameReceive 0 64 [], .llpFrameReceive 0 64 0, .pauseExpiry 0 64 0, .pauseStormStart 0 64 0, .pauseStormEnd 0 64 0,
       .bufScrubUnit 0 64 [] [], .malformedRateSecond 0 64] ++
      [.lanTxFirWrite 0 64 0 0, .adaptDone 0 64 0, .linkDown 0 64, .linkUp 0 64, .flapRecover 0 64, .amLockLost 0 64 0 0, .deskewRetry 0 64,
       .anRefused 0 64, .portEnable 0 64 0 0, .portDisable 0 64 0 0, .portFecChange 0 64 0 0 0, .lanPrbsCfgWrite 0 64 0 0] ++
      [.prbsInjectSingle 0 64, .prbsInjectBurst 0 64, .prbsLockChange 0 64 false 0 0, .prbsIntervalEnd 0 64 0 0, .preemptVerifyTimer 0 64,
       .preemptVerifyResponse 0 64 false, .gclEntryWrite 0 64 0 0, .gateConfigChange 0 64 0 0, .gateEnable 0 64 0 0, .gateDisable 0 64 0 0,
       .gateListStart 0 64, .gateEntryChange 0 64] ++
      [.tsfRead 0 64, .lanternEnable 0 64 0 0, .lanternDisable 0 64 0 0, .lanternBlockReport 0 64, .lanternReportSparse 0 64,
       .lanternReportRead 0 64, .lanternWordTimeout 0 64, .lanternSuspendEnd 0 64, .phsAsymWrite 0 64 0 0 0, .swapCaptureBefore 0 64 0 0,
       .swapCaptureAfter 0 64 0 0, .swapAbort 0 64 0 0] ++
      [.swapAvgEnd 0 64, .swapGapTimeout 0 64, .portCalDone 0 64 0 0 [] [], .portCalAbandon 0 64, .portCalRetry 0 64, .signalDetect 0 64 false,
       .blockLockChange 0 64 0 false 0 0 0 0 {}]) = true := by decide +kernel

/-- Each check against 66 refuses the first operand out of range. -/
theorem test_refuses_66 : refused (
      [.lanternSetOffer 0 66 false [], .lanternWordReceive 0 66 []]) = true := by decide +kernel

/-- Each check against 96 refuses the first operand out of range. -/
theorem test_refuses_96 : refused (
      [.evtCoalesceWindowEnd 0 96 0]) = true := by decide +kernel

/-- Each check against 203 refuses the first operand out of range. -/
theorem test_refuses_203 : refused (
      [.interpCalDone 0 203 0 [] [], .phaseDetCalDone 0 203 0 [] []]) = true := by decide +kernel

/-- Each check against 512 refuses the first operand out of range. -/
theorem test_refuses_512 : refused (
      [.cmdRegWrite 0 512, .cmdRegRead 0 512, .cmdTblInsert 0 512 0, .cmdTblDelete 0 512, .cmdTblLookup 0 512, .cmdTblRead 0 512, .cmdTxnBegin 0 512,
       .cmdTxnCommit 0 512, .cmdTxnRollback 0 512, .cmdImageLoad 0 512 img0, .cmdCalRun 0 512, .cmdOutRealign 0 512] ++
      [.cmdTimeStep 0 512, .cmdPairExchange 0 512, .cmdLanePrbs 0 512, .cmdFence 0 512, .tinEdge 0 0 false 512]) = true := by decide +kernel

/-- Each check against 8192 refuses the first operand out of range. -/
theorem test_refuses_8192 : refused (
      [.frerRogueIntervalEnd 0 8192, .frerDupBurstCheck 0 8192, .frerResetTimer 0 8192]) = true := by decide +kernel

/-- The last operands in range are taken. -/
theorem test_takes_last : [Instr.cmdRegRead 0 511, .linkUp 0 63, .pauseExpiry 0 63 5, .refSlotFault 0 23 0 0 0, .domainRestore 0 12, .irigFrame 0 7 [],
    .frerResetTimer 0 8191, .dmaError 0 9 0 0 0 0 0 0, .interpCalDone 0 202 0 [] [], .phsAsymWrite 0 63 6 0 15].all Instr.wf = true := by decide +kernel

end Sys2Proof.Tests
end

/-! ### The 96-bit layout of module time (R8) -/

namespace Sys2Proof.Machine

/-- The word of R8's layout that holds the given seconds, nanoseconds and fraction. -/
def timeWord (sec ns frac : Nat) : Nat := sec * 2 ^ 48 + ns * 2 ^ 16 + frac

section TimeWord

variable {sec ns frac : Nat}

theorem timeWord_lt (hsec : sec < 2 ^ 48) (hns : ns < 2 ^ 30) (hfrac : frac < 2 ^ 16) :
    timeWord sec ns frac < 2 ^ 96 := by
  unfold timeWord; omega

theorem timeWord_seconds (hns : ns < 2 ^ 30) (hfrac : frac < 2 ^ 16) :
    timeWord sec ns frac / 2 ^ 48 = sec := by
  unfold timeWord; omega

theorem timeWord_zeroBits (hns : ns < 2 ^ 30) (hfrac : frac < 2 ^ 16) :
    timeWord sec ns frac / 2 ^ 46 % 4 = 0 := by
  unfold timeWord; omega

theorem timeWord_nanoseconds (hns : ns < 2 ^ 30) (hfrac : frac < 2 ^ 16) :
    timeWord sec ns frac / 2 ^ 16 % 2 ^ 30 = ns := by
  unfold timeWord; omega

theorem timeWord_fraction (hfrac : frac < 2 ^ 16) : timeWord sec ns frac % 2 ^ 16 = frac := by
  unfold timeWord; omega

/-- With the two bits [47:46] zero, a word is put together from its three fields. -/
theorem timeWord_fields {w : Nat} (hzero : w / 2 ^ 46 % 4 = 0) :
    timeWord (w / 2 ^ 48) (w / 2 ^ 16 % 2 ^ 30) (w % 2 ^ 16) = w := by
  unfold timeWord; omega

theorem ofTime96_timeWord (hns : ns < 2 ^ 30) (hfrac : frac < 2 ^ 16) :
    ofTime96 (timeWord sec ns frac) = sec * unitsPerS + ns * 65536 + frac := by
  have hwide : timeWord sec ns frac / 2 ^ 16 % 2 ^ 32 = ns := by unfold timeWord; omega
  have hlow : timeWord sec ns frac % 65536 = frac := timeWord_fraction hfrac
  rw [ofTime96, timeWord_seconds hns hfrac, hwide, hlow]

theorem time96_of_fields (hns : ns < 1000000000) (hfrac : frac < 65536) :
    time96 (sec * unitsPerS + ns * 65536 + frac) = timeWord sec ns frac := by
  unfold time96 timeWord unitsPerS; omega

end TimeWord

/-- A time is its seconds, its nanoseconds within the second and its fraction of a nanosecond. -/
theorem time_eq_fields (t : Nat) :
    t / unitsPerS * unitsPerS + t / 65536 % 1000000000 * 65536 + t % 65536 = t := by
  unfold unitsPerS; omega

theorem nanoseconds_lt (t : Nat) : t / 65536 % 1000000000 < 1000000000 := Nat.mod_lt _ (by decide)

theorem time96_eq_timeWord (t : Nat) :
    time96 t = timeWord (t / unitsPerS) (t / 65536 % 1000000000) (t % 65536) := by
  have hword := time96_of_fields (sec := t / unitsPerS) (nanoseconds_lt t) (Nat.mod_lt t (show 65536 > 0 by decide))
  rwa [time_eq_fields] at hword

theorem ofTime96_time96 (t : Nat) : ofTime96 (time96 t) = t := by
  have hns : t / 65536 % 1000000000 < 2 ^ 30 := Nat.lt_trans (nanoseconds_lt t) (by decide)
  have hfrac : t % 65536 < 2 ^ 16 := Nat.mod_lt _ (by decide)
  rw [time96_eq_timeWord, ofTime96_timeWord hns hfrac, time_eq_fields]

theorem time96_ofTime96 {w : Nat} (hzero : w / 2 ^ 46 % 4 = 0) (hns : w / 2 ^ 16 % 2 ^ 30 ≤ 999999999) :
    time96 (ofTime96 w) = w := by
  have hfrac : w % 2 ^ 16 < 2 ^ 16 := Nat.mod_lt _ (by decide)
  calc time96 (ofTime96 w)
      = time96 (ofTime96 (timeWord (w / 2 ^ 48) (w / 2 ^ 16 % 2 ^ 30) (w % 2 ^ 16))) := by
        rw [timeWord_fields hzero]
    _ = time96 (w / 2 ^ 48 * unitsPerS + w / 2 ^ 16 % 2 ^ 30 * 65536 + w % 2 ^ 16) := by
        rw [ofTime96_timeWord (Nat.mod_lt _ (by decide)) hfrac]
    _ = timeWord (w / 2 ^ 48) (w / 2 ^ 16 % 2 ^ 30) (w % 2 ^ 16) :=
        time96_of_fields (Nat.lt_succ_of_le hns) hfrac
    _ = w := timeWord_fields hzero

/-- The nanosecond after the last one of a second is the first one of the next. -/
theorem time96_carry (s : Nat) :
    time96 (s * unitsPerS + 999999999 * 65536 + 65536) = (s + 1) * 2 ^ 48 := by
  have hnext : s * unitsPerS + 999999999 * 65536 + 65536 = (s + 1) * unitsPerS + 0 * 65536 + 0 := by
    unfold unitsPerS; omega
  rw [hnext, time96_of_fields (by decide) (by decide), timeWord, Nat.zero_mul, Nat.add_zero, Nat.add_zero]

/-- Settles O58: a time's word is the word of its three fields, whose places R8 gives. -/
theorem moduleTimeOccupiesNinetySixBits : Obligations.ModuleTimeOccupiesNinetySixBits := by
  refine ⟨fun t ht => ?_, fun w => time96_ofTime96, time96_carry⟩
  have hsec : t / unitsPerS < 2 ^ 48 := (Nat.div_lt_iff_lt_mul (by decide)).2 ht
  have hlt := nanoseconds_lt t
  have hns : t / 65536 % 1000000000 < 2 ^ 30 := Nat.lt_trans hlt (by decide)
  have hfrac : t % 65536 < 2 ^ 16 := Nat.mod_lt _ (by decide)
  have hword := time96_eq_timeWord t
  refine ⟨?_, ?_, ?_, ?_, ?_, ?_, ofTime96_time96 t⟩
  · exact hword ▸ timeWord_lt hsec hns hfrac
  · exact hword ▸ timeWord_seconds hns hfrac
  · exact hword ▸ timeWord_zeroBits hns hfrac
  · exact hword ▸ timeWord_nanoseconds hns hfrac
  · rw [hword, timeWord_nanoseconds hns hfrac]
    exact Nat.le_of_lt_succ hlt
  · exact hword ▸ timeWord_fraction hfrac

end Sys2Proof.Machine

/-! ### The host interface (02_host_interface.md): the journal, the event queue, the function and its registers -/

namespace Sys2Proof.Machine

/-! #### Which command may begin (R31, R45) -/

theorem State.inOrder_iff (s : State) (e : JEntry) :
    s.inOrder e = true ↔ ∀ p ∈ s.hif.journal, ∀ x, p.2 = some x → holdsBack x e = false := by
  unfold State.inOrder
  rw [List.all_eq_true]
  refine forall₂_congr fun p _ => ?_
  cases p.2 with
  | none => simp
  | some x => simp

theorem State.startable_eq_some_iff (s : State) (tag op : Nat) (e : JEntry) :
    s.startable tag op = some e ↔ s.jget tag = some e ∧ e.st = .received ∧ e.started = false ∧ e.opcode = op ∧ s.domainOn 4 = true ∧
      s.inOrder e = true ∧ (e.indirect = false ∧ op ≠ 0x30 ∨ s.dmaOk = true) := by
  unfold State.startable
  cases s.jget tag with
  | none => simp
  | some d =>
    dsimp only
    rw [Option.ite_none_right_eq_some]
    constructor
    · rintro ⟨h, hd⟩
      obtain rfl := Option.some.inj hd
      exact ⟨rfl, h⟩
    · rintro ⟨hd, h⟩
      obtain rfl := Option.some.inj hd
      exact ⟨h, rfl⟩

/-- Settles O6: the guard under which a command begins, with R45's order spelled out entry by entry. -/
theorem commandBeginsOnlyWhenItsTurnHasCome : Obligations.CommandBeginsOnlyWhenItsTurnHasCome := by
  intro s tag op e
  have hdma : (e.indirect = false ∧ op ≠ 0x30 ∨ s.dmaOk = true) ↔ (e.indirect = true ∨ op = 0x30 → s.dmaOk = true) := by
    rw [Decidable.imp_iff_not_or, not_or, Bool.not_eq_true]
  rw [State.startable_eq_some_iff, State.inOrder_iff, hdma]

/-! #### The end of a command (R42 to R46) -/

/-- While nothing is mirrored, the end of a command is the change of the journal alone. -/
theorem State.finish_alone (s : State) (tag st a b : Nat) (e : JEntry) (h : s.jget tag = some e) (hm : s.mirrors = false) :
    s.finish tag st a b =
      { s with hif := { (s.jput tag (some { e with st := .done, comp := ⟨st, a, b, s.now16⟩ })).hif with doneQ := s.hif.doneQ ++ [tag] } } := by
  unfold State.finish
  simp only [h]
  exact State.markPartner_alone _ _ _ _ hm

/-- Settles O7: what an end leaves in the journal, and its frame. -/
theorem endOfCommandPreparesOneCompletion : Obligations.EndOfCommandPreparesOneCompletion := by
  intro s tag status a b e h
  have hj := State.jget_finish s tag status a b e h
  refine ⟨by rw [hj, if_pos rfl], fun other ho => by rw [hj, if_neg ho], State.finish_doneQ s tag status a b e h,
    by simp, by simp, by simp, by simp, by simp, by simp, by simp, fun hm => ?_⟩
  rw [State.finish_alone s tag status a b e h hm]
  exact ⟨rfl, rfl, rfl⟩

/-- A rejection is its count, event 91 and an end with status 0x10. -/
theorem State.malformed_eq (s : State) (tag reason place : Nat) (e : JEntry) (h : s.jget tag = some e) :
    ∃ detail, s.malformed tag reason place = ((s.bump Reg.HIF_MALFORMED_CNT).raise 91 e.ring detail).finish tag 0x10 reason 0 := by
  unfold State.malformed
  simp only [h]
  exact ⟨_, rfl⟩

/-- Settles O8: the registers that a rejection counts in lie apart from each other and from MIR_MSG_TX. -/
theorem rejectedCommandIsCountedAndCompletesMalformed : Obligations.RejectedCommandIsCountedAndCompletesMalformed := by
  intro s tag reason place e h
  obtain ⟨detail, heq⟩ := s.malformed_eq tag reason place e h
  have hbumped : ((s.bump Reg.HIF_MALFORMED_CNT).raise 91 e.ring detail).jget tag = some e := by simpa using h
  dsimp only
  rw [heq]
  refine ⟨?_, ?_, ?_, fun hon => ?_, by simp, by simp, by simp, by simp⟩
  · rw [State.reg_finish_ne _ _ _ _ _ _ (by decide), State.reg_raise_ne _ _ _ _ _ (by decide), State.reg_bump, if_pos rfl]
  · rw [State.jget_finish _ _ _ _ _ _ hbumped, if_pos rfl, State.now16_raise, State.now16_bump]
  · rw [State.finish_doneQ _ _ _ _ _ _ hbumped, State.raise_hif, State.bump_hif]
  · have hon' : (s.bump Reg.HIF_MALFORMED_CNT).domainOn 4 = true := by
      unfold State.domainOn State.f at hon ⊢
      rwa [State.reg_bump, if_neg (by decide)]
    rw [State.reg_finish_ne _ _ _ _ _ _ (by decide), State.reg_raise, if_pos ⟨rfl, hon'⟩, State.reg_bump, if_neg (by decide)]

/-! #### Register commands (R39, R75, R77, R412) -/

theorem exec_cmdRegRead (s : State) (dt tag : Nat) (ht : tag < 512) :
    exec (.cmdRegRead dt tag) s = .next (((s.advance dt).cmdRegRead tag).keeping s) :=
  after_pos s dt _ (fun t => t.cmdRegRead tag) (decide_eq_true ht)

theorem exec_cmdRegWrite (s : State) (dt tag : Nat) (ht : tag < 512) :
    exec (.cmdRegWrite dt tag) s = .next (((s.advance dt).cmdRegWrite tag).keeping s) :=
  after_pos s dt _ (fun t => t.cmdRegWrite tag) (decide_eq_true ht)

/-- A plain read of a mapped offset completes OK with the word that a host's read returns, and changes what that read changes. -/
theorem State.cmdRegRead_plain (s : State) (tag : Nat) (e : JEntry) (r : RegRow × Nat × Nat) (hs : s.startable tag 0x02 = some e)
    (hr : findReg (e.op 16 4) = some r) (hp : e.stagedRead = false) :
    s.cmdRegRead tag = (s.hostRead (e.op 16 4)).2.finish tag 0 (s.hostRead (e.op 16 4)).1.toNat 0 := by
  simp [State.cmdRegRead, hs, hr, hp, stOk]

/-- A plain write whose checks find nothing. -/
theorem State.cmdRegWrite_plain (s : State) (tag : Nat) (e : JEntry) (hs : s.startable tag 0x01 = some e) (ht : e.txn = 0)
    (hf : s.dueFirst.writeFault true (e.op 16 4) (BitVec.ofNat 32 (e.op 20 4)) (BitVec.ofNat 32 (e.op 24 4)) = none) :
    s.cmdRegWrite tag =
      (((s.dueFirst.mark tag).writeDone (e.op 16 4) (BitVec.ofNat 32 (e.op 20 4)) (BitVec.ofNat 32 (e.op 24 4))).finishMarked tag) := by
  simp [State.cmdRegWrite, hs, ht, hf]

/-- A write into the open transaction that passes the staging checks. -/
theorem State.cmdRegWrite_staged (s : State) (tag : Nat) (e : JEntry) (hs : s.startable tag 0x01 = some e) (ht : e.txn ≠ 0)
    (hc : s.canStage e.txn = true)
    (hf : s.stageFault (e.op 16 4) (BitVec.ofNat 32 (e.op 20 4)) (BitVec.ofNat 32 (e.op 24 4)) = none) :
    s.cmdRegWrite tag =
      ((s.mark tag).stageReg (e.op 16 4) (BitVec.ofNat 32 (e.op 20 4)) (BitVec.ofNat 32 (e.op 24 4))).finish tag 0 0 0 := by
  simp [State.cmdRegWrite, hs, ht, hc, hf, stOk]

/-- Settles O9: the two commands, each in the branch that its checks choose. -/
theorem registerCommandsComplete : Obligations.RegisterCommandsComplete := by
  rintro s _ dt tag e rfl htag
  refine ⟨fun r hs hr hp => ?_, fun hs ht hf => ?_, fun x hs ht hx hid hst hf => ?_⟩
  · rw [exec_cmdRegRead s dt tag htag, State.cmdRegRead_plain _ tag e r hs hr hp]
  · rw [exec_cmdRegWrite s dt tag htag, State.cmdRegWrite_plain _ tag e hs ht hf]
  · have hc : (s.advance dt).canStage e.txn = true := by simp [State.canStage, hx, hid, hst, tsOpen]
    rw [exec_cmdRegWrite s dt tag htag, State.cmdRegWrite_staged _ tag e hs ht hc hf]

/-! #### Fetching (R35, R36) -/

theorem freeTag_sound (used : Nat → Bool) (pick n tag : Nat) (h : freeTag used pick n = some tag) : tag < 512 ∧ used tag = false := by
  induction n generalizing pick with
  | zero => cases h
  | succ n ih =>
    unfold freeTag at h
    by_cases hu : used (pick % 512) = true
    · rw [if_pos hu] at h
      exact ih (pick + 1) h
    · rw [if_neg hu] at h
      obtain rfl := Option.some.inj h
      exact ⟨Nat.mod_lt _ (by decide), by simpa using hu⟩

/-- The search reaches every tag up to `n - 1` places after the one it starts at. -/
theorem freeTag_complete (used : Nat → Bool) (pick n i : Nat) (hi : i < n) (hfree : used ((pick + i) % 512) = false) :
    ∃ tag, freeTag used pick n = some tag := by
  induction n generalizing pick i with
  | zero => cases hi
  | succ n ih =>
    unfold freeTag
    by_cases hu : used (pick % 512) = true
    · rw [if_pos hu]
      cases i with
      | zero => rw [Nat.add_zero, hu] at hfree; cases hfree
      | succ i => exact ih (pick + 1) i (Nat.lt_of_succ_lt_succ hi) (by rwa [Nat.add_right_comm])
    · rw [if_neg hu]
      exact ⟨_, rfl⟩

/-- A free tag is found whenever there is one. -/
theorem freeTag_of_free (used : Nat → Bool) (pick tag : Nat) (ht : tag < 512) (hfree : used tag = false) :
    ∃ t, freeTag used pick 512 = some t ∧ t < 512 ∧ used t = false := by
  have hplace : (pick + (tag + 512 - pick % 512) % 512) % 512 = tag := by omega
  obtain ⟨t, h⟩ := freeTag_complete used pick 512 ((tag + 512 - pick % 512) % 512) (Nat.mod_lt _ (by decide)) (by rwa [hplace])
  exact ⟨t, h, freeTag_sound used pick 512 t h⟩

theorem exec_commandFetch (s : State) (dt : Nat) (cmd : BitVec 512) (pick : Nat) (buffer : List Byte) :
    exec (.commandFetch dt cmd pick buffer) s = .next (((s.advance dt).fetch cmd pick buffer).keeping s) :=
  after_pos s dt _ (fun t => t.fetch cmd pick buffer) rfl

/-- A fetch of a command that passes the format checks: the turn, HEAD and the journal. -/
theorem State.fetch_of_allowed (s : State) (cmd : BitVec 512) (buffer : List Byte) (pick r tag : Nat) (hdma : s.dmaOk = true)
    (heject : s.rst.ejectAt = none) (hroom : s.tagsInFlight < 512) (hrel : s.releasePending = false) (hring : s.nextRing = some r)
    (htag : freeTag (fun t => (s.jget t).isSome) pick 512 = some tag)
    (hfmt : formatFault ⟨r, s.hif.fetchSeq, cmd, buffer, .received, false, false, ⟨0, 0, 0, 0⟩⟩ = none) :
    ∃ taken, s.fetch cmd pick buffer =
      ((({ s with hif := { s.hif with fetchSeq := s.hif.fetchSeq + 1, rrRing := r, rrTaken := taken } } : State).setF (Fld.HIF_SQ_HEAD_HEAD r)
        ((s.f (Fld.HIF_SQ_HEAD_HEAD r) + 1) % ringSize (s.f (Fld.HIF_SQ_CFG_SIZE_LOG2 r)))).jput tag
          (some ⟨r, s.hif.fetchSeq, cmd, buffer, .received, false, false, ⟨0, 0, 0, 0⟩⟩)).markPartner tag 1
          ⟨r, s.hif.fetchSeq, cmd, buffer, .received, false, false, ⟨0, 0, 0, 0⟩⟩ := by
  unfold State.fetch
  rw [if_pos (by simp [hdma, heject, hroom, hrel])]
  simp only [hring, htag, hfmt]
  exact ⟨_, rfl⟩

/-- Settles O12: the fetch's frame, and the search for a free tag. -/
theorem fetchRecordsTheCommandUnderAFreeTag : Obligations.FetchRecordsTheCommandUnderAFreeTag := by
  refine ⟨?_, fun used pick ⟨tag, ht, hfree⟩ => freeTag_of_free used pick tag ht hfree⟩
  rintro s _ dt cmd buffer pick r tag rfl hdma heject hroom hrel hring htag hfmt
  obtain ⟨hlt, hfree⟩ := freeTag_sound _ _ _ _ htag
  obtain ⟨taken, heq⟩ := State.fetch_of_allowed _ cmd buffer pick r tag hdma heject hroom hrel hring htag hfmt
  have hhead : (Fld.HIF_SQ_HEAD_HEAD r).off ≠ Reg.MIR_MSG_TX := by
    show 0x20110 + r * 0x20 ≠ 0x1D005C
    omega
  refine ⟨_, exec_commandFetch s dt cmd pick buffer, by simpa using hfree, hlt, ?_, fun other ho => ?_, ?_, ?_, ?_, ?_, ?_, ?_⟩
  · rw [heq, State.keeping_jget, State.markPartner_jget, State.jget_jput, if_pos rfl]
  · rw [heq, State.keeping_jget, State.markPartner_jget, State.jget_jput, if_neg ho]
    rfl
  · rw [heq, State.f_keeping]
    unfold State.f
    rw [State.reg_markPartner_ne _ _ _ _ _ hhead]
    exact State.f_setF_same _ _ _ (by decide : 0 + 12 ≤ 32)
  · rw [heq, State.keeping_hif, State.markPartner_hif]; rfl
  · rw [heq, State.keeping_hif, State.markPartner_hif]; rfl
  · rw [heq, State.keeping_tbl, State.markPartner_tbl]; rfl
  · rw [heq, State.keeping_buf, State.markPartner_buf]; rfl
  · rw [heq, State.keeping_txn, State.markPartner_txn]; rfl

/-! #### Doorbells, vectors and register writes (R35, R50, R372, R390) -/

theorem exec_sqDoorbell (s : State) (dt n tail : Nat) (hn : n < 4) :
    exec (.sqDoorbell dt n tail) s = .next (((s.advance dt).mmioWrite (Reg.HIF_SQ_TAIL n) (w32 tail) 0xFFFFFFFF).keeping s) :=
  after_pos s dt _ (fun t => t.mmioWrite (Reg.HIF_SQ_TAIL n) (w32 tail) 0xFFFFFFFF) (decide_eq_true hn)

theorem exec_cpuTxDoorbell (s : State) (dt tail : Nat) :
    exec (.cpuTxDoorbell dt tail) s = .next (((s.advance dt).mmioWrite Reg.HIF_CPU_TX_TAIL (w32 tail) 0xFFFFFFFF).keeping s) :=
  after_pos s dt _ (fun t => t.mmioWrite Reg.HIF_CPU_TX_TAIL (w32 tail) 0xFFFFFFFF) rfl

theorem exec_msixVectorUnmask (s : State) (dt v : Nat) (hv : v < 8) :
    exec (.msixVectorUnmask dt v) s = .next (((s.advance dt).mmioWrite (Reg.HIF_MSIX_CTRL v) 0 0xFFFFFFFF).keeping s) :=
  after_pos s dt _ (fun t => t.mmioWrite (Reg.HIF_MSIX_CTRL v) 0 0xFFFFFFFF) (decide_eq_true hv)

theorem exec_registerWrite (s : State) (dt off : Nat) (value : Word) (be : Nat) :
    exec (.registerWrite dt off value be) s = .next (((s.advance dt).mmioWrite off value (byteMask be)).keeping s) :=
  after_pos s dt _ (fun t => t.mmioWrite off value (byteMask be)) rfl

theorem State.unmaskVector_sends (s : State) (v : Nat) (hp : s.pba.testBit v = true) (he : s.hif.msixEnable = true)
    (hf : s.hif.msixFuncMask = false) (hm : s.flag (Fld.HIF_MSIX_CTRL_MASK v) = false) :
    s.unmaskVector v = (s.setPba v false).emit (.msix v) := by
  simp [State.unmaskVector, hp, he, hf, hm]

theorem State.unmaskVector_stays (s : State) (v : Nat)
    (h : s.pba.testBit v = false ∨ s.hif.msixEnable = false ∨ s.hif.msixFuncMask = true) : s.unmaskVector v = s := by
  unfold State.unmaskVector
  refine if_neg ?_
  obtain h | h | h := h <;> simp [h]

/-- A write of a vector's mask ends in the unmasking of that vector. -/
theorem State.mmioWrite_msixCtrl (s : State) (v : Nat) (hv : v < 8) (value mask : Word)
    (ht : s.takesWrite (Reg.HIF_MSIX_CTRL v) value mask = true) :
    s.mmioWrite (Reg.HIF_MSIX_CTRL v) value mask = ((s.written (Reg.HIF_MSIX_CTRL v) value mask).unmaskVector v).rewrite := by
  rw [mmioWrite_HIF_MSIX_CTRL s v hv value mask ht, regEffect_HIF_MSIX_CTRL, farEffect_HIF_MSIX_CTRL]

/-- Settles O14: each write that reaches its register, with the effect of that register's row. -/
theorem hostWritesReachTheirRegister : Obligations.HostWritesReachTheirRegister := by
  rintro s _ dt rfl
  refine ⟨fun n tail hn ht => ?_, fun tail ht => ?_, fun v hv ht => ⟨?_, fun hstay => ?_⟩, fun off value be ht => ?_⟩
  · rw [exec_sqDoorbell s dt n tail hn, mmioWrite_HIF_SQ_TAIL _ n hn _ _ ht, regEffect_HIF_SQ_TAIL, farEffect_HIF_SQ_TAIL]
  · rw [exec_cpuTxDoorbell, mmioWrite_HIF_CPU_TX_TAIL _ _ _ ht, regEffect_HIF_CPU_TX_TAIL, farEffect_HIF_CPU_TX_TAIL]
  · rintro ⟨hp, he, hf, hm⟩
    rw [exec_msixVectorUnmask s dt v hv, State.mmioWrite_msixCtrl _ v hv _ _ ht, State.unmaskVector_sends _ v hp he hf hm]
  · rw [exec_msixVectorUnmask s dt v hv, State.mmioWrite_msixCtrl _ v hv _ _ ht, State.unmaskVector_stays _ v hstay]
  · rw [exec_registerWrite, State.mmioWrite_takes _ _ _ _ ht]

/-! #### The event queue (R54 to R58) -/

theorem exec_eventRecordWrite (s : State) (dt : Nat) :
    exec (.eventRecordWrite dt) s = .next (((s.advance dt).writeEvent).keeping s) := after_pos s dt _ State.writeEvent rfl

theorem exec_evtOverflowEnd (s : State) (dt : Nat) :
    exec (.evtOverflowEnd dt) s = .next (((s.advance dt).overflowEnd).keeping s) := after_pos s dt _ State.overflowEnd rfl

theorem exec_evtHeldFlush (s : State) (dt : Nat) :
    exec (.evtHeldFlush dt) s = .next (((s.advance dt).flushHeld).keeping s) := after_pos s dt _ State.flushHeld rfl

theorem exec_evtCoalesceWindowEnd (s : State) (dt src scope : Nat) (h : src < 96) :
    exec (.evtCoalesceWindowEnd dt src scope) s = .next (((s.advance dt).windowEnd src scope).keeping s) :=
  after_pos s dt _ (fun t => t.windowEnd src scope) (decide_eq_true h)

/-- With nothing before it and two slots free, the oldest record goes into the queue under the next SEQ. -/
theorem State.writeEvent_writes (s : State) (r : EvtRec) (rest : List EvtRec) (hg : s.evt.gen = r :: rest) (hw : s.evtWritable = true)
    (hh : s.evt.held = []) (hf : 2 ≤ s.evtFree) (ho : s.evt.overflow = none) :
    s.writeEvent = (State.takeSeq { s with evt := { s.evt with gen := rest } }).2.putRecord
      (State.takeSeq { s with evt := { s.evt with gen := rest } }).1 r := by
  have hroom : ¬ s.evtFree ≤ 1 := by omega
  simp [State.writeEvent, hg, hw, hh, hroom, ho]

/-- While the queue cannot be written the oldest record joins those held. -/
theorem State.writeEvent_holds (s : State) (r : EvtRec) (rest : List EvtRec) (hg : s.evt.gen = r :: rest) (hw : s.evtWritable = false)
    (hl : s.evt.held.length < 256) :
    s.writeEvent = { (State.takeSeq { s with evt := { s.evt with gen := rest } }).2 with
      evt := { s.evt with gen := rest, held := s.evt.held ++ [((State.takeSeq { s with evt := { s.evt with gen := rest } }).1, r)] } } := by
  simp only [State.writeEvent, hg, hw, hl, Bool.not_false, ite_true]
  rfl

theorem State.overflowEnd_writes (s : State) (o : Overflow) (ho : s.evt.overflow = some o) (hw : s.evtWritable = true)
    (hh : s.evt.held = []) (hf : 2 ≤ s.evtFree) : s.overflowEnd = (s.setOverflow none).overflowRecord o true := by
  simp [State.overflowEnd, ho, hw, hh, hf]

/-- A single held record is written as soon as the queue can be. -/
theorem State.flushHeld_single (s : State) (q : Nat) (r : EvtRec) (hh : s.evt.held = [(q, r)]) (hw : s.evtWritable = true)
    (hf : 2 ≤ s.evtFree) :
    s.flushHeld = (({ s with evt := { s.evt with held := [] } } : State).putRecord q r).overflowEnd := by
  have hroom : ¬ ({ s with evt := { s.evt with held := [] } } : State).evtFree ≤ 1 := by
    show ¬ s.evtFree ≤ 1
    omega
  simp [State.flushHeld, hw, hh, State.flushRecords, hroom]

/-- A window that has gathered occurrences ends with their record and begins anew. -/
theorem State.windowEnd_gathered (s : State) (src scope : Nat) (w : Coalesce)
    (hw : s.evt.windows.find? (fun w => w.source == src && w.scope == scope) = some w) (ht : w.since + 625000 ≤ s.clk)
    (hg : w.gathered ≠ 0) (hm : s.masked src = false) :
    s.windowEnd src scope = ({ s with evt := { s.evt with
        windows := s.evt.windows.filter (fun w => !(w.source == src && w.scope == scope)) ++
          [⟨src, scope, s.clk, 0, 0, s.corrected src scope, w.last⟩] } } : State).genRecord
      ((w.last.counted w.gathered w.flags).fecWindow (s.corrected src scope + 2 ^ 32 - w.corrected)) := by
  have hp : s.passed w.since 1 Config.ticksPerMs = true := decide_eq_true (by simpa [Config.ticksPerMs] using ht)
  unfold State.windowEnd
  simp only [hw, hp, hg, hm, ite_true, Bool.false_eq_true, or_self, ite_false]
  rfl

/-- Settles O16: each row of the event queue in the branch that its conditions choose. -/
theorem eventsLeaveInOrderOrAreHeld : Obligations.EventsLeaveInOrderOrAreHeld := by
  rintro s _ dt rfl
  refine ⟨fun r rest hg => ⟨rfl, ?_, fun hw hh hf ho => ?_, fun hw hl => ?_⟩, fun o ho hw hh hf => ?_, fun q r hh hw hf _ => ?_,
    fun src scope w hsrc hw ht hgath hm => ?_⟩
  · exact (State.reg_bump _ _ _).trans (if_pos rfl)
  · rw [exec_eventRecordWrite, State.writeEvent_writes _ r rest hg hw hh hf ho]
  · rw [exec_eventRecordWrite, State.writeEvent_holds _ r rest hg hw hl]
  · rw [exec_evtOverflowEnd, State.overflowEnd_writes _ o ho hw hh hf]
  · rw [exec_evtHeldFlush, State.flushHeld_single _ q r hh hw hf]
  · refine ⟨_, exec_evtCoalesceWindowEnd s dt src scope hsrc, ?_⟩
    rw [State.windowEnd_gathered _ src scope w hw ht hgath hm]
    exact ⟨rfl, rfl, rfl, rfl, rfl⟩

/-! #### The function reset (R30) -/

theorem exec_functionReset (s : State) (dt : Nat) :
    exec (.functionReset dt) s = .next (((s.advance dt).functionReset).keeping s) := after_pos s dt _ State.functionReset rfl

theorem State.reg_clearRegs (s : State) (p : Nat → Bool) (o : Nat) :
    (s.clearRegs p).reg o = if p o then regReset o else s.reg o := Store.get_clear _ _ _ _

theorem State.reg_noteReset (s : State) (cause : Nat) (cleared : List Nat) (o : Nat) : (s.noteReset cause cleared).reg o =
    (((s.setF Fld.GEN_RESET_CAUSE_CAUSE cause).setF Fld.GEN_RESET_CAUSE_CLEARED (domainMask cleared)).bump Reg.GEN_RESET_CNT).reg o := rfl

/-- A reset is noted in GEN_RESET_CAUSE and GEN_RESET_CNT alone. -/
theorem State.reg_noteReset_ne (s : State) (cause : Nat) (cleared : List Nat) (o : Nat) (hc : o ≠ Reg.GEN_RESET_CAUSE)
    (hn : o ≠ Reg.GEN_RESET_CNT) : (s.noteReset cause cleared).reg o = s.reg o := by
  rw [State.reg_noteReset, State.reg_bump, if_neg hn, State.reg_setF_ne _ _ _ _ hc, State.reg_setF_ne _ _ _ _ hc]

theorem State.noteReset_cnt (s : State) (cause : Nat) (cleared : List Nat) :
    (s.noteReset cause cleared).reg Reg.GEN_RESET_CNT = s.reg Reg.GEN_RESET_CNT + 1 := by
  rw [State.reg_noteReset, State.reg_bump, if_pos rfl, State.reg_setF_ne _ _ _ _ (by decide), State.reg_setF_ne _ _ _ _ (by decide)]

/-- The word of GEN_RESET_CAUSE names the cause and the domains cleared. -/
theorem State.noteReset_cause (s : State) (cause : Nat) (cleared : List Nat) :
    Fld.GEN_RESET_CAUSE_CAUSE.of ((s.noteReset cause cleared).reg Reg.GEN_RESET_CAUSE) = cause % 2 ^ 4 ∧
    Fld.GEN_RESET_CAUSE_CLEARED.of ((s.noteReset cause cleared).reg Reg.GEN_RESET_CAUSE) = domainMask cleared % 2 ^ 13 := by
  have hword : (s.noteReset cause cleared).reg Reg.GEN_RESET_CAUSE =
      ((s.setF Fld.GEN_RESET_CAUSE_CAUSE cause).setF Fld.GEN_RESET_CAUSE_CLEARED (domainMask cleared)).reg Reg.GEN_RESET_CAUSE := by
    rw [State.reg_noteReset, State.reg_bump, if_neg (by decide)]
  rw [hword]
  exact ⟨(State.f_setF_apart _ Fld.GEN_RESET_CAUSE_CLEARED Fld.GEN_RESET_CAUSE_CAUSE _ rfl (by decide) (by decide)).trans
      (State.f_setF_same _ _ _ (by decide)), State.f_setF_same _ _ _ (by decide)⟩

/-- The registers that a function reset returns to their silicon values: HIF's and EVT's, but for their counters. -/
def clearedByFunction (off : Nat) : Bool := decide (0x20000 ≤ off) && decide (off < 0x40000) && !keptByFunction off

/-- A function reset notes itself, clears its registers, and gives event 15. -/
theorem State.reg_functionReset (s : State) (h : s.domainOn 4 = true) (o : Nat) (ho : o ≠ Reg.EVT_SRC_CNT 15) :
    s.functionReset.reg o = if clearedByFunction o then regReset o else (s.noteReset 7 []).reg o := by
  unfold State.functionReset
  rw [if_neg (by simp [h])]
  exact (State.reg_raise_ne _ _ _ _ _ ho).trans (State.reg_clearRegs (s.noteReset 7 []) clearedByFunction o)

/-- Of the rest a function reset changes only the function's own state in the host interface. -/
theorem State.functionReset_frame (s : State) (h : s.domainOn 4 = true) :
    s.functionReset.hif = { s.hif with busMaster := false, msixEnable := false, msixFuncMask := false, vecs := [], rrRing := 0, rrTaken := 0 } ∧
    s.functionReset.tbl = s.tbl ∧ s.functionReset.buf = s.buf ∧ s.functionReset.time = s.time ∧ s.functionReset.txn = s.txn := by
  unfold State.functionReset
  rw [if_neg (by simp [h])]
  exact ⟨State.raise_hif _ _ _ _, State.raise_tbl _ _ _ _, State.raise_buf _ _ _ _, State.raise_time _ _ _ _, State.raise_txn _ _ _ _⟩

theorem clearedByFunction_iff (off : Nat) :
    clearedByFunction off = true ↔ 0x20000 ≤ off ∧ off < 0x40000 ∧ keptByFunction off = false := by
  simp [clearedByFunction, and_assoc]

/-- Outside the registers cleared, a function reset leaves what its note leaves. -/
theorem State.reg_functionReset_kept (s : State) (h : s.domainOn 4 = true) (o : Nat) (hc : clearedByFunction o = false)
    (ho : o ≠ Reg.EVT_SRC_CNT 15) : s.functionReset.reg o = (s.noteReset 7 []).reg o := by
  rw [State.reg_functionReset s h o ho, hc, if_neg Bool.false_ne_true]

/-- Settles O17: the registers by `reg_functionReset`, the rest by `functionReset_frame`. -/
theorem functionResetClearsItsRegistersAndKeepsTheJournal : Obligations.FunctionResetClearsItsRegistersAndKeepsTheJournal := by
  rintro s _ dt rfl hon
  have hkept := State.reg_functionReset_kept (s.advance dt) hon
  obtain ⟨hcause, hcleared⟩ := (s.advance dt).noteReset_cause 7 []
  obtain ⟨hhif, htbl, hbuf, htime, htxn⟩ := State.functionReset_frame (s.advance dt) hon
  refine ⟨_, exec_functionReset s dt, by simp [hhif], by simp [hhif], by simp [hhif], fun off hlo hhi hk => ?_,
    fun off hout hc hn he => ?_, ?_, ?_, ?_, by simp [hhif], by simp [hhif], htbl, hbuf, htime, htxn⟩
  · have hne : off ≠ Reg.EVT_SRC_CNT 15 := by
      rintro rfl
      exact absurd hk (by decide)
    rw [State.reg_keeping, State.reg_functionReset _ hon off hne, if_pos ((clearedByFunction_iff off).mpr ⟨hlo, hhi, hk⟩)]
  · have hnot : clearedByFunction off = false := Bool.eq_false_iff.mpr fun hcl => by
      obtain ⟨hlo, hhi, hk⟩ := (clearedByFunction_iff off).mp hcl
      obtain h | h | h := hout
      · omega
      · omega
      · exact absurd hk (by simp [h])
    rw [State.reg_keeping, hkept off hnot he, State.reg_noteReset_ne _ _ _ _ hc hn]
  · rw [State.reg_keeping, hkept _ (by decide) (by decide)]
    exact hcause
  · rw [State.reg_keeping, hkept _ (by decide) (by decide)]
    exact hcleared
  · rw [State.reg_keeping, hkept _ (by decide) (by decide), State.noteReset_cnt]

/-! #### Configuration bits and the identity record (R31, R390, R406) -/

theorem exec_busMasterEnable (s : State) (dt : Nat) (master msix mask : Bool) :
    exec (.busMasterEnable dt master msix mask) s = .next (((s.advance dt).pciConfig master msix mask).keeping s) :=
  after_pos s dt _ (fun t => t.pciConfig master msix mask) rfl

theorem exec_i2cTransaction (s : State) (dt addr : Nat) (write : Bool) (byte count : Nat) :
    exec (.i2cTransaction dt addr write byte count) s = .next (((s.advance dt).i2c addr write byte count).keeping s) :=
  after_pos s dt _ (fun t => t.i2c addr write byte count) rfl

theorem State.pciConfig_on (s : State) (master msix mask : Bool) (h : s.domainOn 4 = true) :
    s.pciConfig master msix mask = ((List.range 7).foldl State.signalDue
      (State.unmaskAll { s with hif := { s.hif with busMaster := master, msixEnable := msix, msixFuncMask := mask } })).rewrite := by
  simp [State.pciConfig, h]

/-- With MSI-X Enable clear no pending message goes. -/
theorem State.unmaskAll_disabled (s : State) (h : s.hif.msixEnable = false) : s.unmaskAll = s :=
  List.foldlRecOn (motive := (· = s)) (List.range 7) State.unmaskVector rfl
    (fun _ ht v _ => by rw [ht, s.unmaskVector_stays v (.inr (.inl h))])

theorem State.signalDue_disabled (s : State) (v : Nat) (h : s.hif.msixEnable = false) (hv : v ≠ 7) : s.signalDue v = s := by
  simp [State.signalDue, State.sendMsix, h, hv]

/-- With MSI-X Enable clear no entry of vectors 0 to 6 is signalled. -/
theorem State.signalDueAll_disabled (s : State) (h : s.hif.msixEnable = false) : (List.range 7).foldl State.signalDue s = s :=
  List.foldlRecOn (motive := (· = s)) (List.range 7) State.signalDue rfl
    (fun _ ht v hv => by rw [ht, s.signalDue_disabled v h (Nat.ne_of_lt (List.mem_range.mp hv))])

theorem State.rewrite_nothing (s : State) (h : s.hif.unwritten = []) : s.rewrite = s := by simp [State.rewrite, h]

theorem State.i2c_write (s : State) (byte count : Nat) :
    s.i2c (if s.slotA = true then 0x4A else 0x4B) true byte count = { s with rst := { s.rst with i2cPtr := byte % 256 } } := by
  simp [State.i2c]

theorem State.i2c_read (s : State) (byte count : Nat) : s.i2c (if s.slotA = true then 0x4A else 0x4B) false byte count =
    s.emit (.i2c ((List.range count).map (fun i => s.identityByte (s.rst.i2cPtr + i)))) := by
  simp [State.i2c]

theorem State.i2c_other (s : State) (addr : Nat) (write : Bool) (byte count : Nat) (h : addr ≠ if s.slotA = true then 0x4A else 0x4B) :
    s.i2c addr write byte count = s := if_pos h

/-- Settles O18: the function's bits and what becomes due with them, and the identity record byte by byte. -/
theorem configurationBitsAndIdentityRecord : Obligations.ConfigurationBitsAndIdentityRecord := by
  rintro s _ dt rfl
  refine ⟨fun master msix mask hon => ⟨?_, fun hoff => ?_, fun hun => State.rewrite_nothing _ hun⟩,
    fun byte count => ⟨?_, ?_, fun addr write ha => ?_⟩, fun i hi => ?_, ?_⟩
  · rw [exec_busMasterEnable, State.pciConfig_on _ master msix mask hon]
  · rw [exec_busMasterEnable, State.pciConfig_on _ master msix mask hon, State.unmaskAll_disabled _ hoff, State.signalDueAll_disabled _ hoff]
  · rw [exec_i2cTransaction, State.i2c_write]
  · rw [exec_i2cTransaction, State.i2c_read]
  · rw [exec_i2cTransaction, State.i2c_other _ addr write byte count ha]
  · exact if_pos hi
  · simp [State.identityByte]

end Sys2Proof.Machine

/-! ### Structure and transactions (03_structure_and_transactions.md, 15_bring_up_and_hot_plug.md): transactions, service commands, resets -/

namespace Sys2Proof.Machine

/-! #### Beginning and rolling back a transaction (R74, R82) -/

theorem exec_cmdTxnBegin (s : State) (dt tag : Nat) (ht : tag < 512) :
    exec (.cmdTxnBegin dt tag) s = .next (((s.advance dt).txnBegin tag).keeping s) :=
  after_pos s dt _ (fun t => t.txnBegin tag) (decide_eq_true ht)

theorem exec_cmdTxnRollback (s : State) (dt tag : Nat) (ht : tag < 512) :
    exec (.cmdTxnRollback dt tag) s = .next (((s.advance dt).txnRollback tag).keeping s) :=
  after_pos s dt _ (fun t => t.txnRollback tag) (decide_eq_true ht)

theorem exec_cmdTxnCommit (s : State) (dt tag : Nat) (ht : tag < 512) :
    exec (.cmdTxnCommit dt tag) s = .next (((s.advance dt).cmdCommit tag).keeping s) :=
  after_pos s dt _ (fun t => t.cmdCommit tag) (decide_eq_true ht)

/-- 0 names no transaction: the number after the last one is skipped to 1. -/
theorem nextTxnId_ne_zero (last : Nat) : nextTxnId last ≠ 0 := by
  unfold nextTxnId
  split
  · decide
  · assumption

/-- The state in which a transaction of a number is open and empty, its command marked and not yet ended. -/
def State.opened (s : State) (tag id : Nat) : State :=
  ((({ s with txn := { s.txn with lastId := id } } : State).mark tag).setOpen (some { id := id })).setTxnState tsOpen

theorem State.txnBegin_none (s : State) (tag : Nat) (e : JEntry) (hs : s.startable tag 0x20 = some e) (ho : s.txn.open_ = none) :
    s.txnBegin tag = (s.opened tag (nextTxnId s.txn.lastId)).finish tag 0 (nextTxnId s.txn.lastId) 0 := by
  simp [State.txnBegin, hs, ho, State.opened, stOk]

theorem State.opened_txn (s : State) (tag id : Nat) :
    (s.opened tag id).txn = { s.txn with lastId := id, open_ := some { id := id } } := by
  simp [State.opened, State.setTxnState, State.setOpen, State.showStaged]

theorem State.opened_frame (s : State) (tag id : Nat) :
    (s.opened tag id).tbl = s.tbl ∧ (s.opened tag id).buf = s.buf ∧ (s.opened tag id).time = s.time := by
  simp [State.opened, State.setTxnState, State.setOpen, State.showStaged]

theorem State.txnState_opened (s : State) (tag id : Nat) : (s.opened tag id).f Fld.TXN_STATUS_STATE = 1 :=
  State.f_setF_same _ _ _ (by decide)

theorem State.openId_opened (s : State) (tag id : Nat) : (s.opened tag id).reg Reg.TXN_OPEN_ID = BitVec.ofNat 32 id := by
  unfold State.opened State.setTxnState State.setOpen State.showStaged
  rw [State.reg_setF_ne _ _ _ _ (by decide), State.reg_setF_ne _ _ _ _ (by decide), State.reg_setF_ne _ _ _ _ (by decide),
    State.reg_setReg_same]

theorem State.jget_opened (s : State) (tag id : Nat) (e : JEntry) (h : s.jget tag = some e) :
    (s.opened tag id).jget tag = some { e with st := .marked } := by
  have hmark := State.jget_mark { s with txn := { s.txn with lastId := id } } tag e h tag
  rw [if_pos rfl] at hmark
  exact hmark

/-- A rollback of the open transaction, while no commit of it is in progress. -/
theorem State.txnRollback_open (s : State) (tag : Nat) (e : JEntry) (x : Staging) (hs : s.startable tag 0x22 = some e)
    (hx : s.txn.open_ = some x) (hid : x.id = e.txn) (hst : s.txnState = 1) (hc : s.txn.commit = none) :
    s.txnRollback tag = (((s.mark tag).dropTxn.rolledBack x.id 0).finish tag 0 0 0) := by
  simp [State.txnRollback, hs, hx, hid, hst, tsOpen, State.rollback, hc, stOk]

/-! #### An immediate commit that nothing holds up (R79, R83, R85) -/

@[simp] theorem State.unhold_clk (s : State) (tag : Nat) : (s.unhold tag).clk = s.clk := rfl
@[simp] theorem State.unhold_time (s : State) (tag : Nat) : (s.unhold tag).time = s.time := rfl
@[simp] theorem State.unhold_txn (s : State) (tag : Nat) : (s.unhold tag).txn = s.txn := rfl
@[simp] theorem State.jget_unhold (s : State) (tag o : Nat) : (s.unhold tag).jget o = s.jget o := rfl
@[simp] theorem State.txnState_unhold (s : State) (tag : Nat) : (s.unhold tag).txnState = s.txnState := rfl

/-- The state in which a commit that begins is validated. -/
def State.validating (s : State) (tag : Nat) (c : Commit) : State :=
  ((((s.unhold tag).begin tag).setCommit (some c)).setTxnState tsValidating).showAt 0

theorem State.validating_txn (s : State) (tag : Nat) (c : Commit) : (s.validating tag c).txn = { s.txn with commit := some c } := by
  simp [State.validating, State.showAt, State.setTxnState, State.setCommit]

theorem State.now16_validating (s : State) (tag : Nat) (c : Commit) : (s.validating tag c).now16 = s.now16 :=
  State.now16_congr (by simp [State.validating, State.showAt, State.setTxnState, State.setCommit])

theorem State.f_setTriple_off (s : State) (a b c v : Nat) (g : FieldRef) (ha : g.off ≠ a) (hb : g.off ≠ b) (hc : g.off ≠ c) :
    (s.setTriple a b c v).f g = s.f g := by
  unfold State.setTriple
  rw [State.f_setReg_off _ _ _ _ hc, State.f_setReg_off _ _ _ _ hb, State.f_setReg_off _ _ _ _ ha]

theorem State.txnState_validating (s : State) (tag : Nat) (c : Commit) : (s.validating tag c).txnState = tsValidating :=
  (State.f_setTriple_off _ _ _ _ _ _ (by decide) (by decide) (by decide)).trans (State.f_setF_same _ _ _ (by decide))

/-- A commit without AT begins its validation. -/
theorem State.cmdCommit_immediate (s : State) (tag : Nat) (e : JEntry) (x : Staging) (hs : s.startable tag 0x21 = some e)
    (hturn : s.heldTurn tag = true) (hheld : s.hif.supplyHeld = []) (hx : s.txn.open_ = some x) (hid : x.id = e.txn) (hst : s.txnState = 1)
    (hat : e.op 16 12 = 0) :
    s.cmdCommit tag = (s.validating tag ⟨some tag, 0, s.clk, s.clk, false, false, 0, 0, false, false, false⟩).validate := by
  have hstage : (s.unhold tag).canStage e.txn = true := by simp [State.canStage, hx, hid, hst, tsOpen]
  simp [State.cmdCommit, hs, hturn, hheld, hstage, hat, State.validating]

/-- A commit without AT is never too late. -/
theorem State.tooLate_immediate (s : State) (c : Commit) (h : c.at96 = 0) : s.tooLate c = false := by
  simp [State.tooLate, h]

theorem State.planned_immediate (s : State) (c : Commit) (h : c.at96 = 0) (hs : s.inService = false) : s.planned c = s.now16 := by
  simp [State.planned, h, hs]

theorem State.prepareOrWait_alone (s : State) (t : Staging) (c : Commit) (hs : s.inService = false) :
    s.prepareOrWait t c = s.toWait { c with epoch := (s.reg Reg.TXN_EPOCH).toNat + 1, instant := s.planned c } := by
  simp [State.prepareOrWait, hs]

/-- Validation of a commit without AT that finds no conflict, no fault, no older frame and no pair: it waits for the present instant. -/
theorem State.validate_immediate (s : State) (x : Staging) (c : Commit) (hx : s.txn.open_ = some x) (hc : s.txn.commit = some c)
    (hst : s.txnState = tsValidating) (hpair : s.pairState ≠ psSyncing) (hconf : x.conflict = false) (hat : c.at96 = 0)
    (hserv : s.inService = false) (hfault : s.commitFault x s.now16 = none) (hold : s.olderFrames = 0) :
    s.validate = s.toWait { c with epoch := (s.reg Reg.TXN_EPOCH).toNat + 1, instant := s.now16 } := by
  have hplan := s.planned_immediate c hat hserv
  have hfault' : s.commitFault x (s.planned c) = none := by rwa [hplan]
  have hwait := s.prepareOrWait_alone x c hserv
  rw [hplan] at hwait
  simp [State.validate, hx, hc, hst, hpair, hconf, hfault', s.tooLate_immediate c hat, hold, hwait]

/-- Settles O11: the fields of the state that BEGIN opens, and the other two commands in the branch that their conditions choose. -/
theorem transactionCommandsComplete : Obligations.TransactionCommandsComplete := by
  rintro s _ dt tag e rfl htag
  refine ⟨fun hs ho => ⟨nextTxnId_ne_zero _, ?_⟩, fun x hs hx hid hst hc => ?_,
    fun x hs hturn hheld hx hid hst hat hconf hfault hold hpair hserv => ?_⟩
  · have hj := State.jget_opened _ tag (nextTxnId (s.advance dt).txn.lastId) e (State.startable_jget hs)
    have htxn := State.opened_txn (s.advance dt) tag (nextTxnId (s.advance dt).txn.lastId)
    obtain ⟨htbl, hbuf, htime⟩ := State.opened_frame (s.advance dt) tag (nextTxnId (s.advance dt).txn.lastId)
    refine ⟨_, exec_cmdTxnBegin s dt tag htag, ?_⟩
    rw [State.txnBegin_none _ tag e hs ho]
    refine ⟨by simp [htxn], by simp [htxn], ?_, ?_, ?_, by simp [htbl], by simp [hbuf], by simp [htime]⟩
    · rw [State.f_keeping]
      unfold State.f
      rw [State.reg_finish_ne _ _ _ _ _ _ (by decide)]
      exact State.txnState_opened _ _ _
    · rw [State.reg_keeping, State.reg_finish_ne _ _ _ _ _ _ (by decide), State.openId_opened]
    · rw [State.keeping_jget, State.jget_finish _ _ _ _ _ _ hj, if_pos rfl, State.now16_congr htime]
  · rw [exec_cmdTxnRollback s dt tag htag, State.txnRollback_open _ tag e x hs hx hid hst hc]
  · rw [exec_cmdTxnCommit s dt tag htag, State.cmdCommit_immediate _ tag e x hs hturn hheld hx hid hst hat,
      State.validate_immediate _ x _ (by rw [State.validating_txn]; exact hx) (by rw [State.validating_txn]) (State.txnState_validating _ _ _) hpair hconf
        rfl hserv (by rw [State.now16_validating]; exact hfault) hold, State.now16_validating]
    rfl

/-! #### The end of a drain, its limit, deadlines and the apply instant (R79 to R84) -/

theorem exec_txnDrainDone (s : State) (dt : Nat) :
    exec (.txnDrainDone dt) s = .next (((s.advance dt).drainDone).keeping s) := after_pos s dt _ State.drainDone rfl

theorem exec_txnDrainLimit (s : State) (dt : Nat) :
    exec (.txnDrainLimit dt) s = .next (((s.advance dt).drainLimit).keeping s) := after_pos s dt _ State.drainLimit rfl

theorem exec_txnDeadlineMissed (s : State) (dt : Nat) :
    exec (.txnDeadlineMissed dt) s = .next (((s.advance dt).deadline).keeping s) := after_pos s dt _ State.deadline rfl

theorem exec_txnApply (s : State) (dt pick : Nat) :
    exec (.txnApply dt pick) s = .next (((s.advance dt).txnApply pick).keeping s) := after_pos s dt _ (fun t => t.txnApply pick) rfl

theorem State.drainDone_waits (s : State) (h : s.olderFrames ≠ 0) : s.drainDone = s := if_pos h

theorem State.noteDrain_draining (s : State) (c : Commit) (hc : s.txn.commit = some c) (hst : s.txnState = tsDrain) :
    s.noteDrain = s.setReg Reg.TXN_DRAIN_MAX_US
      (BitVec.ofNat 32 (max (s.reg Reg.TXN_DRAIN_MAX_US).toNat (min (s.usSince c.drainSince) 0xFFFFFFFF))) := by
  simp [State.noteDrain, hc, hst]

/-- With no frame of the older epoch left, the tables settle, the drain is noted, and the commit goes on or is missed. -/
theorem State.drainDone_drained (s : State) (t : Staging) (c : Commit) (h : s.olderFrames = 0) (ht : s.settle.txn.open_ = some t)
    (hc : s.settle.txn.commit = some c) (hst : s.settle.txnState = tsDrain) :
    s.drainDone = if s.settle.noteDrain.tooLate c = true then s.settle.noteDrain.missed 1 else s.settle.noteDrain.prepareOrWait t c := by
  simp [State.drainDone, h, ht, hc, hst]

theorem State.drainLimit_passed (s : State) (c : Commit) (hc : s.txn.commit = some c) (hst : s.txnState = tsDrain) (hat : c.at96 = 0)
    (hl : s.f Fld.TXN_CTRL_DRAIN_LIMIT_MS ≠ 0) (hp : s.f Fld.TXN_CTRL_DRAIN_LIMIT_MS ≤ s.msSince c.drainSince) :
    s.drainLimit = s.rollback 2 stDrain 0 := by
  simp only [State.drainLimit, hc]
  exact if_pos ⟨hst, hat, hl, hp⟩

/-- A commit that is too late before its prepare is missed at once. -/
theorem State.deadline_unprepared (s : State) (t : Staging) (c : Commit) (ht : s.txn.open_ = some t) (hc : s.txn.commit = some c)
    (hl : s.tooLate c = true) (hst : s.txnState = tsValidating ∨ s.txnState = tsDrain) :
    s.deadline = s.missed (if s.txnState = tsDrain then 1 else 0) := by
  simp only [State.deadline, ht, hc]
  exact if_pos ⟨hl, hst⟩

/-- In PREPARE the partner is told of the miss. -/
theorem State.deadline_prepared (s : State) (t : Staging) (c : Commit) (ht : s.txn.open_ = some t) (hc : s.txn.commit = some c)
    (hl : s.tooLate c = true) (hst : s.txnState = tsPrepare) : s.deadline = (s.sendMir msgDecision [t.id, 0]).missed 2 := by
  simp [State.deadline, ht, hc, hl, hst, tsPrepare, tsValidating, tsDrain]

/-- While no transaction of the partner is held, what waits here applies when its instant is due. -/
theorem State.txnApply_own (s : State) (t : Staging) (c : Commit) (pick : Nat) (ht : s.txn.open_ = some t) (hc : s.txn.commit = some c)
    (hr : s.txn.remote = none) (hst : s.txnState = tsWait) :
    s.txnApply pick = if c.due s.now16 = true then s.applyOwn t c pick else s := by
  have hremote : s.remoteDue = s := by simp [State.remoteDue, hr]
  simp [State.txnApply, hremote, ht, hc, hst]

/-- Settles O21: each row of the commit's course in the branch that its conditions choose. -/
theorem commitsDrainApplyOrMissTheirInstant : Obligations.CommitsDrainApplyOrMissTheirInstant := by
  rintro s _ dt rfl
  refine ⟨fun h => ?_, fun t c ht hc => ⟨fun h htxn hst => ?_, fun hst hat hl hp => ?_, fun hl => ⟨fun hst => ?_, fun hst => ?_, fun hst => ?_⟩,
    fun pick hr hst => ⟨fun hd => ?_, fun hd => ?_⟩⟩⟩
  · rw [exec_txnDrainDone, State.drainDone_waits _ h]
  · have hc' : (s.advance dt).settle.txn.commit = some c := by rw [htxn, hc]
    have hdone := State.drainDone_drained _ t c h (by rw [htxn, ht]) hc' hst
    rw [State.noteDrain_draining _ c hc' hst] at hdone
    refine ⟨fun hl => ?_, fun hl => ?_⟩
    · rw [exec_txnDrainDone, hdone, if_pos hl]
    · rw [exec_txnDrainDone, hdone, if_neg (Bool.eq_false_iff.mp hl)]
  · rw [exec_txnDrainLimit, State.drainLimit_passed _ c hc hst hat hl hp]
  · rw [exec_txnDeadlineMissed, State.deadline_unprepared _ t c ht hc hl (.inl hst), hst]
    rfl
  · rw [exec_txnDeadlineMissed, State.deadline_unprepared _ t c ht hc hl (.inr hst), if_pos hst]
  · rw [exec_txnDeadlineMissed, State.deadline_prepared _ t c ht hc hl hst]
  · rw [exec_txnApply, State.txnApply_own _ t c pick ht hc hr hst, if_pos hd]
  · rw [exec_txnApply, State.txnApply_own _ t c pick ht hc hr hst, if_neg (Bool.eq_false_iff.mp hd)]

/-! #### Service commands (R45, R70, R105, R201, R208, R261, R328) -/

theorem exec_cmdImageLoad (s : State) (dt tag : Nat) (i : Image) (ht : tag < 512) :
    exec (.cmdImageLoad dt tag i) s = .next (((s.advance dt).dueFirst.cmdImage tag i).keeping s) :=
  after_pos s dt _ (fun t => t.dueFirst.cmdImage tag i) (decide_eq_true ht)

theorem exec_cmdCalRun (s : State) (dt tag : Nat) (ht : tag < 512) :
    exec (.cmdCalRun dt tag) s = .next (((s.advance dt).cmdCalRun tag).keeping s) :=
  after_pos s dt _ (fun t => t.cmdCalRun tag) (decide_eq_true ht)

theorem exec_cmdOutRealign (s : State) (dt tag : Nat) (ht : tag < 512) :
    exec (.cmdOutRealign dt tag) s = .next (((s.advance dt).cmdRealign tag).keeping s) :=
  after_pos s dt _ (fun t => t.cmdRealign tag) (decide_eq_true ht)

theorem exec_cmdTimeStep (s : State) (dt tag : Nat) (ht : tag < 512) :
    exec (.cmdTimeStep dt tag) s = .next (((s.advance dt).cmdStep tag).keeping s) :=
  after_pos s dt _ (fun t => t.cmdStep tag) (decide_eq_true ht)

theorem exec_cmdPairExchange (s : State) (dt tag : Nat) (ht : tag < 512) :
    exec (.cmdPairExchange dt tag) s = .next (((s.advance dt).cmdExchange tag).keeping s) :=
  after_pos s dt _ (fun t => t.cmdExchange tag) (decide_eq_true ht)

theorem exec_cmdLanePrbs (s : State) (dt tag : Nat) (ht : tag < 512) :
    exec (.cmdLanePrbs dt tag) s = .next (((s.advance dt).cmdPrbs tag).keeping s) :=
  after_pos s dt _ (fun t => t.cmdPrbs tag) (decide_eq_true ht)

theorem exec_cmdFence (s : State) (dt tag : Nat) (ht : tag < 512) :
    exec (.cmdFence dt tag) s = .next (((s.advance dt).fence tag).keeping s) :=
  after_pos s dt _ (fun t => t.fence tag) (decide_eq_true ht)

/-- A flash write of an image into a slot begins. -/
def State.writeBegun (s : State) (tag k : Nat) (i : Image) : State :=
  { (s.begin tag).showSlot k 3 0 i with img := { ((s.begin tag).showSlot k 3 0 i).img with write := some ⟨tag, k, i⟩ } }

/-- An image that verifies is taken to its target: checked alone, written to a slot, or activated. -/
theorem State.cmdImage_verified (s : State) (tag : Nat) (e : JEntry) (i : Image) (hs : s.startable tag 0x30 = some e)
    (hturn : s.heldTurn tag = true) (hctl : s.rst.controller = false) (hlo : 1 ≤ e.op 16 4) (hhi : e.op 16 4 ≤ 16777216)
    (htarget : e.op 20 1 ≤ 3) (hw : (s.unhold tag).img.write = none) (hlen : i.totalLength = e.op 16 4)
    (hv : (s.unhold tag).verify i true = none) :
    s.cmdImage tag i =
      if e.op 20 1 = 0 then (s.unhold tag).finish tag 0 i.identity 0
      else if e.op 20 1 = 3 then (((s.unhold tag).mark tag).takeImage i 2 false).finish tag 0 i.identity 0
      else if s.rst.ejectAt.isSome then s.unhold tag
      else (s.unhold tag).writeBegun tag (e.op 20 1 - 1) i := by
  have hsize : ¬ (e.op 16 4 = 0 ∨ 16777216 < e.op 16 4) := by omega
  unfold State.cmdImage
  simp only [hs, hturn, hctl]
  rw [if_neg (by simp), if_neg hsize, if_neg (Nat.not_lt.mpr htarget), hw, if_neg (by simp), if_pos hlen, hv]
  rfl

@[simp] theorem State.showSlot_hif (s : State) (k st reason : Nat) (i : Image) : (s.showSlot k st reason i).hif = s.hif := by
  unfold State.showSlot; dsimp only; split <;> simp
@[simp] theorem State.showSlot_img (s : State) (k st reason : Nat) (i : Image) : (s.showSlot k st reason i).img = s.img := by
  unfold State.showSlot; dsimp only; split <;> simp
@[simp] theorem State.showSlot_tbl (s : State) (k st reason : Nat) (i : Image) : (s.showSlot k st reason i).tbl = s.tbl := by
  unfold State.showSlot; dsimp only; split <;> simp
@[simp] theorem State.showSlot_buf (s : State) (k st reason : Nat) (i : Image) : (s.showSlot k st reason i).buf = s.buf := by
  unfold State.showSlot; dsimp only; split <;> simp

/-- What a slot shows rests on the registers alone. -/
theorem State.showSlot_regs_congr {s t : State} (h : s.regs = t.regs) (k st reason : Nat) (i : Image) :
    (s.showSlot k st reason i).regs = (t.showSlot k st reason i).regs := by
  unfold State.showSlot
  dsimp only
  split <;> simp only [State.setF, State.setReg, State.reg, h]

@[simp] theorem State.writeBegun_img (s : State) (tag k : Nat) (i : Image) :
    (s.writeBegun tag k i).img = { s.img with write := some ⟨tag, k, i⟩ } := by simp [State.writeBegun]
@[simp] theorem State.writeBegun_tbl (s : State) (tag k : Nat) (i : Image) : (s.writeBegun tag k i).tbl = s.tbl := by
  simp [State.writeBegun]
@[simp] theorem State.writeBegun_buf (s : State) (tag k : Nat) (i : Image) : (s.writeBegun tag k i).buf = s.buf := by
  simp [State.writeBegun]

theorem State.writeBegun_regs (s : State) (tag k : Nat) (i : Image) : (s.writeBegun tag k i).regs = (s.showSlot k 3 0 i).regs :=
  State.showSlot_regs_congr (State.begin_regs s tag) k 3 0 i

theorem State.jget_writeBegun (s : State) (tag k : Nat) (i : Image) (e : JEntry) (h : s.jget tag = some e) :
    (s.writeBegun tag k i).jget tag = some { e with started := true } := by
  have hbegin := State.jget_begin s tag e h tag
  rw [if_pos rfl] at hbegin
  exact (State.jget_congr (State.showSlot_hif (s.begin tag) k 3 0 i) tag).trans hbegin

theorem State.supplyWarn_begin (s : State) (tag : Nat) : (s.begin tag).supplyWarn = s.supplyWarn := by
  unfold State.supplyWarn State.flag
  simp only [State.f_congr (State.begin_regs s tag)]

/-- A run that has an effect, by the module's own reference, starts. -/
theorem State.cmdCalRun_starts (s : State) (tag j : Nat) (e : JEntry) (hs : s.startable tag 0x40 = some e)
    (hj : calInst (e.op 16 1) (e.op 18 2) = some j) (hex : s.calExists j = true) (href : e.op 17 1 = 0) (hrun : s.calRun j = none)
    (hq : s.cal.queue = []) (ht : e.op 16 1 ≠ 1) (huse : s.calUseless j false = false) (hwarn : (s.dropDue j).supplyWarn = false) :
    s.cmdCalRun tag = ((s.dropDue j).begin tag).startRun j 2 false false (some tag) := by
  simp [State.cmdCalRun, hs, hj, hex, href, hrun, hq, ht, huse, State.supplyWarn_begin, hwarn]

theorem State.cmdStep_allowed (s : State) (tag : Nat) (e : JEntry) (hs : s.startable tag 0x42 = some e) (hstep : s.time.step = none)
    (hf : s.stepFault e.stepAmount = none) :
    s.cmdStep tag = if (s.begin tag).olderGenFrames = 0 then ((s.begin tag).mark tag).setStep (some ⟨tag, true, false⟩)
      else ((s.begin tag).setFlag Fld.TIM_STATUS_STEP_PENDING true).setStep (some ⟨tag, false, true⟩) := by
  simp [State.cmdStep, hs, hstep, hf]

theorem State.olderGenFrames_begin (s : State) (tag : Nat) : (s.begin tag).olderGenFrames = s.olderGenFrames := by
  unfold State.olderGenFrames
  rw [State.begin_buf, State.f_congr (State.begin_regs s tag)]

theorem State.cmdExchange_begins (s : State) (tag : Nat) (e : JEntry) (hs : s.startable tag 0x50 = some e) (hserv : s.inService = true)
    (hscore : s.partnerClaim / 16 % 256 ≠ 0) (hx : s.mir.exch = none) :
    s.cmdExchange tag = (s.begin tag).beginExchange (some tag) := by
  simp [State.cmdExchange, hs, hserv, hscore, hx]

/-- A set-up without an injection, on lanes that are all powered and free. -/
theorem State.cmdPrbs_allowed (s : State) (tag : Nat) (e : JEntry) (hs : s.startable tag 0x60 = some e) (hpat : e.op 24 1 ≤ 5)
    (hmode : e.op 25 1 ≤ 3) (hinj : e.op 26 1 = 0) (hburst : 1 ≤ e.op 27 1)
    (hl : ((List.range 64).filter (e.op 16 8).testBit).all (fun l => s.domainOn (portDomain l) && s.prbsAllowed l) = true) :
    s.cmdPrbs tag = (((List.range 64).filter (e.op 16 8).testBit).foldl
      (fun s l => s.prbsSetUp (e.op 24 1) (e.op 25 1) 0 (e.op 27 1) l) (s.mark tag)).finish tag 0 0 0 := by
  simp only [List.all_eq_true, Bool.and_eq_true] at hl
  have hpower : ((List.range 64).filter (e.op 16 8).testBit).any (fun l => !s.domainOn (portDomain l)) = false :=
    List.any_eq_false.mpr fun l hm => by simp [(hl l hm).1]
  have hfree : ((List.range 64).filter (e.op 16 8).testBit).any (fun l => !s.prbsAllowed l) = false :=
    List.any_eq_false.mpr fun l hm => by simp [(hl l hm).2]
  have hburst' : e.op 27 1 ≠ 0 := by omega
  unfold State.cmdPrbs
  simp only [hs, hinj, hpower, hfree]
  rw [if_neg (Nat.not_lt.mpr hpat), if_neg (Nat.not_lt.mpr hmode), if_neg (by decide), if_neg hburst', if_neg (by simp),
    if_neg Bool.false_ne_true]
  rfl

/-- Settles O13: each command in the branch that its checks choose. -/
theorem serviceCommandsComplete : Obligations.ServiceCommandsComplete := by
  rintro s _ dt tag e rfl htag
  refine ⟨fun i hs hturn hctl hlo hhi hw hlen hv => ?_, fun j hs hj hex href hrun hq ht huse hwarn => ?_, fun hs => ?_,
    fun hs hstep hf => ?_, fun hs hserv hscore hx => ?_, fun hs hpat hmode hinj hburst hl => ?_, fun hs => ?_⟩
  · have himage (h : e.op 20 1 ≤ 3) := State.cmdImage_verified _ tag e i hs hturn hctl hlo hhi h hw hlen hv
    refine ⟨fun h0 => ?_, fun h3 => ?_, fun k hk ht heject => ?_⟩
    · rw [exec_cmdImageLoad s dt tag i htag, himage (by omega), if_pos h0]
    · rw [exec_cmdImageLoad s dt tag i htag, himage (by omega), if_neg (by omega), if_pos h3]
    · have hbegun := himage (by omega)
      rw [if_neg (by omega), if_neg (by omega), heject, if_neg (by simp), show e.op 20 1 - 1 = k by omega] at hbegun
      have hentry : ((s.advance dt).dueFirst.unhold tag).jget tag = some e :=
        (State.jget_unhold _ tag tag).trans (State.startable_jget hs)
      refine ⟨_, exec_cmdImageLoad s dt tag i htag, ?_⟩
      rw [hbegun, State.keeping_img, State.keeping_jget, State.keeping_regs, State.keeping_tbl, State.keeping_buf]
      exact ⟨State.writeBegun_img _ _ _ _, State.jget_writeBegun _ tag k i e hentry, State.writeBegun_regs _ _ _ _,
        State.writeBegun_tbl _ _ _ _, State.writeBegun_buf _ _ _ _⟩
  · rw [exec_cmdCalRun s dt tag htag, State.cmdCalRun_starts _ tag j e hs hj hex href hrun hq ht huse hwarn]
  · rw [exec_cmdOutRealign s dt tag htag, State.cmdRealign, hs]
  · have hcmd := State.cmdStep_allowed _ tag e hs hstep hf
    rw [State.olderGenFrames_begin] at hcmd
    refine ⟨fun h => ?_, fun h => ?_⟩
    · rw [exec_cmdTimeStep s dt tag htag, hcmd, if_pos h]
    · rw [exec_cmdTimeStep s dt tag htag, hcmd, if_neg h]
  · rw [exec_cmdPairExchange s dt tag htag, State.cmdExchange_begins _ tag e hs hserv hscore hx]
  · rw [exec_cmdLanePrbs s dt tag htag, State.cmdPrbs_allowed _ tag e hs hpat hmode hinj hburst hl]
  · rw [exec_cmdFence s dt tag htag, State.fence, hs]
    rfl

/-! #### Start-up (R69, R351, R352) -/

theorem exec_powerGood (s : State) (dt : Nat) (bad : List (Nat × Nat)) :
    exec (.powerGood dt bad) s = .next (((s.advance dt).powerGood bad).keeping s) := after_pos s dt _ (fun t => t.powerGood bad) rfl

theorem exec_bootImageLoad (s : State) (dt : Nat) (ok0 ok1 : Bool) (bad0 bad1 : Nat × Nat) :
    exec (.bootImageLoad dt ok0 ok1 bad0 bad1) s = .next (((s.advance dt).bootLoad ok0 ok1 bad0 bad1).keeping s) :=
  after_pos s dt _ (fun t => t.bootLoad ok0 ok1 bad0 bad1) rfl

theorem exec_startUpDomainsOn (s : State) (dt : Nat) :
    exec (.startUpDomainsOn dt) s = .next (((s.advance dt).domainsOn).keeping s) := after_pos s dt _ State.domainsOn rfl

theorem exec_startUpLanesTrained (s : State) (dt : Nat) :
    exec (.startUpLanesTrained dt) s = .next (((s.advance dt).lanesTrained).keeping s) := after_pos s dt _ State.lanesTrained rfl

/-- Has a contact of a module that ran gone high? -/
def State.Pulled (s : State) : Prop := s.f Fld.GEN_BOOT_STATUS_STAGE = 7 ∧ s.f Fld.GEN_HOTPLUG_PRES ≠ 3

theorem State.powerGood_first (s : State) (bad : List (Nat × Nat)) (h0 : s.f Fld.GEN_BOOT_STATUS_STAGE = 0) (ht : s.pwr.tripped = false) :
    s.powerGood bad = (State.setF { s with cal := { s.cal with badTables := bad } } Fld.GEN_HOTPLUG_PRES 3).startUp := by
  simp [State.powerGood, h0, ht]

theorem State.powerGood_pulled (s : State) (bad : List (Nat × Nat)) (hp : s.Pulled) (ht : s.pwr.tripped = false) :
    s.powerGood bad = (State.setF { s.fullReset 8 allButAon with cal := { (s.fullReset 8 allButAon).cal with badTables := bad } }
      Fld.GEN_HOTPLUG_PRES 3).startUp := by
  obtain ⟨hstage, hpres⟩ := hp
  simp [State.powerGood, hstage, hpres, ht]

theorem State.powerGood_stays (s : State) (bad : List (Nat × Nat))
    (h : (s.f Fld.GEN_BOOT_STATUS_STAGE ≠ 0 ∧ ¬ s.Pulled) ∨ s.pwr.tripped = true) : s.powerGood bad = s := if_pos h

/-- May an image be read from flash now: before any is active, or for PD4 restored (R352, R356)? -/
def State.BootDue (s : State) : Prop := (s.f Fld.GEN_BOOT_STATUS_STAGE = 1 ∧ s.img.active = none) ∨ s.rst.reload = true

section BootLoad

variable {s : State} {ok0 ok1 : Bool} {bad0 bad1 : Nat × Nat}

theorem State.bootWaits_iff (s : State) :
    (s.domainOn 4 = false ∨ s.supplyWarn = true ∨
      !((s.f Fld.GEN_BOOT_STATUS_STAGE = 1 ∧ s.img.active.isNone = true) ∨ s.rst.reload = true)) ↔
    s.domainOn 4 = false ∨ s.supplyWarn = true ∨ ¬ s.BootDue := by
  refine or_congr Iff.rfl (or_congr Iff.rfl ?_)
  rw [Bool.not_eq_true', decide_eq_false_iff_not, Option.isNone_iff_eq_none, State.BootDue]

theorem State.bootLoad_stays (h : s.domainOn 4 = false ∨ s.supplyWarn = true ∨ ¬ s.BootDue) : s.bootLoad ok0 ok1 bad0 bad1 = s :=
  if_pos (s.bootWaits_iff.mpr h)

/-- The state in which a boot reads flash: PD4's restoration, if it was that, is attended to. -/
def State.bootReading (s : State) : State := { s with rst := { s.rst with reload := false } }

variable (hon : s.domainOn 4 = true) (hw : s.supplyWarn = false) (hd : s.BootDue) {p : Nat} (hp : s.img.bootCfg % 2 = p) {a b : State} {i : Image}

include hon hw hd hp

/-- The preferred slot verifies. -/
theorem State.bootLoad_preferred
    (hr : s.bootReading.readSlot p (if p = 0 then ok0 else ok1) (if p = 0 then bad0 else bad1) = (a, some i)) :
    s.bootLoad ok0 ok1 bad0 bad1 = (a.takeImage i p true).setFlag Fld.GEN_BOOT_STATUS_FALLBACK_USED false := by
  subst hp
  unfold State.bootReading at hr
  unfold State.bootLoad
  dsimp only
  rw [if_neg (mt s.bootWaits_iff.mp (by simp [hon, hw, hd])), hr]

/-- The preferred slot yields nothing, and fallback finds the other's image. -/
theorem State.bootLoad_fallback
    (hr : s.bootReading.readSlot p (if p = 0 then ok0 else ok1) (if p = 0 then bad0 else bad1) = (a, none))
    (hf : a.img.bootCfg.testBit 1 = true)
    (hr' : a.readSlot (1 - p) (if 1 - p = 0 then ok0 else ok1) (if 1 - p = 0 then bad0 else bad1) = (b, some i)) :
    s.bootLoad ok0 ok1 bad0 bad1 = (b.takeImage i (1 - p) true).setFlag Fld.GEN_BOOT_STATUS_FALLBACK_USED true := by
  subst hp
  unfold State.bootReading at hr
  unfold State.bootLoad
  dsimp only
  rw [if_neg (mt s.bootWaits_iff.mp (by simp [hon, hw, hd])), hr]
  dsimp only
  rw [if_pos hf, hr']

/-- The preferred slot yields nothing, and there is no fallback. -/
theorem State.bootLoad_nothing
    (hr : s.bootReading.readSlot p (if p = 0 then ok0 else ok1) (if p = 0 then bad0 else bad1) = (a, none))
    (hf : a.img.bootCfg.testBit 1 = false) (ha : a.img.active = none) :
    s.bootLoad ok0 ok1 bad0 bad1 = a.setF Fld.GEN_BOOT_STATUS_STAGE 6 := by
  subst hp
  unfold State.bootReading at hr
  unfold State.bootLoad
  dsimp only
  rw [if_neg (mt s.bootWaits_iff.mp (by simp [hon, hw, hd])), hr]
  simp [hf, ha]

end BootLoad

theorem State.domainsOn_stays (s : State) (h : s.f Fld.GEN_BOOT_STATUS_STAGE ≠ 3 ∨ s.pwr.oscLost = true) : s.domainsOn = s := if_pos h

theorem State.domainsOn_planned (s : State) (i : Image) (h : s.f Fld.GEN_BOOT_STATUS_STAGE = 3) (ho : s.pwr.oscLost = false)
    (hi : s.img.active = some i) :
    s.domainsOn = ((((List.range 13).filter (fun d => i.planOn d && !s.domainOn d && !(s.f Fld.GEN_DOMAIN_GIVEN_UP_DOMAINS).testBit d)).foldl
      (fun (x : State) d => (x.clearDomain d).bringUp d) s).setF Fld.GEN_BOOT_STATUS_STAGE 4).healthCheck := by
  simp [State.domainsOn, h, ho, hi]

/-! #### The kinds of reset (R27, R48, R355, R357, R358) -/

theorem exec_supplyReset (s : State) (dt main : Nat) :
    exec (.supplyReset dt main) s = .next (((s.advance dt).supplyReset main).keeping s) := after_pos s dt _ (fun t => t.supplyReset main) rfl

theorem exec_moduleReset (s : State) (dt : Nat) :
    exec (.moduleReset dt) s = .next (((s.advance dt).mmioWrite Reg.GEN_RESET_CTRL 0x5A01 0xFFFFFFFF).keeping s) :=
  after_pos s dt _ (fun t => t.mmioWrite Reg.GEN_RESET_CTRL 0x5A01 0xFFFFFFFF) rfl

theorem exec_coreReset (s : State) (dt : Nat) :
    exec (.coreReset dt) s = .next (((s.advance dt).mmioWrite Reg.GEN_RESET_CTRL 0x5A02 0xFFFFFFFF).keeping s) :=
  after_pos s dt _ (fun t => t.mmioWrite Reg.GEN_RESET_CTRL 0x5A02 0xFFFFFFFF) rfl

theorem exec_controllerRestart (s : State) (dt : Nat) :
    exec (.controllerRestart dt) s = .next (((s.advance dt).mmioWrite Reg.GEN_RESET_CTRL 0x5A04 0xFFFFFFFF).keeping s) :=
  after_pos s dt _ (fun t => t.mmioWrite Reg.GEN_RESET_CTRL 0x5A04 0xFFFFFFFF) rfl

theorem exec_controllerWatchdog (s : State) (dt : Nat) :
    exec (.controllerWatchdog dt) s = .next (((s.advance dt).controllerRestart 5).keeping s) :=
  after_pos s dt _ (fun t => t.controllerRestart 5) rfl

theorem exec_controllerRestartEnd (s : State) (dt : Nat) :
    exec (.controllerRestartEnd dt) s = .next (((s.advance dt).controllerBack).keeping s) := after_pos s dt _ State.controllerBack rfl

theorem exec_coreResetEnd (s : State) (dt : Nat) :
    exec (.coreResetEnd dt) s = .next (((s.advance dt).coreResetEnd).keeping s) := after_pos s dt _ State.coreResetEnd rfl

theorem exec_coldStart (s : State) (dt : Nat) :
    exec (.coldStart dt) s = .next (((s.advance dt).coldStart).keeping s) := after_pos s dt _ State.coldStart rfl

theorem State.supplyReset_stays (s : State) (main : Nat) (h : 10000 ≤ main ∨ s.f Fld.GEN_BOOT_STATUS_STAGE = 0) : s.supplyReset main = s :=
  if_pos h

theorem State.supplyReset_low (s : State) (main : Nat) (hm : main < 10000) (h : s.f Fld.GEN_BOOT_STATUS_STAGE ≠ 0) :
    s.supplyReset main = (s.readRails main (s.f Fld.PWR_SUPPLY_AUX3_MV)).fullReset 1 allButAon :=
  if_neg (by omega)

/-- No core reset runs after its end, whether one did before or not. -/
theorem State.coreResetEnd_eq (s : State) : s.coreResetEnd = { s with rst := { s.rst with core := none } } := by
  unfold State.coreResetEnd
  cases h : s.rst.core with
  | some _ => rfl
  | none =>
    show s = _
    rw [← h]

/-- A write of the reset register acts by the bits that it sets. -/
theorem State.mmioWrite_reset {s : State} {v : Word} (ht : s.takesWrite Reg.GEN_RESET_CTRL v 0xFFFFFFFF = true) :
    s.mmioWrite Reg.GEN_RESET_CTRL v 0xFFFFFFFF =
      ((s.written Reg.GEN_RESET_CTRL v 0xFFFFFFFF).farEffect Row.GEN_RESET_CTRL 0 ((s.atWrite Reg.GEN_RESET_CTRL v 0xFFFFFFFF).reg Reg.GEN_RESET_CTRL)
        (s.dueFirst.reach Row.GEN_RESET_CTRL 0 0xFFFFFFFF) (v &&& 7)).rewrite := by
  rw [mmioWrite_GEN_RESET_CTRL s v _ ht, regEffect_GEN_RESET_CTRL, pulsed_RESET_CTRL]

theorem State.mmioWrite_moduleReset (s : State) (ht : s.takesWrite Reg.GEN_RESET_CTRL 0x5A01 0xFFFFFFFF = true) :
    s.mmioWrite Reg.GEN_RESET_CTRL 0x5A01 0xFFFFFFFF =
      ((s.written Reg.GEN_RESET_CTRL 0x5A01 0xFFFFFFFF).setReg Reg.GEN_RESET_CTRL 0).moduleReset.rewrite := by
  rw [State.mmioWrite_reset ht, farEffect_GEN_RESET_CTRL, if_pos (by decide)]

theorem State.mmioWrite_coreReset (s : State) (ht : s.takesWrite Reg.GEN_RESET_CTRL 0x5A02 0xFFFFFFFF = true) :
    s.mmioWrite Reg.GEN_RESET_CTRL 0x5A02 0xFFFFFFFF =
      ((s.written Reg.GEN_RESET_CTRL 0x5A02 0xFFFFFFFF).setReg Reg.GEN_RESET_CTRL 0).coreReset.rewrite := by
  rw [State.mmioWrite_reset ht, farEffect_GEN_RESET_CTRL, if_neg (by decide), if_pos (by decide)]

theorem State.mmioWrite_controllerRestart (s : State) (ht : s.takesWrite Reg.GEN_RESET_CTRL 0x5A04 0xFFFFFFFF = true) :
    s.mmioWrite Reg.GEN_RESET_CTRL 0x5A04 0xFFFFFFFF =
      (((s.written Reg.GEN_RESET_CTRL 0x5A04 0xFFFFFFFF).setReg Reg.GEN_RESET_CTRL 0).controllerRestart 6).rewrite := by
  rw [State.mmioWrite_reset ht, farEffect_GEN_RESET_CTRL, if_neg (by decide), if_neg (by decide), if_pos (by decide)]

/-- Of the registers a cold start keeps the two that reload from flash, and sends its own claim. -/
theorem State.reg_coldStart (s : State) (off : Nat) (h : off ≠ Reg.MIR_CLAIM) :
    s.coldStart.reg off =
      if off = Reg.REF_TEMPCO then s.reg Reg.REF_TEMPCO else if off = Reg.REF_AGING then s.reg Reg.REF_AGING else State.reset.reg off := by
  unfold State.coldStart
  dsimp only
  rw [State.reg_emit, State.reg_setF_ne _ _ _ _ h, State.reg_setReg, State.reg_setReg]
  rfl

theorem State.coldStart_frame (s : State) : s.coldStart.clk = 0 ∧ s.coldStart.hif = State.reset.hif ∧ s.coldStart.tbl = State.reset.tbl ∧
    s.coldStart.img.flash = s.img.flash := ⟨rfl, rfl, rfl, rfl⟩

/-- Settles O52: the timeline's stages and each reset in the branch that its conditions choose. -/
theorem startUpAndTheResetKindsRunTheirCourse : Obligations.StartUpAndTheResetKindsRunTheirCourse := by
  rintro s _ dt rfl
  refine ⟨fun bad => ⟨fun h0 ht => ?_, fun hp ht => ?_, fun h => ?_⟩,
    fun ok0 ok1 bad0 bad1 => ⟨fun h => ?_, fun hon hw hd => ⟨fun a i hr => ?_, fun a hr => ⟨fun hf b i hr' => ?_, fun hf ha => ?_⟩⟩⟩,
    fun h => ?_, fun i h3 ho hi => ⟨_, rfl, ?_⟩, fun h => ?_, fun h => ?_, fun main => ⟨fun h => ?_, fun hm h => ?_⟩,
    fun ht => ?_, fun ht => ?_, fun ht => ?_, ?_, ?_, ?_, ?_⟩
  · rw [exec_powerGood, State.powerGood_first _ bad h0 ht]
  · rw [exec_powerGood, State.powerGood_pulled _ bad hp ht]; rfl
  · rw [exec_powerGood, State.powerGood_stays _ bad h]
  · rw [exec_bootImageLoad, State.bootLoad_stays h]
  · rw [exec_bootImageLoad, State.bootLoad_preferred hon hw hd rfl hr]
  · rw [exec_bootImageLoad, State.bootLoad_fallback hon hw hd rfl hr hf hr']
  · rw [exec_bootImageLoad, State.bootLoad_nothing hon hw hd rfl hr hf ha]
  · rw [exec_startUpDomainsOn, State.domainsOn_stays _ h]
  · rw [exec_startUpDomainsOn, State.domainsOn_planned _ i h3 ho hi]
  · rw [exec_startUpLanesTrained, State.lanesTrained, if_neg h]
  · rw [exec_startUpLanesTrained, State.lanesTrained, if_pos h]
  · rw [exec_supplyReset, State.supplyReset_stays _ main h]
  · rw [exec_supplyReset, State.supplyReset_low _ main hm h]; rfl
  · rw [exec_moduleReset, State.mmioWrite_moduleReset _ ht]; rfl
  · rw [exec_coreReset, State.mmioWrite_coreReset _ ht]
  · rw [exec_controllerRestart, State.mmioWrite_controllerRestart _ ht]
  · exact exec_controllerWatchdog s dt
  · rw [exec_controllerRestartEnd, State.controllerBack]
  · rw [exec_coreResetEnd, State.coreResetEnd_eq]
  · obtain ⟨hclk, hhif, htbl, hflash⟩ := (s.advance dt).coldStart_frame
    refine ⟨_, exec_coldStart s dt, ?_⟩
    rw [State.keeping_clk, State.keeping_hif, State.keeping_tbl, State.keeping_img]
    refine ⟨hclk, hhif, htbl, hflash, ?_, ?_, fun off ha hc hm => ?_⟩
    · rw [State.reg_keeping, State.reg_coldStart _ _ (by decide), if_neg (by decide), if_pos rfl]
    · rw [State.reg_keeping, State.reg_coldStart _ _ (by decide), if_pos rfl]
    · rw [State.reg_keeping, State.reg_coldStart _ _ hm, if_neg hc, if_neg ha]

end Sys2Proof.Machine

/-! ### Lanes and ports (04_lanes_and_ports.md): adaptation, links going down and coming up, link conditions, test patterns -/

namespace Sys2Proof.Machine

/-! #### A lane's signal and adaptation (R93, R98, R99) -/

theorem exec_adaptDone (s : State) (dt l ctle : Nat) (hl : l < 64) :
    exec (.adaptDone dt l ctle) s = .next (((s.advance dt).adaptDone l ctle).keeping s) :=
  after_pos s dt _ (fun t => t.adaptDone l ctle) (decide_eq_true hl)

theorem exec_signalDetect (s : State) (dt l : Nat) (on : Bool) (hl : l < 64) :
    exec (.signalDetect dt l on) s = .next (((s.advance dt).signalDetect l on).keeping s) :=
  after_pos s dt _ (fun t => t.signalDetect l on) (decide_eq_true hl)

/-- A lane's status once adaptation has ended, before the reference slots of the lane are looked at. -/
def State.adapted (s : State) (l ctle : Nat) : State :=
  ((s.setFlag (Fld.LAN_RX_STATUS_CDR_LOCK l) true).setFlag (Fld.LAN_RX_STATUS_ADAPT_DONE l) true).setF (Fld.LAN_RX_STATUS_CTLE l) ctle

theorem State.adaptDone_ends (s : State) (l ctle : Nat) (hon : s.receiverOn l = true) (hsig : s.flag (Fld.LAN_RX_STATUS_SIGNAL l) = true)
    (hnot : s.flag (Fld.LAN_RX_STATUS_ADAPT_DONE l) = false) : s.adaptDone l ctle = (s.adapted l ctle).refLane l :=
  if_pos (by rw [hon, hsig, hnot]; rfl)

theorem State.adaptDone_receiverOff (s : State) (l ctle : Nat) (h : s.receiverOn l = false) : s.adaptDone l ctle = s :=
  if_neg (by simp [h])

theorem State.adaptDoneFlag_adapted (s : State) (l ctle : Nat) : (s.adapted l ctle).flag (Fld.LAN_RX_STATUS_ADAPT_DONE l) = true :=
  calc (s.adapted l ctle).flag (Fld.LAN_RX_STATUS_ADAPT_DONE l)
    _ = ((s.setFlag (Fld.LAN_RX_STATUS_CDR_LOCK l) true).setFlag (Fld.LAN_RX_STATUS_ADAPT_DONE l) true).flag (Fld.LAN_RX_STATUS_ADAPT_DONE l) :=
      State.flag_setF_apart _ _ _ _ rfl (.inr (by simp)) (by simp)
    _ = true := State.flag_setFlag_same _ _ _ (by simp) (by simp)

theorem State.cdrLock_adapted (s : State) (l ctle : Nat) : (s.adapted l ctle).flag (Fld.LAN_RX_STATUS_CDR_LOCK l) = true :=
  calc (s.adapted l ctle).flag (Fld.LAN_RX_STATUS_CDR_LOCK l)
    _ = ((s.setFlag (Fld.LAN_RX_STATUS_CDR_LOCK l) true).setFlag (Fld.LAN_RX_STATUS_ADAPT_DONE l) true).flag (Fld.LAN_RX_STATUS_CDR_LOCK l) :=
      State.flag_setF_apart _ _ _ _ rfl (.inr (by simp)) (by simp)
    _ = (s.setFlag (Fld.LAN_RX_STATUS_CDR_LOCK l) true).flag (Fld.LAN_RX_STATUS_CDR_LOCK l) :=
      State.flag_setFlag_apart _ _ _ _ rfl (.inr (by simp)) (by simp)
    _ = true := State.flag_setFlag_same _ _ _ (by simp) (by simp)

theorem State.ctle_adapted (s : State) (l ctle : Nat) :
    (s.adapted l ctle).f (Fld.LAN_RX_STATUS_CTLE l) = ctle % 2 ^ (Fld.LAN_RX_STATUS_CTLE l).width :=
  State.f_setF_same _ _ _ (by simp)

theorem State.reg_adapted_ne (s : State) (l ctle off : Nat) (h : off ≠ Reg.LAN_RX_STATUS l) : (s.adapted l ctle).reg off = s.reg off := by
  rw [State.adapted, State.reg_setF_ne _ _ _ _ h, State.reg_setFlag_ne _ _ _ _ h, State.reg_setFlag_ne _ _ _ _ h]

theorem State.f_adapted_off (s : State) (l ctle : Nat) (g : FieldRef) (h : g.off ≠ Reg.LAN_RX_STATUS l) : (s.adapted l ctle).f g = s.f g :=
  congrArg g.of (s.reg_adapted_ne l ctle g.off h)

/-- Beside the registers, the end of adaptation leaves the state as it is. -/
theorem State.adapted_frame (s : State) (l ctle : Nat) :
    (s.adapted l ctle).lanes = s.lanes ∧ (s.adapted l ctle).links = s.links ∧ (s.adapted l ctle).ports = s.ports ∧
      (s.adapted l ctle).buf = s.buf ∧ (s.adapted l ctle).tbl = s.tbl ∧ (s.adapted l ctle).evt = s.evt ∧
      (s.adapted l ctle).time = s.time ∧ (s.adapted l ctle).outbox = s.outbox := by
  simp [State.adapted]

/-- A lane that no slot recovers its clock from concerns no slot. -/
theorem State.refLane_unused (s : State) (l : Nat) (h : ∀ k, k < 8 → s.f (Fld.REF_SLOT_CFG_LANE k) ≠ l) : s.refLane l = s := by
  have hnone : (List.range 8).filter (fun k => s.f (Fld.REF_SLOT_CFG_LANE k) == l) = [] :=
    List.filter_eq_nil_iff.mpr fun k hk => by simpa using h k (List.mem_range.mp hk)
  rw [State.refLane, hnone, List.foldl_nil]

/-- A lane's status once its signal is stored and adaptation starts again. -/
def State.signalStored (s : State) (l : Nat) (on : Bool) : State :=
  let w := (s.setFlag (Fld.LAN_RX_STATUS_SIGNAL l) on).readapt l
  if on = true then w else (w.setFlag (Fld.LAN_RX_STATUS_CDR_LOCK l) false).refLane l

theorem State.signalDetect_receiverOff (s : State) (l : Nat) (on : Bool) (h : s.receiverOn l = false) : s.signalDetect l on = s :=
  if_neg (by simp [h])

/-- What the port of a lane, if there is one and it runs, makes of a signal found or lost. -/
def State.portSignal (s : State) (on : Bool) : Option Nat → State
  | none => s
  | some p =>
    if s.linkRuns p then
      if on then (if s.allSignal p then (s.faultEnds p 0).waitUp p else s) else ((s.faultBegins p 0).amLost p 0 0).waitUp p
    else s

section SignalDetect

variable {s : State} {l p : Nat} {on : Bool}

theorem State.signalDetect_receiverOn (hon : s.receiverOn l = true) :
    s.signalDetect l on = (s.signalStored l on).portSignal on ((s.signalStored l on).portOfLane l) := by
  rw [State.signalDetect, if_pos hon]
  rfl

theorem State.signalDetect_noPort (hon : s.receiverOn l = true) (hp : (s.signalStored l on).portOfLane l = none) :
    s.signalDetect l on = s.signalStored l on := by
  rw [State.signalDetect_receiverOn hon, hp, State.portSignal]

theorem State.signalDetect_lost (hon : s.receiverOn l = true) (hp : (s.signalStored l false).portOfLane l = some p)
    (hr : (s.signalStored l false).linkRuns p = true) :
    s.signalDetect l false = (((s.signalStored l false).faultBegins p 0).amLost p 0 0).waitUp p := by
  rw [State.signalDetect_receiverOn hon, hp, State.portSignal, if_pos hr, if_neg Bool.false_ne_true]

/-- The last lane of a running port to detect its signal. -/
theorem State.signalDetect_all (hon : s.receiverOn l = true) (hp : (s.signalStored l true).portOfLane l = some p)
    (hr : (s.signalStored l true).linkRuns p = true) (hall : (s.signalStored l true).allSignal p = true) :
    s.signalDetect l true = ((s.signalStored l true).faultEnds p 0).waitUp p := by
  rw [State.signalDetect_receiverOn hon, hp, State.portSignal, if_pos hr, if_pos rfl, if_pos hall]

/-- A lane of a running port that detects its signal while another one does not. -/
theorem State.signalDetect_notAll (hon : s.receiverOn l = true) (hp : (s.signalStored l true).portOfLane l = some p)
    (hr : (s.signalStored l true).linkRuns p = true) (hall : (s.signalStored l true).allSignal p = false) :
    s.signalDetect l true = s.signalStored l true := by
  rw [State.signalDetect_receiverOn hon, hp, State.portSignal, if_pos hr, if_pos rfl, if_neg (Bool.eq_false_iff.mp hall)]

end SignalDetect

/-- Settles O24: ADAPT_DONE leaves `State.adapted`, SIGNAL_DETECT `State.signalStored` and what the lane's port makes of it. -/
theorem adaptationAndSignalOfALane : Obligations.AdaptationAndSignalOfALane := by
  rintro s _ dt l rfl hl
  refine ⟨fun ctle hon hsig hnot => ⟨(s.advance dt).adapted l ctle, ?_, fun hslots => ?_, State.cdrLock_adapted _ l ctle,
      State.adaptDoneFlag_adapted _ l ctle, State.ctle_adapted _ l ctle, State.reg_adapted_ne _ l ctle, State.adapted_frame _ l ctle⟩,
    fun on hon => ⟨fun hp => ?_, fun p hp hr => ⟨fun hoff => ?_, fun hset hall => ?_, fun hset hall => ?_⟩⟩,
    fun h => ⟨fun ctle => ?_, fun on => ?_⟩⟩
  · rw [exec_adaptDone s dt l ctle hl, State.adaptDone_ends _ l ctle hon hsig hnot]
  · refine State.refLane_unused _ l fun k hk => ?_
    have hoff : (Fld.REF_SLOT_CFG_LANE k).off ≠ Reg.LAN_RX_STATUS l := by simp only [Reg.LAN_RX_STATUS]; omega
    rw [State.f_adapted_off _ l ctle _ hoff]
    exact hslots k hk
  · rw [exec_signalDetect s dt l on hl, State.signalDetect_noPort hon hp]; rfl
  · subst hoff
    rw [exec_signalDetect s dt l false hl, State.signalDetect_lost hon hp hr]; rfl
  · subst hset
    rw [exec_signalDetect s dt l true hl, State.signalDetect_all hon hp hr hall]; rfl
  · subst hset
    rw [exec_signalDetect s dt l true hl, State.signalDetect_notAll hon hp hr hall]; rfl
  · rw [exec_adaptDone s dt l ctle hl, State.adaptDone_receiverOff _ l ctle h]
  · rw [exec_signalDetect s dt l on hl, State.signalDetect_receiverOff _ l on h]

/-! #### Links going down and coming up (R97 to R104) -/

theorem exec_linkDown (s : State) (dt n : Nat) (hn : n < 64) :
    exec (.linkDown dt n) s = .next (((s.advance dt).linkDown n).keeping s) :=
  after_pos s dt _ (fun t => t.linkDown n) (decide_eq_true hn)

theorem exec_linkUp (s : State) (dt n : Nat) (hn : n < 64) :
    exec (.linkUp dt n) s = .next (((s.advance dt).linkUp n).keeping s) :=
  after_pos s dt _ (fun t => t.linkUp n) (decide_eq_true hn)

theorem exec_flapRecover (s : State) (dt n : Nat) (hn : n < 64) :
    exec (.flapRecover dt n) s = .next (((s.advance dt).flapRecover n).keeping s) :=
  after_pos s dt _ (fun t => t.flapRecover n) (decide_eq_true hn)

theorem exec_amLockLost (s : State) (dt n pcs lane : Nat) (hn : n < 64) :
    exec (.amLockLost dt n pcs lane) s = .next (((s.advance dt).amLost n pcs lane).keeping s) :=
  after_pos s dt _ (fun t => t.amLost n pcs lane) (decide_eq_true hn)

theorem exec_anRefused (s : State) (dt n : Nat) (hn : n < 64) :
    exec (.anRefused dt n) s = .next (((s.advance dt).anRefused n).keeping s) :=
  after_pos s dt _ (fun t => t.anRefused n) (decide_eq_true hn)

theorem exec_deskewRetry (s : State) (dt n : Nat) (hn : n < 64) :
    exec (.deskewRetry dt n) s = .next (((s.advance dt).deskewAgain n).keeping s) :=
  after_pos s dt _ (fun t => t.deskewAgain n) (decide_eq_true hn)

/-- The causes of R99 whose conditions have held for DOWN_DEBOUNCE_US. -/
def State.heldCauses (s : State) (n : Nat) : List Nat :=
  ((s.link n).faults.filter (fun f => s.passed f.2 (s.f (Fld.PRT_LINK_CFG_DOWN_DEBOUNCE_US n)) 625)).map (·.1)

section Links

variable {s : State} {n : Nat}

/-- The cause that a link down declares is the lowest held one. -/
theorem State.linkDown_lowest {c : Nat} (hr : s.linkRuns n = true) (hup : s.portUp n = true) (hc : c < 6)
    (hheld : (s.heldCauses n).contains c = true) (hlow : ∀ b, b < c → (s.heldCauses n).contains b = false) :
    s.linkDown n = ((s.declareDown n c).freezePort n).waitUp n := by
  have hfind : (List.range 6).find? (fun c => (s.heldCauses n).contains c) = some c :=
    List.find?_range_eq_some.mpr ⟨hheld, List.mem_range.mpr hc, fun b hb => by rw [hlow b hb]; rfl⟩
  unfold State.heldCauses at hfind
  simp only [State.linkDown, Config.ticksPerUs, hfind, hr, hup, Bool.and_self, if_true]

theorem State.linkDown_none (hnone : ∀ c, c < 6 → (s.heldCauses n).contains c = false) : s.linkDown n = s := by
  have hfind : (List.range 6).find? (fun c => (s.heldCauses n).contains c) = none :=
    List.find?_range_eq_none.mpr fun c hc => by rw [hnone c hc]; rfl
  unfold State.heldCauses at hfind
  simp only [State.linkDown, Config.ticksPerUs, hfind]

/-- The tick at which the wait for link up ends, of a port whose conditions hold. -/
theorem State.linkUpAt_waiting {since : Nat} (hs : (s.link n).upSince = some since) (hc : s.upConditions n = true) (hd : s.portUp n = false) :
    s.linkUpAt n = some (since + s.f (Fld.PRT_LINK_STATUS_UP_WAIT_MS n) * 625000) := by
  simp only [State.linkUpAt, hs, hc, hd, Config.ticksPerMs, Bool.not_false, Bool.and_self, if_true]

/-- The link and its status as it comes up, before event 64 and before its users learn of it. -/
def State.cameUp (s : State) (n : Nat) : State :=
  ((s.setLink n { s.link n with upSince := none, upAt := some s.clk, faults := [] }).setFlag (Fld.PRT_LINK_STATUS_UP n) true).setFlag
    (Fld.PRT_LINK_STATUS_SUPPRESSED n) false

theorem State.linkUp_due {t : Nat} (h : s.linkUpAt n = some t) (ht : t ≤ s.clk) :
    s.linkUp n = (((((((s.cameUp n).raise 64 n [(24, 1, (s.cameUp n).speed n), (25, 1, (s.cameUp n).f (Fld.PRT_CFG_FEC n)),
      (26, 2, (s.cameUp n).f (Fld.PRT_LINK_STATUS_UP_WAIT_MS n)),
      (28, 2, if (s.cameUp n).multiLane n then (s.cameUp n).f (Fld.PRT_LINK_STATUS_DESKEW_NS n) else 0)]).resumePort n).sendControl n).lanLinkUp
        n).refPort n).calLinkUp n) := by
  rw [State.linkUp, h]
  exact if_pos ht

/-- The flap count cleared and the up-suppression time back at UP_HOLD_MS. -/
def State.flapsCleared (s : State) (n : Nat) : State :=
  (s.setLink n { s.link n with flaps := 0, raised := false }).setF (Fld.PRT_LINK_STATUS_UP_WAIT_MS n) (s.f (Fld.PRT_LINK_CFG_UP_HOLD_MS n))

theorem State.flapRecover_due {since : Nat} (hs : (s.link n).upAt = some since) (hr : s.linkRuns n = true) (hup : s.portUp n = true)
    (hf : (s.link n).flaps ≠ 0) (hd : since + 60 * 625000000 ≤ s.clk) :
    s.flapRecover n =
      if (s.link n).raised = true then
        (s.flapsCleared n).raiseEnd 79 n [(24, 2, s.f (Fld.PRT_LINK_CFG_UP_HOLD_MS n)), (26, 2, (s.link n).flaps)]
      else s.flapsCleared n := by
  have hpassed : s.passed since 60 Config.ticksPerS = true := decide_eq_true hd
  simp only [State.flapRecover, hs, hr, hup, hpassed, bne_iff_ne.mpr hf, Bool.and_self, if_true, State.flapsCleared]

/-- Lost alignment-marker lock raises event 67 only where no loss of signal or block lock is its reason (R98). -/
theorem State.amLost_locked (pcs lane : Nat) (hr : s.linkRuns n = true) (hm : s.multiLane n = true)
    (hl : s.flag (Fld.PRT_LINK_STATUS_AM_LOCK n) = true) :
    s.amLost n pcs lane =
      let w := s.setFlag (Fld.PRT_LINK_STATUS_AM_LOCK n) false
      ((if (s.allSignal n && s.flag (Fld.PRT_LINK_STATUS_BLOCK_LOCK n) && w.portUp n) = true
        then w.raise 67 n [(24, 1, pcs), (25, 1, lane)] else w).faultBegins n 5).waitUp n :=
  if_pos (by rw [hr, hm, hl]; rfl)

theorem State.anRefused_negotiating (hr : s.linkRuns n = true) (hsp : s.speed n = 1) (han : s.flag (Fld.PRT_CFG_AN_EN n) = true)
    (hd : s.portUp n = false) :
    s.anRefused n = ((s.bump (Reg.PRT_AN_FAIL_CNT n)).setFlag (Fld.PRT_LINK_STATUS_AN_DONE n) false).waitUp n :=
  if_pos (by rw [hr, hsp, han, hd]; rfl)

theorem State.deskewAgain_due {since : Nat} (hr : s.linkRuns n = true) (hs : (s.link n).deskewRetry = some since)
    (hd : since + 10 * 625000 ≤ s.clk) : s.deskewAgain n = s.setLink n { s.link n with deskewRetry := none } := by
  have hpassed : s.passed since 10 Config.ticksPerMs = true := decide_eq_true hd
  simp only [State.deskewAgain, hs, hr, hpassed, Bool.and_self, if_true]

end Links

/-- Settles O25: each row in the branch that its conditions choose. -/
theorem linksGoDownAndComeUpByTheirConditions : Obligations.LinksGoDownAndComeUpByTheirConditions := by
  rintro s _ dt n rfl hn hr
  refine ⟨fun hup => ⟨fun c hc hheld hlow => ?_, fun hnone => ?_⟩, fun since hs hc hd ht => ?_, fun since hs hup hf ht => ?_,
    fun pcs lane hm hl => ?_, fun hsp han hd => ?_, fun since hs ht => ?_⟩
  · rw [exec_linkDown s dt n hn, State.linkDown_lowest hr hup hc hheld hlow]
  · rw [exec_linkDown s dt n hn, State.linkDown_none hnone]
  · rw [exec_linkUp s dt n hn, State.linkUp_due (State.linkUpAt_waiting hs hc hd) ht]; rfl
  · rw [exec_flapRecover s dt n hn, State.flapRecover_due hs hr hup hf ht]; rfl
  · rw [exec_amLockLost s dt n pcs lane hn, State.amLost_locked pcs lane hr hm hl]
  · rw [exec_anRefused s dt n hn, State.anRefused_negotiating hr hsp han hd]
  · rw [exec_deskewRetry s dt n hn, State.deskewAgain_due hr hs ht]

/-! #### Conditions of a running link, and test patterns (R99 to R107) -/

theorem exec_blockLockChange (s : State) (dt n kind : Nat) (on : Bool) (skew early late own : Nat) (c : PcsCounts) (hn : n < 64) :
    exec (.blockLockChange dt n kind on skew early late own c) s =
      .next (((s.advance dt).linkCondition n kind on skew early late own c).keeping s) :=
  after_pos s dt _ (fun t => t.linkCondition n kind on skew early late own c) (decide_eq_true hn)

theorem exec_prbsInjectSingle (s : State) (dt l : Nat) (hl : l < 64) :
    exec (.prbsInjectSingle dt l) s = .next (((s.advance dt).prbsInject l true).keeping s) :=
  after_pos s dt _ (fun t => t.prbsInject l true) (decide_eq_true hl)

theorem exec_prbsInjectBurst (s : State) (dt l : Nat) (hl : l < 64) :
    exec (.prbsInjectBurst dt l) s = .next (((s.advance dt).prbsInject l false).keeping s) :=
  after_pos s dt _ (fun t => t.prbsInject l false) (decide_eq_true hl)

theorem exec_prbsLockChange (s : State) (dt l : Nat) (on : Bool) (errs bits : Nat) (hl : l < 64) :
    exec (.prbsLockChange dt l on errs bits) s = .next (((s.advance dt).prbsLock l on errs bits).keeping s) :=
  after_pos s dt _ (fun t => t.prbsLock l on errs bits) (decide_eq_true hl)

theorem exec_prbsIntervalEnd (s : State) (dt l errs bits : Nat) (hl : l < 64) :
    exec (.prbsIntervalEnd dt l errs bits) s = .next (((s.advance dt).prbsInterval l errs bits).keeping s) :=
  after_pos s dt _ (fun t => t.prbsInterval l errs bits) (decide_eq_true hl)

/-- A port with what its PCS counted taken in, where its domain is on. -/
def State.pcsCounted (s : State) (n : Nat) (c : PcsCounts) : State :=
  if (s.domainOn (portDomain n) && s.speed n != 0) = true then s.countBlocks n c else s

/-- A condition of the receive side stored in its status bit, and the fault of its number begun or ended. -/
def State.conditionStored (s : State) (n kind : Nat) (fld : FieldRef) (on : Bool) : State :=
  (if on = true then (s.setFlag fld on).faultBegins n kind else (s.setFlag fld on).faultEnds n kind).waitUp n

/-- The status bits of PRT_LINK_STATUS that a condition of a kind alone sets and clears. -/
def ConditionBit (n kind : Nat) (fld : FieldRef) : Prop :=
  (kind = 2 ∧ fld = Fld.PRT_LINK_STATUS_HI_BER n) ∨ (kind = 3 ∧ fld = Fld.PRT_LINK_STATUS_REMOTE_FAULT n) ∨
    (kind = 4 ∧ fld = Fld.PRT_LINK_STATUS_LOCAL_FAULT n)

section LinkCondition

variable {s : State} {n : Nat} (on : Bool) (skew early late own : Nat) {c : PcsCounts}

theorem State.linkCondition_stopped (kind : Nat) (h : (s.pcsCounted n c).linkRuns n = false) :
    s.linkCondition n kind on skew early late own c = s.pcsCounted n c :=
  if_pos (congrArg not h)

theorem State.linkCondition_blockLock (h : (s.pcsCounted n c).linkRuns n = true) :
    s.linkCondition n 1 on skew early late own c =
      (s.pcsCounted n c).blockLock n on (((s.pcsCounted n c).portLanes n).filter (· == early)) :=
  if_neg (Bool.not_not_eq.mpr h)

theorem State.linkCondition_bit {kind : Nat} {fld : FieldRef} (h : (s.pcsCounted n c).linkRuns n = true) (hk : ConditionBit n kind fld) :
    s.linkCondition n kind on skew early late own c = (s.pcsCounted n c).conditionStored n kind fld on := by
  obtain ⟨rfl, rfl⟩ | ⟨rfl, rfl⟩ | ⟨rfl, rfl⟩ := hk
  all_goals exact if_neg (Bool.not_not_eq.mpr h)

theorem State.linkCondition_autoNeg (h : (s.pcsCounted n c).linkRuns n = true) (hsp : (s.pcsCounted n c).speed n = 1) :
    s.linkCondition n 6 on skew early late own c = ((s.pcsCounted n c).setFlag (Fld.PRT_LINK_STATUS_AN_DONE n) on).waitUp n :=
  (if_neg (Bool.not_not_eq.mpr h)).trans (if_pos hsp)

end LinkCondition

/-- A lane whose interval's counts are taken and which begins the next. -/
def State.intervalRestarted (s : State) (l : Nat) : State :=
  s.setLane l { s.lane l with prbsErr := 0, prbsBits := 0, prbsLost := false, prbsSince := s.clk }

section Prbs

variable {s : State} {l : Nat} (hl : l < 64)
include hl

theorem State.prbsInject_single (h : s.flag (Fld.LAN_PRBS_CFG_INJ_SINGLE l) = true) :
    s.prbsInject l true = ((s.setLane l { s.lane l with inject := 0 }).setFlag (Fld.LAN_PRBS_CFG_INJ_SINGLE l) false).emit
      (.prbsInject l (s.lane l).inject) :=
  if_pos (by rw [decide_eq_true hl, if_pos rfl, h]; rfl)

theorem State.prbsInject_burst (h : s.flag (Fld.LAN_PRBS_CFG_INJ_BURST l) = true) :
    s.prbsInject l false = ((s.setLane l { s.lane l with inject := 0 }).setFlag (Fld.LAN_PRBS_CFG_INJ_BURST l) false).emit
      (.prbsInject l (s.lane l).inject) :=
  if_pos (by rw [decide_eq_true hl, if_neg Bool.false_ne_true, h]; rfl)

variable {errs bits : Nat} (hd : s.domainOn (portDomain l) = true) (hc : s.flag (Fld.LAN_PRBS_CFG_CHECK l) = true)
include hd hc

theorem State.prbsLock_gained (h : s.flag (Fld.LAN_PRBS_STATUS_LOCK l) = false) :
    s.prbsLock l true errs bits = s.setFlag (Fld.LAN_PRBS_STATUS_LOCK l) true := by
  rw [State.prbsLock, decide_eq_true hl, hd, hc, h]
  rfl

/-- A checker that drops lock has counted until then (R106). -/
theorem State.prbsLock_lost (h : s.flag (Fld.LAN_PRBS_STATUS_LOCK l) = true) :
    s.prbsLock l false errs bits =
      let w := ((s.prbsCount l errs bits).setFlag (Fld.LAN_PRBS_STATUS_LOCK l) false).setFlag (Fld.LAN_PRBS_STATUS_LOCK_LOST l) true
      w.setLane l { w.lane l with prbsLost := true } := by
  rw [State.prbsLock, decide_eq_true hl, hd, hc, h]
  rfl

theorem State.prbsInterval_due (ht : (s.lane l).prbsSince + 625000000 ≤ s.clk) :
    s.prbsInterval l errs bits =
      let x := (s.prbsCount l errs bits).lane l
      let w := (s.prbsCount l errs bits).intervalRestarted l
      if x.prbsErr ≠ 0 ∨ x.prbsLost = true then
        w.raise 68 l [(24, 4, x.prbsErr), (28, 8, x.prbsBits), (36, 1, (if x.prbsLost then 1 else 0) + 2 * w.f (Fld.LAN_PRBS_CFG_PATTERN l))]
      else w := by
  have hpassed : s.passed (s.lane l).prbsSince 1 Config.ticksPerS = true := decide_eq_true (by rwa [Nat.one_mul])
  rw [State.prbsInterval, decide_eq_true hl, hd, hc, hpassed]
  rfl

end Prbs

/-- Settles O26: each row in the branch that its conditions choose. -/
theorem linkConditionsAndTestPatternsAreRecorded : Obligations.LinkConditionsAndTestPatternsAreRecorded := by
  rintro s _ dt n rfl hn
  refine ⟨fun on skew early late own c hr => ⟨?_, fun kind fld hk => ?_, fun hsp => ?_⟩, fun kind on skew early late own c hr => ?_,
    fun h => ?_, fun h => ?_, fun errs bits hd hc => ⟨fun h => ?_, fun h => ?_, fun ht => ⟨fun he hlost => ?_, fun hbad => ?_⟩⟩⟩
  · rw [exec_blockLockChange s dt n 1 on skew early late own c hn, State.linkCondition_blockLock on skew early late own hr]; rfl
  · rw [exec_blockLockChange s dt n kind on skew early late own c hn, State.linkCondition_bit on skew early late own hr hk]; rfl
  · rw [exec_blockLockChange s dt n 6 on skew early late own c hn, State.linkCondition_autoNeg on skew early late own hr hsp]; rfl
  · rw [exec_blockLockChange s dt n kind on skew early late own c hn, State.linkCondition_stopped on skew early late own kind hr]; rfl
  · rw [exec_prbsInjectSingle s dt n hn, State.prbsInject_single hn h]
  · rw [exec_prbsInjectBurst s dt n hn, State.prbsInject_burst hn h]
  · rw [exec_prbsLockChange s dt n true errs bits hn, State.prbsLock_gained hn hd hc h]
  · rw [exec_prbsLockChange s dt n false errs bits hn, State.prbsLock_lost hn hd hc h]
  · rw [exec_prbsIntervalEnd s dt n errs bits hn, State.prbsInterval_due hn hd hc ht]
    dsimp only
    rw [if_neg (by simp [he, hlost])]; rfl
  · rw [exec_prbsIntervalEnd s dt n errs bits hn, State.prbsInterval_due hn hd hc ht]
    dsimp only
    rw [if_pos hbad]; rfl

end Sys2Proof.Machine

/-! ### The frame path (05_frame_path.md): frames received, sent and cut -/

namespace Sys2Proof.Machine

/-! #### A frame received (R72, R112, R113, R358) -/

section FrameReceive

variable {s : State} {dt n : Nat} {data : List Byte} {a : Arrival} {bad : List (TblPlace × Bool)}

theorem exec_frameReceive (hn : n < 64) :
    exec (.frameReceive dt n data a bad) s =
      let v := (s.advance dt).upsetTables bad
      .next ((if v.portUp n = true then v.receive n data a else v).keeping s) :=
  after_pos s dt _ (fun t => if (t.upsetTables bad).portUp n then (t.upsetTables bad).receive n data a else t.upsetTables bad)
    (decide_eq_true hn)

theorem exec_frameReceive_down (hn : n < 64) (h : ((s.advance dt).upsetTables bad).portUp n = false) :
    exec (.frameReceive dt n data a bad) s = .next (((s.advance dt).upsetTables bad).keeping s) := by
  rw [exec_frameReceive hn]
  dsimp only
  rw [if_neg (Bool.eq_false_iff.mp h)]

theorem exec_frameReceive_up (hn : n < 64) (h : ((s.advance dt).upsetTables bad).portUp n = true) :
    exec (.frameReceive dt n data a bad) s = .next ((((s.advance dt).upsetTables bad).receive n data a).keeping s) := by
  rw [exec_frameReceive hn]
  dsimp only
  rw [if_pos h]

theorem State.receive_noDelivery (h : (s.countBlocks n a.counts).noDelivery = true) :
    s.receive n data a = (s.countBlocks n a.counts).bump (Reg.GEN_CORE_RX_DROP (groupOf n)) :=
  if_pos h

theorem State.receive_laneWithheld (hd : (s.countBlocks n a.counts).noDelivery = false)
    (h : (s.countBlocks n a.counts).laneWithheld n = true) :
    s.receive n data a = (s.countBlocks n a.counts).bump (Reg.MIR_STBY_RX_FRAMES (groupOf n)) :=
  (if_neg (Bool.eq_false_iff.mp hd)).trans (if_pos h)

/-- A frame that the ingress PCS delivers to this unit is counted among its port's, whatever becomes of it (R113). -/
def State.delivered (s : State) (n : Nat) (a : Arrival) : State :=
  (s.countBlocks n a.counts).bump (Reg.PRT_RX_FRAMES n)

theorem State.receive_restructuring (hd : (s.countBlocks n a.counts).noDelivery = false)
    (hw : (s.countBlocks n a.counts).laneWithheld n = false) (h : ((s.delivered n a).restr (groupOf n)).isSome = true) :
    s.receive n data a = ((s.delivered n a).bump (Reg.PRT_RX_RESTRUCT_DROP n)).bump Reg.TXN_RESTRUCT_RX_DROP :=
  (if_neg (Bool.eq_false_iff.mp hd)).trans ((if_neg (Bool.eq_false_iff.mp hw)).trans (if_pos h))

/-- What becomes of a frame at its port's elastic store, whose fill has been noted: dropped by the first check that refuses it, or
stamped, sampled and forwarded (R112). -/
def State.checkFrame (s : State) (n : Nat) (data : List Byte) (a : Arrival) : State :=
  if 65536 < a.fill + data.length then (s.bump (Reg.PRT_RX_ELASTIC_OVF n)).bump (Reg.BUF_ELASTIC_OVF_CNT (groupOf n))
  else if a.fragment then (s.bump (Reg.SCH_REASM_ERR n)).bump (Reg.PRT_RX_FCS_ERR n)
  else if a.cut then s.refuseLength n 16384 2
  else if data.length < 64 then s.refuseLength n data.length 0
  else if 9216 < data.length then s.refuseLength n data.length 1
  else if a.marked || !fcsOk data then s.bump (Reg.PRT_RX_FCS_ERR n)
  else
    let stamp := stampOf s.tickTime (s.phase n a.beats) (s.speed n) (startUi a.start33) (-(s.rxDelay n))
    ((s.sampleFrame n 0 stamp data).forwardFrame n data stamp
      ((if s.portCalibrating n then 1 else 0) + (s.commonFlags % 8) * 2) none a.access).2

theorem State.receive_checkFrame (hd : (s.countBlocks n a.counts).noDelivery = false)
    (hw : (s.countBlocks n a.counts).laneWithheld n = false) (hr : ((s.delivered n a).restr (groupOf n)).isSome = false) :
    s.receive n data a = (((s.delivered n a).noteFill (groupOf n) a.fill).flow).checkFrame n data a :=
  (if_neg (Bool.eq_false_iff.mp hd)).trans ((if_neg (Bool.eq_false_iff.mp hw)).trans (if_neg (Bool.eq_false_iff.mp hr)))

theorem State.checkFrame_storeFull (h : 65536 < a.fill + data.length) :
    s.checkFrame n data a = (s.bump (Reg.PRT_RX_ELASTIC_OVF n)).bump (Reg.BUF_ELASTIC_OVF_CNT (groupOf n)) :=
  if_pos h

section StoreFits

variable (hfit : a.fill + data.length ≤ 65536)
include hfit

theorem State.checkFrame_fragment (h : a.fragment = true) :
    s.checkFrame n data a = (s.bump (Reg.SCH_REASM_ERR n)).bump (Reg.PRT_RX_FCS_ERR n) := by
  rw [State.checkFrame, if_neg (Nat.not_lt.mpr hfit), if_pos h]

variable (hwhole : a.fragment = false)
include hwhole

theorem State.checkFrame_cut (h : a.cut = true) : s.checkFrame n data a = s.refuseLength n 16384 2 := by
  rw [State.checkFrame, if_neg (Nat.not_lt.mpr hfit), if_neg (Bool.eq_false_iff.mp hwhole), if_pos h]

variable (huncut : a.cut = false)
include huncut

theorem State.checkFrame_short (h : data.length < 64) : s.checkFrame n data a = s.refuseLength n data.length 0 := by
  rw [State.checkFrame, if_neg (Nat.not_lt.mpr hfit), if_neg (Bool.eq_false_iff.mp hwhole), if_neg (Bool.eq_false_iff.mp huncut), if_pos h]

theorem State.checkFrame_long (h : 9216 < data.length) : s.checkFrame n data a = s.refuseLength n data.length 1 := by
  have hmin : ¬ data.length < 64 := by omega
  rw [State.checkFrame, if_neg (Nat.not_lt.mpr hfit), if_neg (Bool.eq_false_iff.mp hwhole), if_neg (Bool.eq_false_iff.mp huncut),
    if_neg hmin, if_pos h]

variable (hmin : 64 ≤ data.length) (hmax : data.length ≤ 9216)
include hmin hmax

theorem State.checkFrame_badFcs (h : a.marked = true ∨ fcsOk data = false) : s.checkFrame n data a = s.bump (Reg.PRT_RX_FCS_ERR n) := by
  have hbad : (a.marked || !fcsOk data) = true := by simpa using h
  rw [State.checkFrame, if_neg (Nat.not_lt.mpr hfit), if_neg (Bool.eq_false_iff.mp hwhole), if_neg (Bool.eq_false_iff.mp huncut),
    if_neg (Nat.not_lt.mpr hmin), if_neg (Nat.not_lt.mpr hmax), if_pos hbad]

/-- A frame that no check refuses is stamped, sampled and forwarded. -/
theorem State.checkFrame_good (hm : a.marked = false) (hf : fcsOk data = true) :
    s.checkFrame n data a =
      let stamp := stampOf s.tickTime (s.phase n a.beats) (s.speed n) (startUi a.start33) (-(s.rxDelay n))
      ((s.sampleFrame n 0 stamp data).forwardFrame n data stamp
        ((if s.portCalibrating n then 1 else 0) + (s.commonFlags % 8) * 2) none a.access).2 := by
  have hgood : ¬ (a.marked || !fcsOk data) = true := by simp [hm, hf]
  rw [State.checkFrame, if_neg (Nat.not_lt.mpr hfit), if_neg (Bool.eq_false_iff.mp hwhole), if_neg (Bool.eq_false_iff.mp huncut),
    if_neg (Nat.not_lt.mpr hmin), if_neg (Nat.not_lt.mpr hmax), if_neg hgood]

end StoreFits

end FrameReceive

/-- Settles O27: the frame in the branch of `State.receive`, and then of `State.checkFrame`, that its conditions choose. -/
theorem framesAreReceivedOrCountedAsR112Says : Obligations.FramesAreReceivedOrCountedAsR112Says := by
  rintro s _ dt n data a bad rfl hn
  refine ⟨exec_frameReceive_down hn, fun hup => ?_⟩
  rw [exec_frameReceive_up hn hup]
  refine ⟨fun h => ?_, fun hd h => ?_, fun hd hw => ⟨fun h => ?_, fun hr => ?_⟩⟩
  · rw [State.receive_noDelivery h]
  · rw [State.receive_laneWithheld hd h]
  · rw [State.receive_restructuring hd hw h]; rfl
  rw [State.receive_checkFrame hd hw hr]
  refine ⟨fun h => ?_, fun hfit => ⟨fun h => ?_, fun hwhole h => ?_, fun hwhole huncut h => ?_, fun hwhole huncut h => ?_,
    fun hwhole huncut hmin hmax => ⟨fun h => ?_, fun hm hf => ?_⟩⟩⟩
  · rw [State.checkFrame_storeFull h]; rfl
  · rw [State.checkFrame_fragment hfit h]; rfl
  · rw [State.checkFrame_cut hfit hwhole h]; rfl
  · rw [State.checkFrame_short hfit hwhole huncut h]; rfl
  · rw [State.checkFrame_long hfit hwhole huncut h]; rfl
  · rw [State.checkFrame_badFcs hfit hwhole huncut hmin hmax h]; rfl
  · rw [State.checkFrame_good hfit hwhole huncut hmin hmax hm hf]; rfl

/-! #### A copy sent (R118, R130, R178, R179) -/

section FrameTransmit

variable {s : State} {n : Nat} {beats : List (Nat × Bool)} {ui : Nat}

theorem exec_frameTransmit (s : State) (dt : Nat) (beats : List (Nat × Bool)) (start33 : Bool) (flips : List (Nat × BitVec 288)) (hn : n < 64) :
    exec (.frameTransmit dt n beats start33 flips) s =
      .next ((((s.advance dt).upset flips).transmit n beats (startUi start33)).keeping s) :=
  after_pos s dt _ (fun t => (t.upset flips).transmit n beats (startUi start33)) (decide_eq_true hn)

theorem State.transmit_cannotSend (h : s.canSend n = false) : s.transmit n beats ui = s :=
  if_pos (.inr h)

/-- A port about to choose: the heads that wait for want of fit are counted, and a visit whose queue is not eligible has ended. -/
def State.readyToChoose (s : State) (p : Nat) : State :=
  let w := s.noteWaits p [7, 6, 5, 4, 3, 2, 1, 0]
  w.endVisit p (fun j h => w.headOpen p j h && w.fits p h.cls h.left)

/-- The pass of the chosen head `h` of queue `j`: resumed, or read and launched, or given up where it cannot be read. -/
def State.sendHead (s : State) (p j : Nat) (d : Store Nat) (h : Head) (beats : List (Nat × Bool)) (ui : Nat) : State :=
  match h.cut with
  | some t => (s.resume p t).afterSend p j d 0
  | none =>
    match s.frame h.id with
    | none => s
    | some f => match f.copy p with
      | none => s
      | some c =>
        match (s.unlink f.id p).readCopy f p with
        | (none, r) => r.afterSend p j d 0
        | (some data, r) => (r.launch p j f c data beats ui).afterSend p j d h.wire

/-- The scheduler's choice, and the pass of the head of the queue it chose; with nothing to send nothing changes. -/
def State.sendChosen (s : State) (p : Nat) (beats : List (Nat × Bool)) (ui : Nat) : State :=
  match s.choose p with
  | none => s
  | some (j, d) => match s.head p j with
    | none => s
    | some h => s.sendHead p j d h beats ui

theorem State.transmit_canSend (hn : n < 64) (h : s.canSend n = true) :
    s.transmit n beats ui = (s.readyToChoose n).sendChosen n beats ui :=
  if_neg (by simp [h, hn])

theorem exec_frameTransmit_canSend (s : State) (dt : Nat) (beats : List (Nat × Bool)) (start33 : Bool) (flips : List (Nat × BitVec 288))
    (hn : n < 64) (h : ((s.advance dt).upset flips).canSend n = true) :
    exec (.frameTransmit dt n beats start33 flips) s =
      .next (((((s.advance dt).upset flips).readyToChoose n).sendChosen n beats (startUi start33)).keeping s) := by
  rw [exec_frameTransmit s dt beats start33 flips hn, State.transmit_canSend hn h]

theorem State.sendChosen_none (h : s.choose n = none) : s.sendChosen n beats ui = s := by
  rw [State.sendChosen, h]

variable {j : Nat} {d : Store Nat} {h : Head}

theorem State.sendChosen_head (hc : s.choose n = some (j, d)) (hh : s.head n j = some h) :
    s.sendChosen n beats ui = s.sendHead n j d h beats ui := by
  simp only [State.sendChosen, hc, hh]

theorem State.sendHead_cut {t : Tx} (hcut : h.cut = some t) : s.sendHead n j d h beats ui = (s.resume n t).afterSend n j d 0 := by
  rw [State.sendHead, hcut]

variable {f : Frame} {c : Copy} {r : State} (hcut : h.cut = none) (hf : s.frame h.id = some f) (hc : f.copy n = some c)
include hcut hf hc

theorem State.sendHead_read {data : List Byte} (hr : (s.unlink f.id n).readCopy f n = (some data, r)) :
    s.sendHead n j d h beats ui = (r.launch n j f c data beats ui).afterSend n j d h.wire := by
  simp only [State.sendHead, hcut, hf, hc, hr]

theorem State.sendHead_unreadable (hr : (s.unlink f.id n).readCopy f n = (none, r)) :
    s.sendHead n j d h beats ui = r.afterSend n j d 0 := by
  simp only [State.sendHead, hcut, hf, hc, hr]

end FrameTransmit

/-! #### A frame cut (R182) -/

section FramePreempt

theorem exec_framePreempt (s : State) (dt : Nat) {n : Nat} (hn : n < 64) :
    exec (.framePreempt dt n) s = .next (((s.advance dt).preempt n).keeping s) :=
  after_pos s dt _ (fun t => t.preempt n) (decide_eq_true hn)

@[simp] theorem State.port_emit (s : State) (o : Output) (m : Nat) : (s.emit o).port m = s.port m := rfl
@[simp] theorem State.port_bump (s : State) (off m : Nat) : (s.bump off).port m = s.port m := rfl

/-- A fragment of `sent` bytes on the wire, counted, and the rest of the transmission put back ahead of its queue; what pause the port owes
has not gone yet. -/
def State.fragmentSent (s : State) (p : Nat) (t : Tx) (sent : Nat) : State :=
  let w := s.emit (.frame p ((t.data.drop t.sentBefore).take sent) t.stamp false)
  let w := if t.sentBefore = 0 then w.bump (Reg.SCH_PREEMPT_CNT p) else w
  let w := w.bump (Reg.SCH_FRAG_CNT p)
  w.setPort p { s.port p with
    tx := none
    cut := (s.port p).cut ++ [{ t with sentBefore := t.sentBefore + sent }]
    busy := t.startTick + byteTicks (rateOf (w.speed p)) (sent + 24) }

variable {s : State} {n sent : Nat} {t : Tx}

theorem State.preempt_cut (htx : (s.port n).tx = some t) (hcut : s.cutPoint n t = some sent) (ha : s.preemptActive n = true)
    (he : t.express = false) (hsent : 60 ≤ sent) (hleft : t.sentBefore + sent + 64 ≤ t.data.length) :
    s.preempt n = (s.fragmentSent n t sent).sendControl n := by
  have hgo : (s.preemptActive n && !t.express && decide (60 ≤ sent) && decide (t.sentBefore + sent + 64 ≤ t.data.length)) = true := by
    simp [ha, he, hsent, hleft]
  simp only [State.preempt, htx, hcut, if_pos hgo, State.fragmentSent]

theorem State.outbox_fragmentSent :
    (s.fragmentSent n t sent).outbox = .frame n ((t.data.drop t.sentBefore).take sent) t.stamp false :: s.outbox := by
  unfold State.fragmentSent
  split <;> simp [State.emit]

theorem State.fragCnt_fragmentSent :
    (s.fragmentSent n t sent).reg (Reg.SCH_FRAG_CNT n) = s.reg (Reg.SCH_FRAG_CNT n) + 1 := by
  unfold State.fragmentSent
  split <;> simp [State.reg_bump]

theorem State.preemptCnt_fragmentSent :
    (s.fragmentSent n t sent).reg (Reg.SCH_PREEMPT_CNT n) =
      if t.sentBefore = 0 then s.reg (Reg.SCH_PREEMPT_CNT n) + 1 else s.reg (Reg.SCH_PREEMPT_CNT n) := by
  unfold State.fragmentSent
  split <;> simp [State.reg_bump]

/-- No register beside the two counters changes. -/
theorem State.reg_fragmentSent_ne {off : Nat} (hf : off ≠ Reg.SCH_FRAG_CNT n) (hp : off ≠ Reg.SCH_PREEMPT_CNT n) :
    (s.fragmentSent n t sent).reg off = s.reg off := by
  unfold State.fragmentSent
  split <;> simp [State.reg_bump, hf, hp]

/-- The port has nothing in transmission, and the rest of the frame stands behind those it had cut before. -/
theorem State.port_fragmentSent_same :
    ((s.fragmentSent n t sent).port n).tx = none ∧
      ((s.fragmentSent n t sent).port n).cut = (s.port n).cut ++ [{ t with sentBefore := t.sentBefore + sent }] := by
  simp [State.fragmentSent, State.port_setPort]

theorem State.port_fragmentSent_ne {m : Nat} (h : m ≠ n) : (s.fragmentSent n t sent).port m = s.port m := by
  unfold State.fragmentSent
  split <;> simp [State.port_setPort, h]

/-- A cut leaves the tables, the buffer and the events as they are. -/
theorem State.fragmentSent_frame :
    (s.fragmentSent n t sent).tbl = s.tbl ∧ (s.fragmentSent n t sent).buf = s.buf ∧ (s.fragmentSent n t sent).evt = s.evt := by
  unfold State.fragmentSent
  split <;> simp

theorem State.preempt_idle (h : (s.port n).tx = none) : s.preempt n = s := by
  rw [State.preempt, h]

theorem State.preempt_noCutPoint (h : ∀ t, (s.port n).tx = some t → s.cutPoint n t = none) : s.preempt n = s := by
  cases htx : (s.port n).tx with
  | none => exact State.preempt_idle htx
  | some t => simp only [State.preempt, htx, h t htx]

end FramePreempt

/-- Settles O28: FRAME_TRANSMIT by the head that the scheduler chose, FRAME_PREEMPT by `State.fragmentSent`. -/
theorem schedulerSendsOrCutsWhatItChose : Obligations.SchedulerSendsOrCutsWhatItChose := by
  rintro s _ dt n rfl hn
  refine ⟨fun beats start33 flips => ⟨fun h => ?_, fun hs => ?_⟩, fun t sent htx hcut ha he hsent hleft => ?_, fun h => ?_⟩
  · rw [exec_frameTransmit s dt beats start33 flips hn, State.transmit_cannotSend h]
  · intro w
    have hsend : exec (.frameTransmit dt n beats start33 flips) s = .next ((w.sendChosen n beats (startUi start33)).keeping s) :=
      exec_frameTransmit_canSend s dt beats start33 flips hn hs
    rw [hsend]
    refine ⟨fun h => ?_, fun j x h hc hh => ⟨fun t hcut => ?_, fun f c hcut hf hcopy => ⟨fun data r hr => ?_, fun r hr => ?_⟩⟩⟩
    · rw [State.sendChosen_none h]
    · rw [State.sendChosen_head hc hh, State.sendHead_cut hcut]
    · rw [State.sendChosen_head hc hh, State.sendHead_read hcut hf hcopy hr]
    · rw [State.sendChosen_head hc hh, State.sendHead_unreadable hcut hf hcopy hr]
  · obtain ⟨htx', hcut'⟩ := State.port_fragmentSent_same (s := s.advance dt) (n := n) (sent := sent) (t := t)
    refine ⟨(s.advance dt).fragmentSent n t sent, ?_, State.outbox_fragmentSent, State.fragCnt_fragmentSent,
      State.preemptCnt_fragmentSent, fun off => State.reg_fragmentSent_ne, htx', hcut', fun p => State.port_fragmentSent_ne,
      State.fragmentSent_frame⟩
    rw [exec_framePreempt s dt hn, State.preempt_cut htx hcut ha he hsent hleft]
  · rw [exec_framePreempt s dt hn]
    obtain hidle | hno := h
    · rw [State.preempt_idle hidle]
    · rw [State.preempt_noCutPoint hno]

end Sys2Proof.Machine

/-! ### The forwarding tables (06_tables.md): table commands, flushes, upkeep, learning, sequence recovery -/

namespace Sys2Proof.Machine

/-! #### Table commands (R141, R142, R148, R150, R168) -/

theorem exec_cmdTblInsert (s : State) (dt tag pick : Nat) (ht : tag < 512) :
    exec (.cmdTblInsert dt tag pick) s = .next (((s.advance dt).dueFirst.cmdInsert tag pick).keeping s) :=
  after_pos s dt _ (fun t => t.dueFirst.cmdInsert tag pick) (decide_eq_true ht)

theorem exec_cmdTblDelete (s : State) (dt tag : Nat) (ht : tag < 512) :
    exec (.cmdTblDelete dt tag) s = .next (((s.advance dt).dueFirst.cmdDelete tag).keeping s) :=
  after_pos s dt _ (fun t => t.dueFirst.cmdDelete tag) (decide_eq_true ht)

theorem exec_cmdTblLookup (s : State) (dt tag : Nat) (ht : tag < 512) :
    exec (.cmdTblLookup dt tag) s = .next (((s.advance dt).cmdLookup tag).keeping s) :=
  after_pos s dt _ (fun t => t.cmdLookup tag) (decide_eq_true ht)

theorem exec_cmdTblRead (s : State) (dt tag : Nat) (ht : tag < 512) :
    exec (.cmdTblRead dt tag) s = .next (((s.advance dt).cmdRead tag).keeping s) :=
  after_pos s dt _ (fun t => t.cmdRead tag) (decide_eq_true ht)

section TableCommands

variable {s : State} {tag : Nat} {e : JEntry}

/-- An insert outside a transaction that no check refuses, that needs no handle of a pair's owner and that finds a place. An open
transaction that stages the same entry is in conflict first (R78). -/
theorem State.cmdInsert_placed {pick code key : Nat} {d : List Byte} {p : Payload} {v : State} {r : Inserted}
    (hs : s.startable tag 0x10 = some e) (ht : e.txn = 0) (hcode : code = e.op 16 1) (hd : d = e.data (insertLen code))
    (hkey : key = replacedHandle code d)
    (hv : v = s.noteHostTable code (if keyless code && key != noHandle then some (key % 2 ^ 24) else none) (some p))
    (hr : r = v.insertEntry code pick visBoth key p) (hw : insertLen code ≠ 0) (hlen : lengthOk e (insertLen code) = true)
    (hp : parseInsert s.now16 code d = .ok p) (hf : v.insertFault 0 pick key p = none)
    (ho : (v.asksOwner && (key == noHandle || (v.byHandle code key).isSome)) = false) (hst : r.status = 0) :
    s.cmdInsert tag pick =
      (((r.s.mark tag).changeEntry 1 code r.handle d).settle).finish tag 0 r.handle (if r.replaced then 1 else 0) := by
  subst hcode hd hkey hv hr
  simp [-Nat.reducePow, -bne_iff_ne, -Bool.and_eq_true, State.cmdInsert, hs, ht, hw, hlen, hp, hf, ho, hst, stOk]

/-- A delete by handle outside a transaction of an entry that nothing refers to. -/
theorem State.cmdDelete_byHandle {t : Nat} {q : Placed} {v : State} (hs : s.startable tag 0x11 = some e) (ht : e.txn = 0)
    (hh : e.op 20 4 ≠ noHandle) (htab : tableOf (e.op 16 1) = some t) (hlen : lengthOk e 0 = true)
    (hv : v = s.noteHostTable (e.op 16 1) (some (e.op 20 4 % 2 ^ 24)) none)
    (hq : v.deleteTarget (e.op 16 1) (e.op 20 4) none = some q) (href : v.refCount t q.entry.index = 0) :
    s.cmdDelete tag =
      (((v.mark tag).deleteEntry (e.op 16 1) q).tellDelete (e.op 16 1) (q.entry.handle t)).settle.finish tag 0 0 0 := by
  subst hv
  simp [-Nat.reducePow, State.cmdDelete, hs, ht, hh, htab, hlen, hq, href, stOk]

/-- A lookup in a table without tries answers with the entry that its key finds. -/
theorem State.cmdLookup_key {t : Nat} {r : Option Placed} (hs : s.startable tag 0x12 = some e) (htab : tableOf (e.op 16 1) = some t)
    (hw : lookupLen (e.op 16 1) ≠ 0) (h4 : e.op 16 1 ≠ 0x30) (h6 : e.op 16 1 ≠ 0x31)
    (hlen : lengthOk e (lookupLen (e.op 16 1)) = true)
    (hk : s.lookupKey (e.op 16 1) t (e.data (lookupLen (e.op 16 1))) = .ok r) :
    s.cmdLookup tag = r.elim (s.finish tag 0x21 0 0) (s.answerEntry tag t e) := by
  simp only [State.cmdLookup, hs, htab, hw, hlen, h4, h6, hk, or_self, if_false, Bool.true_eq_false]
  cases r <;> rfl

/-- A lookup of an address walks the trie of its version. -/
theorem State.cmdLookup_address (v6 : Bool) (hs : s.startable tag 0x12 = some e) (hcode : e.op 16 1 = if v6 then 0x31 else 0x30)
    (hlen : lengthOk e (lookupLen (e.op 16 1)) = true) :
    s.cmdLookup tag = s.answerRoute tag v6 e (beAt (e.data (lookupLen (e.op 16 1))) 0 (lookupLen (e.op 16 1))) := by
  obtain ⟨t, htab⟩ : ∃ t, tableOf (e.op 16 1) = some t := by rw [hcode]; cases v6 <;> exact ⟨_, rfl⟩
  have hw : lookupLen (e.op 16 1) ≠ 0 := by rw [hcode]; cases v6 <;> decide
  have haddr : e.op 16 1 = 0x30 ∨ e.op 16 1 = 0x31 := by rw [hcode]; cases v6 <;> decide
  have hv : (e.op 16 1 == 0x31) = v6 := by rw [hcode]; cases v6 <;> rfl
  simp only [State.cmdLookup, hs, htab, hw, hlen, haddr, hv, if_true, if_false, Bool.true_eq_false]

section Read

variable {t : Nat} (hs : s.startable tag 0x13 = some e) (htab : tableOf (e.op 16 1) = some t) (hlen : e.op 18 2 = 0)
include hs htab hlen

theorem State.cmdRead_notFound (hq : s.byHandle (e.op 16 1) (e.op 20 4) = none) : s.cmdRead tag = s.finish tag 0x21 0 0 := by
  simp [State.cmdRead, hs, htab, hlen, hq, stNotFound]

variable {q : Placed} (hq : s.byHandle (e.op 16 1) (e.op 20 4) = some q)
include hq

/-- The index map stands between a handle and its entry, and carries parity too (R168). -/
theorem State.cmdRead_badMap (hm : s.mapBad t q.entry.index = true) :
    s.cmdRead tag = (s.foundMap t q.entry.index 1).finish tag 0x40 0 0 := by
  simp [State.cmdRead, hs, htab, hlen, hq, hm, stParity]

theorem State.cmdRead_found (hm : s.mapBad t q.entry.index = false) : s.cmdRead tag = s.answerEntry tag t e q := by
  simp [State.cmdRead, hs, htab, hlen, hq, hm]

end Read

end TableCommands

/-- Settles O10: each of the four commands in the branch that its checks choose. -/
theorem tableCommandsComplete : Obligations.TableCommandsComplete := by
  rintro s _ _ dt tag pick e rfl rfl htag
  refine ⟨?insert, ?delete, ?lookup, ?address, ?badMap, ?read⟩
  case insert =>
    intro p code d key v r hs ht hw hlen hp hf ho hr
    rw [exec_cmdTblInsert s dt tag pick htag,
      State.cmdInsert_placed (code := code) (key := key) (d := d) (v := v) (r := r) hs ht rfl rfl rfl rfl rfl hw hlen hp hf ho hr]
  case delete =>
    intro q t v hs ht hh htab hlen hq href
    rw [exec_cmdTblDelete s dt tag htag, State.cmdDelete_byHandle hs ht hh htab hlen (v := v) rfl hq href]
  case lookup =>
    intro q t hs htab hw h4 h6 hlen hk
    rw [exec_cmdTblLookup s dt tag htag, State.cmdLookup_key hs htab hw h4 h6 hlen hk]
    cases q <;> rfl
  case address =>
    intro v6 hs hcode want hlen
    rw [exec_cmdTblLookup s dt tag htag]
    exact congrArg (fun t : State => Host.Outcome.next (t.keeping s)) (State.cmdLookup_address v6 hs hcode hlen)
  case badMap =>
    intro t q hs htab hlen hq hm
    rw [exec_cmdTblRead s dt tag htag, State.cmdRead_badMap hs htab hlen hq hm]
  case read =>
    intro t hs htab hlen hm
    rw [exec_cmdTblRead s dt tag htag]
    cases hq : (s.advance dt).byHandle (e.op 16 1) (e.op 20 4) with
    | none => rw [State.cmdRead_notFound hs htab hlen hq]
    | some q => rw [State.cmdRead_found hs htab hlen hq (hm q hq)]

/-! #### The flush (R154, R386) -/

theorem exec_tblFlush (s : State) (dt : Nat) (value : Word) (be : Nat) :
    exec (.tblFlush dt value be) s = .next (((s.advance dt).mmioWrite Reg.TBL_FLUSH_CTRL (Fld.TBL_FLUSH_CTRL_START.into value 1)
      (Fld.TBL_FLUSH_CTRL_START.select be)).keeping s) :=
  after_pos s dt _ (fun t => t.writeField Fld.TBL_FLUSH_CTRL_START 1 value be) rfl

theorem exec_tblFlushDone (s : State) (dt : Nat) : exec (.tblFlushDone dt) s = .next (((s.advance dt).flushDone).keeping s) :=
  after_pos s dt _ (fun t => t.flushDone) rfl

/-- A write that sets START begins a flush once its word stands in the register. -/
theorem State.mmioWrite_flushStart (s : State) (v m : Word) (ht : s.takesWrite Reg.TBL_FLUSH_CTRL v m = true)
    (hp : Fld.TBL_FLUSH_CTRL_START.of (s.pulsed Reg.TBL_FLUSH_CTRL v m) ≠ 0) :
    s.mmioWrite Reg.TBL_FLUSH_CTRL v m = ((s.written Reg.TBL_FLUSH_CTRL v m).flushStart).rewrite := by
  rw [mmioWrite_TBL_FLUSH_CTRL s v m ht, farEffect_TBL_FLUSH_CTRL, regEffect_TBL_FLUSH_CTRL, if_pos (bne_iff_ne.mpr hp)]

@[simp] theorem State.table_keeping (t s : State) (k : Nat) : (t.keeping s).table k = t.table k := rfl
@[simp] theorem State.entries_keeping (t s : State) (k : Nat) : (t.keeping s).entries k = t.entries k := rfl

theorem State.entries_removeEntries (s : State) (t : Nat) (p : Entry → Bool) (k : Nat) :
    (s.removeEntries t p).entries k = if k = t then (s.entries t).filter (fun q => !p q.entry) else s.entries k := by
  unfold State.entries State.removeEntries
  rw [State.table_setTable]
  split <;> rfl

theorem State.table_removeEntries_ne (s : State) (t : Nat) (p : Entry → Bool) {k : Nat} (h : k ≠ t) :
    (s.removeEntries t p).table k = s.table k := by
  rw [State.removeEntries, State.table_setTable, if_neg h]

/-- The entries of some tables that a test of their table matches are removed. -/
def State.removeEach (s : State) (p : Nat → Entry → Bool) (ts : List Nat) : State :=
  ts.foldl (fun u t => u.removeEntries t (p t)) s

theorem State.removeEach_cons (s : State) (p : Nat → Entry → Bool) (t : Nat) (ts : List Nat) :
    s.removeEach p (t :: ts) = (s.removeEntries t (p t)).removeEach p ts := rfl

theorem State.entries_removeEach (s : State) (p : Nat → Entry → Bool) (ts : List Nat) (k : Nat) :
    (s.removeEach p ts).entries k = if k ∈ ts then (s.entries k).filter (fun q => !p k q.entry) else s.entries k := by
  induction ts generalizing s with
  | nil => simp [State.removeEach]
  | cons t ts ih =>
    rw [State.removeEach_cons, ih, State.entries_removeEntries]
    by_cases hk : k = t
    · subst hk
      simp [List.filter_filter]
    · simp [hk]

theorem State.table_removeEach_ne (s : State) (p : Nat → Entry → Bool) (ts : List Nat) {k : Nat} (h : k ∉ ts) :
    (s.removeEach p ts).table k = s.table k := by
  induction ts generalizing s with
  | nil => rfl
  | cons t ts ih =>
    rw [State.removeEach_cons, ih _ (List.not_mem_of_not_mem_cons h), State.table_removeEntries_ne s t (p t) (List.ne_of_not_mem_cons h)]

/-- Removing entries changes tables alone. -/
theorem State.removeEach_frame (s : State) (p : Nat → Entry → Bool) (ts : List Nat) :
    (s.removeEach p ts).regs = s.regs ∧ (s.removeEach p ts).buf = s.buf ∧ (s.removeEach p ts).evt = s.evt := by
  induction ts generalizing s with
  | nil => exact ⟨rfl, rfl, rfl⟩
  | cons t ts ih => exact ih (s.removeEntries t (p t))

/-- The four MAC tables without the entries that a flush removes, and no flush running. -/
def State.flushed (s : State) (f : Option Nat × Option Nat) : State :=
  let w := s.removeEach (s.flushes f) [0, 1, 2, 3]
  { w with tbl := { w.tbl with flush := none, flushKept := [] } }

/-- How many entries a flush removes. -/
def State.flushCount (s : State) (f : Option Nat × Option Nat) : Nat :=
  ([0, 1, 2, 3].map (fun t => ((s.entries t).filter (fun q => s.flushes f t q.entry)).length)).sum

/-- The end of a flush: the entries gone, their number shown, and BUSY clear. -/
def State.flushEnded (s : State) (f : Option Nat × Option Nat) : State :=
  ((s.flushed f).setReg Reg.TBL_FLUSH_CNT (BitVec.ofNat 32 (s.flushCount f))).setFlag Fld.TBL_FLUSH_STATUS_BUSY false

theorem State.flushDone_idle (s : State) (h : s.tbl.flush = none) : s.flushDone = s := by
  rw [State.flushDone, h]

theorem State.table_congr {s t : State} (h : s.tbl.tables = t.tbl.tables) (k : Nat) : s.table k = t.table k := by
  unfold State.table; rw [h]

section FlushEnded

variable (s : State) (f : Option Nat × Option Nat)

theorem State.flushDone_running (h : s.tbl.flush = some f) : s.flushDone = s.flushEnded f := by
  simp only [State.flushDone, h, State.flushEnded, State.flushed, State.removeEach, State.flushCount]

theorem State.table_flushEnded (k : Nat) : (s.flushEnded f).table k = (s.removeEach (s.flushes f) [0, 1, 2, 3]).table k := by
  refine State.table_congr ?_ k
  rw [State.flushEnded, State.setFlag_tbl, State.setReg_tbl, State.flushed]

theorem State.entries_flushEnded {k : Nat} (hk : k < 4) :
    (s.flushEnded f).entries k = (s.entries k).filter (fun q => !s.flushes f k q.entry) := by
  have hmem : k ∈ [0, 1, 2, 3] := (List.mem_range.mpr hk : k ∈ List.range 4)
  rw [State.entries, State.table_flushEnded, ← State.entries, State.entries_removeEach, if_pos hmem]

theorem State.table_flushEnded_ne {k : Nat} (hk : 4 ≤ k) : (s.flushEnded f).table k = s.table k := by
  have hmem : k ∉ [0, 1, 2, 3] := fun h : k ∈ List.range 4 => Nat.not_lt.mpr hk (List.mem_range.mp h)
  rw [State.table_flushEnded, State.table_removeEach_ne _ _ _ hmem]

theorem State.cnt_flushEnded : (s.flushEnded f).reg Reg.TBL_FLUSH_CNT = BitVec.ofNat 32 (s.flushCount f) := by
  rw [State.flushEnded, State.reg_setFlag_ne _ _ _ _ (by decide), State.reg_setReg_same]

theorem State.busy_flushEnded : (s.flushEnded f).flag Fld.TBL_FLUSH_STATUS_BUSY = false :=
  State.flag_setFlag_same _ _ _ (by decide) (by decide)

theorem State.reg_flushEnded_ne {off : Nat} (hc : off ≠ Reg.TBL_FLUSH_CNT) (hs : off ≠ Reg.TBL_FLUSH_STATUS) :
    (s.flushEnded f).reg off = s.reg off := by
  obtain ⟨hregs, -, -⟩ := s.removeEach_frame (s.flushes f) [0, 1, 2, 3]
  have hflushed : (s.flushed f).reg off = s.reg off := State.reg_congr (by rw [State.flushed]; exact hregs) off
  rw [State.flushEnded, State.reg_setFlag_ne _ _ _ _ hs, State.reg_setReg_ne _ _ _ _ hc, hflushed]

theorem State.flushEnded_frame : (s.flushEnded f).tbl.flush = none ∧ (s.flushEnded f).buf = s.buf ∧ (s.flushEnded f).evt = s.evt := by
  obtain ⟨-, hbuf, hevt⟩ := s.removeEach_frame (s.flushes f) [0, 1, 2, 3]
  simp [State.flushEnded, State.flushed, hbuf, hevt]

end FlushEnded

/-- Settles O31: the write that begins a flush, and `State.flushEnded` at its end. -/
theorem tableFlushRunsToItsCount : Obligations.TableFlushRunsToItsCount := by
  rintro s _ dt rfl
  refine ⟨fun value be => ?start, fun f hf => ?done, fun h => ?idle⟩
  case start =>
    intro off v m ht hp
    rw [exec_tblFlush, State.mmioWrite_flushStart _ v m ht hp]
  case done =>
    obtain ⟨hflush, hbuf, hevt⟩ := (s.advance dt).flushEnded_frame f
    refine ⟨((s.advance dt).flushEnded f).keeping s, ?_, ?_, fun k hk => ?_, fun k hk => ?_, ?_, ?_, fun off hc hs => ?_, ?_, ?_⟩
    · rw [exec_tblFlushDone, State.flushDone_running _ f hf]
    · rw [State.keeping_tbl, hflush]
    · rw [State.entries_keeping, State.entries_flushEnded _ f hk]; rfl
    · rw [State.table_keeping, State.table_flushEnded_ne _ f hk]
    · rw [State.reg_keeping, State.cnt_flushEnded]; rfl
    · rw [State.flag_keeping, State.busy_flushEnded]
    · rw [State.reg_keeping, State.reg_flushEnded_ne _ f hc hs]
    · rw [State.keeping_buf, hbuf]
    · rw [State.keeping_evt, hevt]
  case idle => rw [exec_tblFlushDone, State.flushDone_idle _ h]

/-! #### Units of work in the background, stash moves and repairs (R151, R155, R168, R336) -/

theorem exec_ageSweepUnit (s : State) (dt p : Nat) (hp : p < 4) :
    exec (.ageSweepUnit dt p) s = .next (((s.advance dt).ageUnit p).keeping s) :=
  after_pos s dt _ (fun t => t.ageUnit p) (decide_eq_true hp)

theorem exec_tblScrubUnit (s : State) (dt t : Nat) (bad : List (TblPlace × Bool)) (ht : t < 12) :
    exec (.tblScrubUnit dt t bad) s = .next ((((s.advance dt).upsetTables bad).tblUnit t).keeping s) :=
  after_pos s dt _ (fun u => (u.upsetTables bad).tblUnit t) (decide_eq_true ht)

theorem exec_stashMove (s : State) (dt t : Nat) (ht : t < 5) :
    exec (.stashMove dt t) s = .next (((s.advance dt).stashMove t).keeping s) :=
  after_pos s dt _ (fun u => u.stashMove t) (decide_eq_true ht)

theorem exec_tblParityRepair (s : State) (dt : Nat) (place : TblPlace) :
    exec (.tblParityRepair dt place) s = .next (((s.advance dt).repair place).keeping s) :=
  after_pos s dt _ (fun t => t.repair place) rfl

section Upkeep

variable {s : State} {t : Nat}

theorem State.takeUnit_notStarted {u : Nat} (h : s.pwr.started.find? (fun x => x.task == t && x.unit == u) = none) :
    s.takeUnit t u = none := by
  rw [State.takeUnit, h]

theorem State.takeUnit_started {u : Nat} {x : BgUnit} (h : s.pwr.started.find? (fun x => x.task == t && x.unit == u) = some x) :
    s.takeUnit t u = some { s with pwr := { s.pwr with started := s.pwr.started.erase x } } := by
  rw [State.takeUnit, h]

theorem State.stashMove_none (ht : t < 5) (h : stashCandidate (s.entries t) (s.bucketLog t) = none) : s.stashMove t = s := by
  rw [State.stashMove, if_neg (by omega), h]

theorem State.stashMove_candidate {q : Placed} {n : Nat} (ht : t < 5) (h : stashCandidate (s.entries t) (s.bucketLog t) = some (q, n)) :
    s.stashMove t =
      (s.setTable t { s.table t with entries := (s.entries t).map (fun x => if x = q then { x with place := .slot n } else x) }).bump
        (Reg.TBL_STAT_MOVES t) := by
  rw [State.stashMove, if_neg (by omega), h]

/-- May an entry of an index be restored from its protected copy? -/
def repairable (index : Nat) (e : Entry) : Bool := e.index == index && e.bad && !e.copyBad && e.host

theorem State.repair_entry_bad {index : Nat} (h : (s.entries t).any (fun q => repairable index q.entry) = true) :
    s.repair (.entry t index) =
      (s.mapEntries t (repairable index) (fun e => { e with bad := false, payload := e.payload.refilled })).bump (Reg.TBL_STAT_REPAIR t) :=
  if_pos h

theorem State.repair_entry_good {index : Nat} (h : (s.entries t).any (fun q => repairable index q.entry) = false) :
    s.repair (.entry t index) = s :=
  if_neg (Bool.not_eq_true _ ▸ h)

theorem State.repair_map_bad {index : Nat} (h : (s.table t).badMap.contains index = true) :
    s.repair (.map t index) =
      (s.setTable t { s.table t with badMap := (s.table t).badMap.erase index }).bump (Reg.TBL_STAT_REPAIR t) :=
  if_pos h

theorem State.repair_map_good {index : Nat} (h : (s.table t).badMap.contains index = false) : s.repair (.map t index) = s :=
  if_neg (Bool.not_eq_true _ ▸ h)

theorem State.repair_trie_bad {v6 : Bool} {st key : Nat} (h : s.tbl.badTrie.contains (v6, st, key) = true) :
    s.repair (.trie v6 st key) =
      ({ s with tbl := { s.tbl with badTrie := s.tbl.badTrie.erase (v6, st, key) } } : State).bump (Reg.TBL_STAT_REPAIR (lpmTable v6)) :=
  if_pos h

theorem State.repair_trie_good {v6 : Bool} {st key : Nat} (h : s.tbl.badTrie.contains (v6, st, key) = false) :
    s.repair (.trie v6 st key) = s :=
  if_neg (Bool.not_eq_true _ ▸ h)

end Upkeep

/-- Settles O32: each row with its work to do and without. -/
theorem tableUpkeepUnitsWork : Obligations.TableUpkeepUnitsWork := by
  rintro s _ dt rfl
  refine ⟨fun p hp => ⟨fun h => ?_, fun x h => ?_⟩, fun t bad ht => ⟨fun h => ?_, fun x h => ?_⟩,
    fun t ht => ⟨fun h => ?_, fun q n h => ?_⟩, fun t index => ⟨fun h => ?_, fun h => ?_⟩, fun t index => ⟨fun h => ?_, fun h => ?_⟩,
    fun v6 st key => ⟨fun h => ?_, fun h => ?_⟩⟩
  · rw [exec_ageSweepUnit s dt p hp, State.ageUnit, State.takeUnit_notStarted h]
  · rw [exec_ageSweepUnit s dt p hp, State.ageUnit, State.takeUnit_started h]
  · rw [exec_tblScrubUnit s dt t bad ht, State.tblUnit, State.takeUnit_notStarted h]
  · rw [exec_tblScrubUnit s dt t bad ht, State.tblUnit, State.takeUnit_started h]
  · rw [exec_stashMove s dt t ht, State.stashMove_none ht h]
  · rw [exec_stashMove s dt t ht, State.stashMove_candidate ht h]
  · rw [exec_tblParityRepair, State.repair_entry_good h]
  · rw [exec_tblParityRepair, State.repair_entry_bad h]; rfl
  · rw [exec_tblParityRepair, State.repair_map_bad h]
  · rw [exec_tblParityRepair, State.repair_map_good h]
  · rw [exec_tblParityRepair, State.repair_trie_bad h]
  · rw [exec_tblParityRepair, State.repair_trie_good h]

/-! #### Learning (R152, R153) -/

theorem exec_learnInsert (s : State) (dt p pick : Nat) (behind : Bool) (hp : p < 4) :
    exec (.learnInsert dt p pick behind) s = .next (((s.advance dt).learnNext p pick behind).keeping s) :=
  after_pos s dt _ (fun t => t.learnNext p pick behind) (decide_eq_true hp)

/-- The entry of a sender's address and FID that the present epoch sees in a pipeline. -/
def State.senderEntry (s : State) (p mac fid : Nat) : Option Placed :=
  (s.entries p).find? (fun q => isMac mac fid q.entry.payload && q.entry.vis.testBit s.parity)

/-- A sender has left its queue, and a bad entry of its key has been met (R168). -/
def State.senderTaken (s : State) (p mac fid : Nat) (rest : List (Nat × Nat × Nat)) : State :=
  let v := s.setTable p { s.table p with learnQ := rest }
  match v.senderEntry p mac fid with
  | some q => if q.entry.bad then v.foundBad p q 0 else v
  | none => v

/-- The learned entry that a new sender gets under an index. -/
def State.learnedEntry (s : State) (p i mac fid n : Nat) : Entry :=
  ⟨i, s.genOf p i, .mac mac fid n 0 false true false, visBoth, false, false, false, (s.table p).nextOrder⟩

/-- An entry learned behind the walk of a flush in progress is kept from it (R154). -/
def State.keptFromFlush (s : State) (p i : Nat) (behind : Bool) : State :=
  if behind && s.tbl.flush.isSome then { s with tbl := { s.tbl with flushKept := s.tbl.flushKept ++ [(p, i)] } } else s

/-- What becomes of a sender taken from its queue: its entry moves, stays, is added, or finds no room. -/
def State.learnSender (s : State) (p pick : Nat) (behind : Bool) (mac fid n : Nat) : State :=
  match s.senderEntry p mac fid with
  | some q =>
    if q.entry.payload.isLearned then
      (s.mapEntries p (fun e => e == q.entry) (fun e => { e with payload := .mac mac fid n 0 false true false })).learnDone p
    else s
  | none =>
    match s.newIndex p pick with
    | none => s.learnFailed p mac fid n
    | some i =>
      match s.addEntry p (s.learnedEntry p i mac fid n) with
      | none => s.learnFailed p mac fid n
      | some x => (x.keptFromFlush p i behind).learnDone p

section Learning

variable {s : State} {p pick : Nat} {behind : Bool} {mac fid n : Nat}

theorem State.learnNext_idle (h : (s.table p).learnQ = []) : s.learnNext p pick behind = s := by
  simp only [State.learnNext, h]

theorem State.learnNext_queued {rest : List (Nat × Nat × Nat)} (h : (s.table p).learnQ = (mac, fid, n) :: rest) :
    s.learnNext p pick behind = (s.senderTaken p mac fid rest).learnSender p pick behind mac fid n := by
  simp only [State.learnNext, h]
  rfl

theorem State.learnSender_learned {q : Placed} (ho : s.senderEntry p mac fid = some q) (hl : q.entry.payload.isLearned = true) :
    s.learnSender p pick behind mac fid n =
      (s.mapEntries p (fun e => e == q.entry) (fun e => { e with payload := .mac mac fid n 0 false true false })).learnDone p := by
  rw [State.learnSender, ho]
  exact if_pos hl

theorem State.learnSender_static {q : Placed} (ho : s.senderEntry p mac fid = some q) (hl : q.entry.payload.isLearned = false) :
    s.learnSender p pick behind mac fid n = s := by
  rw [State.learnSender, ho]
  exact if_neg (Bool.not_eq_true _ ▸ hl)

theorem State.learnSender_added {i : Nat} {x : State} (ho : s.senderEntry p mac fid = none) (hi : s.newIndex p pick = some i)
    (hx : s.addEntry p (s.learnedEntry p i mac fid n) = some x) :
    s.learnSender p pick behind mac fid n = (x.keptFromFlush p i behind).learnDone p := by
  simp only [State.learnSender, ho, hi, hx]

/-- A new sender without an index, or whose entry finds no place. -/
theorem State.learnSender_noRoom (ho : s.senderEntry p mac fid = none)
    (hno : s.newIndex p pick = none ∨ ∃ i, s.newIndex p pick = some i ∧ s.addEntry p (s.learnedEntry p i mac fid n) = none) :
    s.learnSender p pick behind mac fid n = s.learnFailed p mac fid n := by
  obtain hi | ⟨i, hi, hx⟩ := hno
  · simp only [State.learnSender, ho, hi]
  · simp only [State.learnSender, ho, hi, hx]

/-- A failed learn as it is counted, before its spell. -/
def State.learnDropped (s : State) (p : Nat) : State := (s.bump (Reg.TBL_LEARN_FULL_DROP p)).bump (Reg.TBL_STAT_INS_FAIL p)

theorem State.learnFailed_inSpell {c : Nat} {m : Nat × Nat × Nat} (h : ((s.learnDropped p).table p).full = some (c, m)) :
    s.learnFailed p mac fid n =
      (s.learnDropped p).setTable p { (s.learnDropped p).table p with full := some (c + 1, m) } := by
  unfold State.learnDropped at h ⊢
  simp only [State.learnFailed, h]

theorem State.learnFailed_first (h : ((s.learnDropped p).table p).full = none) :
    s.learnFailed p mac fid n =
      ((s.learnDropped p).setTable p { (s.learnDropped p).table p with full := some (1, mac, fid, n) }).raise 48 p
        ([(24, 4, 1)] ++ macDetail 28 mac ++ [(34, 2, fid), (36, 2, n)]) := by
  unfold State.learnDropped at h ⊢
  simp only [State.learnFailed, h]

theorem State.table_bump (s : State) (off k : Nat) : (s.bump off).table k = s.table k := rfl

theorem State.learnDone_noSpell (h : (s.table p).full = none) : s.learnDone p = s.bump (Reg.TBL_LEARN_CNT p) := by
  simp only [State.learnDone, State.table_bump, h]

theorem State.learnDone_endsSpell {c m f q : Nat} (h : (s.table p).full = some (c, m, f, q)) :
    s.learnDone p = let y := s.bump (Reg.TBL_LEARN_CNT p)
      (y.setTable p { y.table p with full := none }).raiseEnd 48 p ([(24, 4, c)] ++ macDetail 28 m ++ [(34, 2, f), (36, 2, q)]) := by
  simp only [State.learnDone, State.table_bump, h]

end Learning

/-! #### The buffer scrubber (R119) -/

theorem exec_bufScrubUnit (s : State) (dt b : Nat) (hard : List Nat) (flips : List (Nat × BitVec 288)) (hb : b < 64) :
    exec (.bufScrubUnit dt b hard flips) s = .next ((((s.advance dt).upset flips).bufUnit b hard).keeping s) :=
  after_pos s dt _ (fun t => (t.upset flips).bufUnit b hard) (decide_eq_true hb)

/-- A bank whose free cells have been scrubbed. -/
def State.bankScrubbed (s : State) (b : Nat) (hard : List Nat) : State :=
  (s.scrubTargets b).foldl (fun y c => y.scrubCell (2 * (s.reg Reg.BUF_SCRUB_PASS_CNT).toNat + 1) c (hard.contains c)) s

/-- The banks read in the present pass, with this one. -/
def State.banksRead (s : State) (b : Nat) : List Nat :=
  if s.buf.scrubbed.contains b then s.buf.scrubbed else s.buf.scrubbed ++ [b]

section ScrubBank

variable {s : State} {b : Nat} {hard : List Nat} (hb : b < 64) (he : s.flag Fld.BUF_SCRUB_CFG_ENABLE = true) (hd : s.domainOn 7 = true)
include hb he hd

theorem State.scrubBank_enabled :
    s.scrubBank b hard = let t := s.bankScrubbed b hard
      if (t.banksRead b).length = 64 then ({ t with buf := { t.buf with scrubbed := [] } } : State).bump Reg.BUF_SCRUB_PASS_CNT
      else { t with buf := { t.buf with scrubbed := t.banksRead b } } :=
  if_pos (by rw [he, hd, decide_eq_true hb]; rfl)

theorem State.scrubBank_passEnds (h : ((s.bankScrubbed b hard).banksRead b).length = 64) :
    s.scrubBank b hard =
      ({ s.bankScrubbed b hard with buf := { (s.bankScrubbed b hard).buf with scrubbed := [] } } : State).bump Reg.BUF_SCRUB_PASS_CNT :=
  (State.scrubBank_enabled hb he hd).trans (if_pos h)

theorem State.scrubBank_passGoesOn (h : ((s.bankScrubbed b hard).banksRead b).length ≠ 64) :
    s.scrubBank b hard =
      { s.bankScrubbed b hard with buf := { (s.bankScrubbed b hard).buf with scrubbed := (s.bankScrubbed b hard).banksRead b } } :=
  (State.scrubBank_enabled hb he hd).trans (if_neg h)

end ScrubBank

/-! #### The rate of malformed frames (R376) -/

theorem exec_malformedRateSecond (s : State) (dt n : Nat) (hn : n < 64) :
    exec (.malformedRateSecond dt n) s = .next (((s.advance dt).malformedSecond n).keeping s) :=
  after_pos s dt _ (fun t => t.malformedSecond n) (decide_eq_true hn)

/-- What a counter, which wraps at 32 bits, has counted since a mark. -/
def State.countedSince (s : State) (off mark : Nat) : Nat := ((s.reg off).toNat + 2 ^ 32 - mark) % 2 ^ 32

def State.secondParse (s : State) (n : Nat) : Nat := s.countedSince (Reg.PRT_RX_PARSE_ERR n) (s.port n).secParse
def State.secondLen (s : State) (n : Nat) : Nat := s.countedSince (Reg.PRT_RX_LEN_ERR n) (s.port n).secLen
def State.secondFcs (s : State) (n : Nat) : Nat := s.countedSince (Reg.PRT_RX_FCS_ERR n) (s.port n).secFcs
def State.secondFrames (s : State) (n : Nat) : Nat := s.countedSince (Reg.PRT_RX_FRAMES n) (s.port n).secFrames

/-- The malformed frames of a port's second. -/
def State.secondBad (s : State) (n : Nat) : Nat := s.secondParse n + s.secondLen n + s.secondFcs n

/-- The detail of event 77. -/
def State.secondDetail (s : State) (n : Nat) : List (Nat × Nat × Nat) :=
  [(24, 4, s.secondParse n), (28, 4, s.secondLen n), (32, 4, s.secondFcs n), (36, 4, s.secondFrames n)]

/-- A port that begins a second: its counters are the marks, and the episode is as the second that ended has judged. -/
def State.secondBegun (s : State) (n : Nat) (malformed : Bool) : State :=
  s.setPort n { s.port n with
    secMark := s.now16 / unitsPerS
    malformed := malformed
    secFrames := (s.reg (Reg.PRT_RX_FRAMES n)).toNat
    secParse := (s.reg (Reg.PRT_RX_PARSE_ERR n)).toNat
    secLen := (s.reg (Reg.PRT_RX_LEN_ERR n)).toNat
    secFcs := (s.reg (Reg.PRT_RX_FCS_ERR n)).toNat }

section MalformedSecond

variable {s : State} {n : Nat}

theorem State.malformedSecond_notDue (h : s.speed n = 0 ∨ s.now16 / unitsPerS = (s.port n).secMark) : s.malformedSecond n = s :=
  if_neg fun ⟨_, hsp, hsec⟩ => h.elim hsp hsec

variable (hn : n < 64) (hsp : s.speed n ≠ 0) (hsec : s.now16 / unitsPerS ≠ (s.port n).secMark)
include hn hsp hsec

theorem State.malformedSecond_due :
    s.malformedSecond n =
      let bad := decide (100 ≤ s.secondBad n) && decide (s.secondFrames n < s.secondBad n * 100)
      if bad && !(s.port n).malformed then (s.secondBegun n bad).raise 77 n (s.secondDetail n)
      else if (s.port n).malformed && !bad then (s.secondBegun n bad).raiseEnd 77 n (s.secondDetail n)
      else s.secondBegun n bad :=
  if_pos ⟨hn, hsp, hsec⟩

/-- A second of 100 malformed frames or more, above 1% of its frames: the first of an episode raises event 77. -/
theorem State.malformedSecond_over (h100 : 100 ≤ s.secondBad n) (h1 : s.secondFrames n < s.secondBad n * 100) :
    s.malformedSecond n =
      if (s.port n).malformed = true then s.secondBegun n true else (s.secondBegun n true).raise 77 n (s.secondDetail n) := by
  rw [State.malformedSecond_due hn hsp hsec, decide_eq_true h100, decide_eq_true h1]
  cases (s.port n).malformed <;> rfl

/-- A second that is not so: the first one ends an episode. -/
theorem State.malformedSecond_under (h : s.secondBad n < 100 ∨ s.secondBad n * 100 ≤ s.secondFrames n) :
    s.malformedSecond n =
      if (s.port n).malformed = true then (s.secondBegun n false).raiseEnd 77 n (s.secondDetail n) else s.secondBegun n false := by
  have hbad : (decide (100 ≤ s.secondBad n) && decide (s.secondFrames n < s.secondBad n * 100)) = false := by
    rw [← Bool.decide_and, decide_eq_false_iff_not]
    omega
  rw [State.malformedSecond_due hn hsp hsec, hbad]
  cases (s.port n).malformed <;> rfl

end MalformedSecond

/-- Settles O30: the sender in the branch of `State.learnSender` that its entry chooses, the bank by `State.scrubBank`, the second by its
judgement. -/
theorem learningScrubbingAndMalformedRate : Obligations.LearningScrubbingAndMalformedRate := by
  rintro s _ dt rfl
  refine ⟨fun p pick behind hp hq => ?idle, fun p pick behind mac fid n rest hp hq => ?queued, fun x p => ?learnDone,
    fun b hard flips hb => ?scrub, fun n hn => ⟨fun h => ?notDue, fun hsp hsec => ?second⟩⟩
  case idle => rw [exec_learnInsert s dt p pick behind hp, State.learnNext_idle hq]
  case queued =>
    intro own v w new
    have hw : (s.advance dt).senderTaken p mac fid rest = w := rfl
    rw [exec_learnInsert s dt p pick behind hp, State.learnNext_queued hq, hw]
    refine ⟨fun q ho hl => ?_, fun q ho hl => ?_, fun i x ho hi hx => ?_, fun ho hno => ?_⟩
    · rw [State.learnSender_learned ho hl]
    · rw [State.learnSender_static ho hl]
    · rw [State.learnSender_added ho hi hx]; rfl
    · rw [State.learnSender_noRoom ho hno]
      refine ⟨fun c m h => ?_, fun h => ?_⟩
      · rw [State.learnFailed_inSpell h]; rfl
      · rw [State.learnFailed_first h]; rfl
  case learnDone =>
    refine ⟨?_, State.learnDone_noSpell, fun c m f q => State.learnDone_endsSpell⟩
    rw [State.reg_bump, if_pos rfl]
  case scrub =>
    intro v unit
    refine ⟨fun x hx => ?_, fun h => ?_⟩
    · intro w he hd t seen
      have hrun : exec (.bufScrubUnit dt b hard flips) s = .next ((w.scrubBank b hard).keeping s) := by
        rw [exec_bufScrubUnit s dt b hard flips hb, State.bufUnit, State.takeUnit_started hx]
      rw [hrun]
      refine ⟨fun h => ?_, fun h => ?_⟩
      · rw [State.scrubBank_passEnds hb he hd h]; rfl
      · rw [State.scrubBank_passGoesOn hb he hd h]; rfl
    · rw [exec_bufScrubUnit s dt b hard flips hb, State.bufUnit, State.takeUnit_notStarted h]
  case notDue => rw [exec_malformedRateSecond s dt n hn, State.malformedSecond_notDue h]
  case second =>
    intro count parse len fcs frames bad record w
    refine ⟨fun h100 h1 => ?_, fun h => ?_⟩
    · rw [exec_malformedRateSecond s dt n hn, State.malformedSecond_over hn hsp hsec h100 h1]; rfl
    · rw [exec_malformedRateSecond s dt n hn, State.malformedSecond_under hn hsp hsec h]; rfl

/-! #### Sequence recovery (R160, R326) -/

theorem exec_frerRogueIntervalEnd (s : State) (dt i : Nat) (hi : i < 8192) :
    exec (.frerRogueIntervalEnd dt i) s = .next (((s.advance dt).frerRogueEnd i).keeping s) :=
  after_pos s dt _ (fun t => t.frerRogueEnd i) (decide_eq_true hi)

theorem exec_frerDupBurstCheck (s : State) (dt i : Nat) (hi : i < 8192) :
    exec (.frerDupBurstCheck dt i) s = .next (((s.advance dt).frerBurst i).keeping s) :=
  after_pos s dt _ (fun t => t.frerBurst i) (decide_eq_true hi)

theorem exec_frerResetTimer (s : State) (dt i : Nat) (hi : i < 8192) :
    exec (.frerResetTimer dt i) s = .next (((s.advance dt).frerReset i).keeping s) :=
  after_pos s dt _ (fun t => t.frerReset i) (decide_eq_true hi)

theorem State.passed_iff (s : State) (t n unit : Nat) : s.passed t n unit = true ↔ t + n * unit ≤ s.clk := decide_eq_true_iff

/-- The counts of a recovery's millisecond start again, with what they showed of a burst noted. -/
def State.frerCountsRestarted (s : State) (i : Nat) (burst : Bool) : State :=
  s.frerMap i (fun x => { x with msSince := s.clk, msPassed := 0, msElim := 0, burst := burst })

section FrerTimers

variable {s : State} {i a b m r : Nat} {st : FrerState} (h : s.frerOf i = some (a, b, m, r, st))
include h

theorem State.frerRogueEnd_due (hc : st.rogueCount ≠ 0) (ht : st.rogueSince + 625000000 ≤ s.clk) :
    s.frerRogueEnd i = (s.frerMap i (fun x => { x with rogueCount := 0 })).raise 59 i
      ([(24, 4, st.rogueCount), (30, 2, st.rogueRecov)] ++ wireDetail 28 2 st.rogueSeq) := by
  rw [State.frerRogueEnd, h]
  exact if_pos ⟨hc, (s.passed_iff _ 1 _).mpr (by rwa [Nat.one_mul])⟩

theorem State.frerRogueEnd_waits (hw : st.rogueCount = 0 ∨ s.clk < st.rogueSince + 625000000) : s.frerRogueEnd i = s := by
  rw [State.frerRogueEnd, h]
  refine if_neg fun ⟨hc, hp⟩ => ?_
  have ht : st.rogueSince + 1 * 625000000 ≤ s.clk := (s.passed_iff _ 1 _).mp hp
  omega

/-- A millisecond is over: event 60 tells where what it shows of a burst differs from the one before. -/
theorem State.frerBurst_due (ht : st.msSince + 625000 ≤ s.clk) :
    s.frerBurst i =
      let now := decide (st.msPassed + m < st.msElim)
      let v := s.frerCountsRestarted i now
      if now && !st.burst then v.raise 60 i [(24, 4, st.msElim), (28, 4, st.msPassed)]
      else if !now && st.burst then v.raiseEnd 60 i [(24, 4, st.msElim), (28, 4, st.msPassed)]
      else v := by
  rw [State.frerBurst, h]
  exact if_pos ((s.passed_iff _ 1 _).mpr (by rwa [Nat.one_mul]))

theorem State.frerBurst_begins (ht : st.msSince + 625000 ≤ s.clk) (hm : st.msPassed + m < st.msElim) (hb : st.burst = false) :
    s.frerBurst i = (s.frerCountsRestarted i (decide (st.msPassed + m < st.msElim))).raise 60 i [(24, 4, st.msElim), (28, 4, st.msPassed)] :=
  (State.frerBurst_due h ht).trans (if_pos (by rw [decide_eq_true hm, hb]; rfl))

theorem State.frerBurst_ends (ht : st.msSince + 625000 ≤ s.clk) (hm : st.msElim ≤ st.msPassed + m) (hb : st.burst = true) :
    s.frerBurst i =
      (s.frerCountsRestarted i (decide (st.msPassed + m < st.msElim))).raiseEnd 60 i [(24, 4, st.msElim), (28, 4, st.msPassed)] := by
  have hnow : decide (st.msPassed + m < st.msElim) = false := decide_eq_false (Nat.not_lt.mpr hm)
  rw [State.frerBurst_due h ht, hnow, hb]
  rfl

theorem State.frerBurst_stays (ht : st.msSince + 625000 ≤ s.clk) (hb : decide (st.msPassed + m < st.msElim) = st.burst) :
    s.frerBurst i = s.frerCountsRestarted i (decide (st.msPassed + m < st.msElim)) := by
  rw [State.frerBurst_due h ht, hb]
  cases st.burst <;> rfl

theorem State.frerReset_due (ha : st.takeAny = false) (ht : st.lastTick + r * 625000 ≤ s.clk) :
    s.frerReset i = s.frerMap i (fun x => { x with takeAny := true, history := 0, resets := (x.resets + 1) % 2 ^ 32 }) := by
  have hp : s.passed st.lastTick r Config.ticksPerMs = true := (s.passed_iff _ r _).mpr ht
  rw [State.frerReset, h]
  exact if_pos (by rw [ha, hp]; rfl)

theorem State.frerReset_waits (hw : st.takeAny = true ∨ s.clk < st.lastTick + r * 625000) : s.frerReset i = s := by
  rw [State.frerReset, h]
  refine if_neg fun hd => ?_
  obtain ⟨ha, hp⟩ := Bool.and_eq_true_iff.mp hd
  obtain hany | ht := hw
  · rw [hany] at ha
    exact Bool.false_ne_true ha
  · exact Nat.not_le.mpr ht ((s.passed_iff _ r _).mp hp)

end FrerTimers

/-- Settles O33: each of the three timers before and after its time. -/
theorem sequenceRecoveryTimersRun : Obligations.SequenceRecoveryTimersRun := by
  rintro s _ dt i a b m r st rfl hi h
  refine ⟨fun hc ht => ?_, fun hw => ?_, fun ht => ⟨fun hm hb => ?_, fun hm hb => ?_, fun hb => ?_⟩, fun ha ht => ?_, fun hw => ?_⟩
  · rw [exec_frerRogueIntervalEnd s dt i hi, State.frerRogueEnd_due h hc ht]
  · rw [exec_frerRogueIntervalEnd s dt i hi, State.frerRogueEnd_waits h hw]
  · rw [exec_frerDupBurstCheck s dt i hi, State.frerBurst_begins h ht hm hb]; rfl
  · rw [exec_frerDupBurstCheck s dt i hi, State.frerBurst_ends h ht hm hb]; rfl
  · rw [exec_frerDupBurstCheck s dt i hi, State.frerBurst_stays h ht hb]; rfl
  · rw [exec_frerResetTimer s dt i hi, State.frerReset_due h ha ht]
  · rw [exec_frerResetTimer s dt i hi, State.frerReset_waits h hw]

end Sys2Proof.Machine

/-! ### The time base (08_time_base.md): idle ticks, a waiting time step, the snapshot and the timestamp FIFOs, the epoch -/

namespace Sys2Proof.Machine

/-! #### Module time over many ticks (R196, R198, R199) -/

theorem slewSum_zero (amt : Int) (n : Nat) : slewSum amt n 0 = 0 := by simp [slewSum]

/-- The shares of a slew add up to its whole amount. -/
theorem slewSum_whole (amt : Int) {n : Nat} (hn : 0 < n) : slewSum amt n n = amt * 2 ^ 24 := by
  rw [slewSum, Int.mul_assoc]
  exact Int.mul_ediv_cancel_left _ (by omega)

theorem Slew.run_begun (amt : Int) (n : Nat) : (Slew.mk amt n 0).run n = ⟨amt, n, n⟩ := by simp [Slew.run]

theorem TimeBase.run_none {T : TimeBase} (h : T.slew = none) (k : Nat) : T.run k = { T with now := T.now + T.inc * k } := by
  simp [TimeBase.run, h]

theorem TimeBase.run_inc (T : TimeBase) (k : Nat) : (T.run k).inc = T.inc := by
  unfold TimeBase.run
  split <;> rfl

theorem TimeBase.run_slew (T : TimeBase) (k : Nat) : (T.run k).slew = T.slew.map (·.run k) := by
  unfold TimeBase.run
  split
  case h_1 h => simp [h]
  case h_2 w h => simp [h]

/-- Every slew that runs has ticks left or just done, and a rate within the limit (R199). -/
def TimeBase.SlewOk (T : TimeBase) : Prop := ∀ w, T.slew = some w → w.done ≤ w.n ∧ slewRateOk w.amt w.n = true

theorem TimeBase.SlewOk.run {T : TimeBase} (h : T.SlewOk) (k : Nat) : (T.run k).SlewOk := by
  intro w hw
  rw [TimeBase.run_slew] at hw
  obtain ⟨v, hv, rfl⟩ := Option.map_eq_some_iff.mp hw
  exact ⟨Nat.min_le_left _ _, (h v hv).2⟩

/-- A slew over N ticks, run for all of them, has added exactly its amount to what the increment counts. -/
theorem TimeBase.run_wholeSlew {T : TimeBase} (hi : incOk T.inc = true) (hs : T.SlewOk) {a : Int} {n : Nat} (h : T.slew = some ⟨a, n, 0⟩)
    (hn : 0 < n) : ((T.run n).now : Int) = T.now + T.inc * n + a * 2 ^ 24 ∧ (T.run n).slew = some ⟨a, n, n⟩ := by
  obtain ⟨hdone, hrate⟩ := hs _ h
  have hpos := TimeBase.run_nonneg T hi ⟨a, n, 0⟩ hdone hrate n
  have hadd : slewSum a n n - slewSum a n 0 = a * 2 ^ 24 := by rw [slewSum_whole a hn, slewSum_zero, Int.sub_zero]
  rw [Slew.run_begun, hadd] at hpos
  have hnow : (T.run n).now = (((T.now + T.inc * n : Nat) : Int) + a * 2 ^ 24).toNat := by
    simp only [TimeBase.run, h, Slew.run_begun, hadd]
  refine ⟨?_, by rw [TimeBase.run_slew, h, Option.map_some, Slew.run_begun]⟩
  rw [hnow, Int.toNat_of_nonneg hpos, Int.natCast_add, Int.natCast_mul]

/-! #### Idle ticks (R196, log 1) -/

/-- The state with its clock some ticks on and, while the main domain is on, module time run for them. -/
def State.idled (s : State) (k : Nat) : State :=
  { s with clk := s.clk + k, time := if s.domainOn 2 then s.time.run k else s.time }

/-- What makes a step one tick in which nothing happens but time. -/
structure State.Idle (s : State) : Prop where
  noCommand : s.pending = []
  noneSent : s.sending = []
  noRecord : ringWaiting s.tin = 0
  scoreHeld : s.rawScore = s.rawHeld.1
  incRange : incOk s.time.inc = true
  slewOk : s.time.SlewOk

theorem State.idled_time_on {s : State} (h : s.domainOn 2 = true) (k : Nat) : (s.idled k).time = s.time.run k := if_pos h

theorem State.idled_time_off {s : State} (h : s.domainOn 2 = false) (k : Nat) : (s.idled k).time = s.time :=
  if_neg (Bool.eq_false_iff.mp h)

theorem State.domainOn_idled (s : State) (k d : Nat) : (s.idled k).domainOn d = s.domainOn d := rfl

theorem State.idled_inc (s : State) (k : Nat) : (s.idled k).time.inc = s.time.inc := by
  cases h : s.domainOn 2
  case false => rw [State.idled_time_off h]
  case true => rw [State.idled_time_on h, TimeBase.run_inc]

/-- The raw health score does not look at the clock or at module time. -/
theorem State.idled_rawScore (s : State) (k : Nat) : (s.idled k).rawScore = s.rawScore := rfl

namespace State.Idle

variable {s : State} (h : s.Idle)
include h

theorem idled_zero : s.idled 0 = s := by
  have hrun : s.time.run 0 = s.time := TimeBase.run_zero _ fun w hw => (h.slewOk w hw).1
  simp [State.idled, hrun]

/-- Ticks add up: the state k ticks on, one tick further, is the state k + 1 ticks on. -/
theorem idled_succ (k : Nat) : (s.idled k).idled 1 = s.idled (k + 1) := by
  have htime : ((s.idled k).idled 1).time = (s.idled (k + 1)).time := by
    cases hon : s.domainOn 2
    case false =>
      rw [State.idled_time_off ((s.domainOn_idled k 2).trans hon), State.idled_time_off hon, State.idled_time_off hon]
    case true =>
      rw [State.idled_time_on ((s.domainOn_idled k 2).trans hon), State.idled_time_on hon, State.idled_time_on hon,
        TimeBase.run_add _ h.incRange h.slewOk]
  exact congrArg (fun T => { s with clk := s.clk + k + 1, time := T }) htime

/-- Idle ticks keep the block idle. -/
theorem idled (k : Nat) : (s.idled k).Idle where
  noCommand := h.noCommand
  noneSent := h.noneSent
  noRecord := h.noRecord
  scoreHeld := (s.idled_rawScore k).trans h.scoreHeld
  incRange := (s.idled_inc k).symm ▸ h.incRange
  slewOk := by
    cases hon : s.domainOn 2
    case false => exact (State.idled_time_off hon k).symm ▸ h.slewOk
    case true => exact (State.idled_time_on hon k).symm ▸ h.slewOk.run k

/-- A step of an idle block is one tick. -/
theorem step_eq : step s = .next (s.idled 1) := by
  have hkept : (s.idled 1).rawNow = s.rawHeld := if_pos ((s.idled_rawScore 1).trans h.scoreHeld)
  have hadv : s.advance 1 = s.idled 1 := s.advance_one h.noneSent h.noRecord
  have hstep : step s = .next ((s.advance 1).keeping s) := by rw [step, h.noCommand]
  rw [hstep, hadv, State.keeping, hkept]
  rfl

end State.Idle

/-- Settles O2: the state after k ticks is idle again and its step is the next tick; the time base adds up increments and shares. -/
theorem anIdleBlockOnlyCountsTimeAndSlewsInFull : Obligations.AnIdleBlockOnlyCountsTimeAndSlewsInFull := by
  intro s hp hs hr hraw hi hw
  have h : s.Idle := ⟨hp, hs, hr, hraw, hi, hw⟩
  refine ⟨h.idled_zero, fun k => ?_, s.idled_inc, fun hon hnone k => ?_, fun hon a n hslew hn => ?_⟩
  · exact (h.idled k).step_eq.trans (congrArg _ (h.idled_succ k))
  · exact congrArg TimeBase.now ((State.idled_time_on hon k).trans (TimeBase.run_none hnone k))
  · have hrun := TimeBase.run_wholeSlew h.incRange h.slewOk hslew hn
    rwa [← State.idled_time_on hon n] at hrun

/-! #### A waiting time step (R81, R201, R208) -/

theorem exec_timeStepApply (s : State) (dt pick : Nat) :
    exec (.timeStepApply dt pick) s = .next (((s.advance dt).stepApply pick).keeping s) := after_pos s dt _ (fun t => t.stepApply pick) rfl

theorem State.stepApply_none (s : State) (pick : Nat) (h : s.time.step = none) : s.stepApply pick = s := by
  simp [State.stepApply, h]

section StepApply

variable {s : State} {p : PendingStep} {e : JEntry} (pick : Nat) (hs : s.time.step = some p) (he : s.jget p.tag = some e)
include hs he

theorem State.stepApply_marked (hm : p.marked = true) :
    s.stepApply pick = (s.makeStep e.stepAmount p.waited pick).finish p.tag stOk 0 0 := by
  simp [State.stepApply, hs, he, hm]

theorem State.stepApply_waits (hm : p.marked = false) (hf : s.olderGenFrames ≠ 0) : s.stepApply pick = s := by
  simp [State.stepApply, hs, he, hm, hf]

/-- Its checks are made again when no frame of the generation before remains (log 47). -/
theorem State.stepApply_refused (hm : p.marked = false) (hf : s.olderGenFrames = 0) {why place : Nat}
    (hw : s.stepFault e.stepAmount = some (why, place)) :
    s.stepApply pick = ((s.setStep none).setFlag Fld.TIM_STATUS_STEP_PENDING false).malformed p.tag why place := by
  simp [State.stepApply, hs, he, hm, hf, hw]

theorem State.stepApply_made (hm : p.marked = false) (hf : s.olderGenFrames = 0) (hw : s.stepFault e.stepAmount = none) :
    s.stepApply pick = ((s.mark p.tag).makeStep e.stepAmount p.waited pick).finish p.tag stOk 0 0 := by
  simp [State.stepApply, hs, he, hm, hf, hw]

end StepApply

/-- A missed commit that has a command counts, gives event 90 and completes TIMED_MISSED. -/
theorem State.missed_command (s : State) {t : Staging} {c : Commit} {tag : Nat} (cause : Nat) (ht : s.txn.open_ = some t)
    (hc : s.txn.commit = some c) (htag : c.tag = some tag) :
    s.missed cause = ((s.dropTxn.bump Reg.TXN_MISSED_CNT).raise 90 moduleScope
      [(24, 4, t.id), (28, 12, c.at96), (40, 12, time96 (s.dropTxn.bump Reg.TXN_MISSED_CNT).now16), (52, 1, cause)]).finish tag stMissed 0 0 := by
  simp only [State.missed, ht, hc, htag]

/-- Settles O22: each branch of the step's application, and the missed commit. -/
theorem waitingTimeStepIsMadeOrRefused : Obligations.WaitingTimeStepIsMadeOrRefused := by
  rintro s _ dt pick rfl
  refine ⟨fun p e hs he => ⟨fun hm => ?_, fun hm => ⟨fun hf => ?_, fun hf => ⟨fun why place hw => ?_, fun hw => ?_⟩⟩⟩, fun hs => ?_,
    fun t c tag cause ht hc htag _ => State.missed_command _ cause ht hc htag⟩
  · rw [exec_timeStepApply, State.stepApply_marked pick hs he hm]
  · rw [exec_timeStepApply, State.stepApply_waits pick hs he hm hf]
  · refine ⟨_, by rw [exec_timeStepApply, State.stepApply_refused pick hs he hm hf hw], rfl, ?_, ?_, ?_⟩
    · rw [State.keeping_time, State.malformed_time, State.setFlag_time]
      rfl
    · rw [State.keeping_tbl, State.malformed_tbl, State.setFlag_tbl]
      rfl
    · rw [State.keeping_buf, State.malformed_buf, State.setFlag_buf]
      rfl
  · rw [exec_timeStepApply, State.stepApply_made pick hs he hm hf hw]
  · rw [exec_timeStepApply, State.stepApply_none _ pick hs]

/-! #### The snapshot of module time (R216) -/

theorem exec_timSnapCapture (s : State) (dt : Nat) :
    exec (.timSnapCapture dt) s = .next (((s.advance dt).takeSnap).keeping s) := after_pos s dt _ State.takeSnap rfl

theorem State.reg_setTriple_ne (s : State) (a b c v o : Nat) (ha : o ≠ a) (hb : o ≠ b) (hc : o ≠ c) :
    (s.setTriple a b c v).reg o = s.reg o := by
  rw [State.setTriple, State.reg_setReg_ne _ _ _ _ hc, State.reg_setReg_ne _ _ _ _ hb, State.reg_setReg_ne _ _ _ _ ha]

theorem State.triple_congr {s t : State} {a b c : Nat} (ha : s.reg a = t.reg a) (hb : s.reg b = t.reg b) (hc : s.reg c = t.reg c) :
    s.triple a b c = t.triple a b c := by
  rw [State.triple, State.triple, ha, hb, hc]

/-- Three registers hold 96 bits of what is put into them. -/
theorem State.triple_setTriple (s : State) {a b c : Nat} (hab : a ≠ b) (hac : a ≠ c) (hbc : b ≠ c) (v : Nat) :
    (s.setTriple a b c v).triple a b c = v % 2 ^ 96 := by
  have ha : (s.setTriple a b c v).reg a = BitVec.ofNat 32 v := by
    rw [State.setTriple, State.reg_setReg_ne _ _ _ _ hac, State.reg_setReg_ne _ _ _ _ hab, State.reg_setReg_same]
  have hb : (s.setTriple a b c v).reg b = BitVec.ofNat 32 (v / 2 ^ 32) := by
    rw [State.setTriple, State.reg_setReg_ne _ _ _ _ hbc, State.reg_setReg_same]
  have hc : (s.setTriple a b c v).reg c = BitVec.ofNat 32 (v / 2 ^ 64) := State.reg_setReg_same _ _ _
  rw [State.triple, ha, hb, hc, BitVec.toNat_ofNat, BitVec.toNat_ofNat, BitVec.toNat_ofNat]
  omega

/-- Module time copied into TIM_SNAP, the request gone, DONE set. -/
def State.snapped (s : State) : State :=
  (({ s with time := { s.time with snapReq := false } } : State).setTriple Reg.TIM_SNAP_W0 Reg.TIM_SNAP_W1 Reg.TIM_SNAP_W2
    (time96 s.now16)).setFlag Fld.TIM_SNAP_CTRL_DONE true

theorem State.takeSnap_requested (s : State) (h : s.time.snapReq = true) : s.takeSnap = s.snapped := if_pos h

theorem State.takeSnap_idle (s : State) (h : s.time.snapReq = false) : s.takeSnap = s := if_neg (Bool.eq_false_iff.mp h)

theorem State.triple_snapped (s : State) :
    s.snapped.triple Reg.TIM_SNAP_W0 Reg.TIM_SNAP_W1 Reg.TIM_SNAP_W2 = time96 s.now16 % 2 ^ 96 :=
  (State.triple_congr (State.reg_setFlag_ne _ _ _ _ (by decide)) (State.reg_setFlag_ne _ _ _ _ (by decide))
    (State.reg_setFlag_ne _ _ _ _ (by decide))).trans (State.triple_setTriple _ (by decide) (by decide) (by decide) _)

theorem State.reg_snapped_ne (s : State) {off : Nat} (h0 : off ≠ Reg.TIM_SNAP_W0) (h1 : off ≠ Reg.TIM_SNAP_W1) (h2 : off ≠ Reg.TIM_SNAP_W2)
    (hc : off ≠ Reg.TIM_SNAP_CTRL) : s.snapped.reg off = s.reg off :=
  (State.reg_setFlag_ne _ _ _ _ hc).trans (State.reg_setTriple_ne _ _ _ _ _ _ h0 h1 h2)

theorem State.done_snapped (s : State) : s.snapped.flag Fld.TIM_SNAP_CTRL_DONE = true :=
  State.flag_setFlag_same _ _ _ (by decide) (by decide)

theorem State.snapped_frame (s : State) : s.snapped.time = { s.time with snapReq := false } ∧ s.snapped.evt = s.evt ∧
    s.snapped.tbl = s.tbl ∧ s.snapped.buf = s.buf := by
  rw [State.snapped, State.setFlag_time, State.setFlag_evt, State.setFlag_tbl, State.setFlag_buf, State.setTriple_time,
    State.setTriple_evt, State.setTriple_tbl, State.setTriple_buf]
  exact ⟨rfl, rfl, rfl, rfl⟩

/-! #### A read of a timestamp FIFO (R214, R215, R388) -/

theorem exec_tsfRead (s : State) (dt n : Nat) (hn : n < 64) :
    exec (.tsfRead dt n) s = .next (((s.advance dt).mmioRead (Reg.TIM_TSF_W0 n)).keeping s) :=
  after_pos s dt _ (fun t => t.mmioRead (Reg.TIM_TSF_W0 n)) (decide_eq_true hn)

theorem State.mmioRead_off (s : State) (off : Nat) (h : s.domainOn 4 = false) : s.mmioRead off = s := if_pos h

theorem State.mmioRead_on (s : State) (off : Nat) (h : s.domainOn 4 = true) :
    s.mmioRead off = (s.hostRead off).2.emit (.read off (s.hostRead off).1) := if_neg (by simp [h])

theorem regDomain_TIM_TSF_W0 (n : Nat) (hn : n < 64) : regDomain (Reg.TIM_TSF_W0 n) = 2 := by
  revert n
  decide

theorem State.regProvided_TIM_TSF_W0 (s : State) (n : Nat) : s.regProvided Row.TIM_TSF_W0 n 0 = (s.speed n != 0) := rfl

/-- With the time domain on, a read of a provided port's TIM_TSF_W0 is a read of its FIFO. -/
theorem State.hostRead_TIM_TSF_W0 (s : State) (n : Nat) (hn : n < 64) (hon : s.domainOn 2 = true) (hsp : s.speed n ≠ 0) :
    s.hostRead (Reg.TIM_TSF_W0 n) = s.readTsf n := by
  have hshown : ¬(s.domainOn (regDomain (Reg.TIM_TSF_W0 n)) = false ∨ s.regProvided Row.TIM_TSF_W0 n 0 = false) := by
    simp [regDomain_TIM_TSF_W0 n hn, hon, State.regProvided_TIM_TSF_W0, hsp]
  simp only [State.hostRead, findReg_TIM_TSF_W0 n hn]
  rw [if_neg hshown]
  exact if_pos rfl

theorem State.readTsf_empty (s : State) (n : Nat) (h : s.tsf n = []) : s.readTsf n = (0, s) := by simp [State.readTsf, h]

theorem State.readTsf_oldest (s : State) (n : Nat) {e : TsfEntry} {l : List TsfEntry} (h : s.tsf n = e :: l) :
    s.readTsf n = (BitVec.ofNat 32 e.w0, (s.setTsf n l).setTriple (Reg.TIM_TSF_W1 n) (Reg.TIM_TSF_W2 n) (Reg.TIM_TSF_W3 n)
      (if e.discarded = true then 0 else time96 e.stamp)) := by
  simp [State.readTsf, h]

/-- Settles O37: the snapshot as `snapped`, the FIFO's read empty and with an oldest entry. -/
theorem snapshotAndTimestampFifoReads : Obligations.SnapshotAndTimestampFifoReads := by
  rintro s _ dt rfl
  refine ⟨fun h => ?_, fun h => ?_, fun n hn h4 h2 hsp => ⟨fun h => ?_, fun e l h => ?_⟩, fun n hn h4 => ?_⟩
  · obtain ⟨htime, hevt, htbl, hbuf⟩ := (s.advance dt).snapped_frame
    refine ⟨(s.advance dt).snapped.keeping s, by rw [exec_timSnapCapture, State.takeSnap_requested _ h], ?_, ?_, ?_,
      fun off h0 h1 h2 hc => ?_, ?_, ?_, ?_⟩
    · rw [State.keeping_time, htime]
    · exact (State.triple_congr (State.reg_keeping _ _ _) (State.reg_keeping _ _ _) (State.reg_keeping _ _ _)).trans (State.triple_snapped _)
    · rw [State.flag_keeping, State.done_snapped]
    · rw [State.reg_keeping, State.reg_snapped_ne _ h0 h1 h2 hc]
    · rw [State.keeping_evt, hevt]
    · rw [State.keeping_tbl, htbl]
    · rw [State.keeping_buf, hbuf]
  · rw [exec_timSnapCapture, State.takeSnap_idle _ h]
  · rw [exec_tsfRead s dt n hn, State.mmioRead_on _ _ h4, State.hostRead_TIM_TSF_W0 _ n hn h2 hsp, State.readTsf_empty _ n h]
  · rw [exec_tsfRead s dt n hn, State.mmioRead_on _ _ h4, State.hostRead_TIM_TSF_W0 _ n hn h2 hsp, State.readTsf_oldest _ n h]
  · rw [exec_tsfRead s dt n hn, State.mmioRead_off _ _ h4]

/-! #### The main domain cleared (R197) -/

/-- Beside its registers, PD2's time starts anew, which is a step to the lines that carry lantern sets (log 141). -/
theorem State.clearUnit_main (s : State) :
    ∃ (t : State) (was : Nat), s.clearUnit 2 = t.lanStep was ∧ t.time = TimeBase.cleared ∧ t.regs = s.regs := ⟨_, _, rfl, rfl, rfl⟩

theorem State.time_clearUnit_main (s : State) : (s.clearUnit 2).time = TimeBase.cleared := by
  obtain ⟨t, was, hstep, htime, -⟩ := s.clearUnit_main
  rw [hstep, (t.lanStep_frame was).1, htime]

theorem State.reg_clearUnit_main (s : State) (off : Nat) (hs : ∀ k, off ≠ Reg.PHS_SWAP_STATUS k) : (s.clearUnit 2).reg off = s.reg off := by
  obtain ⟨t, was, hstep, -, hregs⟩ := s.clearUnit_main
  rw [hstep, (t.lanStep_frame was).2 off hs, State.reg_congr hregs]

/-- The state whose PD2 registers are cleared and whose units are about to be. -/
def State.mainRegsCleared (s : State) : State :=
  (s.noteNets.calCleared 2).clearRegs (fun off => regDomain off == 2 && !keptReg off)

/-- A cleared domain waits for the image's defaults. -/
def State.awaitDefaults (s : State) (d : Nat) : State := { s with img := { s.img with fresh := s.img.fresh ||| 2 ^ d } }

theorem State.time_awaitDefaults (s : State) (d : Nat) : (s.awaitDefaults d).time = s.time := rfl

theorem State.reg_awaitDefaults (s : State) (d off : Nat) : (s.awaitDefaults d).reg off = s.reg off := rfl

theorem State.clearDomain_main (s : State) : s.clearDomain 2 = (s.mainRegsCleared.clearUnit 2).awaitDefaults 2 := by
  simp only [State.clearDomain, State.mainRegsCleared, State.awaitDefaults, Nat.reduceEqDiff, reduceIte]

theorem State.time_clearDomain_main (s : State) : (s.clearDomain 2).time = TimeBase.cleared := by
  rw [State.clearDomain_main, State.time_awaitDefaults, State.time_clearUnit_main]

/-- A register of PD2 that no clearing keeps returns to its silicon value. -/
theorem State.reg_clearDomain_main (s : State) (off : Nat) (hd : regDomain off = 2) (hk : keptReg off = false)
    (hs : ∀ k, off ≠ Reg.PHS_SWAP_STATUS k) : (s.clearDomain 2).reg off = regReset off := by
  have hclear : (regDomain off == 2 && !keptReg off) = true := by simp [hd, hk]
  rw [State.clearDomain_main, State.reg_awaitDefaults, State.reg_clearUnit_main _ off hs, State.mainRegsCleared, State.reg_clearRegs,
    if_pos hclear]

theorem State.time_domainOff (s : State) (d : Nat) : (s.domainOff d).time = (s.clearDomain d).time := State.setF_time _ _ _

/-- The swaps' status lies above the time block. -/
theorem PHS_SWAP_STATUS_above {off : Nat} (h : off < 0x190000) (k : Nat) : off ≠ Reg.PHS_SWAP_STATUS k :=
  Nat.ne_of_lt (Nat.lt_of_lt_of_le h (by unfold Reg.PHS_SWAP_STATUS; omega))

theorem TimeBase.cleared_run (k : Nat) : (TimeBase.cleared.run k).now = k * 0x1999999999A := by
  rw [TimeBase.run_none rfl]
  exact (Nat.zero_add _).trans (Nat.mul_comm _ _)

theorem regReset_TIM_INC_ACTIVE_LO : regReset Reg.TIM_INC_ACTIVE_LO = 0x9999999A := by decide +kernel

theorem regReset_TIM_INC_ACTIVE_HI : regReset Reg.TIM_INC_ACTIVE_HI = 0x199 := by decide +kernel

/-- Settles O59: the time base is `TimeBase.cleared`, and the two registers return to their silicon values. -/
theorem clearingTheMainDomainStartsTimeAtTheEpoch : Obligations.ClearingTheMainDomainStartsTimeAtTheEpoch := by
  intro s k
  have htime := s.time_clearDomain_main
  refine ⟨?_, s.time_domainOff 2, ⟨?_, ?_⟩, ?_, by decide⟩
  · rw [State.now16, htime]
    exact ⟨rfl, rfl, rfl, rfl, rfl⟩
  · rw [State.reg_clearDomain_main s _ (by decide) (by decide) (PHS_SWAP_STATUS_above (by decide)), regReset_TIM_INC_ACTIVE_LO]
  · rw [State.reg_clearDomain_main s _ (by decide) (by decide) (PHS_SWAP_STATUS_above (by decide)), regReset_TIM_INC_ACTIVE_HI]
  · rw [htime, TimeBase.cleared_run]

end Sys2Proof.Machine

/-! ### The lantern phase (09_lantern_phase.md) and the mirror's use of it -/

namespace Sys2Proof.Machine

/-! #### ENABLE and the asymmetry words (R219, R230, R233) -/

theorem exec_lanternEnable (s : State) (dt n : Nat) (value : Word) (be : Nat) (hn : n < 64) :
    exec (.lanternEnable dt n value be) s = .next (((s.advance dt).mmioWrite (Reg.PHS_CFG n)
      ((Fld.PHS_CFG_ENABLE n).into value 1) ((Fld.PHS_CFG_ENABLE n).select be)).keeping s) :=
  after_pos s dt _ (fun t => t.writeField (Fld.PHS_CFG_ENABLE n) 1 value be) (decide_eq_true hn)

theorem exec_lanternDisable (s : State) (dt n : Nat) (value : Word) (be : Nat) (hn : n < 64) :
    exec (.lanternDisable dt n value be) s = .next (((s.advance dt).mmioWrite (Reg.PHS_CFG n)
      ((Fld.PHS_CFG_ENABLE n).into value 0) ((Fld.PHS_CFG_ENABLE n).select be)).keeping s) :=
  after_pos s dt _ (fun t => t.writeField (Fld.PHS_CFG_ENABLE n) 0 value be) (decide_eq_true hn)

theorem exec_phsAsymWrite (s : State) (dt n k : Nat) (value : Word) (be : Nat) (hn : n < 64) (hk : k < 7) :
    exec (.phsAsymWrite dt n k value be) s =
      .next (((s.advance dt).mmioWrite (Reg.PHS_ASYM_CFG n + 4 * k) value (byteMask be)).keeping s) :=
  after_pos s dt _ (fun t => t.mmioWrite (Reg.PHS_ASYM_CFG n + 4 * k) value (byteMask be))
    (Bool.and_eq_true_iff.mpr ⟨decide_eq_true hn, decide_eq_true hk⟩)

/-- What ENABLE, as it now stands, makes of a lantern for which it stood differently. -/
def State.lanSwitched (s : State) (n : Nat) : State :=
  if s.flag (Fld.PHS_CFG_ENABLE n) = false then (if s.lanState n = lsOff then s else s.lanStop n lsOff 0)
  else if s.lanState n ≠ lsOff then s
  else if s.lanLink n = true then s.lanSeek n true else s.setF (Fld.PHS_STATUS_STATE n) lsWait

theorem State.lanSwitched_enabled (s : State) (n : Nat) (h : s.flag (Fld.PHS_CFG_ENABLE n) = true) :
    s.lanSwitched n = s.lanEnable n := by
  by_cases hoff : s.lanState n = lsOff
  · simp [State.lanSwitched, State.lanEnable, h, hoff]
  · simp [State.lanSwitched, State.lanEnable, h, hoff]

theorem State.lanSwitched_disabled (s : State) (n : Nat) (h : s.flag (Fld.PHS_CFG_ENABLE n) = false) :
    s.lanSwitched n = s.lanDisable n := by
  simp [State.lanSwitched, State.lanDisable, h]

/-- A write of PHS_CFG acts on the lantern only where it changes ENABLE. -/
theorem State.regEffect_PHS_CFG_switches (s : State) (n : Nat) (old hit pulse : Word) :
    s.regEffect Row.PHS_CFG n 0 old hit pulse =
      if (Fld.PHS_CFG_ENABLE n).of old = s.f (Fld.PHS_CFG_ENABLE n) then s else s.lanSwitched n := by
  rw [regEffect_PHS_CFG]
  by_cases hsame : (Fld.PHS_CFG_ENABLE n).of old = s.f (Fld.PHS_CFG_ENABLE n)
  · rw [if_pos hsame, if_neg (by simp [hsame])]
  · rw [if_neg hsame, if_pos (bne_iff_ne.mpr hsame)]
    cases hon : s.flag (Fld.PHS_CFG_ENABLE n) with
    | true => exact (s.lanSwitched_enabled n hon).symm
    | false => exact (s.lanSwitched_disabled n hon).symm

/-- A write of PHS_CFG that passes its checks. -/
theorem State.mmioWrite_lanternCfg (s : State) (n : Nat) (hn : n < 64) (v m : Word) (ht : s.takesWrite (Reg.PHS_CFG n) v m = true) :
    s.mmioWrite (Reg.PHS_CFG n) v m =
      (let w := s.written (Reg.PHS_CFG n) v m
       if (Fld.PHS_CFG_ENABLE n).of ((s.atWrite (Reg.PHS_CFG n) v m).reg (Reg.PHS_CFG n)) = w.f (Fld.PHS_CFG_ENABLE n) then w
       else w.lanSwitched n).rewrite := by
  rw [mmioWrite_PHS_CFG s n hn v m ht, farEffect_PHS_CFG, State.regEffect_PHS_CFG_switches]

/-- Settles O38: the two rows of ENABLE by `mmioWrite_lanternCfg`, the asymmetry words as any write that passes its checks. -/
theorem lanternEnableAndAsymmetryWrites : Obligations.LanternEnableAndAsymmetryWrites := by
  rintro s _ dt n value be rfl hn
  refine ⟨⟨fun ht => ?_, fun ht => ?_⟩, fun k hk ht => ?_⟩
  · rw [exec_lanternEnable s dt n value be hn, State.mmioWrite_lanternCfg _ n hn _ _ ht]
    rfl
  · rw [exec_lanternDisable s dt n value be hn, State.mmioWrite_lanternCfg _ n hn _ _ ht]
    rfl
  · rw [exec_phsAsymWrite s dt n k value be hn hk, State.mmioWrite_takes _ _ _ _ ht]

/-! #### Offers (R222, R223) -/

theorem exec_lanternSetOffer (s : State) (dt m : Nat) (idle : Bool) (beats : List (Nat × Bool)) (hm : m < 66) :
    exec (.lanternSetOffer dt m idle beats) s = .next (((s.advance dt).lanOffer m idle beats).keeping s) :=
  after_pos s dt _ (fun t => t.lanOffer m idle beats) (decide_eq_true hm)

/-- The offers that a line has made since it began to send. -/
def State.offersMade (s : State) (m : Nat) : Nat := (s.clk - (s.lant m).sendAt) * rateOf (s.lineSpeed m) / offerTicks

theorem State.lanSkip_upToDate (s : State) (m : Nat) (h : s.offersMade m ≤ (s.lant m).offers + 1) : s.lanSkip m = s :=
  if_neg (Nat.not_lt.mpr h)

theorem State.lanSkip_missed (s : State) (m : Nat) (h : (s.lant m).offers + 1 < s.offersMade m) :
    s.lanSkip m =
      let t := s.setLant m { s.lant m with offers := s.offersMade m - 1 }
      if m < 64 then t.bumpBy (Reg.PHS_TX_SKIPPED m) (s.offersMade m - 1 - (s.lant m).offers) else t :=
  if_pos h

/-- The set in hand of a record goes out, stamped. -/
def State.setSent (s : State) (m stamp : Nat) (x : Lantern) : State :=
  ((s.setLant m { x with word := x.word.tail, offers := x.offers + 1 }).bumpLan m (Reg.PHS_TX_SETS m)).emit
    (.lantern m (setBlock (x.word.headD 0)) stamp)

/-- Is the next offer of a line's record due? -/
def State.OfferDue (s : State) (m : Nat) : Prop :=
  ((s.lant m).offers + 1) * offerTicks ≤ (s.clk - (s.lant m).sendAt) * rateOf (s.lineSpeed m)

theorem State.lanOffer_dead (s : State) (m : Nat) (idle : Bool) (beats : List (Nat × Bool)) (h : s.lineLive m = false) :
    s.lanOffer m idle beats = s := if_pos h

section Offer

variable {s : State} {m : Nat} {beats : List (Nat × Bool)} (hl : s.lineLive m = true)
include hl

/-- An offer with no idle block to replace, before its time or with something else on the line leaves what the skips leave. -/
theorem State.lanOffer_waits {idle : Bool}
    (hw : idle = false ∨ ¬(s.lanSkip m).OfferDue m ∨ (s.lanSkip m).lineIdle m = false) :
    s.lanOffer m idle beats = s.lanSkip m := by
  rw [State.lanOffer, if_neg (by simp [hl])]
  refine if_neg fun ⟨hi, hd, hq⟩ => ?_
  obtain h | h | h := hw
  · exact Bool.false_ne_true (h.symm.trans hi)
  · exact h hd
  · exact Bool.false_ne_true (h.symm.trans hq)

/-- An idle offer that is due sends the next set of the word in hand, or the first of a word begun with it. -/
theorem State.lanOffer_sends (hd : (s.lanSkip m).OfferDue m) (hq : (s.lanSkip m).lineIdle m = true) :
    s.lanOffer m true beats =
      let v := s.lanSkip m
      let stamp := stampOf v.tickTime (v.phase m beats) (v.lineSpeed m) 0 (v.lineTx m)
      v.setSent m stamp (if (v.lant m).word.isEmpty then v.wordBegun (v.lant m) (v.newWord (v.lant m) stamp) else v.lant m) := by
  rw [State.lanOffer, if_neg (by simp [hl])]
  exact if_pos ⟨rfl, hd, hq⟩

end Offer

/-! #### Received blocks (R224, R225) -/

theorem exec_lanternWordReceive (s : State) (dt m : Nat) (blocks : List (BitVec 66 × List (Nat × Bool))) (hm : m < 66) :
    exec (.lanternWordReceive dt m blocks) s = .next (((s.advance dt).lanReceive m blocks).keeping s) :=
  after_pos s dt _ (fun t => t.lanReceive m blocks) (decide_eq_true hm)

theorem State.lanReceive_other (s : State) (m : Nat) (block : BitVec 66) (beats : List (Nat × Bool)) (h : blockSet block = none) :
    s.lanReceive m [(block, beats)] = s := by
  simp [State.lanReceive, h]

theorem State.lanReceive_set (s : State) (m : Nat) (block : BitVec 66) (beats : List (Nat × Bool)) {set : Nat}
    (h : blockSet block = some set) (hd : s.domainOn (if m < 64 then portDomain m else 5) = true) :
    s.lanReceive m [(block, beats)] =
      s.lanSet m set (stampOf s.tickTime (s.phase m beats) (s.lineSpeed m) 0 (-(s.lineRx m))) := by
  simp [State.lanReceive, h, hd]

/-! #### The times of a lantern's state (R230, R231) -/

theorem exec_lanternWordTimeout (s : State) (dt n : Nat) (hn : n < 64) :
    exec (.lanternWordTimeout dt n) s = .next (((s.advance dt).lanTimeout n).keeping s) :=
  after_pos s dt _ (fun t => t.lanTimeout n) (decide_eq_true hn)

theorem exec_lanternSuspendEnd (s : State) (dt n : Nat) (hn : n < 64) :
    exec (.lanternSuspendEnd dt n) s = .next (((s.advance dt).lanSuspendEnd n).keeping s) :=
  after_pos s dt _ (fun t => t.lanSuspendEnd n) (decide_eq_true hn)

theorem exec_lanternBadCountReset (s : State) (dt : Nat) :
    exec (.lanternBadCountReset dt) s = .next (((s.advance dt).lanBadReset).keeping s) := after_pos s dt _ State.lanBadReset rfl

theorem State.lanTimeout_due (s : State) (n : Nat) (hup : s.lanState n = lsUp) (ht : (s.lant n).lastGood + 10 * 625000 ≤ s.clk) :
    s.lanTimeout n = (s.lanLeave n 2).lanSeek n false :=
  if_pos ⟨hup, (s.passed_iff _ 10 _).mpr ht⟩

theorem State.lanTimeout_waits (s : State) (n : Nat) (h : s.lanState n ≠ lsUp ∨ s.clk < (s.lant n).lastGood + 10 * 625000) :
    s.lanTimeout n = s := by
  refine if_neg fun ⟨hup, hp⟩ => ?_
  obtain hne | hlt := h
  · exact hne hup
  · exact Nat.not_le.mpr hlt ((s.passed_iff _ 10 _).mp hp)

theorem State.lanSuspendEnd_due (s : State) (n : Nat) (hs : s.lanState n = lsSuspended)
    (ht : (s.lant n).suspendAt + s.f (Fld.PHS_CFG_SUSPEND_S n) * 625000000 ≤ s.clk) :
    s.lanSuspendEnd n = if s.lanLink n = true then s.lanSeek n true else s.setF (Fld.PHS_STATUS_STATE n) lsWait :=
  if_pos ⟨hs, (s.passed_iff _ _ _).mpr ht⟩

/-! #### The count of bad words in a second (R231) -/

/-- BAD_1S of the ports below `k` returns to 0. -/
def State.badCleared (s : State) (k : Nat) : State := (List.range k).foldl (fun s p => s.setF (Fld.PHS_STATUS_BAD_1S p) 0) s

theorem State.badCleared_succ (s : State) (k : Nat) :
    s.badCleared (k + 1) = (s.badCleared k).setF (Fld.PHS_STATUS_BAD_1S k) 0 := by
  simp [State.badCleared, List.range_succ]

theorem State.lan_badCleared (s : State) (k : Nat) : (s.badCleared k).lan = s.lan := by
  induction k with
  | zero => rfl
  | succ k ih => rw [State.badCleared_succ, State.setF_lan, ih]

theorem State.reg_badCleared_ne (s : State) (k off : Nat) (h : ∀ p, p < k → off ≠ Reg.PHS_STATUS p) :
    (s.badCleared k).reg off = s.reg off := by
  induction k with
  | zero => rfl
  | succ k ih =>
    rw [State.badCleared_succ, State.reg_setF_ne _ _ _ _ (h k (Nat.lt_succ_self k)), ih fun p hp => h p (Nat.lt_succ_of_lt hp)]

theorem State.bad_badCleared (s : State) (k n : Nat) (hn : n < k) : (s.badCleared k).f (Fld.PHS_STATUS_BAD_1S n) = 0 := by
  induction k with
  | zero => exact absurd hn (Nat.not_lt_zero n)
  | succ k ih =>
    rw [State.badCleared_succ]
    obtain hlt | rfl := Nat.lt_succ_iff_lt_or_eq.mp hn
    · have hoff : Reg.PHS_STATUS n ≠ Reg.PHS_STATUS k := by
        show 0x190004 + n * 0x100 ≠ 0x190004 + k * 0x100
        omega
      rw [State.f_setF_off _ _ _ _ hoff, ih hlt]
    · exact State.f_setF_same _ _ _ (by decide : 8 + 5 ≤ 32)

theorem State.lanBadReset_sameSecond (s : State) (h : s.now16 / unitsPerS = s.lanSec) : s.lanBadReset = s := if_pos h

theorem State.lanBadReset_newSecond (s : State) (h : s.now16 / unitsPerS ≠ s.lanSec) :
    s.lanBadReset = { s.badCleared 64 with lanSec := s.now16 / unitsPerS } := if_neg h

/-- The first reset of a second notes the second and clears the counts. -/
theorem State.lanBadReset_fields (s : State) (h : s.now16 / unitsPerS ≠ s.lanSec) :
    s.lanBadReset.lanSec = s.now16 / unitsPerS ∧ s.lanBadReset.regs = (s.badCleared 64).regs ∧ s.lanBadReset.lan = (s.badCleared 64).lan := by
  rw [State.lanBadReset_newSecond s h]
  generalize s.badCleared 64 = t
  exact ⟨rfl, rfl, rfl⟩

/-- Settles O39: the skips, the offer sent or left, the block taken or passed over, and each of the three times. -/
theorem lanternSetsAreOfferedReceivedAndTimedOut : Obligations.LanternSetsAreOfferedReceivedAndTimedOut := by
  rintro s _ dt n rfl hn
  refine ⟨fun m hm => ⟨⟨fun h => ?_, fun h hport => ?_, fun h hlane => ?_⟩,
      fun hl beats => ⟨?_, fun hd hq => ⟨fun hw => ?_, fun hw => ?_⟩, fun hwait => ?_⟩, fun hl idle beats => ?_,
      fun block beats => ⟨fun hb => ?_, fun set hb hd => ?_⟩⟩,
    fun hup ht => ?_, fun h => ?_, fun hs ht => ?_, fun h => ?_, fun h => ?_⟩
  · exact State.lanSkip_upToDate _ m h
  · exact (State.lanSkip_missed _ m h).trans (if_pos hport)
  · exact (State.lanSkip_missed _ m h).trans (if_neg (Nat.not_lt.mpr hlane))
  · rw [exec_lanternSetOffer s dt m false beats hm, State.lanOffer_waits hl (.inl rfl)]
  · rw [exec_lanternSetOffer s dt m true beats hm, State.lanOffer_sends hl hd hq]
    dsimp only
    rw [if_neg (by simpa using hw)]
    rfl
  · rw [exec_lanternSetOffer s dt m true beats hm, State.lanOffer_sends hl hd hq]
    dsimp only
    rw [if_pos (by simpa using hw)]
    rfl
  · rw [exec_lanternSetOffer s dt m true beats hm, State.lanOffer_waits hl (.inr (hwait.imp_left Nat.not_le.mpr))]
  · rw [exec_lanternSetOffer s dt m idle beats hm, State.lanOffer_dead _ m idle beats hl]
  · rw [exec_lanternWordReceive s dt m _ hm, State.lanReceive_other _ m block beats hb]
  · rw [exec_lanternWordReceive s dt m _ hm, State.lanReceive_set _ m block beats hb hd]
  · rw [exec_lanternWordTimeout s dt n hn, State.lanTimeout_due _ n hup ht]
  · rw [exec_lanternWordTimeout s dt n hn, State.lanTimeout_waits _ n h]
  · rw [exec_lanternSuspendEnd s dt n hn, State.lanSuspendEnd_due _ n hs ht]
  · rw [exec_lanternBadCountReset, State.lanBadReset_sameSecond _ h]
  · refine ⟨_, exec_lanternBadCountReset s dt, ?_⟩
    obtain ⟨hsec, hregs, hlan⟩ := State.lanBadReset_fields _ h
    refine ⟨?_, ?_, fun off hoff => ?_, ?_⟩
    · rw [State.keeping_lanSec, hsec]
    · rw [State.f_keeping, State.f_congr hregs, State.bad_badCleared _ 64 n hn]
    · rw [State.reg_keeping, State.reg_congr hregs, State.reg_badCleared_ne _ 64 off hoff]
    · rw [State.keeping_lan, hlan, State.lan_badCleared]

/-! #### The report of the Emulug lanes (R228, R324) -/

theorem exec_mirOffsetReport (s : State) (dt : Nat) :
    exec (.mirOffsetReport dt) s = .next (((s.advance dt).offsetReport).keeping s) := after_pos s dt _ State.offsetReport rfl

/-- The block that the Emulug lanes report next. -/
def State.mirBlock (s : State) : Nat := (s.lanPick (s.mirLanes.headD 64)).k

/-- The lanes' reports of it that are full enough and in bounds. -/
def State.mirGood (s : State) : List Report :=
  (s.mirLanes.map (fun n => (s.lanPick n).report 4 (s.lanSum n s.mirBlock))).filter (fun r => r.valid)

/-- The lanes go on to their next block, and the header shows this one. -/
def State.mirReported (s : State) : State :=
  (State.setFlag ((s.mirLanes.foldl (fun (x : State) n => x.lanAdvance n) s).setF Fld.MIR_OFFSET_SEQ_BLOCK (s.mirBlock % 2 ^ 16))
    Fld.MIR_OFFSET_SEQ_VALID (!s.mirGood.isEmpty)).setFlag Fld.MIR_OFFSET_SEQ_NEW true

/-- Offset and delay take the means of the good reports, and a unit that follows answers. -/
def State.mirMeans (t : State) (good : List Report) : State :=
  let th := ratio (good.map (·.res.theta)).sum good.length
  let d := ratio (good.map (·.res.d)).sum good.length
  ((t.setPair48 Reg.MIR_OFFSET_LO Reg.MIR_OFFSET_HI th).setPair48 Reg.MIR_DELAY_LO Reg.MIR_DELAY_HI d).follow th

theorem State.offsetReport_waits (s : State) (h : s.mirReady s.mirLanes = false) : s.offsetReport = s := if_pos h

theorem State.offsetReport_ready (s : State) (h : s.mirReady s.mirLanes = true) :
    s.offsetReport = if (!s.mirGood.isEmpty) = true then s.mirReported.mirMeans s.mirGood else s.mirReported :=
  if_neg (by simp [h])

theorem State.offsetReport_noLane (s : State) (h : s.mirReady s.mirLanes = true) (hg : s.mirGood = []) :
    s.offsetReport = s.mirReported := by
  rw [State.offsetReport_ready s h, if_neg (by simp [hg])]

theorem State.offsetReport_means (s : State) (h : s.mirReady s.mirLanes = true) (hg : s.mirGood ≠ []) :
    s.offsetReport = s.mirReported.mirMeans s.mirGood := by
  rw [State.offsetReport_ready s h, if_pos (by simp [hg])]

/-! #### A read of that report (R324, R388) -/

theorem exec_mirOffsetRead (s : State) (dt : Nat) :
    exec (.mirOffsetRead dt) s = .next (((s.advance dt).mmioRead Reg.MIR_OFFSET_SEQ).keeping s) :=
  after_pos s dt _ (fun t => t.mmioRead Reg.MIR_OFFSET_SEQ) rfl

theorem State.regProvided_MIR_OFFSET_SEQ (s : State) : s.regProvided Row.MIR_OFFSET_SEQ 0 0 = (s.pairConfig != 0) := rfl

/-- With the pair's domain on, in a pair, a read of MIR_OFFSET_SEQ is a read of the report. -/
theorem State.hostRead_MIR_OFFSET_SEQ (s : State) (hon : s.domainOn 5 = true) (hp : s.pairConfig ≠ 0) :
    s.hostRead Reg.MIR_OFFSET_SEQ = s.readOffset := by
  have hdom : regDomain Reg.MIR_OFFSET_SEQ = 5 := by decide
  have hshown : ¬(s.domainOn (regDomain Reg.MIR_OFFSET_SEQ) = false ∨ s.regProvided Row.MIR_OFFSET_SEQ 0 0 = false) := by
    simp [hdom, hon, State.regProvided_MIR_OFFSET_SEQ, hp]
  simp only [State.hostRead, findReg_MIR_OFFSET_SEQ]
  rw [if_neg hshown]
  rfl

/-- Freezing the report changes what is latched alone. -/
theorem State.latchOffset_frame (s : State) : s.latchOffset.outbox = s.outbox ∧ s.latchOffset.mir = s.mir ∧ s.latchOffset.evt = s.evt :=
  ⟨rfl, rfl, rfl⟩

theorem State.reg_latchOffset (s : State) (off : Nat) : s.latchOffset.reg off = s.reg off := rfl

/-- A state latches what another one holds at some offsets. -/
def State.latchAll (s t : State) (l : List Nat) : State :=
  l.foldl (fun (t : State) o => { t with latched := Store.set (fun _ => none) t.latched o (some (s.reg o)) }) t

theorem State.latchOffset_eq (s : State) :
    s.latchOffset = s.latchAll s [Reg.MIR_OFFSET_LO, Reg.MIR_OFFSET_HI, Reg.MIR_DELAY_LO, Reg.MIR_DELAY_HI] := rfl

theorem State.latchAll_cons (s t : State) (a : Nat) (l : List Nat) :
    s.latchAll t (a :: l) = s.latchAll { t with latched := Store.set (fun _ => none) t.latched a (some (s.reg a)) } l := rfl

theorem State.latched_latchAll (s t : State) (l : List Nat) (o : Nat) :
    Store.get (fun _ => none) (s.latchAll t l).latched o = if o ∈ l then some (s.reg o) else Store.get (fun _ => none) t.latched o := by
  induction l generalizing t with
  | nil => exact (if_neg List.not_mem_nil).symm
  | cons a l ih =>
    rw [State.latchAll_cons, ih, Store.get_set]
    by_cases hl : o ∈ l
    · rw [if_pos hl, if_pos (List.mem_cons_of_mem a hl)]
    · rw [if_neg hl]
      by_cases ha : o = a
      · rw [if_pos ha, if_pos (List.mem_cons.mpr (.inl ha)), ha]
      · rw [if_neg ha, if_neg fun hm => (List.mem_cons.mp hm).elim ha hl]

theorem State.latched_latchOffset (s : State) :
    ∀ o ∈ [Reg.MIR_OFFSET_LO, Reg.MIR_OFFSET_HI, Reg.MIR_DELAY_LO, Reg.MIR_DELAY_HI],
      Store.get (fun _ => none) s.latchOffset.latched o = some (s.reg o) := by
  intro o ho
  rw [State.latchOffset_eq, State.latched_latchAll, if_pos ho]

theorem State.mmioRead_MIR_OFFSET_SEQ (s : State) (h4 : s.domainOn 4 = true) (h5 : s.domainOn 5 = true) (hp : s.pairConfig ≠ 0) :
    s.mmioRead Reg.MIR_OFFSET_SEQ =
      (s.latchOffset.setFlag Fld.MIR_OFFSET_SEQ_NEW false).emit (.read Reg.MIR_OFFSET_SEQ (s.reg Reg.MIR_OFFSET_SEQ)) := by
  rw [State.mmioRead_on s _ h4, State.hostRead_MIR_OFFSET_SEQ s h5 hp, State.readOffset]

/-! #### The host state (R325) -/

theorem exec_mirHostStateSend (s : State) (dt : Nat) (value : Word) (be : Nat) :
    exec (.mirHostStateSend dt value be) s =
      .next (((s.advance dt).mmioWrite (Reg.MIR_HOST_STATE 63) value (byteMask be)).keeping s) :=
  after_pos s dt _ (fun t => t.mmioWrite (Reg.MIR_HOST_STATE 63) value (byteMask be)) rfl

/-- A write of the last host-state word sends TIME_STATE after it. -/
theorem State.mmioWrite_lastHostState (s : State) (v m : Word) (ht : s.takesWrite (Reg.MIR_HOST_STATE 63) v m = true) :
    s.mmioWrite (Reg.MIR_HOST_STATE 63) v m =
      (let w := s.written (Reg.MIR_HOST_STATE 63) v m
       w.sendMir msgTimeState w.timeStateBody).rewrite := by
  rw [mmioWrite_MIR_HOST_STATE s 63 (by decide) v m ht, regEffect_MIR_HOST_STATE, farEffect_MIR_HOST_STATE, if_pos rfl]

/-- Settles O57: the report in its three cases, the read with what it freezes, and the write that sends. -/
theorem offsetReportsAndHostStateCrossTheLink : Obligations.OffsetReportsAndHostStateCrossTheLink := by
  rintro s _ dt rfl
  refine ⟨⟨fun h => ?_, fun h hg => ?_, fun h hg => ?_⟩, fun h4 h5 hp => ?_, fun h4 => ?_, fun value be ht => ⟨_, rfl, ?_⟩⟩
  · rw [exec_mirOffsetReport, State.offsetReport_waits _ h]
  · rw [exec_mirOffsetReport, State.offsetReport_noLane _ h hg]
    rfl
  · rw [exec_mirOffsetReport, State.offsetReport_means _ h hg]
    rfl
  · refine ⟨_, exec_mirOffsetRead s dt, ?_⟩
    rw [State.mmioRead_MIR_OFFSET_SEQ _ h4 h5 hp]
    obtain ⟨hout, hmir, hevt⟩ := (s.advance dt).latchOffset_frame
    refine ⟨?_, ?_, fun off hoff => ?_, ?_, ?_, ?_⟩
    · rw [State.keeping_outbox, State.emit, State.setFlag_outbox, hout]
    · rw [State.flag_keeping, State.flag_emit, State.flag_setFlag_same _ _ _ (by decide) (by decide)]
    · rw [State.reg_keeping, State.reg_emit, State.reg_setFlag_ne _ _ _ _ hoff, State.reg_latchOffset]
    · rw [State.keeping_mir, State.emit_mir, State.setFlag_mir, hmir]
    · rw [State.keeping_evt, State.emit_evt, State.setFlag_evt, hevt]
    · exact State.latched_latchOffset _
  · rw [exec_mirOffsetRead, State.mmioRead_off _ _ h4]
  · rw [exec_mirHostStateSend, State.mmioWrite_lastHostState _ value _ ht]
    rfl

end Sys2Proof.Machine

/-! ### References (10_references.md) -/

namespace Sys2Proof.Machine

/-! #### Settings of slots, declarations and output starts (R241, R247, R256, R259) -/

theorem exec_refSlotCfgWrite (s : State) (dt k : Nat) (quality : Bool) (value : Word) (be : Nat) (hk : k < 24) :
    exec (.refSlotCfgWrite dt k quality value be) s =
      .next (((s.advance dt).mmioWrite (slotCfg k quality) value (byteMask be)).keeping s) :=
  after_pos s dt _ (fun t => t.mmioWrite (slotCfg k quality) value (byteMask be)) (decide_eq_true hk)

theorem exec_virtFreqWrite (s : State) (dt : Nat) (value : Word) (be : Nat) :
    exec (.virtFreqWrite dt value be) s = .next (((s.advance dt).mmioWrite Reg.REF_VIRT_FREQ_HI value (byteMask be)).keeping s) :=
  after_pos s dt _ (fun t => t.mmioWrite Reg.REF_VIRT_FREQ_HI value (byteMask be)) rfl

theorem exec_xppsDeclArm (s : State) (dt i : Nat) (value : Word) (be : Nat) (hi : i < 2) :
    exec (.xppsDeclArm dt i value be) s = .next (((s.advance dt).mmioWrite (Reg.REF_XPPS_DECL_HI i) value (byteMask be)).keeping s) :=
  after_pos s dt _ (fun t => t.mmioWrite (Reg.REF_XPPS_DECL_HI i) value (byteMask be)) (decide_eq_true hi)

theorem exec_outStartRequest (s : State) (dt k : Nat) (value : Word) (be : Nat) (hk : k < 8) :
    exec (.outStartRequest dt k value be) s = .next (((s.advance dt).mmioWrite (Reg.REF_OUT_START_W2 k) value (byteMask be)).keeping s) :=
  after_pos s dt _ (fun t => t.mmioWrite (Reg.REF_OUT_START_W2 k) value (byteMask be)) (decide_eq_true hk)

theorem slotCfg_freq {k : Nat} (hk : k < 16) (quality : Bool) : slotCfg k quality = Reg.REF_SLOT_CFG k := if_pos hk

theorem slotCfg_time (k : Nat) (quality : Bool) :
    slotCfg (16 + k) quality = if quality then Reg.REF_TSLOT_QUAL k else Reg.REF_TSLOT_CFG k := by
  rw [slotCfg, if_neg (by omega), Nat.add_sub_cancel_left]

theorem State.reached_eq (s : State) {off n k : Nat} {r : RegRow} (m : Word) (h : findReg off = some (r, n, k)) :
    s.reached off m = s.dueFirst.reach r n m := by
  simp [State.reached, h]

/-- A write of a frequency slot's CFG that passes its checks. -/
theorem State.mmioWrite_freqSlotCfg (s : State) (k : Nat) (hk : k < 15) (v m : Word) (ht : s.takesWrite (Reg.REF_SLOT_CFG k) v m = true) :
    s.mmioWrite (Reg.REF_SLOT_CFG k) v m =
      ((s.written (Reg.REF_SLOT_CFG k) v m).slotWritten k
        ((Fld.REF_SLOT_CFG_ENABLE k).of ((s.atWrite (Reg.REF_SLOT_CFG k) v m).reg (Reg.REF_SLOT_CFG k)) != 0)
        (decide (k < 8) && (s.reached (Reg.REF_SLOT_CFG k) m &&& (Fld.REF_SLOT_CFG_LANE k).mask) != 0)).rewrite := by
  rw [mmioWrite_REF_SLOT_CFG s k hk v m ht, farEffect_REF_SLOT_CFG, regEffect_REF_SLOT_CFG,
    s.reached_eq m (findReg_REF_SLOT_CFG k hk)]

/-- A write of a time slot's CFG that passes its checks. -/
theorem State.mmioWrite_timeSlotCfg (s : State) (k : Nat) (hk : k < 8) (v m : Word) (ht : s.takesWrite (Reg.REF_TSLOT_CFG k) v m = true) :
    s.mmioWrite (Reg.REF_TSLOT_CFG k) v m =
      ((s.written (Reg.REF_TSLOT_CFG k) v m).slotWritten (16 + k)
        ((Fld.REF_TSLOT_CFG_ENABLE k).of ((s.atWrite (Reg.REF_TSLOT_CFG k) v m).reg (Reg.REF_TSLOT_CFG k)) != 0) false).rewrite := by
  rw [mmioWrite_REF_TSLOT_CFG s k hk v m ht, farEffect_REF_TSLOT_CFG, regEffect_REF_TSLOT_CFG]

/-- A write of a time slot's QUAL that passes its checks. -/
theorem State.mmioWrite_timeSlotQual (s : State) (k : Nat) (hk : k < 8) (v m : Word) (ht : s.takesWrite (Reg.REF_TSLOT_QUAL k) v m = true) :
    s.mmioWrite (Reg.REF_TSLOT_QUAL k) v m = ((s.written (Reg.REF_TSLOT_QUAL k) v m).reselect).rewrite := by
  rw [mmioWrite_REF_TSLOT_QUAL s k hk v m ht, farEffect_REF_TSLOT_QUAL, regEffect_REF_TSLOT_QUAL]

/-- Settles O41: the three slot registers by the effect of each, the last words of values as any write that passes its checks. -/
theorem referenceSettingsTakeEffect : Obligations.ReferenceSettingsTakeEffect := by
  rintro s _ dt value be rfl
  refine ⟨fun k hk ht quality => ?_, fun k hk ht => ?_, fun k hk ht => ?_, fun ht => ?_, fun i hi ht => ?_, fun k hk ht => ?_⟩
  · rw [exec_refSlotCfgWrite s dt k quality value be (by omega), slotCfg_freq (by omega), State.mmioWrite_freqSlotCfg _ k hk _ _ ht]
  · rw [exec_refSlotCfgWrite s dt (16 + k) false value be (by omega), slotCfg_time, if_neg Bool.false_ne_true,
      State.mmioWrite_timeSlotCfg _ k hk _ _ ht]
  · rw [exec_refSlotCfgWrite s dt (16 + k) true value be (by omega), slotCfg_time, if_pos rfl,
      State.mmioWrite_timeSlotQual _ k hk _ _ ht]
  · rw [exec_virtFreqWrite, State.mmioWrite_takes _ _ _ _ ht]
  · rw [exec_xppsDeclArm s dt i value be hi, State.mmioWrite_takes _ _ _ _ ht]
  · rw [exec_outStartRequest s dt k value be hk, State.mmioWrite_takes _ _ _ _ ht]

/-! #### Faults of slots and the waits after them (R239, R240) -/

theorem exec_refSlotFault (s : State) (dt k code : Nat) (off : Int) (dev : Nat) (hk : k < 24) :
    exec (.refSlotFault dt k code off dev) s = .next (((s.advance dt).slotFaultBegins k code off dev).keeping s) :=
  after_pos s dt _ (fun t => t.slotFaultBegins k code off dev) (decide_eq_true hk)

theorem exec_refSlotFaultEnd (s : State) (dt k code : Nat) (off : Int) (hk : k < 24) :
    exec (.refSlotFaultEnd dt k code off) s = .next (((s.advance dt).slotFaultEnds k code off).keeping s) :=
  after_pos s dt _ (fun t => t.slotFaultEnds k code off) (decide_eq_true hk)

theorem exec_refValidateExpiry (s : State) (dt k : Nat) (off : Int) (hk : k < 24) :
    exec (.refValidateExpiry dt k off) s = .next (((s.advance dt).validated k off).keeping s) :=
  after_pos s dt _ (fun t => t.validated k off) (decide_eq_true hk)

theorem exec_refWtrExpiry (s : State) (dt k : Nat) (off : Int) (hk : k < 24) :
    exec (.refWtrExpiry dt k off) s = .next (((s.advance dt).restored k off).keeping s) :=
  after_pos s dt _ (fun t => t.restored k off) (decide_eq_true hk)

/-- Is a condition that begins on a slot a fault of R239: one of the kinds its input can show, an offset only beyond LIMIT, an edge
only outside PPS_WIN? -/
def State.beginsFault (s : State) (k code : Nat) (off : Int) (dev : Nat) : Bool :=
  (inputFaults k).contains code && (if code = 1 then decide (s.f (Fld.REF_SLOT_LIMIT_LIMIT_PPB k) * 1000 < off.natAbs)
    else code != 2 || decide (s.ppsWin k < dev))

/-- An XPPS slot loses the second that was declared for its next edge (R256); another slot keeps what it has. -/
def State.secondDropped (s : State) (k : Nat) : State :=
  if k = 22 ∨ k = 23 then s.setSlot k { s.slot k with nextSec := none } else s

section SlotFaults
variable (s : State) {k : Nat} {off : Int} (hs : isSlot k = true)
include hs

section TimeDomainOn
variable (hon : s.domainOn 2 = true) {code : Nat}
include hon

theorem State.slotFaultBegins_on (dev : Nat) :
    s.slotFaultBegins k code off dev =
      if (s.setSlotFreq k off).beginsFault k code off dev = true then ((s.setSlotFreq k off).secondDropped k).slotFault k code
      else if (s.setSlotFreq k off).shownFault k = some code then (s.setSlotFreq k off).slotCheck k
      else s.setSlotFreq k off :=
  if_pos (Bool.and_eq_true_iff.mpr ⟨hs, hon⟩)

theorem State.slotFaultEnds_on :
    s.slotFaultEnds k code off =
      if code = 1 ∧ (s.setSlotFreq k off).f (Fld.REF_SLOT_LIMIT_LIMIT_PPB k) * 1000 < off.natAbs then s.setSlotFreq k off
      else (s.setSlotFreq k off).slotFaultEnd k code :=
  if_pos (Bool.and_eq_true_iff.mpr ⟨hs, hon⟩)

end TimeDomainOn

section TimerRunOut
variable (ht : (s.slot k).timerAt + (s.slot k).timerS * 625000000 ≤ s.clk)
include ht

theorem State.validated_due (hst : s.slotState k = rsValidating) :
    s.validated k off =
      if ((s.setSlotFreq k off).faultOf k).isSome then (s.setSlotFreq k off).slotCheck k
      else if ((s.setSlotFreq k off).slot k).lost ∧ (s.setSlotFreq k off).slotWtr k ≠ 0 then
        (s.setSlotFreq k off).startSlotTimer k rsWaitRestore ((s.setSlotFreq k off).slotWtr k)
      else (s.setSlotFreq k off).qualify k false :=
  if_pos ⟨hs, hst, (s.passed_iff _ _ _).mpr ht⟩

theorem State.restored_due (hst : s.slotState k = rsWaitRestore) :
    s.restored k off =
      if ((s.setSlotFreq k off).faultOf k).isSome then (s.setSlotFreq k off).slotCheck k else (s.setSlotFreq k off).qualify k true :=
  if_pos ⟨hs, hst, (s.passed_iff _ _ _).mpr ht⟩

end TimerRunOut
end SlotFaults

/-! #### Disagreements (R243) -/

theorem exec_refDisagreeDetect (s : State) (dt i j : Nat) (di dj : Int) (hi : i < 15) (hj : j < 15) :
    exec (.refDisagreeDetect dt i j di dj) s = .next (((s.advance dt).disagreeBegins i j di dj).keeping s) :=
  after_pos s dt _ (fun t => t.disagreeBegins i j di dj) (Bool.and_eq_true_iff.mpr ⟨decide_eq_true hi, decide_eq_true hj⟩)

theorem exec_refDisagreeClear (s : State) (dt i j agreed : Nat) (di dj : Int) (hi : i < 15) (hj : j < 15) :
    exec (.refDisagreeClear dt i j agreed di dj) s = .next (((s.advance dt).disagreeEnds i j agreed di dj).keeping s) :=
  after_pos s dt _ (fun t => t.disagreeEnds i j agreed di dj) (Bool.and_eq_true_iff.mpr ⟨decide_eq_true hi, decide_eq_true hj⟩)

/-- The outcome of R243 for two slots of the offsets given, as event 20 codes it. -/
def State.disagreeOutcome (s : State) (da db : Int) : Nat :=
  if s.warming = true then 3
  else if s.disagreeLimit < 2 * max da.natAbs db.natAbs then (if db.natAbs < da.natAbs then 1 else 2) else 0

/-- A disagreement is entered, marked, reported and weighed. -/
def State.disagreementEntered (s : State) (x : Disagreement) : State :=
  let v : State := { s with ref := { s.ref with disagree := s.ref.disagree ++ [x] } }
  (((v.showMarks x.a).showMarks x.b).raise 20 x.a (v.disagreeDetail x)).reselect

/-- A disagreement of slots `a` and `b` is taken out, its marks with it, its end reported and weighed. -/
def State.disagreementLeft (s : State) (a b : Nat) (x : Disagreement) : State :=
  let v : State := { s with ref := { s.ref with disagree := s.ref.disagree.filter (· != x) } }
  (((v.showMarks a).showMarks b).raiseEnd 20 a (v.disagreeDetail x)).reselect

/-- The two slots measured anew. -/
def State.bothMeasured (s : State) (a b : Nat) (da db : Int) : State := (s.setSlotFreq a da).setSlotFreq b db

section Disagree
variable (s : State) {a b : Nat} {da db : Int} (hab : a < b)
include hab

theorem State.disagreeBegins_beyond (hb : b < 15)
    (hp : (s.bothMeasured a b da db).slotPrio a = (s.bothMeasured a b da db).slotPrio b) (hp0 : (s.bothMeasured a b da db).slotPrio a ≠ 0)
    (hqa : (s.bothMeasured a b da db).slotState a = rsQualified) (hqb : (s.bothMeasured a b da db).slotState b = rsQualified)
    (hd : (s.bothMeasured a b da db).disagreeLimit < (da - db).natAbs)
    (hnew : (s.bothMeasured a b da db).ref.disagree.any (fun x => x.a == a && x.b == b) = false) :
    s.disagreeBegins a b da db =
      (s.bothMeasured a b da db).disagreementEntered ⟨a, b, (s.bothMeasured a b da db).disagreeOutcome da db, (s.bothMeasured a b da db).clk⟩ := by
  unfold State.disagreeBegins
  rw [Nat.min_eq_left (Nat.le_of_lt hab), Nat.max_eq_right (Nat.le_of_lt hab), if_pos (Nat.le_of_lt hab), if_pos (Nat.le_of_lt hab)]
  exact if_pos ⟨hab, hb, hp, hp0, hqa, hqb, hd, hnew⟩

theorem State.disagreeEnds_unknown (agreed : Nat) (hx : s.ref.disagree.find? (fun x => x.a == a && x.b == b) = none) :
    s.disagreeEnds a b agreed da db = s := by
  simp only [State.disagreeEnds, Nat.min_eq_left (Nat.le_of_lt hab), Nat.max_eq_right (Nat.le_of_lt hab), hx]

theorem State.disagreeEnds_agreed {agreed : Nat} {x : Disagreement}
    (hx : s.ref.disagree.find? (fun x => x.a == a && x.b == b) = some x)
    (hd : (da - db).natAbs ≤ (s.bothMeasured a b da db).disagreeLimit)
    (h1 : x.outcome = 1 → (s.bothMeasured a b da db).slotWtr x.a * 625000000 ≤ min agreed ((s.bothMeasured a b da db).clk - x.since))
    (h2 : x.outcome = 2 → (s.bothMeasured a b da db).slotWtr x.b * 625000000 ≤ min agreed ((s.bothMeasured a b da db).clk - x.since)) :
    s.disagreeEnds a b agreed da db = (s.bothMeasured a b da db).disagreementLeft a b x := by
  simp only [State.disagreeEnds, Nat.min_eq_left (Nat.le_of_lt hab), Nat.max_eq_right (Nat.le_of_lt hab), hx]
  refine if_pos ⟨hd, ?_⟩
  by_cases ho1 : x.outcome = 1
  · rw [if_pos ho1]
    exact decide_eq_true (h1 ho1)
  · rw [if_neg ho1]
    by_cases ho2 : x.outcome = 2
    · rw [if_pos ho2]
      exact decide_eq_true (h2 ho2)
    · rw [if_neg ho2]

end Disagree

/-- Settles O42: a fault and its end by what the input shows, the two waits by the fault in force when they run out, and a
disagreement by the entry of the two slots. -/
theorem slotsFaultValidateRestoreAndDisagree : Obligations.SlotsFaultValidateRestoreAndDisagree := by
  rintro s _ dt rfl hon
  refine ⟨fun k code off hk hs => ⟨fun dev => ⟨fun h => ?_, fun h hne => ?_, fun h heq => ?_⟩, fun hc hlim => ?_, fun hin => ?_,
      fun hst ht => ⟨fun hf => ?_, fun hf hl hw => ?_, fun hf hl => ?_⟩, fun hst ht => ⟨fun hf => ?_, fun hf => ?_⟩⟩,
    fun a b da db hab hb => ⟨fun hp hp0 hqa hqb hd hnew => ?_, fun x agreed hx hd h1 h2 => ?_, fun hx agreed => ?_⟩⟩
  · rw [exec_refSlotFault s dt k code off dev hk, State.slotFaultBegins_on _ hs hon, if_pos (show State.beginsFault _ k code off dev = true from h)]
    rfl
  · rw [exec_refSlotFault s dt k code off dev hk, State.slotFaultBegins_on _ hs hon,
      if_neg (show ¬State.beginsFault _ k code off dev = true from Bool.eq_false_iff.mp h), if_neg hne]
  · rw [exec_refSlotFault s dt k code off dev hk, State.slotFaultBegins_on _ hs hon,
      if_neg (show ¬State.beginsFault _ k code off dev = true from Bool.eq_false_iff.mp h), if_pos heq]
  · rw [exec_refSlotFaultEnd s dt k code off hk, State.slotFaultEnds_on _ hs hon, if_pos ⟨hc, hlim⟩]
  · rw [exec_refSlotFaultEnd s dt k code off hk, State.slotFaultEnds_on _ hs hon,
      if_neg fun hout => hin.elim (absurd hout.1) (Nat.not_le.mpr hout.2)]
  · rw [exec_refValidateExpiry s dt k off hk, State.validated_due _ hs ht hst, if_pos (Option.isSome_iff_ne_none.mpr hf)]
  · rw [exec_refValidateExpiry s dt k off hk, State.validated_due _ hs ht hst, if_neg (Option.not_isSome_iff_eq_none.mpr hf), if_pos ⟨hl, hw⟩]
  · rw [exec_refValidateExpiry s dt k off hk, State.validated_due _ hs ht hst, if_neg (Option.not_isSome_iff_eq_none.mpr hf),
      if_neg fun hwait => hl.elim (Bool.eq_false_iff.mp · hwait.1) hwait.2]
  · rw [exec_refWtrExpiry s dt k off hk, State.restored_due _ hs ht hst, if_neg (Option.not_isSome_iff_eq_none.mpr hf)]
  · rw [exec_refWtrExpiry s dt k off hk, State.restored_due _ hs ht hst, if_pos (Option.isSome_iff_ne_none.mpr hf)]
  · rw [exec_refDisagreeDetect s dt a b da db (Nat.lt_trans hab hb) hb, State.disagreeBegins_beyond _ hab hb hp hp0 hqa hqb hd hnew]
    rfl
  · rw [exec_refDisagreeClear s dt a b agreed da db (Nat.lt_trans hab hb) hb, State.disagreeEnds_agreed _ hab hx hd h1 h2]
    rfl
  · rw [exec_refDisagreeClear s dt a b agreed da db (Nat.lt_trans hab hb) hb, State.disagreeEnds_unknown _ hab agreed hx]

end Sys2Proof.Machine

/-! ### Event timing inputs (11_event_timing.md) -/

namespace Sys2Proof.Machine

/-- Equal states give equal answers. -/
theorem next_keeping_congr (s : State) {t t' : State} (h : t = t') : (Host.Outcome.next (t.keeping s) : Answer) = .next (t'.keeping s) :=
  congrArg (fun x : State => Host.Outcome.next (x.keeping s)) h

/-! #### Crossings (R265 to R269) -/

theorem exec_tinEdge (s : State) (dt i : Nat) (rising : Bool) (bin : Nat) (hi : i < 16) (hbin : bin < 512) :
    exec (.tinEdge dt i rising bin) s = .next (((s.advance dt).tinEdge i rising bin).keeping s) :=
  after_pos s dt _ (fun t => t.tinEdge i rising bin) (Bool.and_eq_true_iff.mpr ⟨decide_eq_true hi, decide_eq_true hbin⟩)

/-- A crossing is seen at the comparator, after what waited for an idle period has taken effect. -/
def State.crossingSeen (s : State) (i : Nat) : State :=
  (s.ticApply i).setTic i { (s.ticApply i).tic i with seenAt := some (s.ticApply i).clk }

/-- Does a crossing act as an edge of the input's own measurement? -/
def State.ownEdge (s : State) (i : Nat) (rising : Bool) : Bool :=
  decide (s.ticMode i ≠ 0) && edgeFits (s.ticEdgeSel i) rising

/-- HOLDOFF of an input, in units of 2^-16 ns. -/
def State.holdoff (s : State) (i : Nat) : Nat := (s.reg (Reg.TIC_HOLDOFF i)).toNat * 1000 * 65536

/-- Does an edge fall within HOLDOFF of the last stamp (R268)? -/
def State.withinHoldoff (s : State) (i : Nat) (e : Edge) : Bool :=
  match (s.tic i).last with
  | some l => decide (s.holdoff i ≠ 0) && decide (l.stamp ≤ e.stamp) && decide (e.stamp < l.stamp + s.holdoff i)
  | none => false

/-- An edge that the blind time hides (R267). -/
def State.edgeMissed (s : State) (i : Nat) (e : Edge) : State :=
  ((s.freqBlind i e).setTic i { (s.freqBlind i e).tic i with missed := ((s.freqBlind i e).tic i).missed + 1 }).bump (Reg.TIC_MISSED i)

/-- An edge that the converter captures at a place on the tick count, for the input's own measurement and for others' (R269). -/
def State.edgeTaken (s : State) (i : Nat) (e : Edge) (place : Int) (own : Bool) (users : List Nat) : State :=
  (((s.setTic i { s.tic i with last := some e, lastAt := place }).bump (Reg.TIC_EDGES i)).extGather i e).ticCaptured i e own users

/-- A crossing that the prescaler has passed is held off, missed or taken. -/
def State.edgeStamped (s : State) (i : Nat) (e : Edge) (place : Int) (own : Bool) (users : List Nat) : State :=
  if s.withinHoldoff i e = true then s.bump (Reg.TIC_HELDOFF i)
  else if (s.tic i).blind place = true then s.edgeMissed i e
  else s.edgeTaken i e place own users

/-- A crossing during a calibration with the user's reference: a hit, of the selected sense and outside the blind time (R284). -/
def State.referenceHit (s : State) (i : Nat) (rising : Bool) (bin : Nat) : State :=
  if (edgeFits (s.ticEdgeSel i) rising && !(s.tic i).blind (s.edgePlace i bin)) = true then
    (s.setTic i { s.tic i with last := some (s.edgeAt i bin rising), lastAt := s.edgePlace i bin }).bump (Reg.TIC_CAL_HITS i)
  else s

section Crossing
variable (s : State) {i : Nat} (rising : Bool) (bin : Nat)

theorem State.tinEdge_unused (h : s.domainOn 3 = false ∨ s.tinFn i = 0) : s.tinEdge i rising bin = s :=
  if_pos (.inr h)

section InUse
variable (hi : i < 16) (hon : s.domainOn 3 = true) (hfn : s.tinFn i ≠ 0)
include hi hon hfn

/-- On an input in use a crossing goes to the calibration with the user's reference, to no one, or on through the prescaler. -/
theorem State.tinEdge_inUse :
    s.tinEdge i rising bin =
      if (s.crossingSeen i).calExt i = true then (s.crossingSeen i).referenceHit i rising bin
      else if (!(s.crossingSeen i).ownEdge i rising && ((s.crossingSeen i).stopUsers i rising).isEmpty) = true then s.crossingSeen i
      else if ((s.crossingSeen i).prescale i).1 = false then ((s.crossingSeen i).prescale i).2
      else ((s.crossingSeen i).prescale i).2.edgeStamped i (((s.crossingSeen i).prescale i).2.edgeAt i bin rising)
        ((s.crossingSeen i).edgePlace i bin) ((s.crossingSeen i).ownEdge i rising) ((s.crossingSeen i).stopUsers i rising) := by
  refine if_neg ?_
  rintro (h | h | h)
  · exact Nat.not_le.mpr hi h
  · exact Bool.false_ne_true (h.symm.trans hon)
  · exact hfn h

theorem State.tinEdge_reference (hext : (s.crossingSeen i).calExt i = true) :
    s.tinEdge i rising bin = (s.crossingSeen i).referenceHit i rising bin := by
  rw [State.tinEdge_inUse s rising bin hi hon hfn, if_pos hext]

variable (hext : (s.crossingSeen i).calExt i = false)
include hext

theorem State.tinEdge_unclaimed (hown : (s.crossingSeen i).ownEdge i rising = false) (husers : (s.crossingSeen i).stopUsers i rising = []) :
    s.tinEdge i rising bin = s.crossingSeen i := by
  rw [State.tinEdge_inUse s rising bin hi hon hfn, if_neg (Bool.eq_false_iff.mp hext), hown, husers]
  rfl

section Claimed
variable (hused : (s.crossingSeen i).ownEdge i rising = true ∨ (s.crossingSeen i).stopUsers i rising ≠ [])
include hused

theorem State.tinEdge_claimed :
    s.tinEdge i rising bin =
      if ((s.crossingSeen i).prescale i).1 = false then ((s.crossingSeen i).prescale i).2
      else ((s.crossingSeen i).prescale i).2.edgeStamped i (((s.crossingSeen i).prescale i).2.edgeAt i bin rising)
        ((s.crossingSeen i).edgePlace i bin) ((s.crossingSeen i).ownEdge i rising) ((s.crossingSeen i).stopUsers i rising) := by
  have hclaim : ¬(!(s.crossingSeen i).ownEdge i rising && ((s.crossingSeen i).stopUsers i rising).isEmpty) = true := by
    rw [Bool.and_eq_true, Bool.not_eq_true', List.isEmpty_iff]
    rintro ⟨hown, husers⟩
    exact hused.elim (fun h => Bool.false_ne_true (hown.symm.trans h)) (· husers)
  rw [State.tinEdge_inUse s rising bin hi hon hfn, if_neg (Bool.eq_false_iff.mp hext), if_neg hclaim]

theorem State.tinEdge_prescaled (hpass : ((s.crossingSeen i).prescale i).1 = false) :
    s.tinEdge i rising bin = ((s.crossingSeen i).prescale i).2 := by
  rw [State.tinEdge_claimed s rising bin hi hon hfn hext hused, if_pos hpass]

theorem State.tinEdge_passed (hpass : ((s.crossingSeen i).prescale i).1 = true) :
    s.tinEdge i rising bin =
      ((s.crossingSeen i).prescale i).2.edgeStamped i (((s.crossingSeen i).prescale i).2.edgeAt i bin rising)
        ((s.crossingSeen i).edgePlace i bin) ((s.crossingSeen i).ownEdge i rising) ((s.crossingSeen i).stopUsers i rising) := by
  rw [State.tinEdge_claimed s rising bin hi hon hfn hext hused, if_neg (ne_false_of_eq_true hpass)]

end Claimed
end InUse
end Crossing

section Stamped
variable (s : State) {i : Nat} {e : Edge} (place : Int) (own : Bool) (users : List Nat)

/-- The first edge of an input is never held off or missed. -/
theorem State.edgeStamped_first (hlast : (s.tic i).last = none) : s.edgeStamped i e place own users = s.edgeTaken i e place own users := by
  simp [State.edgeStamped, State.withinHoldoff, Tin.blind, hlast]

variable {l : Edge} (hlast : (s.tic i).last = some l)
include hlast

theorem State.withinHoldoff_iff :
    s.withinHoldoff i e = true ↔ s.holdoff i ≠ 0 ∧ l.stamp ≤ e.stamp ∧ e.stamp < l.stamp + s.holdoff i := by
  simp only [State.withinHoldoff, hlast, Bool.and_eq_true, decide_eq_true_iff, and_assoc]

theorem State.blind_iff : (s.tic i).blind place = true ↔ place - (s.tic i).lastAt < 8 * 655360 := by
  simp only [Tin.blind, hlast, Option.isSome_some, Bool.true_and, decide_eq_true_iff]

theorem State.edgeStamped_held (h0 : s.holdoff i ≠ 0) (hle : l.stamp ≤ e.stamp) (hlt : e.stamp < l.stamp + s.holdoff i) :
    s.edgeStamped i e place own users = s.bump (Reg.TIC_HELDOFF i) :=
  if_pos ((s.withinHoldoff_iff hlast).mpr ⟨h0, hle, hlt⟩)

section Beyond
variable (hpast : s.holdoff i = 0 ∨ e.stamp < l.stamp ∨ l.stamp + s.holdoff i ≤ e.stamp)
include hpast

theorem State.edgeStamped_beyond :
    s.edgeStamped i e place own users = if (s.tic i).blind place = true then s.edgeMissed i e else s.edgeTaken i e place own users := by
  refine if_neg ?_
  rw [s.withinHoldoff_iff hlast]
  rintro ⟨h0, hle, hlt⟩
  exact hpast.elim h0 fun h => h.elim (Nat.not_lt.mpr hle) (Nat.not_le.mpr hlt)

theorem State.edgeStamped_missed (hblind : place - (s.tic i).lastAt < 8 * 655360) :
    s.edgeStamped i e place own users = s.edgeMissed i e := by
  rw [State.edgeStamped_beyond s place own users hlast hpast, if_pos ((s.blind_iff place hlast).mpr hblind)]

theorem State.edgeStamped_taken (hclear : ¬place - (s.tic i).lastAt < 8 * 655360) :
    s.edgeStamped i e place own users = s.edgeTaken i e place own users := by
  rw [State.edgeStamped_beyond s place own users hlast hpast, if_neg (mt (s.blind_iff place hlast).mp hclear)]

end Beyond

end Stamped

/-- Settles O45: the branches of a crossing in the order of R265 to R269, the holdoff before the blind time. -/
theorem edgesOfTimingInputsAreCountedOrHeld : Obligations.EdgesOfTimingInputsAreCountedOrHeld := by
  rintro s _ dt i rising bin rfl hi hbin
  rw [exec_tinEdge s dt i rising bin hi hbin]
  refine ⟨fun hout => ?_, fun hon hfn => ⟨fun hext => ?_, fun hext hown husers => ?_, fun hext hused => ⟨fun hpass => ?_, fun hpass =>
    ⟨fun hlast => ?_, fun l hlast => ⟨fun h0 hle hlt => ?_, fun hpast => ⟨fun hblind => ?_, fun hclear => ?_⟩⟩⟩⟩⟩⟩
  · exact next_keeping_congr s (State.tinEdge_unused _ rising bin hout)
  · exact next_keeping_congr s (State.tinEdge_reference _ rising bin hi hon hfn hext)
  · exact next_keeping_congr s (State.tinEdge_unclaimed _ rising bin hi hon hfn hext hown husers)
  · exact next_keeping_congr s (State.tinEdge_prescaled _ rising bin hi hon hfn hext hused hpass)
  all_goals rw [State.tinEdge_passed _ rising bin hi hon hfn hext hused hpass]
  · exact next_keeping_congr s (State.edgeStamped_first _ _ _ _ hlast)
  · exact next_keeping_congr s (State.edgeStamped_held _ _ _ _ hlast h0 hle hlt)
  · exact next_keeping_congr s (State.edgeStamped_missed _ _ _ _ hlast hpast hblind)
  · exact next_keeping_congr s (State.edgeStamped_taken _ _ _ _ hlast hpast hclear)

/-! #### Arming, settings, timeouts, gates and calibration launches (R274 to R277, R282, R285) -/

theorem exec_tinArm (s : State) (dt i : Nat) (value : Word) (be : Nat) (hi : i < 16) :
    exec (.tinArm dt i value be) s =
      .next (((s.advance dt).mmioWrite (Reg.TIC_CTRL i) ((Fld.TIC_CTRL_ARM i).into value 1) ((Fld.TIC_CTRL_ARM i).select be)).keeping s) :=
  after_pos s dt _ (fun t => t.writeField (Fld.TIC_CTRL_ARM i) 1 value be) (decide_eq_true hi)

theorem exec_tinDisarm (s : State) (dt i : Nat) (value : Word) (be : Nat) (hi : i < 16) :
    exec (.tinDisarm dt i value be) s =
      .next (((s.advance dt).mmioWrite (Reg.TIC_CTRL i) ((Fld.TIC_CTRL_DISARM i).into value 1) ((Fld.TIC_CTRL_DISARM i).select be)).keeping s) :=
  after_pos s dt _ (fun t => t.writeField (Fld.TIC_CTRL_DISARM i) 1 value be) (decide_eq_true hi)

theorem exec_ticCfgWrite (s : State) (dt i : Nat) (value : Word) (be : Nat) (hi : i < 16) :
    exec (.ticCfgWrite dt i value be) s = .next (((s.advance dt).mmioWrite (Reg.TIC_CFG i) value (byteMask be)).keeping s) :=
  after_pos s dt _ (fun t => t.mmioWrite (Reg.TIC_CFG i) value (byteMask be)) (decide_eq_true hi)

section Units
variable (s : State) (dt : Nat) {i : Nat} (hi : i < 16)
include hi

theorem exec_tinIntervalTimeout : exec (.tinIntervalTimeout dt i) s = .next (((s.advance dt).ticTimeout i).keeping s) :=
  after_pos s dt _ (fun t => t.ticTimeout i) (decide_eq_true hi)

theorem exec_tinFreqGate (extra : Nat) : exec (.tinFreqGate dt i extra) s = .next (((s.advance dt).freqGate i extra).keeping s) :=
  after_pos s dt _ (fun t => t.freqGate i extra) (decide_eq_true hi)

theorem exec_tinSettingApply : exec (.tinSettingApply dt i) s = .next (((s.advance dt).ticApply i).keeping s) :=
  after_pos s dt _ (fun t => t.ticApply i) (decide_eq_true hi)

theorem exec_tinCalLaunch : exec (.tinCalLaunch dt i) s = .next (((s.advance dt).calLaunch i).keeping s) :=
  after_pos s dt _ (fun t => t.calLaunch i) (decide_eq_true hi)

end Units

/-- The effect of the bits of TIC_CTRL that a write sets, ARM before DISARM (R275). -/
def State.ticCommanded (s : State) (i : Nat) (p : Word) : State :=
  if (Fld.TIC_CTRL_DISARM i).of p ≠ 0 then (if (Fld.TIC_CTRL_ARM i).of p ≠ 0 then s.ticArm i else s).ticDisarm i
  else if (Fld.TIC_CTRL_ARM i).of p ≠ 0 then s.ticArm i else s

/-- A write of TIC_CTRL that passes its checks. -/
theorem State.mmioWrite_ticCtrl (s : State) {i : Nat} (hi : i < 16) (v m : Word) (ht : s.takesWrite (Reg.TIC_CTRL i) v m = true) :
    s.mmioWrite (Reg.TIC_CTRL i) v m =
      ((s.written (Reg.TIC_CTRL i) v m).ticCommanded i (s.pulsed (Reg.TIC_CTRL i) v m)).rewrite := by
  rw [mmioWrite_TIC_CTRL s i hi v m ht, farEffect_TIC_CTRL, regEffect_TIC_CTRL]
  simp only [bne_iff_ne, State.ticCommanded]

section TimingInput
variable (s : State) {i : Nat}

theorem State.ticTimeout_opened {a : Bool} {b : Edge} {t : Nat} (h : (s.tic i).opened = some (a, b, t)) :
    s.ticTimeout i = if Machine.reached (t + max (s.settleTime i) (s.settleTime (s.ticStopSrc i))) s.now16 = true then s.ticCut i 4 t else s := by
  simp only [State.ticTimeout, h]

theorem State.freqGate_otherMode (extra : Nat) (h : s.ticMode i ≠ 4) : s.freqGate i extra = s :=
  if_neg fun hgate => h hgate.1

/-- A gate that has ended before its first edge came: there is nothing to count beside it. -/
theorem State.freqGate_ended (extra : Nat) (hm : s.ticMode i = 4) (hon : s.domainOn 3 = true) (hg : (s.tic i).gate ≤ s.now16 / s.gateLen i)
    (he : (s.tic i).e0 = none) :
    s.freqGate i extra =
      let v := (s.bumpBy (Reg.TIC_EDGES i) 0).setTic i { s.tic i with cnt := (s.tic i).cnt + 0 }
      if ((s.tic i).gate + 1) * v.gateLen i ≤ v.now16 ∧ ((s.tic i).e1.isSome = true ∨ (s.tic i).cnt + 0 < 2) then v.freqClose i none else v := by
  rw [State.freqGate, if_pos ⟨hm, hon, hg⟩]
  simp only [he, Option.isSome_none, Bool.false_eq_true, if_false]

/-- The settings that wait for an idle period, in force. -/
def State.ticSettled (s : State) (i : Nat) : State := if (s.tic i).kept.isSome = true then s.ticForce i else s

theorem State.ticSettled_none (h : (s.tic i).kept = none) : s.ticSettled i = s :=
  if_neg (Option.not_isSome_iff_eq_none.mpr h)

theorem State.ticApply_busy (h : s.ticIdle i = false) : s.ticApply i = s := by
  simp only [State.ticApply, h, Bool.false_and, Bool.false_eq_true, if_false]

section Idle
variable (hidle : s.ticIdle i = true) (hon : s.domainOn 3 = true) (hi : i < 16)
include hidle hon hi

theorem State.ticApply_idle :
    s.ticApply i = match ((s.ticSettled i).tic i).nextBins with
      | none => s.ticSettled i
      | some (l, widest) => (s.ticSettled i).ticTable i l widest := by
  have hnow : (s.ticIdle i && s.domainOn 3 && decide (i < 16)) = true := by
    rw [hidle, hon, decide_eq_true hi]
    rfl
  rw [State.ticApply, if_pos hnow]
  rfl

theorem State.ticApply_settings (h : ((s.ticSettled i).tic i).nextBins = none) : s.ticApply i = s.ticSettled i := by
  rw [State.ticApply_idle s hidle hon hi, h]

theorem State.ticApply_table {l : List Nat} {widest : Nat} (h : ((s.ticSettled i).tic i).nextBins = some (l, widest)) :
    s.ticApply i = (s.ticSettled i).ticTable i l widest := by
  rw [State.ticApply_idle s hidle hon hi, h]

end Idle

theorem State.tic_setTic (x : Tin) (j : Nat) : (s.setTic i x).tic j = if j = i then x else s.tic j :=
  Store.get_set _ _ _ _ _

theorem State.tic_keeping (t : State) (j : Nat) : (t.keeping s).tic j = t.tic j := rfl

section Table
variable (l : List Nat) (widest : Nat)

theorem State.tic_ticTable (j : Nat) :
    (s.ticTable i l widest).tic j =
      if j = i then { s.tic i with bins := if l.isEmpty then none else some l, nextBins := none, tableAt := s.clk } else s.tic j :=
  s.tic_setTic _ _

theorem State.ticTable_evt : (s.ticTable i l widest).evt = s.evt := rfl

theorem State.reg_ticTable_widest : (s.ticTable i l widest).reg (Reg.TIC_MAX_BIN i) = BitVec.ofNat 32 widest :=
  State.reg_setReg_same _ _ _

theorem State.reg_ticTable_ne (off : Nat) (hmax : off ≠ Reg.TIC_MAX_BIN i) (hst : off ≠ Reg.TIC_STATUS i) :
    (s.ticTable i l widest).reg off = s.reg off := by
  unfold State.ticTable
  rw [State.reg_setReg_ne _ _ _ _ hmax, State.reg_setFlag_ne _ _ _ _ hst, State.reg_setFlag_ne _ _ _ _ hst]
  rfl

theorem State.flag_ticTable_factory : (s.ticTable i l widest).flag (Fld.TIC_STATUS_FACTORY_TABLE i) = l.isEmpty := by
  have hmax : (Fld.TIC_STATUS_FACTORY_TABLE i).off ≠ Reg.TIC_MAX_BIN i := by
    show 0x1B0018 + i * 0x100 ≠ 0x1B0058 + i * 0x100
    omega
  unfold State.ticTable State.flag
  rw [State.f_setReg_off _ _ _ _ hmax,
    State.f_setFlag_apart _ (Fld.TIC_STATUS_CAL_PENDING i) (Fld.TIC_STATUS_FACTORY_TABLE i) _ rfl (.inr (by decide : 2 + 1 ≤ 3)) (by decide : 2 + 1 ≤ 32)]
  exact State.flag_setFlag_same _ _ _ (by decide : 2 + 1 ≤ 32) (by decide : 0 < 1)

theorem State.flag_ticTable_pending : (s.ticTable i l widest).flag (Fld.TIC_STATUS_CAL_PENDING i) = l.isEmpty := by
  have hmax : (Fld.TIC_STATUS_CAL_PENDING i).off ≠ Reg.TIC_MAX_BIN i := by
    show 0x1B0018 + i * 0x100 ≠ 0x1B0058 + i * 0x100
    omega
  unfold State.ticTable State.flag
  rw [State.f_setReg_off _ _ _ _ hmax]
  exact State.flag_setFlag_same _ _ _ (by decide : 3 + 1 ≤ 32) (by decide : 0 < 1)

end Table

theorem State.calLaunch_quiet {r : CalRun} (hi : i < 16) (hon : s.domainOn 3 = true) (hr : Store.get (fun _ => none) s.cal.runs i = some r)
    (hown : r.ext = false) (hseen : (s.tic i).seenAt = none) (hopen : (s.tic i).opened = none) (hgap : (s.tic i).launchAt + 25 ≤ s.clk) :
    s.calLaunch i = (s.setTic i { s.tic i with launchAt := s.clk }).bump (Reg.TIC_CAL_HITS i) := by
  simp [State.calLaunch, hi, hon, hr, hown, hseen, hopen, hgap]

theorem State.calLaunch_early (h : s.clk < (s.tic i).launchAt + 25) : s.calLaunch i = s := by
  have hgap : decide ((s.tic i).launchAt + 25 ≤ s.clk) = false := decide_eq_false (Nat.not_le.mpr h)
  simp only [State.calLaunch, hgap, Bool.and_false, Bool.false_eq_true, if_false]

end TimingInput

/-- Settles O46: the writes by what their registers' rows do, an open measurement by its stored timeout, the gate, the idle period and
the launch each by its own condition. -/
theorem timingInputsAreArmedSetAndTimedOut : Obligations.TimingInputsAreArmedSetAndTimedOut := by
  rintro s _ dt i rfl hi
  rw [exec_tinSettingApply s dt hi, exec_tinCalLaunch s dt hi]
  refine ⟨fun value be => ⟨fun ht => ?_, fun ht => ?_, fun ht => ?_⟩, fun a b t hopen => ⟨fun hdue => ?_, fun hdue => ?_⟩,
    fun extra => ⟨fun hm => ?_, fun hm hon hg he => ?_⟩, fun hidle hon => ⟨fun hbins => ?_, fun l widest hbins => ?_⟩,
    fun hidle hon hkept l widest hbins hl => ?_, fun hbusy => ?_, fun r hon hr hown hseen hopen hgap => ?_, fun hearly => ?_⟩
  · rw [exec_tinArm s dt i value be hi, State.mmioWrite_ticCtrl _ hi _ _ ht]
    rfl
  · rw [exec_tinDisarm s dt i value be hi, State.mmioWrite_ticCtrl _ hi _ _ ht]
    rfl
  · rw [exec_ticCfgWrite s dt i value be hi, mmioWrite_TIC_CFG _ i hi _ _ ht]
  · rw [exec_tinIntervalTimeout s dt hi, State.ticTimeout_opened _ hopen, if_pos hdue]
  · rw [exec_tinIntervalTimeout s dt hi, State.ticTimeout_opened _ hopen, if_neg (Bool.eq_false_iff.mp hdue)]
  · rw [exec_tinFreqGate s dt hi, State.freqGate_otherMode _ _ hm]
  · rw [exec_tinFreqGate s dt hi, State.freqGate_ended _ _ hm hon hg he]
  · rw [State.ticApply_settings _ hidle hon hi hbins]
    rfl
  · rw [State.ticApply_table _ hidle hon hi hbins]
    rfl
  · have hsettled : (s.advance dt).ticSettled i = s.advance dt := State.ticSettled_none _ hkept
    have hempty : l.isEmpty = false := List.isEmpty_eq_false_iff.mpr hl
    rw [State.ticApply_table (s.advance dt) hidle hon hi (hsettled.symm ▸ hbins), hsettled]
    have htic := State.tic_ticTable (s.advance dt) (i := i) l widest i
    rw [if_pos rfl, hempty] at htic
    refine ⟨_, rfl, ?_, ?_, ?_, ?_, ?_, ?_, fun off hmax hst => ?_, fun j hj => ?_, ?_⟩
    · rw [State.tic_keeping, htic]
      rfl
    · rw [State.tic_keeping, htic]
    · rw [State.tic_keeping, htic]
    · rw [State.flag_keeping, State.flag_ticTable_factory, hempty]
    · rw [State.flag_keeping, State.flag_ticTable_pending, hempty]
    · rw [State.reg_keeping, State.reg_ticTable_widest]
    · rw [State.reg_keeping, State.reg_ticTable_ne _ _ _ _ hmax hst]
    · rw [State.tic_keeping, State.tic_ticTable, if_neg hj]
    · rw [State.keeping_evt, State.ticTable_evt]
  · rw [State.ticApply_busy _ hbusy]
  · rw [State.calLaunch_quiet _ hi hon hr hown hseen hopen hgap]
  · rw [State.calLaunch_early _ hearly]

end Sys2Proof.Machine

/-! ### Self-calibration (12_calibration.md) -/

namespace Sys2Proof.Machine

/-! #### The ends of interpolator, phase detector and output runs (R283, R291, R294, R300, R301) -/

section CalRows
variable (s : State) (dt : Nat)

theorem exec_interpCalDone {j : Nat} (hj : j < 203) (fault : Nat) (taps hits : List Nat) :
    exec (.interpCalDone dt j fault taps hits) s = .next (((s.advance dt).interpDone j fault taps hits).keeping s) :=
  after_pos s dt _ (fun t => t.interpDone j fault taps hits) (decide_eq_true hj)

theorem exec_phaseDetCalDone {j : Nat} (hj : j < 203) (samples : Nat) (steps : List Nat) (table : List Int) :
    exec (.phaseDetCalDone dt j samples steps table) s = .next (((s.advance dt).phaseDone j samples steps table).keeping s) :=
  after_pos s dt _ (fun t => t.phaseDone j samples steps table) (decide_eq_true hj)

theorem exec_outputCalDone {k : Nat} (hk : k < 8) (errs : List Int) (cells : List Nat) :
    exec (.outputCalDone dt k errs cells) s = .next (((s.advance dt).outputDone k errs cells).keeping s) :=
  after_pos s dt _ (fun t => t.outputDone k errs cells) (decide_eq_true hk)

end CalRows

theorem State.interpDone_idle (s : State) {j : Nat} (h : s.calRun j = none) (fault : Nat) (taps hits : List Nat) :
    s.interpDone j fault taps hits = s := by
  simp only [State.interpDone, h]

theorem State.phaseDone_idle (s : State) {j : Nat} (h : s.calRun j = none) (samples : Nat) (steps : List Nat) (table : List Int) :
    s.phaseDone j samples steps table = s := by
  simp only [State.phaseDone, h]

/-- The taps chosen and the new bin centres of an interpolator run are kept, and come into force with the next idle period. -/
def State.interpKept (s : State) (j : Nat) (taps hits : List Nat) : State :=
  let l := binCentres (2 ^ s.hitsLog2 j) 0 hits
  let v := s.pickCells j 0 (chooseTaps taps)
  if j < 16 then (v.setTic j { v.tic j with nextBins := some (l, widestBin hits) }).ticApply j
  else ({ v with cal := { v.cal with refNext := Store.set (fun _ => none) v.cal.refNext j (some l) } } : State).refTable j

section RunInProgress
variable (s : State) {j : Nat} {r : CalRun} (hr : s.calRun j = some r)
include hr

section Interpolator
variable (ht : calType j = 1 ∨ calType j = 2) (taps hits : List Nat)
include ht

/-- How an interpolator run in progress ends, in the order in which its causes are looked at. -/
theorem State.interpDone_running (fault : Nat) :
    s.interpDone j fault taps hits =
      if fault = 1 then s.runFailed j r (if r.ext then 4 else 1) 1 0
      else if fault = 5 ∨ fault = 6 then (if r.ext then s.runFailed j r 4 fault 0 else s)
      else if s.overdue j r = true then s.runFailed j r 3 4 (taps.sum + hits.sum)
      else if fault ≠ 0 ∨ taps.length ≠ 640 ∨ hits.length ≠ 512 ∨ 4 * taps.sum ≠ 2 ^ s.hitsLog2 j ∨ hits.sum ≠ 2 ^ s.hitsLog2 j then s
      else if binTooWide hits = true then s.runFailed j r 1 2 (widestBin hits)
      else (s.interpKept j taps hits).runDone j r (widestBin hits) := by
  simp only [State.interpDone, hr]
  exact if_neg fun hne => ht.elim hne.1 hne.2

theorem State.interpDone_reference (hext : r.ext = true) {fault : Nat} (hf : fault = 5 ∨ fault = 6) :
    s.interpDone j fault taps hits = s.runFailed j r 4 fault 0 := by
  rw [State.interpDone_running s hr ht, if_neg (by omega), if_pos hf, if_pos hext]

theorem State.interpDone_overdue (hlate : s.overdue j r = true) :
    s.interpDone j 4 taps hits = s.runFailed j r 3 4 (taps.sum + hits.sum) := by
  rw [State.interpDone_running s hr ht, if_neg (by decide), if_neg (by decide), if_pos hlate]

/-- A run with all its hits within the line: its widest bin decides. -/
theorem State.interpDone_complete (hlate : s.overdue j r = false) (htl : taps.length = 640) (hhl : hits.length = 512)
    (hts : 4 * taps.sum = 2 ^ s.hitsLog2 j) (hhs : hits.sum = 2 ^ s.hitsLog2 j) :
    s.interpDone j 0 taps hits =
      if binTooWide hits = true then s.runFailed j r 1 2 (widestBin hits) else (s.interpKept j taps hits).runDone j r (widestBin hits) := by
  have hall : ¬((0 : Nat) ≠ 0 ∨ taps.length ≠ 640 ∨ hits.length ≠ 512 ∨ 4 * taps.sum ≠ 2 ^ s.hitsLog2 j ∨ hits.sum ≠ 2 ^ s.hitsLog2 j) := by
    simp only [htl, hhl, hts, hhs, ne_eq, not_true_eq_false, or_self, not_false_eq_true]
  rw [State.interpDone_running s hr ht, if_neg (by decide), if_neg (by decide), if_neg (Bool.eq_false_iff.mp hlate), if_neg hall]

end Interpolator

/-- A phase detector run in progress fails past its time, goes on without its samples, and writes its table with them. -/
theorem State.phaseDone_running (ht : calType j = 3) (samples : Nat) (steps : List Nat) (table : List Int) :
    s.phaseDone j samples steps table =
      if s.overdue j r = true then s.runFailed j r 3 4 samples
      else if samples < 2 ^ 18 ∨ steps.length ≠ 40 ∨ s.blocksSince j r < 8 * 64 * samples then s
      else
        let v := s.pickCells j 0 (chooseDither steps)
        State.runDone { v with cal := { v.cal with linear := Store.set (fun _ => none) v.cal.linear (j - 32) (some table) } } j r (largestOf table) := by
  simp only [State.phaseDone, hr]
  exact if_neg (not_not_intro ht)

end RunInProgress

/-- The errors that an output run goes by: those its input has stamped for an external run, else those of its sense path. -/
def State.errorsSeen (s : State) (k : Nat) (r : CalRun) (errs : List Int) : List Int :=
  if r.ext = true then Store.get (fun _ => []) s.cal.extErrs k else errs

/-- The change of trim that an output run finds. -/
def State.trimFound (s : State) (k : Nat) (r : CalRun) (errs : List Int) : Int :=
  trimChange ((s.errorsSeen k r errs).take (s.trimEdges k))

/-- How far the new trim lies from the factory value, in units of 100 fs. -/
def State.trimOffset (s : State) (k : Nat) (change : Int) : Int :=
  s.trimNow k + change - s.figureNow (192 + k) (figTrim k) 0

/-- A change of an output's trim is kept until its next boundary of R261, with the cells chosen. -/
def State.trimKept (s : State) (k : Nat) (change : Int) (cells : List Nat) : State :=
  let v := s.setReg (Reg.CAL_OUT_TRIM k) (BitVec.ofNat 32 (unsigned 16 (s.trimNow k)))
  let v := v.setOut k { v.out k with newTrim := some (v.boundary k, s.trimNow k + change) }
  v.pickCells (192 + k) 0 cells

/-- A measured output run fails where its trim would lie beyond 100 ps of the factory value, and is kept otherwise. -/
def State.trimDone (s : State) (k : Nat) (r : CalRun) (errs : List Int) (cells : List Nat) : State :=
  let change := s.trimFound k r errs
  if 1000 < (s.trimOffset k change).natAbs then s.runFailed (192 + k) r 1 3 (s.trimOffset k change * 100)
  else (s.trimKept k change cells).runDone (192 + k) r (change * 100)

section OutputRun
variable (s : State) {k : Nat} {r : CalRun} (hr : s.calRun (192 + k) = some r) (errs : List Int) (cells : List Nat)
include hr

/-- How an output run in progress ends, in the order in which its causes are looked at. -/
theorem State.outputDone_running :
    s.outputDone k errs cells =
      if s.calUseless (192 + k) r.ext = true then s.endRun (192 + k) r 5
      else if (r.ext && (s.errorsSeen k r errs).isEmpty && decide (3 * Config.ticksPerS ≤ (s.clk - r.since) * s.edgeRate k)) = true then
        s.runFailed (192 + k) r 4 6 0
      else if s.overdue (192 + k) r = true then s.runFailed (192 + k) r 3 4 (s.errorsSeen k r errs).length
      else if (s.errorsSeen k r errs).length < s.trimEdges k ∨ chosen 64 80 cells = false then s
      else s.trimDone k r errs cells := by
  simp only [State.outputDone, hr]
  rfl

theorem State.outputDone_useless (h : s.calUseless (192 + k) r.ext = true) : s.outputDone k errs cells = s.endRun (192 + k) r 5 := by
  rw [State.outputDone_running s hr, if_pos h]

variable (hu : s.calUseless (192 + k) r.ext = false)
include hu

theorem State.outputDone_noEdge (hext : r.ext = true) (hnone : s.errorsSeen k r errs = [])
    (hp : 3 * Config.ticksPerS ≤ (s.clk - r.since) * s.edgeRate k) : s.outputDone k errs cells = s.runFailed (192 + k) r 4 6 0 := by
  rw [State.outputDone_running s hr, if_neg (Bool.eq_false_iff.mp hu), if_pos]
  rw [hext, hnone, decide_eq_true hp]
  rfl

variable (hsome : r.ext = false ∨ s.errorsSeen k r errs ≠ [])
include hsome

/-- A run of the sense path, or one whose input has stamped an edge, is not without a reference. -/
theorem State.outputDone_seen :
    s.outputDone k errs cells =
      if s.overdue (192 + k) r = true then s.runFailed (192 + k) r 3 4 (s.errorsSeen k r errs).length
      else if (s.errorsSeen k r errs).length < s.trimEdges k ∨ chosen 64 80 cells = false then s
      else s.trimDone k r errs cells := by
  rw [State.outputDone_running s hr, if_neg (Bool.eq_false_iff.mp hu), if_neg]
  rw [Bool.and_eq_true, Bool.and_eq_true, List.isEmpty_iff]
  rintro ⟨⟨hext, hnone⟩, -⟩
  exact hsome.elim (Bool.eq_false_iff.mp · hext) (· hnone)

theorem State.outputDone_measured (hlate : s.overdue (192 + k) r = false) (hn : s.trimEdges k ≤ (s.errorsSeen k r errs).length)
    (hc : chosen 64 80 cells = true) :
    s.outputDone k errs cells = s.trimDone k r errs cells := by
  rw [State.outputDone_seen s hr errs cells hu hsome, if_neg (Bool.eq_false_iff.mp hlate), if_neg]
  exact fun h => h.elim (Nat.not_lt.mpr hn) (Bool.eq_false_iff.mp · hc)

end OutputRun

/-- Settles O47: each kind of run by the first of its causes that applies. -/
theorem calibrationRunsEnd : Obligations.CalibrationRunsEnd := by
  rintro s _ dt j rfl hj
  refine ⟨fun hnone fault taps hits samples steps table => ⟨?_, ?_⟩,
    fun r hr => ⟨fun ht taps hits => ⟨?_, fun hext => ⟨?_, ?_⟩, fun hlate => ?_, fun hlate htl hhl hts hhs =>
        ⟨fun hw => ?_, fun hw hin => ?_, fun hw hin => ?_⟩⟩,
      fun ht samples steps table => ⟨fun hlate => ?_, fun hlate hs hl hb => ?_, fun hlate hless => ?_⟩⟩,
    fun k r errs cells hk hr => ⟨fun hu => ?_, fun hu => ⟨fun hext hseen hp => ?_, fun hsome hlate => ?_, fun hsome hlate hn hc =>
      ⟨fun hoff => ?_, fun hoff => ?_⟩⟩⟩⟩
  · rw [exec_interpCalDone s dt hj, State.interpDone_idle _ hnone]
  · rw [exec_phaseDetCalDone s dt hj, State.phaseDone_idle _ hnone]
  · rw [exec_interpCalDone s dt hj, State.interpDone_running _ hr ht, if_pos rfl]
  · rw [exec_interpCalDone s dt hj, State.interpDone_reference _ hr ht _ _ hext (.inl rfl)]
  · rw [exec_interpCalDone s dt hj, State.interpDone_reference _ hr ht _ _ hext (.inr rfl)]
  · rw [exec_interpCalDone s dt hj, State.interpDone_overdue _ hr ht _ _ hlate]
  · rw [exec_interpCalDone s dt hj, State.interpDone_complete _ hr ht _ _ hlate htl hhl hts hhs, if_pos hw]
  · rw [exec_interpCalDone s dt hj, State.interpDone_complete _ hr ht _ _ hlate htl hhl hts hhs, if_neg (Bool.eq_false_iff.mp hw),
      State.interpKept, if_pos hin]
  · rw [exec_interpCalDone s dt hj, State.interpDone_complete _ hr ht _ _ hlate htl hhl hts hhs, if_neg (Bool.eq_false_iff.mp hw),
      State.interpKept, if_neg (Nat.not_lt.mpr hin)]
  · rw [exec_phaseDetCalDone s dt hj, State.phaseDone_running _ hr ht, if_pos hlate]
  · have hfull : ¬(samples < 2 ^ 18 ∨ steps.length ≠ 40 ∨ (s.advance dt).blocksSince j r < 8 * 64 * samples) := by omega
    rw [exec_phaseDetCalDone s dt hj, State.phaseDone_running _ hr ht, if_neg (Bool.eq_false_iff.mp hlate), if_neg hfull]
  · rw [exec_phaseDetCalDone s dt hj, State.phaseDone_running _ hr ht, if_neg (Bool.eq_false_iff.mp hlate), if_pos hless]
  · rw [exec_outputCalDone s dt hk, State.outputDone_useless _ hr _ _ hu]
  · rw [exec_outputCalDone s dt hk, State.outputDone_noEdge _ hr _ _ hu hext hseen hp]
  · rw [exec_outputCalDone s dt hk, State.outputDone_seen _ hr _ _ hu hsome, if_pos hlate]
    rfl
  · rw [exec_outputCalDone s dt hk, State.outputDone_measured _ hr _ _ hu hsome hlate hn hc]
    exact next_keeping_congr s (if_pos hoff)
  · rw [exec_outputCalDone s dt hk, State.outputDone_measured _ hr _ _ hu hsome hlate hn hc]
    exact next_keeping_congr s (if_neg (Nat.not_lt.mpr hoff))

end Sys2Proof.Machine

/-! ### The mirrored pair (13_mirrored_pair.md) -/

namespace Sys2Proof.Machine

/-! #### Emulug messages (R313 to R315) -/

/-- A message has been taken: it is counted, and its session and SEQ are the last taken. -/
def State.msgTaken (s : State) (session seq : Nat) : State :=
  { s.bump Reg.MIR_MSG_RX with mir := { s.mir with taken := some (session, seq) } }

/-- What a message comes to: nothing, its effect, or a count. -/
theorem State.message_eq (s : State) (session seq : Nat) (good : Bool) (f : State → State) :
    s.message session seq good f =
      if s.mirOn = false then s
      else if good = true ∧ s.mayTake session seq = true then f (s.msgTaken session seq)
      else s.bump Reg.MIR_MSG_BAD := by
  cases hon : s.mirOn with
  | false => simp [State.message, State.takeMir, hon]
  | true =>
    by_cases htake : good = true ∧ s.mayTake session seq = true
    · simp [State.message, State.takeMir, State.msgTaken, hon, htake]
    · have hbad : (good && s.mayTake session seq) = false := by simpa using htake
      rw [if_neg (by simp), if_neg htake]
      simp [State.message, State.takeMir, hon, hbad]

/-- A message of the last session and SEQ is not ahead of itself. -/
theorem State.mayTake_msgTaken (s : State) (session seq : Nat) (h : (s.msgTaken session seq).heard = true) :
    (s.msgTaken session seq).mayTake session seq = false := by
  have hlast : (s.msgTaken session seq).mir.taken = some (session, seq) := rfl
  simp [State.mayTake, hlast, h]

theorem after_message (s : State) (dt session seq : Nat) (good : Bool) (f : State → State) :
    after s dt true (fun t => t.message session seq good f) =
      .next ((if (s.advance dt).mirOn = false then s.advance dt
        else if good = true ∧ (s.advance dt).mayTake session seq = true then f ((s.advance dt).msgTaken session seq)
        else (s.advance dt).bump Reg.MIR_MSG_BAD).keeping s) := by
  rw [after_pos s dt true _ rfl, State.message_eq]

/-- Settles O54: each of the thirteen kinds is `after_message` with its own effect. -/
theorem emulugMessagesAreTakenOnceOrCounted : Obligations.EmulugMessagesAreTakenOnceOrCounted := by
  rintro s _ dt session seq good rfl
  have hmsg := after_message s dt session seq good
  exact ⟨State.mayTake_msgTaken _ session seq, fun _ _ _ _ _ _ _ => hmsg _, fun _ => hmsg _, fun _ _ => hmsg _,
    fun _ _ _ _ _ _ => hmsg _, fun _ _ => hmsg _, fun _ _ => hmsg _, fun _ => hmsg _, fun _ _ _ => hmsg _,
    fun _ _ _ _ _ _ _ _ => hmsg _, fun _ _ _ => hmsg _, fun _ _ _ _ _ => hmsg _, fun _ _ => hmsg _, fun _ => hmsg _⟩

/-! #### Claim words and claim wires (R310, R311) -/

theorem exec_claimWordReceive (s : State) (dt word : Nat) :
    exec (.claimWordReceive dt word) s = .next (((s.advance dt).claimWordIn word).keeping s) :=
  after_pos s dt _ (fun t => t.claimWordIn word) rfl

theorem exec_claimWireSilence (s : State) (dt : Nat) :
    exec (.claimWireSilence dt) s = .next (((s.advance dt).wireSilence).keeping s) := after_pos s dt _ State.wireSilence rfl

theorem exec_claimWireChange (s : State) (dt : Nat) (ready hold : Bool) (nets : Nat) :
    exec (.claimWireChange dt ready hold nets) s = .next (((s.advance dt).wireChange ready hold nets).keeping s) :=
  after_pos s dt _ (fun t => t.wireChange ready hold nets) rfl

/-- A valid word's claim is kept, with the tick at which it came. -/
def State.wordNoted (s : State) (c : Nat) : State := { s with mir := { s.mir with word := some c, wordAt := s.clk } }

theorem State.claimWordIn_ignored (s : State) (word : Nat) (h : s.wired = false ∨ claimIn word = none) : s.claimWordIn word = s := by
  obtain hw | hc := h
  · rw [State.claimWordIn, if_pos hw]
  · simp [State.claimWordIn, hc]

/-- A valid word is noted, and taken where it repeats the last one in time. -/
theorem State.claimWordIn_valid (s : State) (word c : Nat) (hw : s.wired = true) (hc : claimIn word = some c) :
    s.claimWordIn word =
      if s.mir.word = some c ∧ s.clk < s.mir.wordAt + 300 then
        ((s.wordNoted c).setF Fld.MIR_CLAIM_PARTNER (s.takenClaim c)).arbitrate s.roleCause
      else s.wordNoted c := by
  have hrole : (s.wordNoted c).roleCause = s.roleCause := rfl
  have hclaim : (s.wordNoted c).takenClaim c = s.takenClaim c := rfl
  rw [← hrole, ← hclaim]
  simp [State.claimWordIn, State.wordNoted, hw, hc]

theorem State.wireSilence_clears (s : State) (hw : s.wired = true) (ht : s.mir.wordAt + 300 ≤ s.clk) :
    s.wireSilence = (State.setF { s with mir := { s.mir with word := none } } Fld.MIR_CLAIM_PARTNER 0).arbitrate 1 :=
  if_pos ⟨hw, ht⟩

theorem State.wireSilence_waits (s : State) (h : s.wired = false ∨ s.clk < s.mir.wordAt + 300) : s.wireSilence = s := by
  refine if_neg fun ⟨hw, ht⟩ => ?_
  exact h.elim (Bool.eq_false_iff.mp · hw) (Nat.not_lt.mpr ht)

/-- The pins' levels, and where HOLD_IN has fallen those of the nets. -/
def State.wiresNoted (s : State) (ready hold : Bool) (nets : Nat) : State :=
  { s with rst := { s.rst with wires := (if ready then 1 else 0) + (if hold then 2 else 0),
                               nets := if s.rst.wires.testBit 1 && !hold then nets % 4096 else s.rst.nets } }

theorem State.wireChange_wired (s : State) (ready hold : Bool) (nets : Nat) (hw : s.wired = true) :
    s.wireChange ready hold nets =
      let a := s.wiresNoted ready hold nets
      (((a.setFlag Fld.MIR_STATUS_READY_IN ready).setFlag Fld.MIR_STATUS_HOLD_IN hold).arbitrate a.roleCause).exchangeCheck :=
  if_pos hw

theorem State.wireChange_unwired (s : State) (ready hold : Bool) (nets : Nat) (hw : s.wired = false) :
    s.wireChange ready hold nets = s.wiresNoted ready hold nets := if_neg (Bool.eq_false_iff.mp hw)

/-! #### The published health (R306) -/

theorem exec_healthPublish (s : State) (dt : Nat) :
    exec (.healthPublish dt) s = .next (((s.advance dt).healthCheck).keeping s) := after_pos s dt _ State.healthCheck rfl

/-- RAW and CAUSES show the raw score. -/
def State.healthShown (s : State) : State := (s.setF Fld.MIR_HEALTH_RAW s.rawScore).setF Fld.MIR_HEALTH_CAUSES s.healthCauses

theorem State.healthCheck_published (s : State) (h : s.rawScore = s.healthShown.f Fld.MIR_HEALTH_SCORE) : s.healthCheck = s.healthShown :=
  if_pos h

theorem State.healthCheck_new (s : State) (hne : s.rawScore ≠ s.healthShown.f Fld.MIR_HEALTH_SCORE)
    (h : s.rawScore = 0 ∨ s.rawHolds = true) :
    s.healthCheck = (s.healthShown.setF Fld.MIR_HEALTH_SCORE s.rawScore).setClaim :=
  (if_neg hne).trans (if_pos h)

theorem State.healthCheck_waits (s : State) (hz : s.rawScore ≠ 0) (h : s.rawHolds = false) : s.healthCheck = s.healthShown := by
  by_cases hsame : s.rawScore = s.healthShown.f Fld.MIR_HEALTH_SCORE
  · exact s.healthCheck_published hsame
  · exact (if_neg hsame).trans (if_neg fun hp => hp.elim hz (Bool.eq_false_iff.mp h))

/-! #### ENABLE and the lanes of the link (R314, R316) -/

theorem exec_mirEnable (s : State) (dt : Nat) (value : Word) (be : Nat) :
    exec (.mirEnable dt value be) s = .next (((s.advance dt).mmioWrite Reg.MIR_CFG
      (Fld.MIR_CFG_ENABLE.into value 1) (Fld.MIR_CFG_ENABLE.select be)).keeping s) :=
  after_pos s dt _ (fun t => t.writeField Fld.MIR_CFG_ENABLE 1 value be) rfl

theorem exec_mirDisable (s : State) (dt : Nat) (value : Word) (be : Nat) :
    exec (.mirDisable dt value be) s = .next (((s.advance dt).mmioWrite Reg.MIR_CFG
      (Fld.MIR_CFG_ENABLE.into value 0) (Fld.MIR_CFG_ENABLE.select be)).keeping s) :=
  after_pos s dt _ (fun t => t.writeField Fld.MIR_CFG_ENABLE 0 value be) rfl

theorem exec_mirLaneChange (s : State) (dt lane : Nat) (up : Bool) (hl : lane < 2) :
    exec (.mirLaneChange dt lane up) s = .next (((s.advance dt).laneChange lane up).keeping s) :=
  after_pos s dt _ (fun t => t.laneChange lane up) (decide_eq_true hl)

/-- The link starts or ends where ENABLE has changed. -/
def State.linkSwitched (s : State) (was on : Bool) : State :=
  if on && !was then s.mirEnable else if was && !on then s.mirDisable else s

/-- A write of MIR_CFG that passes its checks: first what a written PREFERENCE ends, then the link. -/
theorem State.mmioWrite_linkCfg (s : State) (v m : Word) (ht : s.takesWrite Reg.MIR_CFG v m = true) :
    s.mmioWrite Reg.MIR_CFG v m =
      (let w := s.written Reg.MIR_CFG v m
       (if m &&& 0xF0 = 0 then w else w.prefWritten).linkSwitched
         (Fld.MIR_CFG_ENABLE.of ((s.atWrite Reg.MIR_CFG v m).reg Reg.MIR_CFG) != 0) (w.flag Fld.MIR_CFG_ENABLE)).rewrite := by
  rw [mmioWrite_MIR_CFG s v m ht, regEffect_MIR_CFG, farEffect_MIR_CFG, pairEffect_MIR_CFG, reach_MIR_CFG]
  rfl

theorem State.laneChange_none (s : State) (lane : Nat) (up : Bool)
    (h : s.mirOn = false ∨ (s.f Fld.MIR_STATUS_LANES_UP).testBit lane = up) : s.laneChange lane up = s := if_pos (.inr h)

theorem State.laneChange_shown (s : State) (lane : Nat) (up : Bool) (hl : lane < 2) (hon : s.mirOn = true)
    (hne : (s.f Fld.MIR_STATUS_LANES_UP).testBit lane ≠ up) :
    s.laneChange lane up =
      let old := s.f Fld.MIR_STATUS_LANES_UP
      let v := s.setF Fld.MIR_STATUS_LANES_UP (setBit old lane up)
      if up then (v.lanMirUp lane).mirUp (old != 0) else v.mirDown 1 := by
  refine if_neg ?_
  rintro (hbig | hoff | hsame)
  · omega
  · exact Bool.eq_false_iff.mp hoff hon
  · exact hne hsame

/-! #### CLAIM goes out, and a partner falls silent (R315 to R318) -/

theorem exec_claimSend (s : State) (dt : Nat) :
    exec (.claimSend dt) s = .next (((s.advance dt).claimSend).keeping s) := after_pos s dt _ State.claimSend rfl

theorem exec_partnerSilent (s : State) (dt : Nat) :
    exec (.partnerSilent dt) s = .next (((s.advance dt).partnerSilent).keeping s) := after_pos s dt _ State.partnerSilent rfl

theorem State.yieldDual_closed (s : State) (h : s.mir.dual = none) : s.yieldDual = s := by rw [State.yieldDual, h]

/-- CLAIM is on its way, and noted as sent. -/
def State.claimGone (s : State) : State :=
  let v : State := { s with mir := { s.mir with claimSent := s.clk } }
  v.sendMir msgClaim [v.ownClaim, v.roles, v.pairState, min v.heardAge 65535, time96 v.mir.takeTime, v.imageId, (v.reg Reg.TXN_EPOCH).toNat]

theorem State.claimSend_due (s : State) (hon : s.yieldDual.mirOn = true)
    (ht : s.yieldDual.mir.claimSent + 20 * Config.ticksPerUs ≤ s.yieldDual.clk) : s.claimSend = s.yieldDual.claimGone :=
  if_pos (Bool.and_eq_true_iff.mpr ⟨hon, (s.yieldDual.passed_iff _ 20 _).mpr ht⟩)

theorem State.claimSend_waits (s : State)
    (h : s.yieldDual.mirOn = false ∨ s.yieldDual.clk < s.yieldDual.mir.claimSent + 20 * Config.ticksPerUs) : s.claimSend = s.yieldDual := by
  refine if_neg fun hdue => ?_
  obtain ⟨hon, hp⟩ := Bool.and_eq_true_iff.mp hdue
  exact h.elim (Bool.eq_false_iff.mp · hon) (Nat.not_lt.mpr ((s.yieldDual.passed_iff _ 20 _).mp hp))

/-- What a silent partner leaves behind: a yielded window, event 81 and LOST where there was a pair, and no claim in a split pair. -/
def State.partnerLost (s : State) : State :=
  let y := s.yieldDual
  let had := y.pairState = psSyncing ∨ y.pairState = psInService ∨ y.pairState = psDiverged
  let d := if had then y.mirDown 0 else y
  let c := if d.pairConfig = 2 then d.setF Fld.MIR_CLAIM_PARTNER 0 else d
  if had then (c.setPairState psLost).validate else c

theorem State.partnerSilent_waits (s : State) (h : s.heard = true ∨ s.flag Fld.MIR_CFG_ENABLE = false ∨ s.pairConfig = 0 ∨
    s.passed s.mir.silentFrom 100 Config.ticksPerUs = false) : s.partnerSilent = s := if_pos h

section Silent

variable (s : State) (hh : s.heard = false) (he : s.flag Fld.MIR_CFG_ENABLE = true) (hp : s.pairConfig ≠ 0)
  (ht : s.passed s.mir.silentFrom 100 Config.ticksPerUs = true)
include hh he hp ht

theorem State.partnerSilent_lost :
    s.partnerSilent =
      let w := s.partnerLost
      if w.pairConfig = 2 ∧ w.img.active.isSome = true then
        ((State.takeRoles { w with mir := { w.mir with ready := true } } 7 1).exchangeCheck)
      else w :=
  if_neg (by simp [hh, he, hp, ht])

theorem State.partnerSilent_alone (h : s.partnerLost.pairConfig ≠ 2 ∨ s.partnerLost.img.active = none) :
    s.partnerSilent = s.partnerLost := by
  rw [s.partnerSilent_lost hh he hp ht]
  exact if_neg fun ⟨hsplit, himg⟩ => h.elim (· hsplit) fun hnone => by simp [hnone] at himg

theorem State.partnerSilent_takes (hsplit : s.partnerLost.pairConfig = 2) (himg : s.partnerLost.img.active ≠ none) :
    s.partnerSilent =
      (State.takeRoles { s.partnerLost with mir := { s.partnerLost.mir with ready := true } } 7 1).exchangeCheck := by
  rw [s.partnerSilent_lost hh he hp ht]
  exact if_pos ⟨hsplit, Option.isSome_iff_ne_none.mpr himg⟩

end Silent

/-- Settles O55: words and wires, the score, the link's writes and lanes, then CLAIM and silence after the yield. -/
theorem claimsHealthAndSilenceMoveTheRoles : Obligations.ClaimsHealthAndSilenceMoveTheRoles := by
  rintro s _ dt rfl
  refine ⟨fun word => ⟨fun h => ?_, fun c hw hc => ⟨fun hsame ht => ?_, fun h => ?_⟩⟩, fun hw ht => ?_, fun h => ?_,
    fun ready hold nets => ⟨fun hw => ⟨_, rfl, ?_⟩, fun hw => ?_⟩, ⟨fun h => ?_, fun hne h => ?_, fun hz h => ?_⟩,
    fun value be v m hm ht => ⟨fun hv => ?_, fun hv => ?_⟩, fun lane up hl => ⟨fun h => ?_, fun hon hne => ?_⟩,
    State.yieldDual_closed _, fun y hy => ⟨fun hon ht => ⟨_, rfl, ?_⟩, fun h => ?_⟩, fun h => ?_,
    fun hh he hp ht => ⟨fun h => ?_, fun hsplit himg => ⟨_, rfl, ?_⟩⟩⟩
  · rw [exec_claimWordReceive, State.claimWordIn_ignored _ word h]
  · rw [exec_claimWordReceive, State.claimWordIn_valid _ word c hw hc, if_pos ⟨hsame, ht⟩]
    rfl
  · rw [exec_claimWordReceive, State.claimWordIn_valid _ word c hw hc,
      if_neg fun ⟨hsame, ht⟩ => h.elim (· hsame) (Nat.not_le.mpr ht)]
    rfl
  · rw [exec_claimWireSilence, State.wireSilence_clears _ hw ht]
  · rw [exec_claimWireSilence, State.wireSilence_waits _ h]
  · rw [exec_claimWireChange, State.wireChange_wired _ ready hold nets hw]
    rfl
  · rw [exec_claimWireChange, State.wireChange_unwired _ ready hold nets hw]
    rfl
  · rw [exec_healthPublish, State.healthCheck_published _ h]
    rfl
  · rw [exec_healthPublish, State.healthCheck_new _ hne h]
    rfl
  · rw [exec_healthPublish, State.healthCheck_waits _ hz h]
    rfl
  · subst hm hv
    rw [exec_mirEnable, State.mmioWrite_linkCfg _ _ _ ht]
    rfl
  · subst hm hv
    rw [exec_mirDisable, State.mmioWrite_linkCfg _ _ _ ht]
    rfl
  · rw [exec_mirLaneChange s dt lane up hl, State.laneChange_none _ lane up h]
  · rw [exec_mirLaneChange s dt lane up hl, State.laneChange_shown _ lane up hl hon hne]
  · subst hy
    rw [exec_claimSend, State.claimSend_due _ hon ht]
    rfl
  · subst hy
    rw [exec_claimSend, State.claimSend_waits _ h]
  · rw [exec_partnerSilent, State.partnerSilent_waits _ h]
  · rw [exec_partnerSilent, State.partnerSilent_alone _ hh he hp ht h]
    rfl
  · rw [exec_partnerSilent, State.partnerSilent_takes _ hh he hp ht hsplit himg]
    rfl

/-! #### Synchronisation (R320) -/

theorem exec_syncApply (s : State) (dt : Nat) :
    exec (.syncApply dt) s = .next (((s.advance dt).syncApplyRow).keeping s) := after_pos s dt _ State.syncApplyRow rfl

theorem exec_syncTimeout (s : State) (dt : Nat) :
    exec (.syncTimeout dt) s = .next (((s.advance dt).syncTimeout).keeping s) := after_pos s dt _ State.syncTimeout rfl

/-- A state is taken in SYNCING or in service. -/
theorem State.takesState_iff (s : State) : s.takesState = true ↔ s.pairState = psSyncing ∨ s.inService = true := by
  simp [State.takesState]

theorem State.syncApplyRow_none (s : State) (h : s.mir.syncApply = none) : s.syncApplyRow = s := by rw [State.syncApplyRow, h]

section SyncApply

variable (s : State) {instant epoch : Nat} (h : s.mir.syncApply = some (instant, epoch))
include h

theorem State.syncApplyRow_waits
    (hw : (s.pairState ≠ psSyncing ∧ s.inService = false) ∨ Machine.reached instant s.now16 = false) : s.syncApplyRow = s := by
  rw [State.syncApplyRow, h]
  refine if_pos (hw.imp_left fun ⟨hsync, hserv⟩ => Bool.eq_false_iff.mpr fun ht => ?_)
  exact (s.takesState_iff.mp ht).elim hsync (Bool.eq_false_iff.mp hserv)

variable (ht : s.pairState = psSyncing ∨ s.inService = true) (hr : Machine.reached instant s.now16 = true)
include ht hr

/-- At the instant the owner takes the epoch, and the other unit the state or none. -/
theorem State.syncApplyRow_due :
    s.syncApplyRow =
      if s.holds roleOwner = true then s.ownerApplied instant epoch
      else match s.takeState epoch instant with
        | none => s.syncFail
        | some t => ((t.syncedCommit (epoch - 1)).resolveDoubt.settle).enterService := by
  rw [State.syncApplyRow, h]
  exact if_neg (by simp [s.takesState_iff.mpr ht, hr])

theorem State.syncApplyRow_owner (ho : s.holds roleOwner = true) : s.syncApplyRow = s.ownerApplied instant epoch := by
  rw [s.syncApplyRow_due h ht hr, if_pos ho]

theorem State.syncApplyRow_fails (ho : s.holds roleOwner = false) (hn : s.takeState epoch instant = none) : s.syncApplyRow = s.syncFail := by
  rw [s.syncApplyRow_due h ht hr, if_neg (Bool.eq_false_iff.mp ho), hn]

theorem State.syncApplyRow_takes {t : State} (ho : s.holds roleOwner = false) (hs : s.takeState epoch instant = some t) :
    s.syncApplyRow = ((t.syncedCommit (epoch - 1)).resolveDoubt.settle).enterService := by
  rw [s.syncApplyRow_due h ht hr, if_neg (Bool.eq_false_iff.mp ho), hs]

end SyncApply

theorem State.syncTimeout_due (s : State) (hs : s.pairState = psSyncing) (hn : s.mir.syncApply = none)
    (ht : s.mir.syncAt + 2 * Config.ticksPerS ≤ s.clk) : s.syncTimeout = s.syncFail :=
  if_pos ⟨hs, Option.isNone_iff_eq_none.mpr hn, (s.passed_iff _ 2 _).mpr ht⟩

theorem State.syncTimeout_waits (s : State)
    (h : s.pairState ≠ psSyncing ∨ s.mir.syncApply ≠ none ∨ s.clk < s.mir.syncAt + 2 * Config.ticksPerS) : s.syncTimeout = s := by
  refine if_neg fun ⟨hs, hn, hp⟩ => ?_
  obtain hne | hsome | hlt := h
  · exact hne hs
  · exact hsome (Option.isNone_iff_eq_none.mp hn)
  · exact Nat.not_le.mpr hlt ((s.passed_iff _ 2 _).mp hp)

/-! #### The time state and the recovery windows (R324, R326) -/

theorem exec_timeStateSend (s : State) (dt : Nat) :
    exec (.timeStateSend dt) s = .next (((s.advance dt).timeStateSend).keeping s) := after_pos s dt _ State.timeStateSend rfl

theorem exec_frerWindowSend (s : State) (dt : Nat) :
    exec (.frerWindowSend dt) s = .next (((s.advance dt).frerSend).keeping s) := after_pos s dt _ State.frerSend rfl

/-- Something goes out each `n` units where the pair mirrors and they have passed. -/
theorem State.mirrorDue_iff (s : State) (t n unit : Nat) :
    (s.mirrors && s.passed t n unit) = true ↔ s.mirrors = true ∧ t + n * unit ≤ s.clk := by
  rw [Bool.and_eq_true, s.passed_iff]

theorem State.not_mirrorDue (s : State) {t n unit : Nat} (h : s.mirrors = false ∨ s.clk < t + n * unit) :
    ¬(s.mirrors && s.passed t n unit) = true := by
  rw [s.mirrorDue_iff]
  exact fun ⟨hm, ht⟩ => h.elim (Bool.eq_false_iff.mp · hm) (Nat.not_lt.mpr ht)

theorem State.timeStateSend_due (s : State) (hm : s.mirrors = true) (ht : s.mir.stateSent + 10 * Config.ticksPerMs ≤ s.clk) :
    s.timeStateSend = State.sendMir { s with mir := { s.mir with stateSent := s.clk } } msgTimeState s.timeStateBody :=
  if_pos ((s.mirrorDue_iff _ 10 _).mpr ⟨hm, ht⟩)

theorem State.timeStateSend_waits (s : State) (h : s.mirrors = false ∨ s.clk < s.mir.stateSent + 10 * Config.ticksPerMs) :
    s.timeStateSend = s := if_neg (s.not_mirrorDue h)

/-- A recovery window is on its way, and noted as shown. -/
def State.windowSent (s : State) (w : Nat × Nat × Nat) : State :=
  let v := s.sendMir msgFrer [w.1, w.2.1, w.2.2]
  { v with mir := { v.mir with frerShown := Store.set (fun _ => none) v.mir.frerShown w.1 (some w.2) } }

theorem State.frerSend_due (s : State) (hm : s.mirrors = true) (ht : s.mir.frerSent + 10 * Config.ticksPerUs ≤ s.clk) :
    s.frerSend = s.changedWindows.foldl State.windowSent { s with mir := { s.mir with frerSent := s.clk } } :=
  if_pos ((s.mirrorDue_iff _ 10 _).mpr ⟨hm, ht⟩)

theorem State.frerSend_waits (s : State) (h : s.mirrors = false ∨ s.clk < s.mir.frerSent + 10 * Config.ticksPerUs) :
    s.frerSend = s := if_neg (s.not_mirrorDue h)

/-! #### The planned exchange (R328) -/

theorem exec_exchangeDrainDone (s : State) (dt : Nat) :
    exec (.exchangeDrainDone dt) s = .next (((s.advance dt).exchDrained).keeping s) := after_pos s dt _ State.exchDrained rfl

theorem exec_exchangeDrainTimeout (s : State) (dt : Nat) :
    exec (.exchangeDrainTimeout dt) s = .next (((s.advance dt).exchTimeout).keeping s) := after_pos s dt _ State.exchTimeout rfl

theorem exec_exchangeApply (s : State) (dt : Nat) :
    exec (.exchangeApply dt) s = .next (((s.advance dt).exchApply).keeping s) := after_pos s dt _ State.exchApply rfl

theorem State.exchDrained_none (s : State) (h : s.mir.exch = none) : s.exchDrained = s := by rw [State.exchDrained, h]
theorem State.exchTimeout_none (s : State) (h : s.mir.exch = none) : s.exchTimeout = s := by rw [State.exchTimeout, h]
theorem State.exchApply_none (s : State) (h : s.mir.exch = none) : s.exchApply = s := by rw [State.exchApply, h]

section Exchange

variable (s : State) {x : Exchange} (h : s.mir.exch = some x)
include h

section Draining

variable (hh : x.holder = true)
include hh

/-- The holder ends the exchange with BUSY, and tells the partner by the kind of exchange that it was. -/
theorem State.exchTimeout_due (hn : x.apply = none)
    (ht : s.passed x.since (s.f Fld.MIR_TIMER_EXCH_DRAIN_US) Config.ticksPerUs = true) :
    s.exchTimeout = (if x.tag.isSome then s.sendMir msgExchange [0, 0] else s.sendMir msgExchangeAck [1]).endExchange stBusy := by
  have htell : s.tellEnd x = if x.tag.isSome then s.sendMir msgExchange [0, 0] else s.sendMir msgExchangeAck [1] := by
    simp [State.tellEnd, hh]
  rw [State.exchTimeout, h, ← htell]
  exact if_pos ⟨hh, hn, ht⟩

theorem State.exchDrained_sends (hn : x.apply = none) (he : s.singleEmpty = true) :
    s.exchDrained = State.sendMir { s with mir := { s.mir with exch := some { x with apply := some (s.now16 + us250, s.newPref - 1) } } }
      msgExchange [s.now16 + us250, s.newPref] := by
  rw [State.exchDrained, h]
  exact if_pos ⟨hh, hn, he⟩

end Draining

theorem State.exchDrained_waits (he : s.singleEmpty = false) : s.exchDrained = s := by
  rw [State.exchDrained, h]
  exact if_neg fun ⟨_, _, hempty⟩ => Bool.eq_false_iff.mp he hempty

theorem State.exchTimeout_waits (ht : s.passed x.since (s.f Fld.MIR_TIMER_EXCH_DRAIN_US) Config.ticksPerUs = false) :
    s.exchTimeout = s := by
  rw [State.exchTimeout, h]
  exact if_neg fun ⟨_, _, hp⟩ => Bool.eq_false_iff.mp ht hp

section Apply

variable {instant pref : Nat} (ha : x.apply = some (instant, pref))
include ha

theorem State.exchApply_waits (hw : x.moved = true ∨ Machine.reached instant s.now16 = false) : s.exchApply = s := by
  rw [State.exchApply, h]
  dsimp only
  rw [ha]
  exact if_pos hw

variable (hm : x.moved = false) (hr : Machine.reached instant s.now16 = true)
include hm hr

/-- At the instant an accepted exchange takes the new preference, and one not accepted ends. -/
theorem State.exchApply_due :
    s.exchApply =
      if x.acked = false then s.endExchange stBusy
      else
        let a := match x.tag with | some tag => s.mark tag | none => s
        (State.setF { a with mir := { a.mir with exch := some { x with moved := true } } } Fld.MIR_CFG_PREFERENCE pref).setClaim.exchangeCheck := by
  rw [State.exchApply, h]
  dsimp only
  rw [ha]
  exact if_neg (by simp [hm, hr])

theorem State.exchApply_refused (hk : x.acked = false) : s.exchApply = s.endExchange stBusy := by
  rw [s.exchApply_due h ha hm hr, if_pos hk]

theorem State.exchApply_accepted (hk : x.acked = true) :
    s.exchApply =
      let a := match x.tag with | some tag => s.mark tag | none => s
      (State.setF { a with mir := { a.mir with exch := some { x with moved := true } } } Fld.MIR_CFG_PREFERENCE pref).setClaim.exchangeCheck := by
  rw [s.exchApply_due h ha hm hr, if_neg (by simp [hk])]

end Apply

end Exchange

/-- Settles O56: SYNC_APPLY and the timeout, what goes out by time, then the exchange by its state. -/
theorem synchronisationShadowsAndTheExchangeRun : Obligations.SynchronisationShadowsAndTheExchangeRun := by
  rintro s _ dt rfl
  refine ⟨fun instant epoch h => ⟨fun hw => ?_, fun ht hr => ⟨fun ho => ?_, fun ho => ⟨fun hn => ?_, fun t hs => ?_⟩⟩⟩,
    fun hn => ⟨?_, fun hs ht => ?_⟩, fun h => ?_, fun hm ht => ?_, fun h => ?_, fun hm ht hw => ?_, fun w hm ht hw => ?_, fun h => ?_,
    fun hn => ⟨?_, ?_, ?_⟩, fun x h => ⟨fun hh hn => ⟨fun he => ?_, fun he => ?_, fun ht => ?_, fun ht => ?_⟩,
      fun instant pref ha => ⟨fun hw => ?_, fun hm hr => ⟨fun hk => ?_, fun hk => ?_⟩⟩⟩⟩
  · rw [exec_syncApply, State.syncApplyRow_waits _ h hw]
  · rw [exec_syncApply, State.syncApplyRow_owner _ h ht hr ho]
    rfl
  · rw [exec_syncApply, State.syncApplyRow_fails _ h ht hr ho hn]
  · rw [exec_syncApply, State.syncApplyRow_takes _ h ht hr ho hs]
  · rw [exec_syncApply, State.syncApplyRow_none _ hn]
  · rw [exec_syncTimeout, State.syncTimeout_due _ hs hn ht]
  · rw [exec_syncTimeout, State.syncTimeout_waits _ h]
  · rw [exec_timeStateSend, State.timeStateSend_due _ hm ht]
    rfl
  · rw [exec_timeStateSend, State.timeStateSend_waits _ h]
  · rw [exec_frerWindowSend, State.frerSend_due _ hm ht, hw, List.foldl_nil]
  · rw [exec_frerWindowSend, State.frerSend_due _ hm ht, hw, List.foldl_cons, List.foldl_nil]
    rfl
  · rw [exec_frerWindowSend, State.frerSend_waits _ h]
  · rw [exec_exchangeDrainDone, State.exchDrained_none _ hn]
  · rw [exec_exchangeDrainTimeout, State.exchTimeout_none _ hn]
  · rw [exec_exchangeApply, State.exchApply_none _ hn]
  · rw [exec_exchangeDrainDone, State.exchDrained_sends _ h hh hn he]
    rfl
  · rw [exec_exchangeDrainDone, State.exchDrained_waits _ h he]
  · rw [exec_exchangeDrainTimeout, State.exchTimeout_due _ h hh hn ht]
    rfl
  · rw [exec_exchangeDrainTimeout, State.exchTimeout_waits _ h ht]
  · rw [exec_exchangeApply, State.exchApply_waits _ h ha hw]
  · rw [exec_exchangeApply, State.exchApply_refused _ h ha hm hr hk]
  · rw [exec_exchangeApply]
    exact next_keeping_congr s (State.exchApply_accepted _ h ha hm hr hk)

end Sys2Proof.Machine

/-! ### Single steps (00_scope.md, 01_architecture.md): the queue of commands, the strap and the grade -/

namespace Sys2Proof.Machine

theorem step_command {s : State} {c : Instr} {rest : List Instr} (h : s.pending = c :: rest) :
    step s = exec c { s with pending := rest } := by
  rw [step, h]

theorem step_idle {s : State} (h : s.pending = []) : step s = .next ((s.advance 1).keeping s) := by
  rw [step, h]

/-- Whatever the command, it answers a next state that keeps what no command changes: each is an `after`. -/
theorem exec_keeps (c : Instr) (s : State) : ∃ t : State, exec c s = .next (t.keeping s) := by
  cases c <;> exact ⟨_, rfl⟩

/-- A step keeps what no command changes, as it stands once the front command has been taken from the queue. -/
theorem step_keeps (s : State) : ∃ t : State, step s = .next (t.keeping { s with pending := s.pending.tail }) := by
  cases h : s.pending with
  | nil => exact ⟨s.advance 1, by rw [step_idle h, List.tail_nil, ← h]⟩
  | cons c rest =>
    obtain ⟨t, hkeeps⟩ := exec_keeps c { s with pending := rest }
    exact ⟨t, (step_command h).trans hkeeps⟩

theorem State.queueOk_iff (s : State) : s.queueOk = true ↔ ∀ c ∈ s.pending, c.wf = true := List.all_eq_true

/-- GEN_ID follows from the grade alone. -/
theorem State.idWord_keeping (t s : State) : (t.keeping s).idWord = s.idWord := rfl

/-- Settles O1. -/
theorem stepRunsFrontCommand : Obligations.StepRunsFrontCommand := fun _ _ _ h => step_command h

/-- Settles O3: each step answers what it keeps of some state. -/
theorem everyStepGoesOn : Obligations.EveryStepGoesOn := by
  intro s
  obtain ⟨t, hstep⟩ := step_keeps s
  exact ⟨_, hstep⟩

/-- Settles O4: every step ends in `State.keeping`, over the queue's rest. -/
theorem stepKeepsQueueOrderStrapAndGrade : Obligations.StepKeepsQueueOrderStrapAndGrade := by
  intro s t hq hstep
  obtain ⟨u, hkeeps⟩ := step_keeps s
  obtain rfl := Host.Outcome.next.inj (hkeeps.symm.trans hstep)
  refine ⟨?_, rfl, rfl, rfl, State.idWord_keeping _ _⟩
  rw [State.queueOk_iff] at hq ⊢
  exact fun c hc => hq c (List.mem_of_mem_tail hc)

/-- Settles O5: no command waits and no register is off its reset value; the three fields lie apart in GEN_ID. -/
theorem queueInvariantHoldsAtReset : Obligations.QueueInvariantHoldsAtReset :=
  ⟨rfl, Store.wf_nil regReset, by decide, by decide, by decide⟩

end Sys2Proof.Machine

/-! ### The register map (17_register_map.md): reads that change the module -/

namespace Sys2Proof.Machine

/-! #### A read, row by row (R384, R385, R388) -/

section HostRead

variable {s : State} {off n k : Nat} {r : RegRow}

theorem State.hostRead_unmapped (h : findReg off = none) : s.hostRead off = (0, s) := by rw [State.hostRead, h]

variable (hr : findReg off = some (r, n, k))
include hr

theorem State.hostRead_hidden (h : s.domainOn (regDomain off) = false ∨ s.regProvided r n k = false) : s.hostRead off = (0, s) := by
  simp only [State.hostRead, hr]
  exact if_pos h

/-- Each read with an effect is made where the register shows. -/
theorem State.hostRead_shown (hd : s.domainOn (regDomain off) = true) (hp : s.regProvided r n k = true) :
    s.hostRead off =
      if r.base = Reg.TIM_TSF_W0 0 then s.readTsf n
      else if r.base = Reg.PHS_RPT_SEQ 0 then s.readReport n
      else if r.base = Reg.MIR_OFFSET_SEQ then s.readOffset
      else if r.base = Reg.MIR_PJ_COOKIE_LO ∨ r.base = Reg.MIR_PJ_COOKIE_HI then ((Store.get (fun _ => none) s.latched off).getD 0, s)
      else if r.latches = true ∧ r.word = 0 then (s.shown r n k off, s.latchWords r off)
      else ((Store.get (fun _ => none) s.latched off).getD (s.shown r n k off), s) := by
  simp only [State.hostRead, hr]
  exact if_neg (by simp [hd, hp])

/-- A read of a register that is in none of R388's rows returns a value and does nothing else. -/
theorem State.hostRead_unlisted (ht : r.base ≠ Reg.TIM_TSF_W0 0) (hq : r.base ≠ Reg.PHS_RPT_SEQ 0) (hm : r.base ≠ Reg.MIR_OFFSET_SEQ)
    (hw : r.latches = false ∨ r.word ≠ 0) : (s.hostRead off).2 = s := by
  have hlow : ¬(r.latches = true ∧ r.word = 0) := fun ⟨hl, h0⟩ => hw.elim (by simp [hl]) (fun hw' => hw' h0)
  by_cases hh : s.domainOn (regDomain off) = false ∨ s.regProvided r n k = false
  · rw [State.hostRead_hidden hr hh]
  · obtain ⟨hd, hp⟩ := not_or.mp hh
    rw [Bool.not_eq_false] at hd hp
    rw [State.hostRead_shown hr hd hp, if_neg ht, if_neg hq, if_neg hm, if_neg hlow]
    split <;> rfl

variable (hd : s.domainOn (regDomain off) = true) (hp : s.regProvided r n k = true)
include hd hp

theorem State.hostRead_fifo (ht : r.base = Reg.TIM_TSF_W0 0) : s.hostRead off = s.readTsf n := by
  rw [State.hostRead_shown hr hd hp, if_pos ht]

theorem State.hostRead_report (hq : r.base = Reg.PHS_RPT_SEQ 0) : s.hostRead off = s.readReport n := by
  rw [State.hostRead_shown hr hd hp, if_neg (by rw [hq]; decide), if_pos hq]

theorem State.hostRead_offset (hm : r.base = Reg.MIR_OFFSET_SEQ) : s.hostRead off = s.readOffset := by
  rw [State.hostRead_shown hr hd hp, if_neg (by rw [hm]; decide), if_neg (by rw [hm]; decide), if_pos hm]

theorem State.hostRead_lowest (ht : r.base ≠ Reg.TIM_TSF_W0 0) (hq : r.base ≠ Reg.PHS_RPT_SEQ 0) (hm : r.base ≠ Reg.MIR_OFFSET_SEQ)
    (hlo : r.base ≠ Reg.MIR_PJ_COOKIE_LO) (hhi : r.base ≠ Reg.MIR_PJ_COOKIE_HI) (hl : r.latches = true) (h0 : r.word = 0) :
    s.hostRead off = (s.shown r n k off, s.latchWords r off) := by
  rw [State.hostRead_shown hr hd hp, if_neg ht, if_neg hq, if_neg hm, if_neg (not_or.mpr ⟨hlo, hhi⟩), if_pos ⟨hl, h0⟩]

end HostRead

/-! #### What the three reads of their own leave (R215, R229, R324) -/

theorem State.tsf_setTsf (s : State) (n : Nat) (l : List TsfEntry) : (s.setTsf n l).tsf n = l := Store.get_set_same _ _ _ _

theorem State.tsf_setTriple (s : State) (a b c v n : Nat) : (s.setTriple a b c v).tsf n = s.tsf n := by
  rw [State.tsf, State.setTriple_time, State.tsf]

/-- A read takes the oldest entry, if there is one. -/
theorem State.tsf_readTsf (s : State) (n : Nat) : (s.readTsf n).2.tsf n = (s.tsf n).tail := by
  cases h : s.tsf n with
  | nil => rw [State.readTsf_empty s n h, h, List.tail_nil]
  | cons e l => rw [State.readTsf_oldest s n h, State.tsf_setTriple, State.tsf_setTsf, List.tail_cons]

theorem State.f_setPair48_off (s : State) (lo hi : Nat) (v : Int) (g : FieldRef) (hlo : g.off ≠ lo) (hhi : g.off ≠ hi) :
    (s.setPair48 lo hi v).f g = s.f g := by
  rw [State.setPair48, State.setPair, State.f_setReg_off _ _ _ _ hhi, State.f_setReg_off _ _ _ _ hlo]

/-- NEW is cleared, and the values of the latest report go into their registers. -/
theorem State.readReport_state (s : State) (n : Nat) :
    (s.readReport n).2 =
      (((s.setFlag (Fld.PHS_RPT_SEQ_NEW n) false).setPair48 (Reg.PHS_RPT_DELAY_LO n) (Reg.PHS_RPT_DELAY_HI n) (s.lant n).latest.1).setPair48
        (Reg.PHS_RPT_OFFSET_LO n) (Reg.PHS_RPT_OFFSET_HI n) (s.lant n).latest.2.1).setReg
        (Reg.PHS_RPT_COUNT n) (BitVec.ofNat 32 ((s.lant n).latest.2.2.1 + (s.lant n).latest.2.2.2 * 65536)) := rfl

theorem State.new_readReport (s : State) (n : Nat) : (s.readReport n).2.flag (Fld.PHS_RPT_SEQ_NEW n) = false := by
  have hkept : (s.readReport n).2.f (Fld.PHS_RPT_SEQ_NEW n) = (s.setFlag (Fld.PHS_RPT_SEQ_NEW n) false).f (Fld.PHS_RPT_SEQ_NEW n) := by
    rw [State.readReport_state, State.f_setReg_off _ _ _ _ (by simp), State.f_setPair48_off _ _ _ _ _ (by simp) (by simp),
      State.f_setPair48_off _ _ _ _ _ (by simp) (by simp)]
  rw [State.flag, hkept]
  exact State.flag_setFlag_same _ _ _ (by simp) (by simp)

theorem State.count_readReport (s : State) (n : Nat) :
    (s.readReport n).2.reg (Reg.PHS_RPT_COUNT n) = BitVec.ofNat 32 ((s.lant n).latest.2.2.1 + (s.lant n).latest.2.2.2 * 65536) := by
  rw [State.readReport_state, State.reg_setReg_same]

theorem State.latched_readOffset (s : State) {o : Nat} (ho : o ∈ [Reg.MIR_OFFSET_LO, Reg.MIR_OFFSET_HI, Reg.MIR_DELAY_LO, Reg.MIR_DELAY_HI]) :
    Store.get (fun _ => none) s.readOffset.2.latched o = some (s.reg o) := by
  rw [State.readOffset, State.setFlag_latched, s.latched_latchOffset o ho]

/-- Settles O60: a register that does not show or is in none of R388's rows, then each row, then the two ways to read. -/
theorem onlyTheListedReadsChangeTheModule : Obligations.OnlyTheListedReadsChangeTheModule := by
  intro s off
  refine ⟨fun h => by rw [State.hostRead_unmapped h], fun r n k hr => ⟨State.hostRead_unlisted hr,
      fun h => by rw [State.hostRead_hidden hr h], fun hd hp => ⟨fun ht => ?_, fun hq => ?_, fun hm => ?_, fun ht hq hm hlo hhi hl h0 => ?_⟩⟩,
    fun dt tag e r htag hs hp hr => ?_, State.mmioRead_on s off⟩
  · rw [State.hostRead_fifo hr hd hp ht]
    exact ⟨rfl, s.tsf_readTsf n⟩
  · rw [State.hostRead_report hr hd hp hq]
    exact ⟨rfl, s.new_readReport n, s.count_readReport n⟩
  · rw [State.hostRead_offset hr hd hp hm]
    exact ⟨rfl, State.flag_setFlag_same _ _ _ (by decide) (by decide), s.latched_readOffset (by decide), s.latched_readOffset (by decide)⟩
  · rw [State.hostRead_lowest hr hd hp ht hq hm hlo hhi hl h0]
  · rw [exec_cmdRegRead s dt tag htag, State.cmdRegRead_plain _ tag e r hs hr hp]

end Sys2Proof.Machine

/-! ### Energy, thermal and supply (14_energy_and_thermal.md) -/

namespace Sys2Proof.Machine

/-! #### The governor and THERM_WARN (R340, R341) -/

theorem exec_thermHot (s : State) (dt : Nat) :
    exec (.thermHot dt) s = .next (((s.advance dt).thermHot).keeping s) := after_pos s dt _ State.thermHot rfl

theorem exec_thermCool (s : State) (dt : Nat) :
    exec (.thermCool dt) s = .next (((s.advance dt).thermCool).keeping s) := after_pos s dt _ State.thermCool rfl

theorem exec_thermWarn (s : State) (dt : Nat) :
    exec (.thermWarn dt) s = .next (((s.advance dt).thermWarn).keeping s) := after_pos s dt _ State.thermWarn rfl

theorem State.f_bump_off (s : State) (off : Nat) (g : FieldRef) (h : g.off ≠ off) : (s.bump off).f g = s.f g := by
  rw [State.f, State.reg_bump, if_neg h, State.f]

/-- The two fields of PWR_STATUS are written last. -/
theorem State.setGov_regs (s : State) (a b : Nat) :
    ∃ t : State, (s.setGov a b).regs = ((t.setF Fld.PWR_STATUS_GOV_STEP a).setF Fld.PWR_STATUS_THROTTLE b).regs := ⟨_, rfl⟩

theorem State.govStep_setGov (s : State) {a : Nat} (b : Nat) (ha : a < 4) : (s.setGov a b).f Fld.PWR_STATUS_GOV_STEP = a := by
  obtain ⟨t, hregs⟩ := s.setGov_regs a b
  calc (s.setGov a b).f Fld.PWR_STATUS_GOV_STEP
      = (t.setF Fld.PWR_STATUS_GOV_STEP a).f Fld.PWR_STATUS_GOV_STEP :=
        (State.f_congr hregs _).trans (State.f_setF_apart _ Fld.PWR_STATUS_THROTTLE Fld.PWR_STATUS_GOV_STEP _ rfl (by decide) (by decide))
    _ = a := (State.f_setF_same _ _ _ (by decide)).trans (Nat.mod_eq_of_lt ha)

theorem State.throttle_setGov (s : State) (a : Nat) {b : Nat} (hb : b < 16) : (s.setGov a b).f Fld.PWR_STATUS_THROTTLE = b := by
  obtain ⟨t, hregs⟩ := s.setGov_regs a b
  rw [State.f_congr hregs, State.f_setF_same _ _ _ (by decide)]
  exact Nat.mod_eq_of_lt hb

/-- Event 3 touches its two counters alone. -/
theorem State.f_limitEvent (s : State) (g : FieldRef) (hcnt : g.off ≠ Reg.PWR_GOV_STEP_CNT) (hevt : g.off ≠ Reg.EVT_SRC_CNT 3) :
    s.limitEvent.f g = s.f g := by
  rw [State.limitEvent, State.f_raise _ _ _ _ _ hevt]
  exact s.f_bump_off _ g hcnt

section Governor

variable {s : State}

theorem State.thermHot_begins (hst : s.f Fld.PWR_STATUS_GOV_STEP = 0) (hh : s.hot = true) : s.thermHot = (s.setGov 1 0).limitEvent := by
  simp [State.thermHot, hst, hh]

theorem State.thermHot_rests (hst : s.f Fld.PWR_STATUS_GOV_STEP = 0) (hh : s.hot = false) : s.thermHot = s := by
  simp [State.thermHot, hst, hh]

theorem State.thermHot_early (hst : s.f Fld.PWR_STATUS_GOV_STEP ≠ 0) (ht : s.heldFor s.pwr.hotSince 1 = false) : s.thermHot = s := by
  simp [State.thermHot, hst, ht]

theorem State.thermHot_from1 (hst : s.f Fld.PWR_STATUS_GOV_STEP = 1) (ht : s.heldFor s.pwr.hotSince 1 = true) :
    s.thermHot = (s.setGov 2 0).limitEvent := by
  simp [State.thermHot, hst, ht]

theorem State.thermHot_from2 (hst : s.f Fld.PWR_STATUS_GOV_STEP = 2) (ht : s.heldFor s.pwr.hotSince 1 = true) :
    s.thermHot = (s.setGov 3 1).limitEvent := by
  simp [State.thermHot, hst, ht]

theorem State.thermHot_from3 (hst : s.f Fld.PWR_STATUS_GOV_STEP = 3) (ht : s.heldFor s.pwr.hotSince 1 = true)
    (h8 : s.f Fld.PWR_STATUS_THROTTLE < 8) : s.thermHot = (s.setGov 3 (s.f Fld.PWR_STATUS_THROTTLE + 1)).limitEvent := by
  simp [State.thermHot, hst, ht, h8]

theorem State.thermHot_limit (hst : s.f Fld.PWR_STATUS_GOV_STEP = 3) (ht : s.heldFor s.pwr.hotSince 1 = true)
    (h8 : 8 ≤ s.f Fld.PWR_STATUS_THROTTLE) : s.thermHot = s := by
  simp [State.thermHot, hst, ht, Nat.not_lt.mpr h8]

theorem State.thermCool_eighth (hst : s.f Fld.PWR_STATUS_GOV_STEP = 3) (ht : s.heldFor s.pwr.coolSince 1 = true)
    (h1 : 1 < s.f Fld.PWR_STATUS_THROTTLE) : s.thermCool = s.setGov 3 (s.f Fld.PWR_STATUS_THROTTLE - 1) := by
  simp [State.thermCool, hst, ht, Nat.not_le.mpr h1]

theorem State.thermCool_from3 (hst : s.f Fld.PWR_STATUS_GOV_STEP = 3) (ht : s.heldFor s.pwr.coolSince 1 = true)
    (h1 : s.f Fld.PWR_STATUS_THROTTLE ≤ 1) : s.thermCool = s.setGov 2 0 := by
  simp [State.thermCool, hst, ht, h1]

theorem State.thermCool_from2 (hst : s.f Fld.PWR_STATUS_GOV_STEP = 2) (ht : s.heldFor s.pwr.coolSince 10 = true) :
    s.thermCool = s.setGov 1 0 := by
  simp [State.thermCool, hst, ht]

/-- The governor lets go: event 4 tells the highest step, the highest temperature and how long it took. -/
theorem State.thermCool_from1 (hst : s.f Fld.PWR_STATUS_GOV_STEP = 1) (ht : s.heldFor s.pwr.coolSince 10 = true) :
    s.thermCool = (s.setGov 0 0).raise 4 moduleScope
      [(24, 1, s.pwr.govTop), (26, 2, unsigned 16 s.pwr.topTemp), (28, 4, s.msSince s.pwr.govAt)] := by
  simp [State.thermCool, hst, ht]

theorem State.thermCool_stays
    (h : s.f Fld.PWR_STATUS_GOV_STEP = 0 ∨ (s.f Fld.PWR_STATUS_GOV_STEP = 3 ∧ s.heldFor s.pwr.coolSince 1 = false) ∨
      (s.f Fld.PWR_STATUS_GOV_STEP ≠ 3 ∧ s.heldFor s.pwr.coolSince 10 = false)) : s.thermCool = s := by
  obtain hst | ⟨hst, ht⟩ | ⟨hst, ht⟩ := h
  · simp [State.thermCool, hst]
  · simp [State.thermCool, hst, ht]
  · simp [State.thermCool, hst, ht]

/-- DETAIL of event 2 (R349). -/
def State.warnDetail (s : State) : List (Nat × Nat × Nat) :=
  [(24, 1, s.f Fld.PWR_THERM_STATUS_SENSOR), (26, 2, s.f Fld.PWR_THERM_STATUS_TJ), (28, 2, s.f Fld.PWR_TALLY_LAST_TOTAL)]

theorem State.thermWarn_begins (hoff : s.flag Fld.PWR_STATUS_THERM_WARN = false)
    (ht : ((s.f Fld.PWR_THERM_CFG_WARN_C * 16 : Nat) : Int) ≤ s.tj) :
    s.thermWarn = (s.setFlag Fld.PWR_STATUS_THERM_WARN true).raise 2 moduleScope s.warnDetail := by
  have hat : s.atWarn = true := decide_eq_true ht
  simp only [State.thermWarn, hoff, hat, Bool.not_false, Bool.and_self, if_true, State.warnDetail]

theorem State.thermWarn_ends (hon : s.flag Fld.PWR_STATUS_THERM_WARN = true)
    (ht : s.tj < ((s.f Fld.PWR_THERM_CFG_WARN_C * 16 : Nat) : Int) - ((s.f Fld.PWR_THERM_CFG_HYST_K * 16 : Nat) : Int)) :
    s.thermWarn = (s.setFlag Fld.PWR_STATUS_THERM_WARN false).raiseEnd 2 moduleScope s.warnDetail := by
  simp only [State.thermWarn, hon, decide_eq_true ht, Bool.not_true, Bool.false_and, Bool.and_self, Bool.false_eq_true, if_false, if_true,
    State.warnDetail]

end Governor

/-! #### The throttle's periods (R342) -/

theorem exec_throttlePeriod (s : State) (dt : Nat) :
    exec (.throttlePeriod dt) s = .next (((s.advance dt).throttlePeriod).keeping s) := after_pos s dt _ State.throttlePeriod rfl

/-- The ports that the governor holds are let go. -/
def State.throttleReleased (s : State) : State :=
  (List.range 64).foldl (fun (s : State) n => if (s.port n).throttle = 0 then s else s.throttleSet n 0) s

/-- A period begins: the enabled ports that are up are held. -/
def State.periodBegun (s : State) : State :=
  ((List.range 64).filter (fun n => s.flag (Fld.PRT_CFG_ENABLE n) && s.portUp n)).foldl (fun (s : State) n => s.throttleSet n 15)
    { s with pwr := { s.pwr with periodAt := s.clk } }

section Throttle

variable {s : State}

theorem State.throttlePeriod_off (h : s.f Fld.PWR_STATUS_THROTTLE = 0) : s.throttlePeriod = s.throttleReleased := if_pos h

variable (h : s.f Fld.PWR_STATUS_THROTTLE ≠ 0)
include h

theorem State.throttlePeriod_begins (hp : s.passed s.pwr.periodAt 1 Config.ticksPerMs = true) : s.throttlePeriod = s.periodBegun :=
  (if_neg h).trans (if_pos hp)

theorem State.throttlePeriod_lapses (h8 : s.f Fld.PWR_STATUS_THROTTLE < 8) (hp : s.passed s.pwr.periodAt 1 Config.ticksPerMs = false)
    (hm : s.passed s.pwr.periodAt (s.f Fld.PWR_STATUS_THROTTLE) (Config.ticksPerMs / 8) = true) : s.throttlePeriod = s.throttleReleased :=
  (if_neg h).trans ((if_neg (Bool.eq_false_iff.mp hp)).trans (if_pos ⟨h8, hm⟩))

end Throttle

/-! #### The trip and its restart (R343) -/

theorem exec_thermalTrip (s : State) (dt : Nat) :
    exec (.thermalTrip dt) s = .next (((s.advance dt).thermalTrip).keeping s) := after_pos s dt _ State.thermalTrip rfl

theorem exec_thermalTripRestart (s : State) (dt : Nat) (temps : List Nat) :
    exec (.thermalTripRestart dt temps) s = .next (((s.advance dt).tripRestart temps).keeping s) :=
  after_pos s dt _ (fun t => t.tripRestart temps) rfl

/-- Reset with cause 2; the module stays off until it is cool. -/
def State.trippedOff (s : State) : State :=
  let r := (s.setFlag Fld.PWR_STATUS_TRIP_LAST true).fullReset 2 allButAon
  { r with pwr := { r.pwr with tripped := true } }

theorem State.thermalTrip_due {s : State} {t : Nat} (hs : s.pwr.tripSince = some t) (hn : s.pwr.tripped = false)
    (ht : s.passed t 10 Config.ticksPerMs = true) (hst : s.f Fld.GEN_BOOT_STATUS_STAGE ≠ 0) : s.thermalTrip = s.trippedOff := by
  simp only [State.thermalTrip, hs]
  exact if_pos ⟨hn, ht, hst⟩

/-- Is a reading below 95 °C? -/
def tripCool (t : Nat) : Bool := decide (signed 16 (t % 65536) < 95 * 16)

theorem State.tripRestart_cool {s : State} {temps : List Nat} (hp : s.pwr.tripped = true) (hl : temps.length = 11)
    (hc : temps.all tripCool = true) :
    s.tripRestart temps = State.startUp { s with pwr := { s.pwr with tripped := false, tripSince := none } } :=
  if_pos (Bool.and_eq_true_iff.mpr ⟨by simp [hp, hl], hc⟩)

theorem State.tripRestart_hot {s : State} {temps : List Nat} (hc : temps.all tripCool = false) : s.tripRestart temps = s :=
  if_neg fun h => Bool.false_ne_true (hc.symm.trans (Bool.and_eq_true_iff.mp h).2)

/-- Settles O49: each step of the governor, the warning, the throttle's periods, the trip and its restart. -/
theorem theGovernorStepsThrottlesAndTrips : Obligations.TheGovernorStepsThrottlesAndTrips := by
  rintro s _ dt rfl
  refine ⟨fun a b ha hb => ⟨?_, ?_, ?_, ?_⟩, fun hst hh => ?_, fun hst hh => ?_, fun hst ht => ?_, fun hst ht => ?_, fun hst ht => ?_,
    fun hst ht h8 => ?_, fun hst ht h8 => ?_, fun hst ht h1 => ?_, fun hst ht h1 => ?_, fun hst ht => ?_, fun hst ht => ?_, fun h => ?_,
    fun hoff ht => ?_, fun hon ht => ?_, fun h => ?_, fun h hp => ?_, fun h h8 hp hm => ?_, fun t hs hn ht hst => ⟨_, rfl, ?_⟩,
    fun temps hp hl => ⟨fun hc => ⟨_, rfl, ?_⟩, fun hc => ?_⟩⟩
  · rw [State.f_keeping, State.f_limitEvent _ _ (by decide) (by decide), State.govStep_setGov _ b ha]
  · rw [State.f_keeping, State.f_limitEvent _ _ (by decide) (by decide), State.throttle_setGov _ a hb]
  · rw [State.f_keeping, State.govStep_setGov _ b ha]
  · rw [State.f_keeping, State.throttle_setGov _ a hb]
  · rw [exec_thermHot, State.thermHot_begins hst hh]
  · rw [exec_thermHot, State.thermHot_rests hst hh]
  · rw [exec_thermHot, State.thermHot_early hst ht]
  · rw [exec_thermHot, State.thermHot_from1 hst ht]
  · rw [exec_thermHot, State.thermHot_from2 hst ht]
  · rw [exec_thermHot, State.thermHot_from3 hst ht h8]
  · rw [exec_thermHot, State.thermHot_limit hst ht h8]
  · rw [exec_thermCool, State.thermCool_eighth hst ht h1]
  · rw [exec_thermCool, State.thermCool_from3 hst ht h1]
  · rw [exec_thermCool, State.thermCool_from2 hst ht]
  · rw [exec_thermCool, State.thermCool_from1 hst ht]
  · rw [exec_thermCool, State.thermCool_stays h]
  · rw [exec_thermWarn, State.thermWarn_begins hoff ht, State.warnDetail]
  · rw [exec_thermWarn, State.thermWarn_ends hon ht, State.warnDetail]
  · rw [exec_throttlePeriod, State.throttlePeriod_off h, State.throttleReleased]
  · rw [exec_throttlePeriod, State.throttlePeriod_begins h hp, State.periodBegun]
  · rw [exec_throttlePeriod, State.throttlePeriod_lapses h h8 hp hm, State.throttleReleased]
  · rw [exec_thermalTrip, State.thermalTrip_due hs hn ht hst]
    rfl
  · rw [exec_thermalTripRestart, State.tripRestart_cool hp hl hc]
  · rw [exec_thermalTripRestart, State.tripRestart_hot hc]

end Sys2Proof.Machine

/-! ### The supply and the domains (14_energy_and_thermal.md, 15_bring_up_and_hot_plug.md) -/

namespace Sys2Proof.Machine

/-! #### A supply warning and its end (R345 to R347) -/

theorem exec_supplyWarn (s : State) (dt main aux : Nat) :
    exec (.supplyWarn dt main aux) s = .next (((s.advance dt).supplyLow main aux).keeping s) :=
  after_pos s dt _ (fun t => t.supplyLow main aux) rfl

theorem exec_supplyRecovered (s : State) (dt main aux : Nat) :
    exec (.supplyRecovered dt main aux) s = .next (((s.advance dt).supplyBack main aux).keeping s) :=
  after_pos s dt _ (fun t => t.supplyBack main aux) rfl

/-- The bits of the rails that lie below their warning levels, 11.0 V and 3.1 V. -/
def State.railsWarned (s : State) (main aux : Nat) : State :=
  let a := if main < 11000 then s.setFlag Fld.PWR_STATUS_MAIN_WARN true else s
  if aux < 3100 then a.setFlag Fld.PWR_STATUS_AUX_WARN true else a

/-- A warning begins in a state that has the rails' new readings: MAIN12 is named if both are low. -/
def State.warningBegun (s : State) (main aux : Nat) : State :=
  let rail := if decide (main < 11000) then 0 else 1
  let mv := if decide (main < 11000) then main else aux
  let b := s.railsWarned main aux
  let c := State.bump { b with pwr := { b.pwr with warnAt := some b.clk, warnRail := rail, warnLow := mv } } Reg.PWR_WARN_CNT
  ((c.raise 0 moduleScope [(24, 1, rail), (26, 2, mv), (28, 1, if s.flashRunning then 1 else 0), (30, 2, s.tagsOpen)]).abandonAll
    (fun _ => true)).holdCommit

/-- MAIN12 has been above 11.3 V for 100 µs. -/
def State.mainBack (s : State) (main : Nat) : Bool := decide (11300 < main) && s.passed s.pwr.mainLow 100 Config.ticksPerUs

/-- AUX3 has been above 3.15 V for 100 µs. -/
def State.auxBack (s : State) (aux : Nat) : Bool := decide (3150 < aux) && s.passed s.pwr.auxLow 100 Config.ticksPerUs

/-- Only one rail is back: its bit is cleared if the other rail warns too. -/
def State.warningNarrowed (s : State) (mainOk auxOk : Bool) : State :=
  let mainWarn := s.flag Fld.PWR_STATUS_MAIN_WARN
  let auxWarn := s.flag Fld.PWR_STATUS_AUX_WARN
  (s.setFlag Fld.PWR_STATUS_MAIN_WARN (mainWarn && !(mainOk && auxWarn))).setFlag Fld.PWR_STATUS_AUX_WARN (auxWarn && !(auxOk && mainWarn))

/-- The longest warning is kept, and no rail warns. -/
def State.warnBitsCleared (s : State) (us : Nat) : State :=
  ((s.setReg Reg.PWR_WARN_MAX_US (BitVec.ofNat 32 (max us (s.reg Reg.PWR_WARN_MAX_US).toNat))).setFlag Fld.PWR_STATUS_MAIN_WARN false).setFlag
    Fld.PWR_STATUS_AUX_WARN false

/-- A warning that began at `t` ends: event 1, and what it held goes on. -/
def State.warningEnded (s : State) (t : Nat) : State :=
  let us := min (s.usSince t) 0xFFFFFFFF
  let runs := (s.cal.due.filter (fun e => match e.2 with | some c => c.tag.isSome | none => false)).length
  let x := s.warnBitsCleared us
  let y := { x with pwr := { x.pwr with warnAt := none }, hif := { x.hif with supplyHeld := s.heldCommands.map (fun (e : Nat × JEntry) => e.1) } }
  (y.raise 1 moduleScope [(24, 1, x.pwr.warnRail), (26, 2, x.pwr.warnLow), (28, 4, us), (32, 2, s.heldCommands.length + runs),
    (34, 2, s.lateHeld s.heldCommands)]).releaseHeldRuns

section Supply

variable {s : State} {main aux : Nat}

theorem State.supplyLow_above (hm : 11000 ≤ main) (ha : 3100 ≤ aux) : s.supplyLow main aux = s.readRails main aux := by
  simp [State.supplyLow, Nat.not_lt.mpr hm, Nat.not_lt.mpr ha]

theorem State.supplyLow_begins (hl : main < 11000 ∨ aux < 3100) (hw : (s.readRails main aux).supplyWarn = false) :
    s.supplyLow main aux = (s.readRails main aux).warningBegun main aux := by
  have hlow : (!decide (main < 11000) && !decide (aux < 3100)) = false :=
    Bool.and_eq_false_iff.mpr (hl.imp (by simp) (by simp))
  simp only [State.supplyLow, hlow, hw, Bool.false_eq_true, if_false, State.warningBegun, State.railsWarned, decide_eq_true_eq]

theorem State.supplyBack_noWarning (h : (s.readRails main aux).pwr.warnAt = none) : s.supplyBack main aux = s.readRails main aux := by
  simp only [State.supplyBack, h]

variable {t : Nat} (h : (s.readRails main aux).pwr.warnAt = some t)
include h

theorem State.supplyBack_notBoth
    (hn : (s.readRails main aux).mainBack main = false ∨ (s.readRails main aux).auxBack aux = false) :
    s.supplyBack main aux =
      (s.readRails main aux).warningNarrowed ((s.readRails main aux).mainBack main) ((s.readRails main aux).auxBack aux) := by
  simp only [State.supplyBack, h]
  exact if_pos (Bool.and_eq_false_iff.mpr hn)

theorem State.supplyBack_both (hm : (s.readRails main aux).mainBack main = true) (ha : (s.readRails main aux).auxBack aux = true) :
    s.supplyBack main aux = (s.readRails main aux).warningEnded t := by
  simp only [State.supplyBack, h]
  exact if_neg (by rw [← State.mainBack, ← State.auxBack, hm, ha]; decide)

end Supply

theorem State.mainWarn_warnBitsCleared (s : State) (us : Nat) : (s.warnBitsCleared us).flag Fld.PWR_STATUS_MAIN_WARN = false :=
  (State.flag_setFlag_apart _ Fld.PWR_STATUS_AUX_WARN Fld.PWR_STATUS_MAIN_WARN _ rfl (by decide) (by decide)).trans
    (State.flag_setFlag_same _ _ _ (by decide) (by decide))

theorem State.auxWarn_warnBitsCleared (s : State) (us : Nat) : (s.warnBitsCleared us).flag Fld.PWR_STATUS_AUX_WARN = false :=
  State.flag_setFlag_same _ _ _ (by decide) (by decide)

/-! #### Domains that fail and come back (R333, R349, R365) -/

theorem exec_domainFault (s : State) (dt cause mv ma : Nat) {d : Nat} (hd : d < 13) :
    exec (.domainFault dt d cause mv ma) s = .next (((s.advance dt).domainFault d cause mv ma).keeping s) :=
  after_pos s dt _ (fun t => t.domainFault d cause mv ma) (decide_eq_true hd)

theorem exec_domainRestore (s : State) (dt : Nat) {d : Nat} (hd : d < 13) :
    exec (.domainRestore dt d) s = .next (((s.advance dt).domainRestore d).keeping s) :=
  after_pos s dt _ (fun t => t.domainRestore d) (decide_eq_true hd)

section Domains

variable {s : State} {d : Nat} {cause : Nat} (mv ma : Nat)

theorem State.domainFault_ignored (h : s.domainOn d = false ∨ ¬ cause ∈ [0, 1, 2, 4]) : s.domainFault d cause mv ma = s :=
  if_pos (.inr (h.imp_right fun hc => by simpa using hc))

section On

variable (hd : d < 13) (hon : s.domainOn d = true)
include hd hon

/-- A fault with one of R349's causes that act is a failed meter's, PD0's, or a regulator's. -/
theorem State.domainFault_acts (hc : cause ∈ [0, 1, 2, 4]) :
    s.domainFault d cause mv ma =
      if cause = 2 then State.raise { s with pwr := { s.pwr with meterFail := setBit s.pwr.meterFail d true } } 7 d (faultDetail 2 0 mv ma)
      else if d = 0 then s.coldStart else s.switchOff d cause mv ma :=
  if_neg (by simp [hon, hc, Nat.not_lt.mpr (Nat.le_of_lt_succ hd)])

theorem State.domainFault_meter :
    s.domainFault d 2 mv ma =
      State.raise { s with pwr := { s.pwr with meterFail := setBit s.pwr.meterFail d true } } 7 d (faultDetail 2 0 mv ma) := by
  rw [State.domainFault_acts mv ma hd hon (by decide), if_pos rfl]

variable (hc : cause ∈ [0, 1, 4])
include hc

theorem State.domainFault_regulator : s.domainFault d cause mv ma = if d = 0 then s.coldStart else s.switchOff d cause mv ma := by
  have hne : cause ≠ 2 := fun h => absurd (h ▸ hc) (by decide)
  have hacts : ∀ c ∈ [0, 1, 4], c ∈ [0, 1, 2, 4] := by decide
  rw [State.domainFault_acts mv ma hd hon (hacts cause hc), if_neg hne]

end On

variable {t : Nat} (h : Store.get (fun _ => none) s.pwr.restoreAt d = some t)
include h

theorem State.domainRestore_due (ht : t ≤ s.clk) (ha : s.flag Fld.GEN_DOMAIN_CTRL_AUTO_RESTORE = true) :
    s.domainRestore d = s.restoreDomain d := by
  simp only [State.domainRestore, h]
  exact if_pos ⟨ht, ha⟩

theorem State.domainRestore_waits (hw : s.clk < t ∨ s.flag Fld.GEN_DOMAIN_CTRL_AUTO_RESTORE = false) : s.domainRestore d = s := by
  simp only [State.domainRestore, h]
  exact if_neg fun ⟨ht, ha⟩ => hw.elim (Nat.not_lt.mpr ht) (by simp [ha])

end Domains

/-- Settles O50: a warning's beginning and end, a fault by its cause and domain, a restoration at its time. -/
theorem supplyWarningsAndDomainFaultsTakeHold : Obligations.SupplyWarningsAndDomainFaultsTakeHold := by
  rintro s _ dt rfl
  refine ⟨fun main aux => ⟨fun hm ha => ?_, fun hl hw => ?_, fun h => ?_, fun t h hn => ?_, fun t h hm ha => ⟨?_, ?_, ?_⟩⟩,
    fun d cause mv ma hd => ⟨fun h => ?_, fun hon => ⟨?_, fun hc h0 => ?_, fun hc h0 => ?_⟩⟩,
    fun d t hd h => ⟨fun ht ha => ?_, fun hw => ?_⟩⟩
  · rw [exec_supplyWarn, State.supplyLow_above hm ha]
  · rw [exec_supplyWarn, State.supplyLow_begins hl hw]
    rfl
  · rw [exec_supplyRecovered, State.supplyBack_noWarning h]
  · rw [exec_supplyRecovered, State.supplyBack_notBoth h hn]
    rfl
  · rw [exec_supplyRecovered, State.supplyBack_both h hm ha]
    rfl
  · exact State.mainWarn_warnBitsCleared _ _
  · exact State.auxWarn_warnBitsCleared _ _
  · rw [exec_domainFault s dt cause mv ma hd, State.domainFault_ignored mv ma h]
  · rw [exec_domainFault s dt 2 mv ma hd, State.domainFault_meter mv ma hd hon, faultDetail]
  · rw [exec_domainFault s dt cause mv ma hd, State.domainFault_regulator mv ma hd hon hc, if_neg h0]
  · rw [exec_domainFault s dt cause mv ma hd, State.domainFault_regulator mv ma hd hon hc, if_pos h0]
  · rw [exec_domainRestore s dt hd, State.domainRestore_due h ht ha]
  · rw [exec_domainRestore s dt hd, State.domainRestore_waits h hw]

end Sys2Proof.Machine

/-! ### Removal and the oscillator (15_bring_up_and_hot_plug.md, 14_energy_and_thermal.md) -/

namespace Sys2Proof.Machine

/-! #### A removal begins (R359) -/

theorem exec_ejectLatch (s : State) (dt : Nat) :
    exec (.ejectLatch dt) s = .next (((s.advance dt).ejectLatch).keeping s) := after_pos s dt _ State.ejectLatch rfl

theorem exec_ejectHost (s : State) (dt : Nat) :
    exec (.ejectHost dt) s = .next (((s.advance dt).mmioWrite Reg.GEN_HOTPLUG 0x100 0xFF00).keeping s) :=
  after_pos s dt _ (fun t => t.mmioWrite Reg.GEN_HOTPLUG 0x100 0xFF00) rfl

/-- Event 8 from a source, stage 7, and a health that follows. -/
def State.removalBegun (s : State) (src : Nat) : State :=
  let a := ((s.raise 8 moduleScope (s.ejectDetail src)).setFlag Fld.GEN_HOTPLUG_EJECTING true).setF Fld.GEN_BOOT_STATUS_STAGE 7
  State.healthCheck { a with rst := { a.rst with ejectAt := some a.clk } }

theorem State.removing_eq_false_iff (s : State) : s.removing = false ↔ s.rst.ejectAt = none := Option.isSome_eq_false_iff.trans Option.isNone_iff_eq_none

theorem State.removing_iff (s : State) : s.removing = true ↔ s.rst.ejectAt ≠ none := Option.isSome_iff_ne_none

theorem State.ejectBegin_first (s : State) (src : Nat) (hn : s.rst.ejectAt = none) (hst : s.f Fld.GEN_BOOT_STATUS_STAGE ≠ 0) :
    s.ejectBegin src = s.removalBegun src :=
  if_neg (by simp [s.removing_eq_false_iff.mpr hn, hst])

theorem State.ejectBegin_stays (s : State) (src : Nat) (h : s.rst.ejectAt ≠ none ∨ s.f Fld.GEN_BOOT_STATUS_STAGE = 0) :
    s.ejectBegin src = s :=
  if_pos (Bool.or_eq_true_iff.mpr (h.imp s.removing_iff.mpr beq_iff_eq.mpr))

/-- The latch asks, and is open. -/
def State.latchOpened (s : State) : State :=
  let r := s.setFlag Fld.GEN_HOTPLUG_EJECT_REQ true
  { r with rst := { r.rst with closed := false } }

theorem State.ejectLatch_eq (s : State) : s.ejectLatch = s.latchOpened.ejectBegin 0 := rfl

theorem State.stage_latchOpened (s : State) : s.latchOpened.f Fld.GEN_BOOT_STATUS_STAGE = s.f Fld.GEN_BOOT_STATUS_STAGE :=
  State.f_setFlag_off s _ _ _ (by decide)

theorem State.ejectAt_latchOpened (s : State) : s.latchOpened.rst.ejectAt = s.rst.ejectAt := rfl

theorem State.ejectLatch_first (s : State) (hn : s.rst.ejectAt = none) (hst : s.f Fld.GEN_BOOT_STATUS_STAGE ≠ 0) :
    s.ejectLatch = s.latchOpened.removalBegun 0 := by
  rw [State.ejectLatch_eq]
  refine s.latchOpened.ejectBegin_first 0 (s.ejectAt_latchOpened.trans hn) ?_
  rwa [s.stage_latchOpened]

theorem State.ejectLatch_stays (s : State) (h : s.rst.ejectAt ≠ none ∨ s.f Fld.GEN_BOOT_STATUS_STAGE = 0) :
    s.ejectLatch = s.latchOpened := by
  rw [State.ejectLatch_eq]
  refine s.latchOpened.ejectBegin_stays 0 ?_
  rwa [s.ejectAt_latchOpened, s.stage_latchOpened]

/-- A write of EJECT that passes its checks begins a removal in the state that it leaves. -/
theorem State.mmioWrite_eject (s : State) (ht : s.takesWrite Reg.GEN_HOTPLUG 0x100 0xFF00 = true) :
    s.mmioWrite Reg.GEN_HOTPLUG 0x100 0xFF00 = ((s.written Reg.GEN_HOTPLUG 0x100 0xFF00).ejectBegin 2).rewrite := by
  rw [mmioWrite_GEN_HOTPLUG s _ _ ht, regEffect_GEN_HOTPLUG, farEffect_GEN_HOTPLUG, pulsed_HOTPLUG, if_pos (by decide)]

/-! #### The drain and event 9 (R360) -/

theorem exec_hotplugReady (s : State) (dt : Nat) :
    exec (.hotplugReady dt) s = .next (((s.advance dt).hotplugReady).keeping s) := after_pos s dt _ State.hotplugReady rfl

/-- Event 9, READY set and EJECTING clear. -/
def State.readyShown (s : State) (t left : Nat) (late : Bool) : State :=
  let a := s.raise 9 moduleScope [(24, 4, s.usSince t), (28, 4, left), (32, 2, s.tagsInFlight), (34, 1, if late then 1 else 0)]
  ((a.setFlag Fld.GEN_HOTPLUG_EJECTING false).setFlag Fld.GEN_HOTPLUG_READY true).healthCheck

/-- Event 9 once, when no flash write runs; a latch closed before it acts now (R363, log 128). -/
def State.readyDue (s : State) (t left : Nat) (late : Bool) : State :=
  if s.flag Fld.GEN_HOTPLUG_READY = true ∨ s.flashRunning = true then s
  else if (s.readyShown t left late).rst.closed then (s.readyShown t left late).cancelReset else s.readyShown t left late

theorem State.readyReport_drained {s : State} {left : Nat} {late : Bool} (t : Nat) (h : s.rst.drained = some (left, late)) :
    s.readyReport t = s.readyDue t left late := by
  rw [State.readyReport, h]
  rfl

theorem State.readyReport_draining {s : State} (t : Nat) (h : s.rst.drained = none) : s.readyReport t = s := by
  rw [State.readyReport, h]

/-- Has EJECT_DRAIN_MS passed since the removal began? -/
def State.drainLate (s : State) (t : Nat) : Bool := s.passed t (s.f Fld.GEN_HOTPLUG_EJECT_DRAIN_MS) Config.ticksPerMs

/-- What still waits is flushed, every port is held down, and what was left is noted. -/
def State.drainEnded (s : State) (late : Bool) : State :=
  let left := ((List.range 65).map s.waiting).sum
  let b := (List.range 64).foldl (fun (v : State) p => if v.speed p = 0 then v else v.portOff p) s
  let a := if b.waiting 64 = 0 then b else b.flushPort 64 1
  { a with rst := { a.rst with drained := some (left, late) } }

section Drain

variable {s : State} {t : Nat}

theorem State.drainEnd_done (h : s.rst.drained ≠ none) : s.drainEnd t = s :=
  if_pos (Bool.or_eq_true_iff.mpr (.inl (Option.isSome_iff_ne_none.mpr h)))

theorem State.drainEnd_goesOn (he : s.allSent = false) (hl : s.drainLate t = false) : s.drainEnd t = s :=
  if_pos (by rw [← State.drainLate, he, hl]; simp)

theorem State.drainEnd_ends (hn : s.rst.drained = none) (h : s.allSent = true ∨ s.drainLate t = true) :
    s.drainEnd t = s.drainEnded (s.drainLate t && !s.allSent) :=
  if_neg (by rw [← State.drainLate, hn, Bool.or_eq_true_iff.mpr h]; decide)

theorem State.hotplugReady_none (h : s.rst.ejectAt = none ∨ s.rst.surprise = true) : s.hotplugReady = s := by
  unfold State.hotplugReady
  split
  next => rfl
  next t ht => exact if_pos (h.resolve_left (by simp [ht]))

variable (ht : s.rst.ejectAt = some t) (hs : s.rst.surprise = false)
include ht hs

theorem State.hotplugReady_removing : s.hotplugReady = (s.drainEnd t).readyReport t := by
  simp [State.hotplugReady, ht, hs]

theorem State.hotplugReady_drained {left : Nat} {late : Bool} (hd : s.rst.drained = some (left, late)) :
    s.hotplugReady = s.readyDue t left late := by
  rw [State.hotplugReady_removing ht hs, State.drainEnd_done (by simp [hd]), State.readyReport_drained t hd]

variable (hn : s.rst.drained = none)
include hn

theorem State.hotplugReady_draining (he : s.allSent = false) (hl : s.drainLate t = false) : s.hotplugReady = s := by
  rw [State.hotplugReady_removing ht hs, State.drainEnd_goesOn he hl, State.readyReport_draining t hn]

theorem State.hotplugReady_drains (h : s.allSent = true ∨ s.drainLate t = true) :
    s.hotplugReady = (s.drainEnded (s.drainLate t && !s.allSent)).readyDue t ((List.range 65).map s.waiting).sum (s.drainLate t && !s.allSent) := by
  rw [State.hotplugReady_removing ht hs, State.drainEnd_ends hn h]
  exact State.readyReport_drained t rfl

end Drain

/-! #### A contact that rises, and a latch that closes (R362, R363) -/

theorem exec_surpriseRemoval (s : State) (dt : Nat) {pres : Nat} (hp : pres < 4) :
    exec (.surpriseRemoval dt pres) s = .next (((s.advance dt).surpriseRemoval pres).keeping s) :=
  after_pos s dt _ (fun t => t.surpriseRemoval pres) (decide_eq_true hp)

theorem exec_ejectCancel (s : State) (dt : Nat) :
    exec (.ejectCancel dt) s = .next (((s.advance dt).ejectCancel).keeping s) := after_pos s dt _ State.ejectCancel rfl

/-- Every transmitter is squelched and every driver dropped; PD0 keeps event 8 for a module that is reseated. -/
def State.pulledOut (s : State) : State :=
  let r : EvtRec := ⟨8, moduleScope, s.commonFlags, s.now16, mkDetail (s.ejectDetail 1)⟩
  let a := s.setF Fld.GEN_BOOT_STATUS_STAGE 7
  let b := { a with rst := { a.rst with surprise := true, ejectAt := some a.clk, kept := a.rst.kept ++ [r] } }
  ((List.range 64).foldl (fun (v : State) p =>
    if v.speed p = 0 then v else (((v.loseTx p).setFlag (Fld.PRT_LINK_STATUS_UP p) false).receiverOff p).lanLinkDown p) b).dropDrivers.healthCheck

theorem State.stage_setPres (s : State) (pres : Nat) :
    (s.setF Fld.GEN_HOTPLUG_PRES pres).f Fld.GEN_BOOT_STATUS_STAGE = s.f Fld.GEN_BOOT_STATUS_STAGE :=
  State.f_setF_off s _ _ _ (by decide)

section Contacts

variable {s : State} {pres : Nat}

theorem State.surpriseRemoval_shown (h : s.rst.ejectAt ≠ none ∨ pres = 3 ∨ s.f Fld.GEN_BOOT_STATUS_STAGE = 0) :
    s.surpriseRemoval pres = s.setF Fld.GEN_HOTPLUG_PRES pres := by
  refine if_pos ?_
  rw [State.stage_setPres]
  obtain hr | hp | hst := h
  · simp [State.removing, Option.isSome_iff_ne_none.mpr hr]
  · simp [hp]
  · simp [hst]

theorem State.surpriseRemoval_pulled (hn : s.rst.ejectAt = none) (hp : pres ≠ 3) (hst : s.f Fld.GEN_BOOT_STATUS_STAGE ≠ 0) :
    s.surpriseRemoval pres = (s.setF Fld.GEN_HOTPLUG_PRES pres).pulledOut := by
  refine if_neg ?_
  rw [State.stage_setPres]
  simp [State.removing, hn, hp, hst]

end Contacts

/-- The request of a latch that has closed is gone. -/
def State.latchShut (s : State) : State := s.setFlag Fld.GEN_HOTPLUG_EJECT_REQ false

section Latch

variable {s : State}

theorem State.ejectCancel_ready (h : s.latchShut.flag Fld.GEN_HOTPLUG_READY = true) : s.ejectCancel = s.latchShut.cancelReset := if_pos h

variable (h : s.latchShut.flag Fld.GEN_HOTPLUG_READY = false)
include h

theorem State.ejectCancel_removing (he : s.rst.ejectAt ≠ none) :
    s.ejectCancel = { s.latchShut with rst := { s.latchShut.rst with closed := true } } :=
  (if_neg (Bool.eq_false_iff.mp h)).trans (if_pos (Option.isSome_iff_ne_none.mpr he))

theorem State.ejectCancel_none (he : s.rst.ejectAt = none) : s.ejectCancel = s.latchShut :=
  (if_neg (Bool.eq_false_iff.mp h)).trans (if_neg (by rw [State.setFlag_rst, he]; decide))

end Latch

/-! #### The oscillator (R348, R367) -/

theorem exec_oscWarm (s : State) (dt oven temp : Nat) :
    exec (.oscWarm dt oven temp) s = .next (((s.advance dt).oscWarm oven temp).keeping s) :=
  after_pos s dt _ (fun t => t.oscWarm oven temp) rfl

theorem exec_oscFault (s : State) (dt cause oven temp : Nat) :
    exec (.oscFault dt cause oven temp) s = .next (((s.advance dt).oscFaulted cause oven temp).keeping s) :=
  after_pos s dt _ (fun t => t.oscFaulted cause oven temp) rfl

/-- The oven's warming is over, with event 10. -/
def State.ovenWarm (s : State) (oven temp : Nat) : State :=
  let sec := s.sSince s.pwr.oscAt
  let a := ((s.setFlag Fld.PWR_OSC_WARM true).setReg Reg.PWR_OSC_WARM_S (BitVec.ofNat 32 sec)).setF Fld.PWR_OSC_OVEN_MW (min 5000 oven)
  (a.setFlag Fld.TIM_STATUS_WARMING false).raise 10 moduleScope [(28, 4, sec), (32, 2, min 5000 oven), (34, 2, temp)]

/-- Event 11 with its cause. -/
def State.ovenReported (s : State) (cause oven temp : Nat) : State :=
  (s.setF Fld.PWR_OSC_OVEN_MW (min 5000 oven)).raise 11 moduleScope [(24, 1, cause), (26, 2, min 5000 oven), (28, 2, temp)]

/-- A fault that leaves the output: the time base shows as warming. -/
def State.ovenFaulty (s : State) (cause : Nat) : State :=
  (State.setFlag { s with pwr := { s.pwr with oscFault := true, heaterFault := s.pwr.heaterFault || cause == 1 } } Fld.TIM_STATUS_WARMING true).healthCheck

/-- Is the oven still cold after 10 minutes? -/
def State.ovenLate (s : State) : Bool := s.passed s.pwr.oscAt 600 Config.ticksPerS && !s.flag Fld.PWR_OSC_WARM

section Oscillator

variable {s : State} (oven temp : Nat)

theorem State.oscWarm_stays (h : s.flag Fld.PWR_OSC_WARM = true ∨ s.pwr.oscFault = true ∨ s.passed s.pwr.oscAt 30 Config.ticksPerS = false) :
    s.oscWarm oven temp = s := by
  refine if_neg ?_
  obtain hw | hf | hp := h
  · simp [hw]
  · simp [hf]
  · simp [hp]

/-- Nothing is new of a fault that has been reported, of an oven that is not late, or of an unknown cause. -/
theorem State.oscFaulted_stays {cause : Nat}
    (h : 2 < cause ∨ (cause = 1 ∧ s.pwr.heaterFault = true) ∨ (cause = 0 ∧ (s.ovenLate = false ∨ s.pwr.oscFault = true))) :
    s.oscFaulted cause oven temp = s :=
  if_pos (.inr (h.imp_right fun h => .inr h))

variable (hon : s.domainOn 1 = true) (hl : s.pwr.oscLost = false)
include hon hl

theorem State.oscWarm_due (hw : s.flag Fld.PWR_OSC_WARM = false) (hf : s.pwr.oscFault = false)
    (hp : s.passed s.pwr.oscAt 30 Config.ticksPerS = true) : s.oscWarm oven temp = s.ovenWarm oven temp :=
  if_pos (by simp [hon, hl, hw, hf, hp])

theorem State.oscFaulted_lost : s.oscFaulted 2 oven temp = (s.ovenReported 2 oven temp).oscGone.healthCheck :=
  if_neg (by simp [hon, hl])

theorem State.oscFaulted_oven {cause : Nat}
    (h : (cause = 1 ∧ s.pwr.heaterFault = false) ∨ (cause = 0 ∧ s.ovenLate = true ∧ s.pwr.oscFault = false)) :
    s.oscFaulted cause oven temp = (s.ovenReported cause oven temp).ovenFaulty cause := by
  obtain ⟨rfl, hh⟩ | ⟨rfl, hlate, hf⟩ := h
  · exact if_neg (by simp [hon, hl, hh])
  · exact if_neg (by rw [← State.ovenLate, hlate]; simp [hon, hl, hf])

end Oscillator

/-- Settles O53: how a removal begins, drains, is reported and is cancelled; then the oscillator. -/
theorem removalAndTheOscillatorTakeTheirCourse : Obligations.RemovalAndTheOscillatorTakeTheirCourse := by
  rintro s _ dt rfl
  refine ⟨fun hn hst => ?_, fun h => ?_, fun ht => ⟨fun hn hst => ?_, fun h => ?_⟩, fun h => ?_,
    fun t ht hs => ⟨fun left late hd => ?_, fun hn he hl => ?_, fun hn h => ?_⟩, fun pres hp => ⟨fun h => ?_, fun hn h3 hst => ?_⟩,
    fun h => ?_, fun h he => ?_, fun h he => ?_,
    fun oven temp hon hl => ⟨fun hw hf hp => ?_, fun h => ?_, fun cause => ⟨?_, fun h => ?_, fun h => ?_⟩⟩⟩
  · rw [exec_ejectLatch, State.ejectLatch_first _ hn hst]
    rfl
  · rw [exec_ejectLatch, State.ejectLatch_stays _ h]
    rfl
  · rw [exec_ejectHost, State.mmioWrite_eject _ ht, State.ejectBegin_first _ 2 hn hst]
    rfl
  · rw [exec_ejectHost, State.mmioWrite_eject _ ht, State.ejectBegin_stays _ 2 h]
  · rw [exec_hotplugReady, State.hotplugReady_none h]
  · rw [exec_hotplugReady, State.hotplugReady_drained ht hs hd]
    rfl
  · rw [exec_hotplugReady, State.hotplugReady_draining ht hs hn he hl]
  · rw [exec_hotplugReady, State.hotplugReady_drains ht hs hn h]
    rfl
  · rw [exec_surpriseRemoval s dt hp, State.surpriseRemoval_shown h]
  · rw [exec_surpriseRemoval s dt hp, State.surpriseRemoval_pulled hn h3 hst]
    rfl
  · rw [exec_ejectCancel, State.ejectCancel_ready h]
    rfl
  · rw [exec_ejectCancel, State.ejectCancel_removing h he]
    rfl
  · rw [exec_ejectCancel, State.ejectCancel_none h he]
    rfl
  · rw [exec_oscWarm, State.oscWarm_due oven temp hon hl hw hf hp]
    rfl
  · rw [exec_oscWarm, State.oscWarm_stays oven temp h]
  · rintro rfl
    rw [exec_oscFault, State.oscFaulted_lost oven temp hon hl]
    rfl
  · rw [exec_oscFault, State.oscFaulted_oven oven temp hon hl h]
    rfl
  · rw [exec_oscFault, State.oscFaulted_stays oven temp h]

end Sys2Proof.Machine
